-- ==== Sys2Proof/Word.lean ====
section
/-! DEFINITION. The word types of the model: bytes, the 32-bit words of the register space, and SHA-384 digests. -/

namespace Sys2Proof

/-- One byte of memory, of a flash image or of a packet. -/
abbrev Byte := BitVec 8

/-- One 32-bit register word (R9). -/
abbrev Word := BitVec 32

/-- A SHA-384 digest, 48 bytes (R393). -/
abbrev Digest := BitVec 384

end Sys2Proof
end

