-- ==== Sys2Proof/Syntax.lean ====
section
/-! DEFINITION. The commands of the block: one constructor for each row of spec/opcode_table.json, with the operands the
rows' rules give them. A command is an access to the register space, a packet or message that arrives, an event on a pin,
the end of a timer, or the end of a piece of work that the device does on its own. -/

namespace Sys2Proof

/-! ### Requesters, builds, personalities (R10, R2) -/

/-- Who makes a register access: the host, the management processor, and in a tile the two feed units
whose CTL packets arrive with a CLAIM held in one of the two claim-table entries (R10). -/
inductive Requester where
  | host | mp | claim0 | claim1
  deriving DecidableEq, Repr

/-- The two package builds (Builds and personalities). -/
inductive Build where
  | f | t
  deriving DecidableEq, Repr

/-- The temperature grades (R4). -/
inductive Grade where
  | c | e
  deriving DecidableEq, Repr

/-- The personality of a loaded image (R16). -/
inductive Personality where
  | feed | tile
  deriving DecidableEq, Repr

/-- The monitored rails (R425). -/
inductive Rail where
  | vddCore | vddSram | vddAo | vddaPll | vddLane | vddPcie | vddHbm | vddqHbm | vppHbm | vddio1v8
  deriving DecidableEq, Repr

/-- The size of a BAR0 access (R9). -/
inductive AccessWidth where
  | byte | half | word
  deriving DecidableEq, Repr

/-! ### Memory errors (R30, R110, R404) -/

/-- The SRAM regions of R30, by the rows of the severity table of R404. -/
inductive SramRegion where
  | coefStore | frameHold | packetBuffer | misc | peck | codec | dmaBuffer | ingestStaging | qmCache | mpMemory | eventsMailbox
  | hifTables
  deriving DecidableEq, Repr

/-- An uncorrected memory error: of the HBM at an offset (R110), or of an SRAM region at a word address (R402, R404). -/
inductive MemError where
  | hbm (offset : BitVec 37)
  | sram (region : SramRegion) (word : Word)
  deriving DecidableEq, Repr

/-! ### The Forjo image (R33 to R45, R441) -/

/-- The Forjo header, field by field in offset order (R34). -/
structure ForjoHeader where
  magic : BitVec 32
  format : BitVec 16
  hdrSize : BitVec 16
  target : BitVec 8
  personality : BitVec 8
  sections : BitVec 16
  length : BitVec 32
  imageGen : BitVec 32
  keyId : BitVec 32
  minFw : BitVec 32
  flags : BitVec 32
  wallId : BitVec 128
  iv : BitVec 96
  reserved3C : BitVec 32
  built : BitVec 64
  compiler : BitVec 32
  hdrCrc : BitVec 32
  reserved50 : BitVec 384
  deriving DecidableEq, Repr

/-- A section table entry (R35). -/
structure SectionEntry where
  type : BitVec 16
  version : BitVec 16
  sflags : BitVec 16
  reserved06 : BitVec 16
  offset : BitVec 32
  length : BitVec 32
  stored : BitVec 32
  crc : BitVec 32
  reserved18 : BitVec 64
  deriving DecidableEq, Repr

/-- The role of a lane (LANE_CFG.ROLE). -/
inductive LaneRole where
  | off | halyard | ethernet | nvme
  deriving DecidableEq, Repr, Inhabited

/-- A LANES record: role, rate code, port number, port width code, position and polarity inversion. -/
structure LaneRec where
  role : LaneRole
  rate : BitVec 3
  port : BitVec 7
  width : BitVec 2
  pos : BitVec 2
  txInv : Bool
  rxInv : Bool
  deriving DecidableEq, Repr, Inhabited

/-- The QUARTERS record: the mode, the default band width in units of 256, the layer count of each quarter. -/
structure QuartersRec where
  layerMode : Bool
  bandWidth : Nat
  layers : List Nat
  deriving DecidableEq, Repr, Inhabited

/-- A QUEUES pool record: base queue, count, permitted entry sizes in bytes, owning class (QM_CTX_CFG.CLASS). -/
structure PoolRec where
  base : Nat
  count : Nat
  sizes : List Nat
  cls : Nat
  deriving DecidableEq, Repr, Inhabited

/-- A PECK record: quarter, layer, first granule, granule count. -/
structure PeckRec where
  quarter : Nat
  layer : Nat
  first : Nat
  count : Nat
  deriving DecidableEq, Repr, Inhabited

/-- An entry of the LAMPMAP channel table (R286). -/
structure ChannelRec where
  drivers : Nat
  lamps : Nat
  gainR : BitVec 8
  gainG : BitVec 8
  gainB : BitVec 8
  reserved : Bool
  deriving DecidableEq, Repr, Inhabited

/-- A lamp entry of LAMPMAP (R287). -/
structure LampRec where
  channel : BitVec 9
  driver : BitVec 5
  output : BitVec 4
  reserved : BitVec 13
  absent : Bool
  deriving DecidableEq, Repr, Inhabited

/-- The LAMPMAP section: geometry block, channel table, lamp entries in row order. -/
structure LampMap where
  geom : BitVec 32
  width : Nat
  height : Nat
  channels : List ChannelRec
  lamps : List LampRec
  deriving DecidableEq, Repr, Inhabited

/-- A CORRBINS record (R248); `a1` and `a2` hold one coefficient for each colour. -/
structure BinRec where
  bin : Nat
  tref : Int
  tauMs : Nat
  heatK : Nat
  wr : Nat
  wg : Nat
  wb : Nat
  a1 : List Int
  a2 : List Int
  /-- The reserved bytes are 0. -/
  reservedZero : Bool
  deriving DecidableEq, Repr, Inhabited

/-- A SLOTS pattern record (R77); one window of start and end for each of the four slots. -/
structure PatternRec where
  index : Nat
  slots : Nat
  fpNum : Nat
  fpDen : Nat
  windows : List (Nat × Nat)
  /-- The reserved bytes are 0. -/
  reservedZero : Bool
  deriving DecidableEq, Repr, Inhabited

/-- The THERMAL record: levels in °C, and in the units of THM_POLICY the rate-of-rise limit (0.25 °C/s), the release hold time (100 ms), the
feed grace time (ms) and the tile grace time (100 ms). -/
structure ThermalRec where
  warn : Nat
  throttle : Nat
  rise : Nat
  releaseHold : Nat
  feedGrace : Nat
  tileGrace : Nat
  deriving DecidableEq, Repr, Inhabited

/-- The RESETS record: reach codes (0 core, 1 system), the watchdog period in 100 ms. -/
structure ResetsRec where
  cmdReach : Nat
  wdtPeriod : Nat
  fatalReach : List Nat
  deriving DecidableEq, Repr, Inhabited

/-- A TILES expectation record (R441). -/
structure ExpectRec where
  geom : BitVec 32
  imageGen : BitVec 32
  deriving DecidableEq, Repr, Inhabited

/-- A TILES binding record (R441). -/
structure BindRec where
  serial : BitVec 64
  addr : Nat
  geom : BitVec 32
  originX : Nat
  originY : Nat
  lane : Nat
  deriving DecidableEq, Repr, Inhabited

/-- The TILES section with its counts and whether its reserved bytes are 0 (R441). -/
structure TilesSec where
  domain : Nat
  expectsCount : Nat
  bindingsCount : Nat
  expects : List ExpectRec
  bindings : List BindRec
  reservedZero : Bool
  deriving DecidableEq, Repr, Inhabited

/-- What stands behind the clear header and section table of a Forjo image: the plaintext sections, and what the
cryptographic checks of R37 answer on the stored bytes (the algorithms are outside standards: log entry 4).
Where the spec lays out a section's records (LAMPMAP, CORRBINS, SLOTS, TILES), a record stands here as the little-endian number
that its bytes spell, and Machine/ImageLayout.lean reads the fields; where it gives no layout, the fields come decoded, beside
the section's bytes in `plain` (log entry 4). For LAMPMAP `plain` holds the 64 B geometry block. -/
structure ForjoBody where
  lanes : List LaneRec
  quarters : QuartersRec
  queues : List PoolRec
  peck : List PeckRec
  geom : BitVec 32
  width : Nat
  height : Nat
  thermal : ThermalRec
  resets : ResetsRec
  channelWords : List (BitVec 64)
  lampWords : List (BitVec 32)
  binWords : List (BitVec 512)
  slotWords : List (BitVec 512)
  tilesHead : BitVec 512
  expectWords : List (BitVec 64)
  bindWords : List (BitVec 256)
  plain : List (Nat × List Nat)
  signatureOk : Bool
  tagOk : Bool
  deriving DecidableEq, Repr, Inhabited

/-- A Forjo image: the header, the section table entries and the rest. -/
structure ForjoImage where
  hdr : ForjoHeader
  entries : List SectionEntry
  body : ForjoBody
  deriving DecidableEq, Repr

/-! ### Firmware images (R387) -/

/-- What the cryptographic checks of R388 answer on a stored firmware image, and its plaintext payload. -/
structure FwBody where
  signatureOk : Bool
  tagOk : Bool
  plain : List Nat
  deriving DecidableEq, Repr, Inhabited

/-- A firmware image: its header fields in offset order (R387) and the rest. -/
structure FwImage where
  magic : BitVec 32
  format : BitVec 16
  hdrSize : BitVec 16
  product : BitVec 16
  builds : BitVec 8
  flags : BitVec 8
  keyId : BitVec 32
  size : BitVec 32
  version : BitVec 32
  svn : BitVec 8
  reserved19 : BitVec 24
  iv : BitVec 96
  tag : BitVec 128
  hdrCrc : BitVec 32
  reserved3C : BitVec 32
  sig : BitVec 768
  reservedA0 : BitVec 256
  body : FwBody
  deriving DecidableEq, Repr

/-! ### Halyard packets (R198) -/

/-- A Halyard packet header as R198 lays it out; `cls` and `type` name the packet, `up` and `last` are the FLAGS bits. -/
structure PktHeader where
  version : BitVec 4
  cls : BitVec 4
  type : BitVec 8
  dst : BitVec 12
  domain : BitVec 4
  src : BitVec 12
  claim : BitVec 16
  seq : BitVec 32
  frame : BitVec 16
  slot : BitVec 2
  hops : BitVec 6
  up : Bool
  last : Bool
  arg : BitVec 32
  length : BitVec 16
  deriving DecidableEq, Repr

/-- A Halyard packet: header and padded payload. -/
structure Packet where
  hdr : PktHeader
  payload : List Byte
  deriving DecidableEq, Repr

/-- A 64b/66b block as a lane brings it (R195, R196): its sync header (0b10 a control block, 0b01 a data block), its 8 bytes, the first lowest,
and whether the codewords under it were all corrected. -/
structure LineBlock where
  control : Bool
  word : BitVec 64
  corrected : Bool
  deriving DecidableEq, Repr

/-! ### Attestation (R55, R221, R396) -/

/-- The DOE data object protocols (R55). -/
inductive DoeProtocol where
  | discovery | spdm | other
  deriving DecidableEq, Repr

/-- How an SPDM request reached the responder: over DOE in a feed unit, or as a message of SPDM_REQ parts in a tile (R396). -/
inductive SpdmVia where
  | doe
  | packet (port : Fin 96) (claim : BitVec 16) (seq : BitVec 32) (message : BitVec 16)
  deriving DecidableEq, Repr
/-! ### PTP messages (R69, R70) -/

/-- What identifies a PTP message: the Ethernet port it arrives on, whether it came over IPv6 and as unicast, its domainNumber, its
sourcePortIdentity, its sequenceId. -/
structure PtpHdr where
  port : Fin 8
  v6 : Bool
  unicast : Bool
  domain : BitVec 8
  source : BitVec 80
  seq : BitVec 16
  deriving DecidableEq, Repr

/-- The data set that an Announce carries: the grandmaster and the sender's port identity. -/
structure PtpDataset where
  priority1 : BitVec 8
  clockClass : BitVec 8
  accuracy : BitVec 8
  variance : BitVec 16
  priority2 : BitVec 8
  identity : BitVec 64
  stepsRemoved : BitVec 16
  source : BitVec 80
  deriving DecidableEq, Repr

/-! ### Ethernet frames (R99 to R107) -/

/-- A sample row segment of an ST 2110-20 packet (R103): length in bytes, the field bit, row, offset in pixels, the bytes. -/
structure RowSeg where
  length : Nat
  field : Bool
  row : Nat
  offset : Nat
  data : List Byte
  deriving DecidableEq, Repr

/-- What an RFC 7798 packet carries (R107): a NAL unit, several, a fragment of one, or PACI. -/
inductive HevcPayload where
  | single (nal : List Byte)
  | aggregation (nals : List (List Byte))
  | fragment (first last : Bool) (data : List Byte)
  | paci
  deriving DecidableEq, Repr

/-- The payload of an RTP packet. -/
inductive RtpBody where
  | video (extSeq : BitVec 16) (rows : List RowSeg)
  | hevc (donl : Bool) (payload : HevcPayload)
  deriving DecidableEq, Repr

/-- An RTP packet. -/
structure RtpPacket where
  version : BitVec 2
  marker : Bool
  seq : BitVec 16
  timestamp : BitVec 32
  body : RtpBody
  deriving DecidableEq, Repr

/-- What an Ethernet frame holds (R99); a query names its version, its group, 0 in a general one, and its sources (R102). -/
inductive EthBody where
  | udp (v6 : Bool) (src dst : BitVec 128) (port : BitVec 16) (rtp : RtpPacket)
  | ptp
  | arp (target : BitVec 32)
  | nd (target : BitVec 128)
  | igmpQuery (version : Nat) (group : BitVec 32) (sources : List (BitVec 32))
  | mldQuery (version : Nat) (group : BitVec 128) (sources : List (BitVec 128))
  | other
  deriving DecidableEq, Repr

/-- An Ethernet frame as it arrives: length with FCS, whether the FCS is right, its VLAN tags, whether the burst buffer is
full, and its content. -/
structure EthFrame where
  length : Nat
  fcsOk : Bool
  vlans : List (BitVec 12)
  full : Bool
  body : EthBody
  deriving DecidableEq, Repr

/-! ### Lanes (R179) -/

/-- The step of LOCK that was not achieved (R179). -/
inductive LockStep where
  | bit | block | fec | deskew
  deriving DecidableEq, Repr

/-! ### Pictures of the codec (R331 to R347) -/

/-- A decoded picture as it is output: the number of the access unit that coded it, its size after the conformance window, its
chroma sampling (0 4:2:0, 1 4:2:2, 2 4:4:4), its sample depth, and its planes row by row. -/
structure DecPic where
  unit : Nat
  width : Nat
  height : Nat
  chroma : Fin 3
  depth : Nat
  luma : List Nat
  cb : List Nat
  cr : List Nat
  deriving DecidableEq, Repr

/-- What decoding an access unit finds (R331, R334, R336, R337): its number in decoding order, whether it is an IRAP access unit, whether
its parameter sets are present; of its SPS the general_profile_idc, the general_level_idc, the chroma_format_idc, the larger of the two
bit depths and field_seq_flag; whether it is a RASL picture, pic_output_flag, whether its reference picture set names a picture that
is missing, the slices that failed, and the pictures that are output now. -/
structure AccessUnit where
  unit : Nat
  irap : Bool
  setsOk : Bool
  profile : BitVec 5
  level : BitVec 8
  chroma : BitVec 2
  depth : BitVec 5
  fieldSeq : Bool
  rasl : Bool
  outputFlag : Bool
  refMissing : Bool
  badSlices : Nat
  outputs : List DecPic
  deriving DecidableEq, Repr

/-- A coded picture (R340 to R347): the bytes of the access unit ahead of the place of the SEI and after it, the bits of each CTU row,
the highest QP used, and whether the input was still being read too late (R345). -/
structure CodedPic where
  head : List Byte
  body : List Byte
  rowBits : List Nat
  qpTop : BitVec 8
  inputLate : Bool
  deriving DecidableEq, Repr

/-! ### Drives (R348 to R354) -/

/-- A ring of a store label (R350), with the position, the wraps and the next sequence number as the scan from the stored position
finds them (R351). -/
structure LabelRing where
  ring : Fin 256
  base : Nat
  len : Nat
  wpos : Nat
  wrap : Nat
  seq : Nat
  deriving DecidableEq, Repr

/-- A store label (R350): its store identifier and the rings of its drive. -/
structure StoreLabel where
  store : BitVec 128
  rings : List LabelRing
  deriving DecidableEq, Repr

/-- What identifying a drive finds: namespaces, 4 KiB blocks of namespace 1, whether its LBAs are 4 KiB, and its label. -/
structure DriveInfo where
  namespaces : Nat
  blocks : Nat
  lba4k : Bool
  label : Option StoreLabel
  deriving DecidableEq, Repr


/-! ### The commands -/

/-- The commands, in the order of spec/opcode_table.json by chapter. -/
inductive Instr where
  -- Resets, start-up, firmware (R376 to R394, R425)
  | powerOnReset
  | supplyLow (rail : Rail)
  | resetNAssert
  | resetNRelease
  | resetNDriveRelease
  | resetEnd
  | rstCmdWrite (req : Requester) (value : Word)
  | tileCmdReset
  | dbgReset
  | wdtKick (req : Requester) (value : Word)
  | wdtWarn
  | wdtExpire
  | fatalEscalation
  | firmwareFetchDone
  | firmwareFetchTimeout
  | fwVerify (req : Requester) (value : Word) (host : Option FwImage)
  | fwStage (req : Requester) (value : Word) (host : Option FwImage)
  | fwRevert (req : Requester) (value : Word)
  | fwOperationDone (flashOk : Bool)
  -- The Forjo loader (R34 to R44)
  | headerStageDone
  | headerTimeout
  | imageFetchDone
  | imageFetchTimeout
  | imageBuildDone
  | buildTimeout
  | imageVerify (req : Requester) (value : Word) (host : Option ForjoImage)
  | imageStage (req : Requester) (value : Word) (host : Option ForjoImage)
  | loadNow (req : Requester) (value : Word) (host : Option ForjoImage)
  | imageFlashWriteDone (ok : Bool)
  | endpointRetrain
  | hbmTrainingDone (ok0 ok1 : Bool)
  -- The host endpoint (R46 to R54)
  | pePerstNAssert
  | pePerstNDeassert
  | hotReset
  | hostLinkDown
  | flr
  | registerWrite (req : Requester) (offset : BitVec 26) (width : AccessWidth) (value : Word)
  | multiwordWrite (req : Requester) (offset : BitVec 26) (values : List Word)
  | multiwordLowRead (req : Requester) (offset : BitVec 26) (words : Fin 1024)
  | readClear (req : Requester) (offset : BitVec 26) (width : AccessWidth)
  | unmappedBar0Access (isWrite : Bool) (offset : BitVec 26) (value : Word)
  | bar2Access (isWrite : Bool) (offset : BitVec 36) (length : Nat) (data : List Byte) (errors : List MemError)
  | queueDoorbell (queue : BitVec 18) (index : Word)
  | remoteWrite (window : Fin 4) (offset : BitVec 23) (value : Word)
  | remoteRead (window : Fin 4) (offset : BitVec 23)
  | remoteReadTimeout (window : Fin 4)
  | remoteSelWrite (window : Fin 4) (value : Word)
  | rdData (port : Fin 96) (pkt : Packet)
  | wrAck (port : Fin 96) (pkt : Packet)
  -- The mailbox and its opcodes (R60, R61, R390 to R398)
  | mbxSubmit (req : Requester) (value : Word)
  | mbxRelease (req : Requester) (value : Word)
  | mbxCommandDone (entry : Fin 64) (status : BitVec 8) (data : List Word)
  | mbxNop (entry : Fin 64)
  | getFwInfo (entry : Fin 64)
  | fwCommitSvn (entry : Fin 64)
  | settingsSave (entry : Fin 64) (writeOk : Bool)
  | settingsDefault (entry : Fin 64)
  -- Attestation (R55, R396, R397)
  | doeObject (protocol : DoeProtocol) (length : Nat) (object : List Byte)
  | doeAbort
  | getVersion (via : SpdmVia)
  | getCapabilities (via : SpdmVia)
  | negotiateAlgorithms (via : SpdmVia)
  | getDigests (via : SpdmVia)
  | getCertificate (via : SpdmVia) (slot : BitVec 8)
  | challenge (via : SpdmVia) (nonce : BitVec 256)
  | getMeasurements (via : SpdmVia) (index : BitVec 8) (signed : Bool)
  | spdmUnsupported (via : SpdmVia)
  | spdmRelayGo (req : Requester) (value : Word)
  | spdmRelayTimeout
  | spdmReq (port : Fin 96) (pkt : Packet)
  | spdmRsp (port : Fin 96) (pkt : Packet)
  -- Commit (R56, R156 to R161, R440)
  | topCommit (req : Requester) (value : Word)
  | commitChecksDone
  | commitApply
  | shadowWrite (req : Requester) (offset : BitVec 26) (value : Word)
  -- Time and frame lock (R62 to R88)
  | timeRefWrite (req : Requester) (value : Word)
  | rearm (req : Requester) (value : Word)
  | rearmEffect
  | setGo (req : Requester) (value : Word)
  | slewPpmWrite (req : Requester) (value : Word)
  | ptpCfgWrite (req : Requester) (value : Word)
  | alignOriginWrite (req : Requester) (value : BitVec 96)
  | timeModeCommit (req : Requester) (value : Word)
  | modeChecksDone
  | modeSwitch
  | ptpSync (hdr : PtpHdr) (twoStep : Bool) (seconds : BitVec 48) (nanos : BitVec 32) (correction : BitVec 64)
  | ptpFollowUp (hdr : PtpHdr) (seconds : BitVec 48) (nanos : BitVec 32) (correction : BitVec 64)
  | ptpDelayResp (hdr : PtpHdr) (seconds : BitVec 48) (nanos : BitVec 32) (correction : BitVec 64)
  | ptpAnnounce (hdr : PtpHdr) (data : PtpDataset)
  | ptpDelayReq (portB : Bool)
  | ptpAnnounceTimeout (portB noSync : Bool)
  | frameInEdge (rising : Bool) (widthNs : Nat)
  | ppsInEdge (rising : Bool) (widthNs : Nat)
  | edgeTimeout
  | acquireTimeout
  | holdoverExpire
  | ensignSend
  | ensign (port : Fin 96) (pkt : Packet)
  | ensignTimeout
  | delayReqSend (port : Fin 96)
  | delayReq (port : Fin 96) (pkt : Packet)
  | delayResp (port : Fin 96) (pkt : Packet)
  | ppsOutPulse
  | ppsOutEnd
  | slotBoundary (sag : List (Fin 8 × BitVec 16))
  | windowStart
  | pennantCopy
  | pennantCommit (port : Fin 96) (pkt : Packet)
  | pennantMode (port : Fin 96) (pkt : Packet)
  | pennantCap (port : Fin 96) (pkt : Packet)
  | pennantCapRepeat
  -- Sources and ingest (R89 to R107)
  | ethernetFrame (port : Fin 8) (frame : EthFrame)
  | mergeWinExpire (source : Fin 64)
  | sourceLossTimeout (source : Fin 64)
  | pathLossTimeout (source : Fin 64) (path : Fin 2)
  | bindingInstant
  | frameFence (req : Requester) (source : Fin 64) (value : Word)
  | filterEnable (req : Requester) (filter : Fin 256) (value : Word)
  | membershipRepeat (port : Fin 8)
  -- Memory, queues and DMA (R108 to R128)
  | trigSwPulse (req : Requester) (value : Word)
  | hbmPowerDown
  | hbmSelfRefresh
  | hbmWake (fall : Option (Fin 11 × BitVec 16))
  | queueEnable (req : Requester) (value : Word)
  | queueDisable (req : Requester) (value : Word)
  | queueDisableDone (queue : BitVec 18)
  | qmConsume (req : Requester) (value : BitVec 64)
  | producerRetry (queue : BitVec 18)
  | dmaRun (req : Requester) (channel : Fin 128) (value : Word)
  | dmaStop (req : Requester) (channel : Fin 128) (value : Word)
  | dmaReset (req : Requester) (channel : Fin 128) (value : Word)
  | dmaResetSkip (req : Requester) (channel : Fin 128) (value : Word)
  | descriptorFetchDone (channel : Fin 128) (hostData : List Byte)
  | descriptorFetchTimeout (channel : Fin 128)
  | burstIssue (channel : Fin 128)
  | burstComplete (channel : Fin 128) (hostData : List Byte)
  | readbackReturn (channel : Fin 128)
  | readbackTimeout (channel : Fin 128)
  | dmaErrorResponse (channel : Fin 128) (write ecc : Bool) (address : BitVec 64)
  | drqAssert (line : Fin 64) (asserted : Bool)
  -- Composition (R129 to R155, R167)
  | bandStart (quarter : Fin 4) (under : List (Nat × Nat × Nat × Nat)) (errors : List MemError)
  | bandDeadline (band : Fin 128) (row : BitVec 14)
  | writebackDone (late : Bool)
  | cmpLutWrite (req : Requester) (quarter : Fin 4) (layer : Option (Fin 8)) (entry : Fin 4096) (value : Word)
  | sclCoefWrite (req : Requester) (quarter : Fin 4) (set_ : Fin 16) (phase : Fin 64) (tap : Fin 12) (value : Word)
  | tileComposeStart (quarter : Fin 4)
  -- Flexible lanes (R175 to R194)
  | detectPoll (port : Fin 96) (present : Bool)
  | trainDone (port : Fin 96) (foms : List (BitVec 8 × BitVec 10)) (ffe : List (BitVec 4 × BitVec 6 × BitVec 5))
  | trainTimeout (port : Fin 96)
  | lockDone (port : Fin 96) (positions : List (Fin 4))
  | lockTimeout (port : Fin 96) (missing : LockStep)
  | capsSend (port : Fin 96)
  | capsRecord (port : Fin 96) (record : List Byte) (acked : Bool)
  | capsTimeout (port : Fin 96)
  | holdoffExpire (port : Fin 96)
  | laneRetrain (req : Requester) (lane : Fin 96) (value : Word)
  | laneDisable (req : Requester) (lane : Fin 96) (value : Word)
  | adaptFreeze (req : Requester) (lane : Fin 96) (value : Word)
  | signalLost (lane : Fin 96)
  | blockLockLost (lane : Fin 96)
  | fecLockLost (lane : Fin 96)
  | highSer (lane : Fin 96)
  | refclkLost (ref : Fin 2)
  | refclkValid (ref : Fin 2)
  | fomMeasure (lane : Fin 96) (width : BitVec 8) (height : BitVec 10) (bits errors : BitVec 48)
  | eqUpdate (lane : Fin 96) (ctle : BitVec 4) (taps : List Int) (request : Option (BitVec 4 × BitVec 6 × BitVec 5))
  | amBlock (lane : Fin 96) (block : BitVec 64) (corrected uncorrectable : Word) (request : Option (BitVec 4 × BitVec 6 × BitVec 5))
  | laneTestEnable (req : Requester) (lane : Fin 96) (value : Word)
  | testEntry (lane : Fin 96)
  | testExit (req : Requester) (lane : Fin 96) (value : Word)
  | testTimeout (lane : Fin 96)
  | inject (req : Requester) (lane : Fin 96) (value : Word)
  | slip (req : Requester) (lane : Fin 96) (value : Word)
  | prbsClear (req : Requester) (lane : Fin 96) (value : Word)
  | checkerLock (lane : Fin 96)
  | checkerLockLost (lane : Fin 96)
  | standardLinkUp (lane : Fin 96) (rate : BitVec 3) (width : BitVec 4)
  | standardLinkFail (lane : Fin 96) (recovery : Bool)
  -- Halyard (R195 to R224, R439)
  | creditBlock (port : Fin 96) (counts : BitVec 48) (crc : BitVec 8)
  | creditBlockSend (port : Fin 96)
  | packetReceive (port : Fin 96) (lanes : List (List LineBlock))
  | creditHeldForward (port : Fin 96)
  | egressNext (port : Fin 96)
  | creditStall (port : Fin 96) (blk : Bool)
  | pixSend (port : Fin 96)
  | slice (port : Fin 96) (pkt : Packet)
  | fragment (port : Fin 96) (pkt : Packet)
  | list (port : Fin 96) (pkt : Packet)
  | digest (port : Fin 96) (pkt : Packet)
  | digestMissing (port : Fin 96) (frame : BitVec 48)
  | sliceDeadline
  | read (port : Fin 96) (pkt : Packet)
  | write (port : Fin 96) (pkt : Packet)
  | writeBlock (port : Fin 96) (pkt : Packet) (flashOk : Bool)
  | blkAck (port : Fin 96) (pkt : Packet)
  | event (port : Fin 96) (pkt : Packet)
  | heatReq (port : Fin 96) (pkt : Packet)
  -- Discovery (R228 to R240)
  | dscWalkPort (req : Requester) (value : Word)
  | dscWalkAll (req : Requester) (value : Word)
  | dscRelease (req : Requester) (value : Word)
  | walkHoldExpire (port : Fin 96)
  | walkQuiet (port : Fin 96)
  | walkTimeout (port : Fin 96)
  | walk (port : Fin 96) (pkt : Packet)
  | answer (port : Fin 96) (pkt : Packet)
  | assign (port : Fin 96) (pkt : Packet)
  | admitTile (port : Fin 96) (pkt : Packet)
  | assignRetry (address : BitVec 12)
  | tileDetailsRead (address : BitVec 12) (self peer : BitVec 64) (peerInfo laneCfg : Word)
  -- Per-lamp correction (R241 to R270)
  | correctionStart (quarter : Fin 4) (ecc : List (Fin 512 × Fin 512)) (errors : List MemError)
  | boardSensorPoll (readings : List (Fin 32 × Option (BitVec 16)))
  | lightSensorLoop (readings : List (Fin 4 × Option (BitVec 48)))
  | lampRecordWrite (req : Requester) (quarter : Fin 4) (word : Fin 524288) (value : Word)
  | corEotfWrite (req : Requester) (bank : Fin 2) (colour : Fin 3) (entry : Fin 4096) (value : Word)
  | calApply (req : Requester) (value : Word)
  | calApplyDone
  | i2cTransaction (answer : Option (BitVec 8))
  | lampHeatReq
  | heatGraceExpire
  -- The Lervis lamp bus, lamp faults, current placement (R271 to R312, R423)
  | transferStart (quarter : Fin 4) (late : List (Fin 512)) (blocked : List (Fin 64))
  | wrGray (group : Fin 64)
  | wrCfg (group : Fin 64)
  | statusScanDone (group : Fin 64) (delay : Option (Fin 32)) (records : List (List (BitVec 16)))
  | cfgFailed (group : Fin 64)
  | bankSupplyChange (quarter : Fin 4) (volts : BitVec 2)
  | bankSupplyValid (quarter : Fin 4)
  | forceBlank (req : Requester) (value : Word)
  | rescan (req : Requester) (value : Word)
  | lmpClkWrite (req : Requester) (value : Word)
  | strikeClear (req : Requester) (value : Word)
  | clearAll (req : Requester) (value : Word)
  | clearOne (req : Requester) (value : Word)
  | sagLoopEnable (req : Requester) (value : Word)
  -- Claims and takeover (R314 to R322)
  | claimCfgWrite (req : Requester) (value : Word)
  | takeover
  | portPartnerLost (port : Fin 96)
  | claimAgeOut (claim : BitVec 16)
  -- HEVC engines and the clip store (R331 to R356)
  | accessUnit (stream : Fin 16) (au : AccessUnit)
  | encodeStart (stream : Fin 8)
  | encodeDone (stream : Fin 8) (pic : CodedPic)
  | encodeDeadline (stream : Fin 8)
  | idrRequest (req : Requester) (stream : Fin 8) (value : Word)
  | nvmeDriveInit (port : Fin 4) (drive : DriveInfo)
  | nvmeCompletion (port : Fin 4) (command : Nat) (ok warning : Bool)
  | driveTimeout (port : Fin 4)
  | nvmeFlush (port : Fin 4)
  | smartPoll (port : Fin 4)
  | labelSave (port : Fin 4)
  | clpCreate (req : Requester) (value : Word)
  | clpDelete (req : Requester) (value : Word)
  | clpFormat (req : Requester) (value : Word)
  | recordAppend (stream : Fin 8) (writeOk : Bool)
  | playEntry (queue : BitVec 18) (records : List (Option (List Byte)))
  | playDeliver (stream : Fin 16)
  | refmodeWrite (req : Requester) (port : Fin 4) (value : Word)
  | controllerResetDone (port : Fin 4) (ok : Bool)
  -- Heat, droop and voltage (R357 to R375)
  | sensorSample (counts : List Nat)
  | shutdownRelease
  | shedStep
  | throttleRelease
  | shedWithdraw
  | dieHeatReq
  | heatReqAge (address : BitVec 12)
  | capRaise (zone : Fin 16)
  | capCommand (req : Requester) (value : Word)
  | droopDetect (millivolts : List (Fin 16 × Nat))
  | stretchEnd
  | stretchDuty (duty : BitVec 10)
  | avsUpdate (margins : List Int) (acked : Bool) (readback : BitVec 10)
  -- Further rows of the reset, host and remote chapters (R46, R50, R59, R377, R378, R425)
  | supplyRelease (rail : Rail)
  | pwrRelease
  | resetNFollow (low : Bool)
  | hostLinkUp (rate : Fin 6) (width : Fin 4) (flit : Bool)
  | configurationRequest (maxPayload : Option (Fin 3))
  | broadcastWriteTimeout (window : Fin 4)
  -- Event delivery (R406 to R414)
  | eventRecordLanded
  | coalesceExpire (ring : Fin 64)
  | captureAck (slot : Fin 69) (value : Word)
  | evtRingBindWrite (req : Requester) (ring : Fin 64) (value : Word)
  | upstreamEventSend
  deriving DecidableEq, Repr

end Sys2Proof
end

