-- ==== Sys2Proof/Decode.lean ====
section
/-! DEFINITION. Commands from words. The block has no instruction memory and no encoding: no row of the spec's table gives a bit
pattern, so no word spells a command. -/

namespace Sys2Proof

/-- The command that a word spells by the table's bits: no row gives any. -/
def decodeTableWord (_nbits _w : Nat) : Option Instr := none

end Sys2Proof
end

