-- ==== Sys2Proof/Config.lean ====
section
/-! DEFINITION. The constants of the model that the spec leaves open: free values, and the functions of outside standards.
None of them has a body, so no proof can see a value of one. -/

namespace Sys2Proof

/-- Free values, one for each index: what the spec leaves open and the machine goes on from.
The index is a plain counter of State (log entry 3). -/
opaque Config.freeValue : Nat → Nat

/-- The addend that the PI correction sets, by the reference in use, the addend before, and the output of the gains in 2^-16 ns: the spec gives
no scale from an offset to a rate (R63, R443; log entry 20). -/
opaque Config.addendFor : Nat → Nat → Int → Nat

/-- SHA-384 of a byte string (R37, R393): an outside standard (log entry 4). -/
opaque Config.sha384 : List Nat → Digest

/-- SHA-256 of a byte string (R325): an outside standard (log entry 4). -/
opaque Config.sha256 : List Nat → BitVec 256

/-- SHA-384 of the fuse configuration that the ROM measures into index 1 (R393), by the floor in the fuses: the spec gives no
byte layout of the object (log entry 4). -/
opaque Config.fuseDigest : Nat → Digest

/-- The ECDSA P-384 signature that SEC makes with the attestation key of a unit serial over a digest (R395; log entry 4). -/
opaque Config.sign : BitVec 64 → Digest → BitVec 768

/-- What stands behind the header of a Forjo image of given stored bytes: decryption and signature checks are outside
standards (log entry 4). -/
opaque Config.openForjo : List Nat → ForjoBody

/-- The same for a firmware image (log entry 4). -/
opaque Config.openFw : List Nat → FwBody

/-- Which VERSION of a known section type the device supports (R36): the spec does not say (log entry 7). -/
opaque Config.versionSupported : Nat → Nat → Bool

/-- What a decoded sample of a depth other than 8, 10 and 12 becomes at 10 bits, by depth and sample: R335 does not say (log
entry 3). -/
opaque Config.openSample : Nat → Nat → Nat

/-- A sample of an encoder input in a layer format that R339 does not convert (0x07 to 0x09), by free-value index and place (log
entry 3). -/
opaque Config.openInput : Nat → Nat → Nat

/-- The firmware's list of settable registers, as BAR0 offsets (R398): the spec does not list them (log entry 8). -/
opaque Config.settable : List Nat

/-- FORMAT of the settings blocks that firmware of a given version writes and applies (R398; log entry 8). -/
opaque Config.settingsFormat : Nat → Nat

/-- The object that index 4 measures for a settings block of given pairs, by its digest (R393, R398; log entry 8). -/
opaque Config.settingsDigest : List (Nat × Nat) → Digest

/-- The digest that SPDM signs for a nonce and the measurements it reports: the transcript is an outside standard (log entry 4). -/
opaque Config.transcript : Nat → List Nat → Digest

/-- The bytes of an SPDM response, by free-value index: its encoding is an outside standard (log entry 4). -/
opaque Config.spdmBytes : Nat → List Nat

/-- Bytes 2 and 3 of an alignment marker for a request to the partner's transmit FFE, and its status: the spec gives them no layout (R187, R196;
log entry 152). -/
opaque Config.ffeBytes : Option (Nat × Nat × Nat) → BitVec 8 × BitVec 8

/-- Whether a trimmed temperature that lies between two codes is rounded up (R357): numerator and denominator of the line. -/
opaque Config.trimUp : Int → Int → Bool

end Sys2Proof
end

