-- ==== Sys2Proof/Machine/Regs.lean ====
section
/-! DEFINITION. The registers of the device as the chapters' register entries give them: the block, the offset formula,
the instances, the reset domain, and the fields with their access types and reset values (R9 to R14, and the heading of each entry). -/

namespace Sys2Proof.Machine

/-- The blocks that own registers (block identifiers table of R402; EVT has registers and no identifier there). -/
inductive Block where
  | top | rst | sec | thm | pwr | time | hif | qm | dma | hbm | ing | clp | cdc | red | dsc | lst | cmp | scl | lane | hal | cor | lmp | mbx | evt
  deriving DecidableEq, Repr

/-- The block identifier of the table of R402; 0 for EVT, which that table does not name. -/
def Block.id : Block → Nat
  | .top => 1
  | .rst => 2
  | .sec => 3
  | .thm => 4
  | .pwr => 5
  | .time => 6
  | .hif => 7
  | .qm => 8
  | .dma => 9
  | .hbm => 10
  | .ing => 11
  | .clp => 12
  | .cdc => 13
  | .red => 14
  | .dsc => 15
  | .lst => 16
  | .cmp => 17
  | .scl => 18
  | .lane => 19
  | .hal => 20
  | .cor => 21
  | .lmp => 22
  | .mbx => 23
  | .evt => 0

/-- The access types of R13. -/
inductive Access where
  | rw | ro | wo | w1c | w1s | rc | sh
  deriving DecidableEq, Repr

/-- The reset domain that a register entry names. -/
inductive Domain where
  | power | system | core | endpoint
  deriving DecidableEq, Repr

/-- A field: its lowest bit and its width. -/
structure Fld where
  lo : Nat
  w : Nat
  deriving DecidableEq, Repr

/-- A field of a register entry: place, access type and reset value. -/
structure FieldSpec where
  lo : Nat
  w : Nat
  acc : Access
  reset : Nat
  deriving DecidableEq, Repr

/-- A register entry: `dims` holds the instance counts and strides of its offset formula, outermost first. -/
structure RegSpec where
  name : String
  block : Block
  base : Nat
  dims : List (Nat × Nat)
  words : Nat
  domain : Domain
  fields : List FieldSpec
  deriving DecidableEq, Repr

/-- The register entries of TOP. -/
def regsTop : List RegSpec := [
  ⟨"TOP_IMAGE_INFO", .top, 0x400, [], 1, .system,
    [⟨0, 16, .ro, 0⟩,
     ⟨16, 2, .ro, 0⟩,
     ⟨18, 2, .ro, 0⟩,
     ⟨20, 3, .ro, 0⟩]⟩,
  ⟨"TOP_IMAGE_GEN", .top, 0x404, [], 1, .system,
    [⟨0, 32, .ro, 0⟩]⟩,
  ⟨"TOP_IMAGE_LOAD_ADDR", .top, 0x408, [], 2, .system,
    [⟨6, 58, .rw, 0⟩]⟩,
  ⟨"TOP_IMAGE_LOAD_CTRL", .top, 0x410, [], 1, .system,
    [⟨0, 3, .wo, 0⟩,
     ⟨3, 1, .rw, 0⟩,
     ⟨4, 19, .rw, 0⟩]⟩,
  ⟨"TOP_IMAGE_STATUS", .top, 0x414, [], 1, .system,
    [⟨0, 2, .ro, 0⟩,
     ⟨2, 1, .ro, 0⟩,
     ⟨8, 8, .ro, 0⟩,
     ⟨16, 8, .ro, 0⟩,
     ⟨24, 8, .ro, 0⟩]⟩,
  ⟨"TOP_IMAGE_SLOT", .top, 0x418, [], 1, .power,
    [⟨0, 1, .ro, 0⟩,
     ⟨1, 1, .ro, 0⟩,
     ⟨2, 1, .ro, 0⟩]⟩,
  ⟨"TOP_ID", .top, 0x0, [], 1, .power,
    [⟨0, 16, .ro, 0x7700⟩,
     ⟨16, 4, .ro, 0⟩,
     ⟨20, 4, .ro, 0⟩,
     ⟨24, 2, .ro, 0⟩,
     ⟨26, 2, .ro, 0⟩]⟩,
  ⟨"TOP_STATUS", .top, 0x4, [], 1, .system,
    [⟨0, 3, .ro, 0⟩,
     ⟨3, 2, .ro, 0⟩,
     ⟨8, 8, .ro, 0⟩,
     ⟨16, 1, .ro, 0⟩,
     ⟨17, 1, .ro, 0⟩,
     ⟨18, 1, .ro, 0⟩]⟩,
  ⟨"TOP_COMMIT", .top, 0x100, [], 1, .system,
    [⟨0, 16, .wo, 0⟩,
     ⟨16, 1, .wo, 0⟩]⟩,
  ⟨"TOP_COMMIT_STATUS", .top, 0x104, [], 1, .system,
    [⟨0, 3, .ro, 0⟩,
     ⟨8, 8, .ro, 0⟩,
     ⟨16, 16, .ro, 0⟩]⟩,
  ⟨"TOP_COMMIT_DETAIL", .top, 0x108, [], 1, .system,
    [⟨0, 2, .ro, 0⟩,
     ⟨2, 3, .ro, 0⟩,
     ⟨5, 7, .ro, 0⟩,
     ⟨16, 16, .ro, 0⟩]⟩,
  ⟨"TOP_COMMIT_FRAME", .top, 0x110, [], 2, .system,
    [⟨0, 48, .ro, 0⟩]⟩]

/-- The register entries of RST. -/
def regsRst : List RegSpec := [
  ⟨"RSTCAUSE", .rst, 0x10000, [], 1, .power,
    [⟨0, 8, .w1c, 1⟩,
     ⟨8, 4, .ro, 0⟩,
     ⟨12, 2, .ro, 3⟩,
     ⟨14, 1, .ro, 0⟩,
     ⟨16, 8, .ro, 0⟩]⟩,
  ⟨"RST_EPISODES", .rst, 0x10004, [], 1, .power,
    [⟨0, 16, .rc, 0⟩,
     ⟨16, 16, .rc, 0⟩]⟩,
  ⟨"RST_CFG", .rst, 0x10008, [], 1, .system,
    [⟨0, 1, .ro, 1⟩,
     ⟨8, 8, .ro, 0xa⟩]⟩,
  ⟨"RST_FATAL_REACH", .rst, 0x1000C, [], 1, .system,
    [⟨1, 23, .ro, 0x7fffff⟩]⟩,
  ⟨"RST_CMD", .rst, 0x10010, [], 1, .system,
    [⟨0, 16, .wo, 0⟩,
     ⟨16, 1, .wo, 0⟩]⟩,
  ⟨"RST_WDT", .rst, 0x10020, [], 1, .system,
    [⟨0, 16, .wo, 0⟩,
     ⟨16, 1, .ro, 0⟩]⟩,
  ⟨"RST_WDT_REMAIN", .rst, 0x10024, [], 1, .system,
    [⟨0, 16, .ro, 0⟩]⟩]

/-- The register entries of SEC. -/
def regsSec : List RegSpec := [
  ⟨"SEC_FW_INFO", .sec, 0x20000, [], 2, .system,
    [⟨0, 32, .ro, 0⟩,
     ⟨32, 6, .ro, 0⟩,
     ⟨40, 6, .ro, 0⟩]⟩,
  ⟨"SEC_FW_STATUS", .sec, 0x20008, [], 1, .power,
    [⟨0, 2, .ro, 0⟩,
     ⟨2, 1, .ro, 0⟩,
     ⟨8, 8, .ro, 0⟩,
     ⟨16, 8, .ro, 0⟩,
     ⟨24, 8, .ro, 0⟩]⟩,
  ⟨"SEC_FW_SLOT", .sec, 0x2000C, [], 1, .power,
    [⟨0, 1, .ro, 0⟩,
     ⟨1, 1, .ro, 0⟩,
     ⟨2, 1, .ro, 0⟩,
     ⟨3, 1, .ro, 0⟩,
     ⟨4, 2, .ro, 0⟩,
     ⟨6, 1, .ro, 0⟩,
     ⟨7, 1, .ro, 0⟩]⟩,
  ⟨"SEC_FW_LOAD_ADDR", .sec, 0x20010, [], 2, .system,
    [⟨6, 58, .rw, 0⟩]⟩,
  ⟨"SEC_FW_LOAD_CTRL", .sec, 0x20018, [], 1, .system,
    [⟨0, 3, .wo, 0⟩,
     ⟨3, 1, .rw, 0⟩,
     ⟨4, 13, .rw, 0⟩]⟩,
  ⟨"SEC_MEAS", .sec, 0x20140, [(5, 0x40), (12, 0x4)], 1, .system,
    [⟨0, 32, .ro, 0⟩]⟩,
  ⟨"SEC_RELAY_CTRL", .sec, 0x20400, [], 1, .system,
    [⟨0, 12, .rw, 0⟩,
     ⟨12, 16, .rw, 0⟩,
     ⟨28, 1, .wo, 0⟩]⟩,
  ⟨"SEC_RELAY_STATUS", .sec, 0x20404, [], 1, .system,
    [⟨0, 2, .ro, 0⟩,
     ⟨2, 16, .ro, 0⟩]⟩,
  ⟨"SEC_RELAY_BUF", .sec, 0x28000, [(8192, 0x4)], 1, .system,
    [⟨0, 32, .rw, 0⟩]⟩]

/-- The register entries of THM. -/
def regsThm : List RegSpec := [
  ⟨"THM_SENSOR", .thm, 0x30000, [(64, 0x8)], 2, .power,
    [⟨0, 16, .ro, 0⟩,
     ⟨16, 16, .ro, 0⟩,
     ⟨32, 2, .ro, 0⟩]⟩,
  ⟨"THM_LIMITS", .thm, 0x30200, [], 1, .system,
    [⟨0, 8, .rw, 0⟩,
     ⟨8, 8, .rw, 0⟩]⟩,
  ⟨"THM_POLICY", .thm, 0x30208, [], 2, .system,
    [⟨0, 8, .ro, 0xc⟩,
     ⟨8, 8, .ro, 0x32⟩,
     ⟨16, 16, .ro, 0x1f4⟩,
     ⟨32, 8, .ro, 0x1e⟩]⟩,
  ⟨"THM_STATUS", .thm, 0x30210, [], 1, .system,
    [⟨0, 2, .ro, 0⟩,
     ⟨2, 1, .ro, 0⟩,
     ⟨3, 1, .ro, 0⟩,
     ⟨4, 3, .ro, 0⟩,
     ⟨7, 1, .w1c, 0⟩,
     ⟨8, 6, .ro, 0⟩,
     ⟨16, 16, .ro, 0⟩]⟩,
  ⟨"THM_CAP", .thm, 0x30220, [], 1, .system,
    [⟨0, 13, .ro, 0x1000⟩,
     ⟨13, 1, .ro, 0⟩,
     ⟨14, 1, .ro, 0⟩,
     ⟨15, 1, .ro, 0⟩]⟩,
  ⟨"THM_HEAT_CFG", .thm, 0x30300, [], 1, .system,
    [⟨0, 1, .rw, 1⟩,
     ⟨1, 1, .rw, 0⟩,
     ⟨8, 16, .rw, 0x78⟩,
     ⟨24, 8, .rw, 0xa⟩]⟩,
  ⟨"THM_CAP_CMD", .thm, 0x30310, [], 1, .system,
    [⟨0, 13, .wo, 0⟩,
     ⟨13, 1, .wo, 0⟩,
     ⟨14, 4, .wo, 0⟩,
     ⟨18, 1, .wo, 0⟩]⟩,
  ⟨"THM_HEAT_COUNT", .thm, 0x30314, [], 1, .system,
    [⟨0, 16, .rc, 0⟩,
     ⟨16, 16, .rc, 0⟩]⟩,
  ⟨"THM_ZONE_STATUS", .thm, 0x30400, [(16, 0x4)], 1, .system,
    [⟨0, 13, .ro, 0x1000⟩,
     ⟨16, 13, .ro, 0x1000⟩]⟩,
  ⟨"THM_ZONE", .thm, 0x31000, [(512, 0x4)], 1, .system,
    [⟨0, 32, .rw, 0⟩]⟩]

/-- The register entries of PWR. -/
def regsPwr : List RegSpec := [
  ⟨"PWR_DROOP_CFG", .pwr, 0x40000, [], 1, .system,
    [⟨0, 5, .rw, 8⟩,
     ⟨8, 12, .rw, 0x100⟩]⟩,
  ⟨"PWR_DROOP_MASK", .pwr, 0x40004, [], 1, .system,
    [⟨0, 16, .rw, 0⟩]⟩,
  ⟨"PWR_STRETCH", .pwr, 0x40010, [], 1, .system,
    [⟨0, 10, .ro, 0⟩,
     ⟨16, 10, .rc, 0⟩]⟩,
  ⟨"PWR_DROOP_COUNT", .pwr, 0x40040, [(16, 0x4)], 1, .system,
    [⟨0, 32, .rc, 0⟩]⟩,
  ⟨"PWR_AVS_CFG", .pwr, 0x40100, [], 1, .system,
    [⟨0, 1, .rw, 1⟩,
     ⟨1, 4, .rw, 0⟩]⟩,
  ⟨"PWR_AVS_STATUS", .pwr, 0x40104, [], 1, .power,
    [⟨0, 10, .ro, 0x320⟩,
     ⟨10, 10, .ro, 0⟩,
     ⟨20, 1, .ro, 0⟩,
     ⟨21, 1, .ro, 0⟩,
     ⟨22, 1, .ro, 0⟩]⟩,
  ⟨"PWR_AVS_LIMITS", .pwr, 0x40108, [], 1, .power,
    [⟨0, 10, .ro, 0⟩,
     ⟨10, 10, .ro, 0x320⟩,
     ⟨20, 10, .ro, 0x352⟩]⟩]

/-- The register entries of TIME. -/
def regsTime : List RegSpec := [
  ⟨"TIME_NOW", .time, 0x60000, [], 3, .system,
    [⟨0, 32, .ro, 0⟩,
     ⟨32, 32, .ro, 0⟩,
     ⟨64, 16, .ro, 0⟩,
     ⟨80, 8, .ro, 0⟩]⟩,
  ⟨"TIME_ADDEND", .time, 0x60020, [], 2, .system,
    [⟨0, 32, .ro, 0xd5555555⟩,
     ⟨32, 32, .ro, 0⟩]⟩,
  ⟨"TIME_CTRL", .time, 0x60010, [], 1, .system,
    [⟨0, 3, .rw, 0⟩,
     ⟨3, 1, .w1s, 0⟩,
     ⟨4, 1, .wo, 0⟩]⟩,
  ⟨"TIME_STATUS", .time, 0x60014, [], 1, .system,
    [⟨0, 3, .ro, 0⟩,
     ⟨3, 1, .ro, 0⟩,
     ⟨4, 1, .ro, 0⟩,
     ⟨5, 1, .ro, 0⟩,
     ⟨6, 1, .ro, 0⟩,
     ⟨7, 1, .ro, 0⟩,
     ⟨8, 8, .ro, 0⟩,
     ⟨16, 7, .ro, 0⟩,
     ⟨23, 1, .ro, 0⟩]⟩,
  ⟨"TIME_OFFSET", .time, 0x60018, [], 1, .system,
    [⟨0, 32, .ro, 0⟩]⟩,
  ⟨"TIME_SERVO_CFG", .time, 0x60028, [], 1, .system,
    [⟨0, 8, .rw, 0xa⟩,
     ⟨8, 8, .rw, 0x64⟩,
     ⟨16, 8, .rw, 0xa⟩]⟩,
  ⟨"TIME_SET", .time, 0x60030, [], 3, .system,
    [⟨0, 32, .rw, 0⟩,
     ⟨32, 32, .rw, 0⟩,
     ⟨64, 16, .rw, 0⟩]⟩,
  ⟨"TIME_PTP_CFG", .time, 0x60090, [], 1, .system,
    [⟨0, 8, .rw, 0x7f⟩,
     ⟨8, 3, .rw, 3⟩,
     ⟨12, 2, .rw, 2⟩,
     ⟨14, 1, .rw, 0⟩,
     ⟨15, 1, .rw, 0⟩,
     ⟨16, 3, .rw, 3⟩,
     ⟨24, 3, .rw, 0⟩,
     ⟨28, 3, .rw, 1⟩,
     ⟨31, 1, .rw, 0⟩]⟩,
  ⟨"TIME_PTP_STATUS", .time, 0x60094, [], 1, .system,
    [⟨0, 3, .ro, 0⟩,
     ⟨3, 3, .ro, 0⟩,
     ⟨6, 1, .ro, 0⟩,
     ⟨8, 8, .ro, 0⟩]⟩,
  ⟨"TIME_PIN_CFG", .time, 0x60080, [], 1, .system,
    [⟨0, 2, .rw, 0⟩,
     ⟨2, 1, .rw, 0⟩,
     ⟨3, 1, .rw, 0⟩,
     ⟨8, 17, .rw, 0x3e8⟩]⟩,
  ⟨"TIME_LANE_ASYM", .time, 0x61000, [(96, 0x8)], 1, .system,
    [⟨0, 16, .rw, 0⟩]⟩,
  ⟨"TIME_LANE_DELAY", .time, 0x61004, [(96, 0x8)], 1, .system,
    [⟨0, 24, .ro, 0⟩,
     ⟨24, 5, .ro, 0⟩]⟩,
  ⟨"TIME_ALIGN_ORIGIN", .time, 0x60040, [], 3, .system,
    [⟨0, 32, .rw, 0⟩,
     ⟨32, 48, .rw, 0⟩]⟩,
  ⟨"TIME_FRAME", .time, 0x60050, [], 2, .system,
    [⟨0, 48, .ro, 0⟩,
     ⟨48, 2, .ro, 0⟩,
     ⟨50, 3, .ro, 0⟩,
     ⟨53, 2, .ro, 0⟩]⟩,
  ⟨"TIME_SEQ_CFG", .time, 0x60058, [], 1, .system,
    [⟨0, 2, .rw, 1⟩,
     ⟨2, 2, .rw, 0⟩]⟩,
  ⟨"TIME_MODE_TIME", .time, 0x60060, [], 3, .system,
    [⟨0, 32, .rw, 0⟩,
     ⟨32, 32, .rw, 0⟩,
     ⟨64, 16, .rw, 0⟩]⟩,
  ⟨"TIME_MODE_COMMIT", .time, 0x6006C, [], 1, .system,
    [⟨0, 3, .wo, 0⟩,
     ⟨3, 2, .wo, 0⟩,
     ⟨5, 1, .wo, 0⟩]⟩,
  ⟨"TIME_MODE_STATUS", .time, 0x60070, [], 1, .system,
    [⟨0, 3, .ro, 0⟩,
     ⟨8, 8, .ro, 0⟩,
     ⟨16, 3, .ro, 0⟩,
     ⟨19, 2, .ro, 0⟩]⟩,
  ⟨"TIME_PTP_PARENT", .time, 0x60098, [], 2, .system,
    [⟨0, 64, .ro, 0⟩]⟩]

/-- The register entries of HIF. -/
def regsHif : List RegSpec := [
  ⟨"HIF_LINK_STATUS", .hif, 0x70000, [], 1, .endpoint,
    [⟨0, 3, .ro, 0⟩,
     ⟨3, 4, .ro, 0⟩,
     ⟨7, 1, .ro, 0⟩,
     ⟨8, 4, .ro, 0⟩,
     ⟨16, 16, .rc, 0⟩]⟩,
  ⟨"HIF_REMOTE_SEL", .hif, 0x70100, [(4, 0x4)], 1, .endpoint,
    [⟨0, 12, .rw, 0xfff⟩,
     ⟨12, 2, .rw, 0⟩,
     ⟨16, 8, .rw, 0xa⟩]⟩,
  ⟨"HIF_REMOTE_STATUS", .hif, 0x70110, [(4, 0x4)], 1, .endpoint,
    [⟨0, 7, .ro, 0⟩,
     ⟨7, 3, .w1c, 0⟩,
     ⟨10, 1, .w1c, 0⟩,
     ⟨11, 21, .ro, 0⟩]⟩,
  ⟨"HIF_PBA", .hif, 0x77000, [(64, 0x4)], 1, .system,
    [⟨0, 32, .ro, 0⟩]⟩,
  ⟨"HIF_MSIX", .hif, 0x78000, [(2048, 0x10), (3, 0x4)], 1, .system,
    [⟨0, 32, .rw, 0⟩]⟩,
  ⟨"HIF_MSIX_CTRL", .hif, 0x7800C, [(2048, 0x10)], 1, .endpoint,
    [⟨0, 1, .rw, 1⟩]⟩]

/-- The register entries of QM. -/
def regsQm : List RegSpec := [
  ⟨"QM_SEL", .qm, 0x80000, [], 1, .core,
    [⟨0, 18, .rw, 0⟩]⟩,
  ⟨"QM_CTX_CFG", .qm, 0x80004, [], 1, .core,
    [⟨0, 1, .ro, 0⟩,
     ⟨1, 5, .rw, 6⟩,
     ⟨6, 2, .rw, 1⟩,
     ⟨8, 3, .ro, 0⟩,
     ⟨11, 1, .rw, 0⟩,
     ⟨12, 11, .rw, 0⟩,
     ⟨23, 1, .rw, 0⟩]⟩,
  ⟨"QM_CTX_BASE", .qm, 0x80008, [], 2, .core,
    [⟨12, 52, .rw, 0⟩]⟩,
  ⟨"QM_CTX_PROD", .qm, 0x80010, [], 1, .core,
    [⟨0, 24, .ro, 0⟩]⟩,
  ⟨"QM_CTX_CONS", .qm, 0x80014, [], 1, .core,
    [⟨0, 24, .ro, 0⟩]⟩,
  ⟨"QM_CMD", .qm, 0x80018, [], 1, .core,
    [⟨0, 2, .wo, 0⟩,
     ⟨2, 2, .ro, 0⟩,
     ⟨4, 4, .ro, 0⟩]⟩,
  ⟨"QM_CONSUME", .qm, 0x80020, [], 2, .core,
    [⟨0, 18, .wo, 0⟩,
     ⟨32, 24, .wo, 0⟩]⟩]

/-- The register entries of DMA. -/
def regsDma : List RegSpec := [
  ⟨"DMA_CH_CFG", .dma, 0xC0000, [(128, 0x40)], 1, .core,
    [⟨0, 18, .rw, 0⟩,
     ⟨18, 1, .rw, 0⟩,
     ⟨19, 3, .rw, 4⟩,
     ⟨22, 1, .rw, 0⟩,
     ⟨23, 6, .rw, 0⟩]⟩,
  ⟨"DMA_CH_CTRL", .dma, 0xC0004, [(128, 0x40)], 1, .core,
    [⟨0, 1, .rw, 0⟩,
     ⟨1, 1, .wo, 0⟩,
     ⟨2, 1, .wo, 0⟩]⟩,
  ⟨"DMA_CH_STATUS", .dma, 0xC0008, [(128, 0x40)], 1, .core,
    [⟨0, 3, .ro, 0⟩,
     ⟨8, 8, .ro, 0⟩,
     ⟨16, 2, .ro, 0⟩]⟩,
  ⟨"DMA_CH_DONE", .dma, 0xC000C, [(128, 0x40)], 1, .core,
    [⟨0, 32, .ro, 0⟩]⟩,
  ⟨"DMA_CH_ERR_ADDR", .dma, 0xC0010, [(128, 0x40)], 2, .core,
    [⟨0, 64, .ro, 0⟩]⟩,
  ⟨"DMA_CH_ERR_TAG", .dma, 0xC0018, [(128, 0x40)], 1, .core,
    [⟨0, 32, .ro, 0⟩]⟩,
  ⟨"DMA_TRIG_CNT", .dma, 0xC4000, [(256, 0x4)], 1, .core,
    [⟨0, 16, .ro, 0⟩]⟩,
  ⟨"DMA_TRIG_SW", .dma, 0xC5000, [], 1, .core,
    [⟨0, 8, .wo, 0⟩]⟩]

/-- The register entries of HBM. -/
def regsHbm : List RegSpec := [
  ⟨"HBM_STATUS", .hbm, 0xD0000, [], 1, .system,
    [⟨0, 2, .ro, 0⟩,
     ⟨2, 1, .ro, 0⟩,
     ⟨3, 1, .ro, 0⟩,
     ⟨8, 4, .ro, 0⟩]⟩,
  ⟨"HBM_POWER_CFG", .hbm, 0xD0004, [], 1, .system,
    [⟨0, 1, .rw, 1⟩,
     ⟨1, 1, .rw, 1⟩,
     ⟨16, 16, .rw, 0⟩]⟩,
  ⟨"HBM_SLEEP_COUNT", .hbm, 0xD0008, [], 1, .system,
    [⟨0, 16, .rc, 0⟩,
     ⟨16, 16, .rc, 0⟩]⟩,
  ⟨"HBM_ECC", .hbm, 0xD000C, [], 1, .system,
    [⟨0, 16, .rc, 0⟩,
     ⟨16, 16, .rc, 0⟩]⟩,
  ⟨"HBM_TOL", .hbm, 0xD0040, [(16, 0x4)], 1, .system,
    [⟨0, 16, .ro, 0xffff⟩]⟩]

/-- The register entries of ING. -/
def regsIng : List RegSpec := [
  ⟨"ING_SRC_CTRL", .ing, 0xE8000, [(64, 0x40)], 1, .system,
    [⟨0, 1, .sh, 0⟩,
     ⟨1, 3, .sh, 0⟩,
     ⟨4, 8, .sh, 0⟩,
     ⟨12, 4, .sh, 0⟩,
     ⟨16, 2, .sh, 2⟩,
     ⟨18, 1, .sh, 0⟩,
     ⟨19, 1, .sh, 0⟩,
     ⟨20, 3, .sh, 2⟩]⟩,
  ⟨"ING_SRC_GEOM", .ing, 0xE8004, [(64, 0x40)], 1, .system,
    [⟨0, 15, .sh, 0⟩,
     ⟨16, 15, .sh, 0⟩]⟩,
  ⟨"ING_SRC_RATE", .ing, 0xE8008, [(64, 0x40)], 1, .system,
    [⟨0, 16, .sh, 1⟩,
     ⟨16, 16, .sh, 0x3c⟩]⟩,
  ⟨"ING_SRC_TIMING", .ing, 0xE800C, [(64, 0x40)], 1, .system,
    [⟨0, 16, .sh, 0x64⟩,
     ⟨16, 10, .sh, 0x64⟩]⟩,
  ⟨"ING_SRC_RING", .ing, 0xE8010, [(64, 0x40)], 2, .system,
    [⟨12, 52, .sh, 0⟩]⟩,
  ⟨"ING_SRC_STRIDE", .ing, 0xE8018, [(64, 0x40)], 1, .system,
    [⟨0, 20, .sh, 0⟩,
     ⟨20, 12, .sh, 0⟩]⟩,
  ⟨"ING_SRC_LINK", .ing, 0xE801C, [(64, 0x40)], 1, .system,
    [⟨0, 8, .sh, 0⟩,
     ⟨8, 4, .sh, 0⟩]⟩,
  ⟨"ING_SRC_STATUS", .ing, 0xE9000, [(64, 0x10)], 1, .system,
    [⟨0, 2, .ro, 0⟩,
     ⟨2, 3, .ro, 0⟩,
     ⟨5, 3, .ro, 0⟩,
     ⟨8, 8, .ro, 0⟩,
     ⟨16, 1, .ro, 0⟩,
     ⟨17, 1, .ro, 0⟩,
     ⟨24, 8, .ro, 0⟩]⟩,
  ⟨"ING_SRC_COUNTS", .ing, 0xE9004, [(64, 0x10)], 1, .system,
    [⟨0, 8, .rc, 0⟩,
     ⟨8, 8, .rc, 0⟩,
     ⟨16, 8, .rc, 0⟩,
     ⟨24, 8, .rc, 0⟩]⟩,
  ⟨"ING_FENCE", .ing, 0xEA000, [(64, 0x4)], 1, .system,
    [⟨0, 3, .wo, 0⟩]⟩,
  ⟨"ING_PORT_CFG", .ing, 0xE0000, [(8, 0x40)], 1, .system,
    [⟨0, 1, .rw, 1⟩,
     ⟨1, 1, .rw, 1⟩,
     ⟨2, 12, .rw, 0⟩]⟩,
  ⟨"ING_PORT_DROP", .ing, 0xE0020, [(8, 0x40)], 1, .system,
    [⟨0, 8, .rc, 0⟩,
     ⟨8, 8, .rc, 0⟩,
     ⟨16, 8, .rc, 0⟩,
     ⟨24, 8, .rc, 0⟩]⟩,
  ⟨"ING_FILTER_CTRL", .ing, 0xE1000, [(256, 0x40)], 1, .system,
    [⟨0, 1, .rw, 0⟩,
     ⟨1, 3, .rw, 0⟩,
     ⟨4, 1, .rw, 0⟩,
     ⟨5, 1, .rw, 0⟩,
     ⟨6, 1, .rw, 0⟩,
     ⟨7, 12, .rw, 0⟩,
     ⟨19, 6, .rw, 0⟩,
     ⟨25, 1, .rw, 0⟩]⟩,
  ⟨"ING_SRC_PKTS", .ing, 0xE9008, [(64, 0x10)], 2, .system,
    [⟨0, 32, .rc, 0⟩,
     ⟨32, 32, .rc, 0⟩]⟩,
  ⟨"ING_PORT_IPV4", .ing, 0xE0004, [(8, 0x40)], 1, .system,
    [⟨0, 32, .rw, 0⟩]⟩,
  ⟨"ING_PORT_MAC", .ing, 0xE0008, [(8, 0x40)], 2, .system,
    [⟨0, 48, .ro, 0⟩]⟩,
  ⟨"ING_PORT_IPV6", .ing, 0xE0010, [(8, 0x40)], 4, .system,
    [⟨0, 128, .rw, 0⟩]⟩,
  ⟨"ING_FILTER_UDP", .ing, 0xE1004, [(256, 0x40)], 1, .system,
    [⟨0, 16, .rw, 0⟩]⟩,
  ⟨"ING_FILTER_DST", .ing, 0xE1010, [(256, 0x40)], 4, .system,
    [⟨0, 128, .rw, 0⟩]⟩,
  ⟨"ING_FILTER_SRC", .ing, 0xE1020, [(256, 0x40)], 4, .system,
    [⟨0, 128, .rw, 0⟩]⟩]

/-- The register entries of CLP. -/
def regsClp : List RegSpec := [
  ⟨"CLP_PORT_CFG", .clp, 0xF0000, [(4, 0x40)], 1, .system,
    [⟨0, 1, .rw, 1⟩]⟩,
  ⟨"CLP_PORT_STATUS", .clp, 0xF0004, [(4, 0x40)], 1, .system,
    [⟨0, 3, .ro, 0⟩,
     ⟨3, 3, .ro, 0⟩,
     ⟨6, 4, .ro, 0⟩,
     ⟨10, 1, .ro, 0⟩]⟩,
  ⟨"CLP_CMD", .clp, 0xF0200, [], 1, .system,
    [⟨0, 2, .wo, 0⟩,
     ⟨2, 8, .wo, 0⟩,
     ⟨10, 2, .wo, 0⟩,
     ⟨12, 2, .ro, 0⟩]⟩,
  ⟨"CLP_RING_CFG", .clp, 0xF1000, [(256, 0x20)], 1, .system,
    [⟨0, 2, .rw, 0⟩,
     ⟨2, 2, .ro, 0⟩,
     ⟨16, 16, .rc, 0⟩]⟩,
  ⟨"CLP_PORT_BLOCKS", .clp, 0xF0008, [(4, 0x40)], 2, .system,
    [⟨0, 64, .ro, 0⟩]⟩,
  ⟨"CLP_RING_BASE", .clp, 0xF1008, [(256, 0x20)], 2, .system,
    [⟨0, 34, .rw, 0⟩]⟩,
  ⟨"CLP_RING_LEN", .clp, 0xF1010, [(256, 0x20)], 2, .system,
    [⟨0, 34, .rw, 0⟩]⟩,
  ⟨"CLP_RING_WPOS", .clp, 0xF1018, [(256, 0x20)], 2, .system,
    [⟨0, 64, .ro, 0⟩]⟩]

/-- The register entries of CDC. -/
def regsCdc : List RegSpec := [
  ⟨"CDC_DEC_CTRL", .cdc, 0x100000, [(16, 0x40)], 1, .core,
    [⟨0, 1, .sh, 0⟩]⟩,
  ⟨"CDC_DEC_STATUS", .cdc, 0x100004, [(16, 0x40)], 1, .core,
    [⟨0, 2, .ro, 0⟩,
     ⟨2, 1, .ro, 0⟩,
     ⟨3, 5, .ro, 0⟩,
     ⟨8, 8, .ro, 0⟩,
     ⟨16, 8, .rc, 0⟩,
     ⟨24, 8, .rc, 0⟩]⟩,
  ⟨"CDC_ENC_CTRL", .cdc, 0x101000, [(8, 0x40)], 1, .core,
    [⟨0, 1, .sh, 0⟩,
     ⟨1, 2, .sh, 0⟩,
     ⟨3, 2, .sh, 0⟩,
     ⟨5, 1, .sh, 0⟩,
     ⟨6, 8, .sh, 0⟩,
     ⟨14, 6, .sh, 0⟩,
     ⟨20, 1, .sh, 0⟩,
     ⟨21, 8, .sh, 0⟩]⟩,
  ⟨"CDC_ENC_RC", .cdc, 0x101004, [(8, 0x40)], 1, .core,
    [⟨0, 6, .sh, 0x1b⟩,
     ⟨6, 6, .sh, 0x33⟩,
     ⟨12, 12, .sh, 0x3c⟩,
     ⟨24, 8, .sh, 0⟩]⟩,
  ⟨"CDC_ENC_OUT", .cdc, 0x101010, [(8, 0x40)], 2, .core,
    [⟨0, 6, .sh, 0x18⟩,
     ⟨12, 24, .sh, 0⟩,
     ⟨36, 18, .sh, 0⟩]⟩,
  ⟨"CDC_ENC_CMD", .cdc, 0x101018, [(8, 0x40)], 1, .core,
    [⟨0, 1, .wo, 0⟩]⟩,
  ⟨"CDC_ENC_STATUS", .cdc, 0x10101C, [(8, 0x40)], 1, .core,
    [⟨0, 8, .rc, 0⟩,
     ⟨8, 8, .rc, 0⟩,
     ⟨16, 8, .rc, 0⟩,
     ⟨24, 8, .rc, 0⟩]⟩,
  ⟨"CDC_STATUS", .cdc, 0x103000, [], 1, .core,
    [⟨0, 11, .ro, 0⟩,
     ⟨11, 3, .ro, 0⟩,
     ⟨14, 5, .ro, 0⟩]⟩,
  ⟨"CDC_ENC_MAXBITS", .cdc, 0x101008, [(8, 0x40)], 1, .core,
    [⟨0, 32, .sh, 0⟩]⟩,
  ⟨"CDC_ENC_OVERSHOOT", .cdc, 0x101020, [(8, 0x40)], 1, .core,
    [⟨0, 32, .ro, 0⟩]⟩]

/-- The register entries of RED. -/
def regsRed : List RegSpec := [
  ⟨"RED_CTRL", .red, 0x140000, [], 1, .system,
    [⟨0, 1, .rw, 0⟩,
     ⟨1, 1, .rw, 1⟩,
     ⟨8, 8, .rw, 0xa⟩,
     ⟨16, 8, .rw, 0x10⟩]⟩,
  ⟨"RED_CLAIM", .red, 0x140004, [], 1, .system,
    [⟨0, 16, .rw, 0x100⟩,
     ⟨16, 16, .ro, 0x100⟩]⟩,
  ⟨"RED_STATUS", .red, 0x140008, [], 1, .system,
    [⟨0, 2, .ro, 0⟩,
     ⟨2, 1, .ro, 0⟩,
     ⟨3, 1, .ro, 0⟩,
     ⟨4, 1, .ro, 0⟩,
     ⟨8, 8, .ro, 0⟩]⟩,
  ⟨"RED_PARTNER_INFO", .red, 0x140018, [], 1, .system,
    [⟨0, 16, .ro, 0⟩,
     ⟨16, 16, .ro, 0⟩]⟩,
  ⟨"RED_DIGEST_COUNTS", .red, 0x14001C, [], 1, .system,
    [⟨0, 16, .rc, 0⟩,
     ⟨16, 8, .rc, 0⟩,
     ⟨24, 8, .rc, 0⟩]⟩,
  ⟨"RED_DIGEST_LAST", .red, 0x140020, [], 2, .system,
    [⟨0, 48, .ro, 0⟩,
     ⟨48, 7, .ro, 0⟩,
     ⟨55, 3, .ro, 0⟩]⟩,
  ⟨"RED_TAKEOVERS", .red, 0x140028, [], 1, .system,
    [⟨0, 16, .rc, 0⟩]⟩,
  ⟨"RED_PORT", .red, 0x140100, [(96, 0x4)], 1, .system,
    [⟨0, 2, .ro, 0⟩,
     ⟨2, 1, .ro, 0⟩,
     ⟨3, 1, .ro, 0⟩]⟩,
  ⟨"RED_TILE_CFG", .red, 0x140800, [], 1, .system,
    [⟨0, 8, .rw, 0x64⟩]⟩,
  ⟨"RED_TILE_STATUS", .red, 0x140804, [], 1, .system,
    [⟨0, 16, .ro, 0⟩,
     ⟨16, 1, .ro, 0⟩,
     ⟨17, 3, .ro, 0⟩]⟩,
  ⟨"RED_TILE_COUNTS", .red, 0x140810, [], 2, .system,
    [⟨0, 32, .rc, 0⟩,
     ⟨32, 32, .rc, 0⟩]⟩,
  ⟨"RED_TILE_REFUSED", .red, 0x140818, [], 1, .system,
    [⟨0, 16, .rc, 0⟩]⟩,
  ⟨"RED_PARTNER", .red, 0x140010, [], 2, .system,
    [⟨0, 64, .ro, 0⟩]⟩,
  ⟨"RED_TILE_WIN_SERIAL", .red, 0x140808, [], 2, .system,
    [⟨0, 64, .ro, 0⟩]⟩]

/-- The register entries of DSC. -/
def regsDsc : List RegSpec := [
  ⟨"DSC_CTRL", .dsc, 0x150000, [], 1, .system,
    [⟨0, 1, .rw, 1⟩,
     ⟨8, 8, .rw, 0xa⟩]⟩,
  ⟨"DSC_CMD", .dsc, 0x150004, [], 1, .system,
    [⟨0, 2, .wo, 0⟩,
     ⟨2, 7, .wo, 0⟩,
     ⟨9, 12, .wo, 0⟩,
     ⟨21, 7, .ro, 0⟩]⟩,
  ⟨"DSC_CHECK", .dsc, 0x150008, [], 1, .system,
    [⟨0, 3, .ro, 0⟩,
     ⟨4, 12, .ro, 0⟩,
     ⟨16, 12, .ro, 0⟩]⟩,
  ⟨"DSC_ADMIT", .dsc, 0x150400, [(128, 0x4)], 1, .system,
    [⟨0, 32, .sh, 0⟩]⟩,
  ⟨"DSC_ORIGIN", .dsc, 0x154000, [(4095, 0x4)], 1, .system,
    [⟨0, 15, .sh, 0⟩,
     ⟨16, 14, .sh, 0⟩,
     ⟨31, 1, .sh, 0⟩]⟩,
  ⟨"DSC_TOPO", .dsc, 0x158000, [(4095, 0x8)], 2, .system,
    [⟨0, 3, .ro, 0⟩,
     ⟨3, 1, .ro, 0⟩,
     ⟨4, 12, .ro, 0xfff⟩,
     ⟨16, 3, .ro, 0⟩,
     ⟨19, 3, .ro, 0⟩,
     ⟨22, 6, .ro, 0⟩,
     ⟨28, 1, .ro, 0⟩,
     ⟨29, 1, .ro, 0⟩,
     ⟨32, 7, .ro, 0⟩]⟩,
  ⟨"DSC_INFO", .dsc, 0x150100, [], 6, .system,
    [⟨0, 64, .ro, 0⟩,
     ⟨64, 32, .ro, 0⟩,
     ⟨96, 32, .ro, 0⟩,
     ⟨128, 32, .ro, 0⟩,
     ⟨160, 10, .ro, 0⟩,
     ⟨176, 10, .ro, 0⟩]⟩,
  ⟨"DSC_SELF", .dsc, 0x150800, [], 2, .system,
    [⟨0, 12, .ro, 0xfff⟩,
     ⟨12, 4, .ro, 0xf⟩,
     ⟨16, 1, .ro, 0⟩,
     ⟨32, 10, .ro, 0⟩,
     ⟨48, 10, .ro, 0⟩]⟩,
  ⟨"DSC_ROUTE", .dsc, 0x152000, [(6, 0x200), (128, 0x4)], 1, .system,
    [⟨0, 32, .rw, 0⟩]⟩,
  ⟨"DSC_SEL", .dsc, 0x150010, [], 1, .system,
    [⟨0, 12, .rw, 0⟩]⟩,
  ⟨"DSC_MEAS", .dsc, 0x150120, [(12, 0x4)], 1, .system,
    [⟨0, 32, .ro, 0⟩]⟩]

/-- The register entries of LST. -/
def regsLst : List RegSpec := [
  ⟨"LST_ALLOC", .lst, 0x160000, [(4, 0x20), (8, 0x4)], 1, .core,
    [⟨0, 8, .sh, 0⟩,
     ⟨8, 9, .sh, 0⟩]⟩,
  ⟨"LST_NEED", .lst, 0x160200, [(4, 0x20), (8, 0x4)], 1, .core,
    [⟨0, 9, .ro, 0⟩,
     ⟨9, 15, .ro, 0⟩]⟩,
  ⟨"LST_CHECK", .lst, 0x160100, [], 1, .core,
    [⟨0, 2, .ro, 0⟩,
     ⟨2, 2, .ro, 0⟩,
     ⟨4, 3, .ro, 0⟩,
     ⟨8, 9, .ro, 0⟩,
     ⟨17, 9, .ro, 0⟩]⟩,
  ⟨"LST_USE", .lst, 0x160104, [], 1, .core,
    [⟨0, 9, .ro, 0⟩,
     ⟨9, 9, .ro, 0⟩]⟩]

/-- The register entries of CMP. -/
def regsCmp : List RegSpec := [
  ⟨"CMP_LAYER_CTRL", .cmp, 0x1001000, [(4, 0x400000), (8, 0x100)], 1, .core,
    [⟨0, 1, .sh, 0⟩,
     ⟨1, 4, .sh, 1⟩,
     ⟨5, 6, .sh, 0⟩,
     ⟨11, 1, .sh, 0⟩,
     ⟨12, 1, .sh, 0⟩,
     ⟨13, 1, .sh, 0⟩,
     ⟨14, 1, .sh, 1⟩,
     ⟨15, 1, .sh, 0⟩,
     ⟨16, 4, .sh, 3⟩,
     ⟨20, 2, .sh, 0⟩,
     ⟨22, 6, .sh, 0⟩,
     ⟨28, 1, .sh, 0⟩]⟩,
  ⟨"CMP_LAYER_POS", .cmp, 0x1001004, [(4, 0x400000), (8, 0x100)], 1, .core,
    [⟨0, 16, .sh, 0⟩,
     ⟨16, 16, .sh, 0⟩]⟩,
  ⟨"CMP_LAYER_PHASE", .cmp, 0x1001008, [(4, 0x400000), (8, 0x100)], 1, .core,
    [⟨0, 6, .sh, 0⟩,
     ⟨8, 6, .sh, 0⟩]⟩,
  ⟨"CMP_LAYER_SIZE", .cmp, 0x100100C, [(4, 0x400000), (8, 0x100)], 1, .core,
    [⟨0, 16, .sh, 1⟩,
     ⟨16, 16, .sh, 1⟩]⟩,
  ⟨"CMP_LAYER_CROP_POS", .cmp, 0x1001010, [(4, 0x400000), (8, 0x100)], 1, .core,
    [⟨0, 14, .sh, 0⟩,
     ⟨16, 14, .sh, 0⟩]⟩,
  ⟨"CMP_LAYER_CROP_SIZE", .cmp, 0x1001014, [(4, 0x400000), (8, 0x100)], 1, .core,
    [⟨0, 15, .sh, 1⟩,
     ⟨16, 15, .sh, 1⟩]⟩,
  ⟨"CMP_LAYER_ALPHA", .cmp, 0x1001018, [(4, 0x400000), (8, 0x100)], 1, .core,
    [⟨0, 13, .sh, 0x1000⟩]⟩,
  ⟨"CMP_LAYER_FBCOL", .cmp, 0x1001020, [(4, 0x400000), (8, 0x100)], 2, .core,
    [⟨0, 12, .sh, 0⟩,
     ⟨16, 12, .sh, 0⟩,
     ⟨32, 12, .sh, 0⟩]⟩,
  ⟨"CMP_LAYER_FILL", .cmp, 0x1001028, [(4, 0x400000), (8, 0x100)], 2, .core,
    [⟨0, 12, .sh, 0⟩,
     ⟨16, 12, .sh, 0⟩,
     ⟨32, 12, .sh, 0⟩]⟩,
  ⟨"CMP_LAYER_STATUS", .cmp, 0x1001040, [(4, 0x400000), (8, 0x100)], 1, .core,
    [⟨0, 2, .ro, 3⟩,
     ⟨2, 4, .ro, 0⟩]⟩,
  ⟨"CMP_LAYER_COUNTS", .cmp, 0x1001044, [(4, 0x400000), (8, 0x100)], 1, .core,
    [⟨0, 16, .rc, 0⟩,
     ⟨16, 8, .rc, 0⟩,
     ⟨24, 8, .rc, 0⟩]⟩,
  ⟨"CMP_CANVAS_SIZE", .cmp, 0x1000000, [], 1, .core,
    [⟨0, 16, .sh, 0⟩,
     ⟨16, 15, .sh, 0⟩]⟩,
  ⟨"CMP_CANVAS_CFG", .cmp, 0x1000004, [], 1, .core,
    [⟨0, 1, .sh, 0⟩,
     ⟨1, 1, .sh, 1⟩,
     ⟨2, 5, .sh, 0⟩,
     ⟨8, 14, .sh, 0x76c⟩]⟩,
  ⟨"CMP_CANVAS_BG", .cmp, 0x1000010, [(4, 0x8)], 2, .core,
    [⟨0, 12, .sh, 0⟩,
     ⟨16, 12, .sh, 0⟩,
     ⟨32, 12, .sh, 0⟩]⟩,
  ⟨"CMP_STATUS", .cmp, 0x1000200, [(4, 0x400000)], 1, .core,
    [⟨0, 16, .rc, 0⟩,
     ⟨16, 16, .rc, 0⟩]⟩,
  ⟨"CMP_WB_CTRL", .cmp, 0x1000100, [], 1, .core,
    [⟨0, 1, .sh, 0⟩,
     ⟨1, 2, .sh, 0⟩,
     ⟨3, 2, .sh, 0⟩,
     ⟨5, 8, .sh, 0⟩,
     ⟨13, 1, .sh, 0⟩,
     ⟨14, 2, .sh, 2⟩]⟩,
  ⟨"CMP_WB_POS", .cmp, 0x1000104, [], 1, .core,
    [⟨0, 15, .sh, 0⟩,
     ⟨16, 14, .sh, 0⟩]⟩,
  ⟨"CMP_WB_SIZE", .cmp, 0x1000108, [], 1, .core,
    [⟨0, 14, .sh, 0⟩,
     ⟨16, 13, .sh, 0⟩]⟩,
  ⟨"CMP_WB_RING", .cmp, 0x1000110, [], 2, .core,
    [⟨12, 52, .sh, 0⟩]⟩,
  ⟨"CMP_WB_STRIDE", .cmp, 0x1000118, [], 1, .core,
    [⟨0, 16, .sh, 0⟩,
     ⟨16, 16, .sh, 0⟩]⟩,
  ⟨"CMP_WB_STATUS", .cmp, 0x1000120, [], 1, .core,
    [⟨0, 3, .ro, 0⟩,
     ⟨3, 1, .ro, 0⟩,
     ⟨8, 8, .rc, 0⟩]⟩,
  ⟨"CMP_LAYER_FADE", .cmp, 0x1002000, [(4, 0x400000), (8, 0x10)], 1, .core,
    [⟨0, 13, .sh, 0x1000⟩,
     ⟨13, 2, .sh, 0⟩,
     ⟨16, 16, .sh, 1⟩]⟩,
  ⟨"CMP_LAYER_FADE_STATUS", .cmp, 0x1002004, [(4, 0x400000), (8, 0x10)], 1, .core,
    [⟨0, 13, .ro, 0x1000⟩,
     ⟨13, 1, .ro, 0⟩]⟩,
  ⟨"CMP_WB_FRAME", .cmp, 0x1000128, [], 2, .core,
    [⟨0, 48, .ro, 0⟩]⟩,
  ⟨"CMP_LUT_E", .cmp, 0x1010000, [(4, 0x400000), (8, 0x4000), (4096, 0x4)], 1, .system,
    [⟨0, 20, .rw, 0⟩]⟩,
  ⟨"CMP_LUT_W", .cmp, 0x1030000, [(4, 0x400000), (4096, 0x4)], 1, .system,
    [⟨0, 20, .rw, 0⟩]⟩]

/-- The register entries of SCL. -/
def regsScl : List RegSpec := [
  ⟨"SCL_COEF", .scl, 0x1050000, [(4, 0x400000), (16, 0x1000), (64, 0x40), (12, 0x4)], 1, .system,
    [⟨0, 10, .rw, 0⟩]⟩,
  ⟨"SCL_LAYER_CFG", .scl, 0x1040100, [(4, 0x400000), (8, 0x10)], 1, .core,
    [⟨0, 4, .sh, 0⟩,
     ⟨4, 4, .sh, 0⟩,
     ⟨8, 4, .sh, 4⟩,
     ⟨12, 4, .sh, 4⟩,
     ⟨16, 1, .sh, 0⟩]⟩,
  ⟨"SCL_LAYER_STATUS", .scl, 0x1040104, [(4, 0x400000), (8, 0x10)], 1, .core,
    [⟨0, 4, .ro, 0⟩,
     ⟨4, 1, .ro, 0⟩,
     ⟨5, 1, .ro, 0⟩,
     ⟨6, 1, .ro, 0⟩]⟩]

/-- The register entries of LANE. -/
def regsLane : List RegSpec := [
  ⟨"LANE_CFG", .lane, 0x1080000, [(4, 0x400000), (24, 0x4000)], 1, .system,
    [⟨0, 2, .ro, 0⟩,
     ⟨2, 3, .ro, 0⟩,
     ⟨5, 7, .ro, 0⟩,
     ⟨12, 2, .ro, 0⟩,
     ⟨14, 2, .ro, 0⟩,
     ⟨16, 1, .ro, 0⟩,
     ⟨17, 1, .ro, 0⟩]⟩,
  ⟨"LANE_CTRL", .lane, 0x1080004, [(4, 0x400000), (24, 0x4000)], 1, .system,
    [⟨0, 1, .wo, 0⟩,
     ⟨1, 1, .rw, 0⟩,
     ⟨2, 1, .rw, 0⟩]⟩,
  ⟨"LANE_STATUS", .lane, 0x1080008, [(4, 0x400000), (24, 0x4000)], 1, .system,
    [⟨0, 4, .ro, 0⟩,
     ⟨4, 4, .ro, 0⟩,
     ⟨8, 8, .ro, 0⟩,
     ⟨16, 8, .rc, 0⟩,
     ⟨24, 1, .ro, 0⟩,
     ⟨25, 1, .ro, 1⟩]⟩,
  ⟨"LANE_FOM", .lane, 0x108000C, [(4, 0x400000), (24, 0x4000)], 1, .system,
    [⟨0, 8, .ro, 0⟩,
     ⟨8, 10, .ro, 0⟩,
     ⟨18, 1, .ro, 0⟩]⟩,
  ⟨"LANE_FOM_LIMIT", .lane, 0x1080010, [(4, 0x400000), (24, 0x4000)], 1, .system,
    [⟨0, 8, .rw, 0x33⟩,
     ⟨8, 10, .rw, 0x14⟩]⟩,
  ⟨"LANE_EQ", .lane, 0x1080014, [(4, 0x400000), (24, 0x4000)], 1, .system,
    [⟨0, 4, .ro, 6⟩,
     ⟨4, 7, .ro, 0⟩,
     ⟨11, 4, .ro, 4⟩,
     ⟨15, 6, .ro, 0x33⟩,
     ⟨21, 5, .ro, 8⟩]⟩,
  ⟨"LANE_FEC", .lane, 0x1080018, [(4, 0x400000), (24, 0x4000)], 2, .system,
    [⟨0, 32, .rc, 0⟩,
     ⟨32, 32, .rc, 0⟩]⟩,
  ⟨"LANE_PEER", .lane, 0x1080020, [(4, 0x400000), (24, 0x4000)], 2, .system,
    [⟨0, 64, .ro, 0⟩]⟩,
  ⟨"LANE_PEER_INFO", .lane, 0x1080028, [(4, 0x400000), (24, 0x4000)], 1, .system,
    [⟨0, 8, .ro, 0⟩,
     ⟨8, 8, .ro, 0⟩,
     ⟨16, 4, .ro, 0⟩]⟩,
  ⟨"LANE_TEST", .lane, 0x1080100, [(4, 0x400000)], 1, .system,
    [⟨0, 1, .rw, 0⟩,
     ⟨1, 2, .rw, 2⟩,
     ⟨3, 1, .rw, 0⟩,
     ⟨4, 1, .rw, 0⟩,
     ⟨5, 1, .wo, 0⟩,
     ⟨6, 1, .wo, 0⟩,
     ⟨7, 1, .wo, 0⟩,
     ⟨8, 1, .ro, 0⟩,
     ⟨16, 16, .rw, 0⟩]⟩,
  ⟨"LANE_TEST_WORD", .lane, 0x1080108, [(4, 0x400000)], 2, .system,
    [⟨0, 64, .rw, 0⟩]⟩,
  ⟨"LANE_PRBS_BITS", .lane, 0x1080110, [(4, 0x400000)], 2, .system,
    [⟨0, 48, .ro, 0⟩]⟩,
  ⟨"LANE_PRBS_ERR", .lane, 0x1080118, [(4, 0x400000)], 2, .system,
    [⟨0, 48, .ro, 0⟩]⟩]

/-- The register entries of HAL. -/
def regsHal : List RegSpec := [
  ⟨"HAL_PORT_ERR", .hal, 0x1100000, [(4, 0x400000), (24, 0x40)], 2, .system,
    [⟨0, 16, .rc, 0⟩,
     ⟨16, 16, .rc, 0⟩,
     ⟨32, 16, .rc, 0⟩,
     ⟨48, 16, .rc, 0⟩]⟩,
  ⟨"HAL_PORT_CREDIT", .hal, 0x1100008, [(4, 0x400000), (24, 0x40)], 1, .system,
    [⟨0, 7, .ro, 0x40⟩,
     ⟨8, 9, .ro, 0x100⟩,
     ⟨24, 1, .ro, 0⟩]⟩,
  ⟨"HAL_PORT_LOAD", .hal, 0x110000C, [(4, 0x400000), (24, 0x40)], 1, .system,
    [⟨0, 10, .ro, 0⟩,
     ⟨16, 16, .ro, 0⟩]⟩,
  ⟨"HAL_PORT_TRAFFIC", .hal, 0x1100010, [(4, 0x400000), (24, 0x40)], 2, .system,
    [⟨0, 32, .rc, 0⟩,
     ⟨32, 32, .rc, 0⟩]⟩]

/-- The register entries of COR. -/
def regsCor : List RegSpec := [
  ⟨"COR_CFG", .cor, 0x1140000, [], 1, .system,
    [⟨0, 2, .sh, 0⟩,
     ⟨2, 5, .sh, 0x10⟩,
     ⟨7, 1, .sh, 1⟩,
     ⟨8, 1, .sh, 0⟩]⟩,
  ⟨"COR_STATUS", .cor, 0x1140004, [], 1, .system,
    [⟨0, 16, .ro, 0⟩,
     ⟨16, 1, .ro, 0⟩,
     ⟨17, 1, .ro, 0⟩,
     ⟨18, 1, .ro, 0⟩]⟩,
  ⟨"COR_GAIN", .cor, 0x1140010, [(3, 0x4)], 1, .system,
    [⟨0, 16, .rw, 0x4000⟩]⟩,
  ⟨"COR_GAIN_LIMIT", .cor, 0x114001C, [], 1, .system,
    [⟨0, 16, .rw, 0x3333⟩,
     ⟨16, 16, .rw, 0x4ccd⟩]⟩,
  ⟨"COR_CAP", .cor, 0x1140020, [], 1, .system,
    [⟨0, 13, .ro, 0x1000⟩,
     ⟨16, 13, .ro, 0x1000⟩]⟩,
  ⟨"COR_LAMP_LIMIT", .cor, 0x1140024, [], 1, .system,
    [⟨0, 16, .rw, 0x550⟩]⟩,
  ⟨"COR_I2C", .cor, 0x1140030, [], 1, .system,
    [⟨0, 7, .rw, 0⟩,
     ⟨7, 1, .rw, 0⟩,
     ⟨8, 8, .rw, 0⟩,
     ⟨16, 8, .rw, 0⟩,
     ⟨24, 1, .wo, 0⟩,
     ⟨25, 1, .ro, 0⟩,
     ⟨26, 1, .ro, 0⟩]⟩,
  ⟨"COR_BSENS", .cor, 0x1140100, [(32, 0x4)], 1, .system,
    [⟨0, 16, .ro, 0⟩,
     ⟨16, 2, .ro, 0⟩]⟩,
  ⟨"COR_GRID", .cor, 0x1140200, [(128, 0x4)], 1, .system,
    [⟨0, 16, .ro, 0⟩,
     ⟨16, 16, .ro, 0⟩]⟩,
  ⟨"COR_LSENS_STATUS", .cor, 0x1140400, [(4, 0x10)], 1, .system,
    [⟨0, 2, .ro, 0⟩,
     ⟨8, 4, .ro, 0⟩]⟩,
  ⟨"COR_LSENS_READ", .cor, 0x1140408, [(4, 0x10)], 2, .system,
    [⟨0, 48, .ro, 0⟩]⟩,
  ⟨"COR_CAL_CTRL", .cor, 0x1140500, [], 1, .system,
    [⟨0, 1, .rw, 0⟩,
     ⟨1, 1, .wo, 0⟩]⟩,
  ⟨"COR_CAL_STATUS", .cor, 0x1140504, [], 1, .system,
    [⟨0, 2, .ro, 0⟩,
     ⟨2, 1, .ro, 0⟩,
     ⟨8, 4, .ro, 0⟩,
     ⟨12, 4, .ro, 0⟩,
     ⟨16, 16, .ro, 0⟩]⟩,
  ⟨"COR_PROBE_SEL", .cor, 0x1140600, [], 1, .system,
    [⟨0, 9, .rw, 0⟩,
     ⟨16, 9, .rw, 0⟩]⟩,
  ⟨"COR_PROBE", .cor, 0x1140608, [], 2, .system,
    [⟨0, 16, .ro, 0⟩,
     ⟨16, 16, .ro, 0⟩,
     ⟨32, 16, .ro, 0⟩]⟩,
  ⟨"COR_QSTAT", .cor, 0x1140800, [(4, 0x400000)], 1, .system,
    [⟨0, 16, .rc, 0⟩,
     ⟨16, 16, .rc, 0⟩]⟩,
  ⟨"COR_EOTF", .cor, 0x1160000, [(2, 0x10000), (3, 0x4000), (4096, 0x4)], 1, .system,
    [⟨0, 20, .rw, 0⟩]⟩,
  ⟨"COR_FADE", .cor, 0x1140700, [], 1, .system,
    [⟨0, 13, .sh, 0x1000⟩,
     ⟨13, 2, .sh, 0⟩,
     ⟨16, 16, .sh, 1⟩]⟩,
  ⟨"COR_FADE_STATUS", .cor, 0x1140704, [], 1, .system,
    [⟨0, 13, .ro, 0x1000⟩,
     ⟨13, 1, .ro, 0⟩,
     ⟨16, 13, .ro, 0x1000⟩]⟩,
  ⟨"COR_CAL_SEQ", .cor, 0x1140508, [], 1, .system,
    [⟨0, 32, .ro, 0⟩]⟩]

/-- The register entries of LMP. -/
def regsLmp : List RegSpec := [
  ⟨"LMP_CLK", .lmp, 0x1180000, [], 1, .system,
    [⟨0, 2, .rw, 0⟩,
     ⟨2, 2, .rw, 0⟩]⟩,
  ⟨"LMP_PWM", .lmp, 0x1180004, [], 1, .system,
    [⟨0, 3, .sh, 6⟩,
     ⟨8, 8, .sh, 1⟩]⟩,
  ⟨"LMP_CTRL", .lmp, 0x1180008, [], 1, .system,
    [⟨0, 1, .rw, 0⟩,
     ⟨1, 1, .wo, 0⟩]⟩,
  ⟨"LMP_STATUS", .lmp, 0x118000C, [], 1, .system,
    [⟨0, 8, .ro, 0⟩,
     ⟨8, 1, .ro, 0⟩,
     ⟨16, 16, .ro, 0⟩]⟩,
  ⟨"LMP_BANK", .lmp, 0x1180010, [(4, 0x400000)], 1, .system,
    [⟨0, 2, .ro, 0⟩]⟩,
  ⟨"LMP_QSTAT", .lmp, 0x1180014, [(4, 0x400000)], 1, .system,
    [⟨0, 16, .rc, 0⟩,
     ⟨16, 16, .rc, 0⟩]⟩,
  ⟨"LMP_GROUP_STATUS", .lmp, 0x1180100, [(4, 0x400000), (16, 0x4)], 1, .system,
    [⟨0, 3, .ro, 0⟩,
     ⟨3, 1, .ro, 0⟩,
     ⟨4, 5, .ro, 0⟩,
     ⟨16, 16, .ro, 0⟩]⟩,
  ⟨"LMP_SYNC_OFS", .lmp, 0x1180200, [(4, 0x400000), (16, 0x4)], 1, .system,
    [⟨0, 24, .ro, 0⟩]⟩,
  ⟨"LMP_DRV_STATUS", .lmp, 0x1190000, [(4, 0x400000), (128, 0x800), (32, 0x40), (13, 0x4)], 1, .system,
    [⟨0, 16, .ro, 0⟩,
     ⟨16, 16, .ro, 0⟩]⟩,
  ⟨"LMP_FAULT_CFG", .lmp, 0x1180400, [], 1, .system,
    [⟨0, 2, .sh, 0⟩,
     ⟨2, 1, .sh, 0⟩,
     ⟨3, 2, .sh, 3⟩,
     ⟨8, 6, .sh, 0x18⟩,
     ⟨16, 4, .sh, 1⟩,
     ⟨21, 7, .sh, 0x10⟩]⟩,
  ⟨"LMP_STRIKE_CFG", .lmp, 0x1180404, [], 1, .system,
    [⟨0, 16, .sh, 0x1e⟩,
     ⟨16, 2, .sh, 0⟩]⟩,
  ⟨"LMP_FAULT_CTRL", .lmp, 0x1180408, [], 1, .system,
    [⟨0, 1, .wo, 0⟩,
     ⟨1, 1, .wo, 0⟩,
     ⟨2, 1, .wo, 0⟩,
     ⟨3, 9, .wo, 0⟩,
     ⟨12, 9, .wo, 0⟩]⟩,
  ⟨"LMP_FAULT_STATUS", .lmp, 0x118040C, [], 1, .system,
    [⟨0, 1, .ro, 0⟩,
     ⟨1, 1, .ro, 0⟩,
     ⟨16, 16, .ro, 0⟩]⟩,
  ⟨"LMP_FAULT_COUNTS", .lmp, 0x1180410, [], 1, .system,
    [⟨0, 16, .rc, 0⟩,
     ⟨16, 16, .rc, 0⟩]⟩,
  ⟨"LMP_FAULT_LAST", .lmp, 0x1180418, [], 2, .system,
    [⟨0, 9, .ro, 0⟩,
     ⟨9, 9, .ro, 0⟩,
     ⟨18, 2, .ro, 0⟩,
     ⟨20, 4, .ro, 0⟩,
     ⟨24, 6, .ro, 0⟩,
     ⟨32, 6, .ro, 0⟩,
     ⟨38, 6, .ro, 0⟩]⟩,
  ⟨"LMP_FAULT_MAP", .lmp, 0x11D0000, [(4, 0x400000), (16384, 0x4)], 1, .system,
    [⟨0, 32, .ro, 0⟩]⟩,
  ⟨"LMP_SAG_CFG", .lmp, 0x1180500, [], 1, .system,
    [⟨0, 1, .rw, 0⟩,
     ⟨1, 1, .rw, 0⟩,
     ⟨8, 8, .rw, 2⟩,
     ⟨16, 8, .rw, 4⟩]⟩,
  ⟨"LMP_SAG_STATUS", .lmp, 0x1180520, [(8, 0x4)], 1, .system,
    [⟨0, 16, .ro, 0⟩,
     ⟨16, 16, .rc, 0⟩]⟩,
  ⟨"LMP_SAG_MAP", .lmp, 0x1180600, [(4, 0x400000), (16, 0x4)], 1, .system,
    [⟨0, 3, .rw, 0⟩,
     ⟨3, 1, .rw, 0⟩,
     ⟨4, 3, .ro, 0⟩,
     ⟨8, 24, .ro, 0⟩]⟩]

/-- The register entries of MBX. -/
def regsMbx : List RegSpec := [
  ⟨"MBX_SUBMIT", .mbx, 0x170000, [], 1, .system,
    [⟨0, 8, .wo, 0⟩,
     ⟨8, 8, .ro, 0⟩,
     ⟨16, 6, .ro, 0⟩,
     ⟨22, 2, .ro, 0⟩,
     ⟨24, 1, .rw, 0⟩]⟩,
  ⟨"MBX_RELEASE", .mbx, 0x170004, [], 1, .system,
    [⟨0, 6, .wo, 0⟩]⟩,
  ⟨"MP_LOAD", .mbx, 0x170008, [], 1, .system,
    [⟨0, 8, .ro, 0⟩,
     ⟨8, 8, .rc, 0⟩,
     ⟨16, 7, .ro, 0⟩,
     ⟨23, 1, .ro, 0⟩]⟩,
  ⟨"MBX_CMD", .mbx, 0x170100, [(16, 0x4)], 1, .system,
    [⟨0, 32, .rw, 0⟩]⟩,
  ⟨"MBX_ENTRY", .mbx, 0x171000, [(64, 0x40), (16, 0x4)], 1, .core,
    [⟨0, 32, .ro, 0⟩]⟩]

/-- The register entries of EVT. -/
def regsEvt : List RegSpec := [
  ⟨"EVT_ROUTE", .evt, 0x50004, [(23, 0x4)], 1, .system,
    [⟨0, 6, .rw, 0⟩,
     ⟨6, 1, .rw, 0⟩,
     ⟨8, 6, .rw, 0⟩,
     ⟨14, 1, .rw, 0⟩]⟩,
  ⟨"EVT_RING_BIND", .evt, 0x50100, [(64, 0x4)], 1, .system,
    [⟨0, 18, .rw, 0⟩,
     ⟨18, 1, .rw, 0⟩,
     ⟨19, 8, .rw, 0⟩]⟩,
  ⟨"EVT_RING_LOST", .evt, 0x50200, [(64, 0x4)], 1, .system,
    [⟨0, 16, .rc, 0⟩]⟩,
  ⟨"EVT_CAP_PENDING", .evt, 0x50300, [(3, 0x4)], 1, .system,
    [⟨1, 23, .ro, 0⟩]⟩,
  ⟨"EVT_CAP_VECTOR", .evt, 0x50310, [(3, 0x4)], 1, .system,
    [⟨0, 11, .rw, 0⟩,
     ⟨11, 1, .rw, 0⟩]⟩,
  ⟨"EVT_CAP_RECORD", .evt, 0x51000, [(69, 0x40), (8, 0x4)], 1, .system,
    [⟨0, 32, .ro, 0⟩]⟩,
  ⟨"EVT_CAP_CTRL", .evt, 0x51020, [(69, 0x40)], 1, .system,
    [⟨0, 16, .ro, 0⟩,
     ⟨16, 1, .w1c, 0⟩,
     ⟨17, 1, .ro, 0⟩]⟩,
  ⟨"EVT_UP_CFG", .evt, 0x50400, [], 1, .system,
    [⟨0, 3, .rw, 1⟩]⟩,
  ⟨"EVT_UP_STATUS", .evt, 0x50404, [], 1, .system,
    [⟨0, 7, .ro, 0⟩,
     ⟨16, 16, .rc, 0⟩]⟩]

/-- The register entries of a block. -/
def regsOf : Block → List RegSpec
  | .top => regsTop
  | .rst => regsRst
  | .sec => regsSec
  | .thm => regsThm
  | .pwr => regsPwr
  | .time => regsTime
  | .hif => regsHif
  | .qm => regsQm
  | .dma => regsDma
  | .hbm => regsHbm
  | .ing => regsIng
  | .clp => regsClp
  | .cdc => regsCdc
  | .red => regsRed
  | .dsc => regsDsc
  | .lst => regsLst
  | .cmp => regsCmp
  | .scl => regsScl
  | .lane => regsLane
  | .hal => regsHal
  | .cor => regsCor
  | .lmp => regsLmp
  | .mbx => regsMbx
  | .evt => regsEvt

namespace R

/-- TOP_IMAGE_INFO (02_forjo_image.md). -/
def topImageInfo : Nat := 0x400
/-- TOP_IMAGE_GEN (02_forjo_image.md). -/
def topImageGen : Nat := 0x404
/-- TOP_IMAGE_LOAD_ADDR (02_forjo_image.md). -/
def topImageLoadAddr : Nat := 0x408
/-- TOP_IMAGE_LOAD_CTRL (02_forjo_image.md). -/
def topImageLoadCtrl : Nat := 0x410
/-- TOP_IMAGE_STATUS (02_forjo_image.md). -/
def topImageStatus : Nat := 0x414
/-- TOP_IMAGE_SLOT (02_forjo_image.md). -/
def topImageSlot : Nat := 0x418
/-- TOP_ID (03_host_interface.md). -/
def topId : Nat := 0x0
/-- TOP_STATUS (03_host_interface.md). -/
def topStatus : Nat := 0x4
/-- HIF_LINK_STATUS (03_host_interface.md). -/
def hifLinkStatus : Nat := 0x70000
/-- TOP_COMMIT (03_host_interface.md). -/
def topCommit : Nat := 0x100
/-- TOP_COMMIT_STATUS (03_host_interface.md). -/
def topCommitStatus : Nat := 0x104
/-- TOP_COMMIT_DETAIL (03_host_interface.md). -/
def topCommitDetail : Nat := 0x108
/-- TOP_COMMIT_FRAME (03_host_interface.md). -/
def topCommitFrame : Nat := 0x110
/-- HIF_REMOTE_SEL (03_host_interface.md). -/
def hifRemoteSel (i : Nat) : Nat := 0x70100 + i * 0x4
/-- HIF_REMOTE_STATUS (03_host_interface.md). -/
def hifRemoteStatus (i : Nat) : Nat := 0x70110 + i * 0x4
/-- MBX_SUBMIT (03_host_interface.md). -/
def mbxSubmit : Nat := 0x170000
/-- MBX_RELEASE (03_host_interface.md). -/
def mbxRelease : Nat := 0x170004
/-- MP_LOAD (03_host_interface.md). -/
def mpLoad : Nat := 0x170008
/-- TIME_NOW (04_time_and_frame_lock.md). -/
def timeNow : Nat := 0x60000
/-- TIME_ADDEND (04_time_and_frame_lock.md). -/
def timeAddend : Nat := 0x60020
/-- TIME_CTRL (04_time_and_frame_lock.md). -/
def timeCtrl : Nat := 0x60010
/-- TIME_STATUS (04_time_and_frame_lock.md). -/
def timeStatus : Nat := 0x60014
/-- TIME_OFFSET (04_time_and_frame_lock.md). -/
def timeOffset : Nat := 0x60018
/-- TIME_SERVO_CFG (04_time_and_frame_lock.md). -/
def timeServoCfg : Nat := 0x60028
/-- TIME_SET (04_time_and_frame_lock.md). -/
def timeSet : Nat := 0x60030
/-- TIME_PTP_CFG (04_time_and_frame_lock.md). -/
def timePtpCfg : Nat := 0x60090
/-- TIME_PTP_STATUS (04_time_and_frame_lock.md). -/
def timePtpStatus : Nat := 0x60094
/-- TIME_PIN_CFG (04_time_and_frame_lock.md). -/
def timePinCfg : Nat := 0x60080
/-- TIME_LANE_ASYM (04_time_and_frame_lock.md). -/
def timeLaneAsym (i : Nat) : Nat := 0x61000 + i * 0x8
/-- TIME_LANE_DELAY (04_time_and_frame_lock.md). -/
def timeLaneDelay (i : Nat) : Nat := 0x61004 + i * 0x8
/-- TIME_ALIGN_ORIGIN (04_time_and_frame_lock.md). -/
def timeAlignOrigin : Nat := 0x60040
/-- TIME_FRAME (04_time_and_frame_lock.md). -/
def timeFrame : Nat := 0x60050
/-- TIME_SEQ_CFG (04_time_and_frame_lock.md). -/
def timeSeqCfg : Nat := 0x60058
/-- TIME_MODE_TIME (04_time_and_frame_lock.md). -/
def timeModeTime : Nat := 0x60060
/-- TIME_MODE_COMMIT (04_time_and_frame_lock.md). -/
def timeModeCommit : Nat := 0x6006C
/-- TIME_MODE_STATUS (04_time_and_frame_lock.md). -/
def timeModeStatus : Nat := 0x60070
/-- ING_SRC_CTRL (05_sources_and_ingest.md). -/
def ingSrcCtrl (i : Nat) : Nat := 0xE8000 + i * 0x40
/-- ING_SRC_GEOM (05_sources_and_ingest.md). -/
def ingSrcGeom (i : Nat) : Nat := 0xE8004 + i * 0x40
/-- ING_SRC_RATE (05_sources_and_ingest.md). -/
def ingSrcRate (i : Nat) : Nat := 0xE8008 + i * 0x40
/-- ING_SRC_TIMING (05_sources_and_ingest.md). -/
def ingSrcTiming (i : Nat) : Nat := 0xE800C + i * 0x40
/-- ING_SRC_RING (05_sources_and_ingest.md). -/
def ingSrcRing (i : Nat) : Nat := 0xE8010 + i * 0x40
/-- ING_SRC_STRIDE (05_sources_and_ingest.md). -/
def ingSrcStride (i : Nat) : Nat := 0xE8018 + i * 0x40
/-- ING_SRC_LINK (05_sources_and_ingest.md). -/
def ingSrcLink (i : Nat) : Nat := 0xE801C + i * 0x40
/-- ING_SRC_STATUS (05_sources_and_ingest.md). -/
def ingSrcStatus (i : Nat) : Nat := 0xE9000 + i * 0x10
/-- ING_SRC_COUNTS (05_sources_and_ingest.md). -/
def ingSrcCounts (i : Nat) : Nat := 0xE9004 + i * 0x10
/-- ING_FENCE (05_sources_and_ingest.md). -/
def ingFence (i : Nat) : Nat := 0xEA000 + i * 0x4
/-- ING_PORT_CFG (05_sources_and_ingest.md). -/
def ingPortCfg (i : Nat) : Nat := 0xE0000 + i * 0x40
/-- ING_PORT_DROP (05_sources_and_ingest.md). -/
def ingPortDrop (i : Nat) : Nat := 0xE0020 + i * 0x40
/-- ING_FILTER_CTRL (05_sources_and_ingest.md). -/
def ingFilterCtrl (i : Nat) : Nat := 0xE1000 + i * 0x40
/-- HBM_STATUS (06_memory_queues_dma.md). -/
def hbmStatus : Nat := 0xD0000
/-- HBM_POWER_CFG (06_memory_queues_dma.md). -/
def hbmPowerCfg : Nat := 0xD0004
/-- HBM_SLEEP_COUNT (06_memory_queues_dma.md). -/
def hbmSleepCount : Nat := 0xD0008
/-- HBM_ECC (06_memory_queues_dma.md). -/
def hbmEcc : Nat := 0xD000C
/-- HBM_TOL (06_memory_queues_dma.md). -/
def hbmTol (i : Nat) : Nat := 0xD0040 + i * 0x4
/-- QM_SEL (06_memory_queues_dma.md). -/
def qmSel : Nat := 0x80000
/-- QM_CTX_CFG (06_memory_queues_dma.md). -/
def qmCtxCfg : Nat := 0x80004
/-- QM_CTX_BASE (06_memory_queues_dma.md). -/
def qmCtxBase : Nat := 0x80008
/-- QM_CTX_PROD (06_memory_queues_dma.md). -/
def qmCtxProd : Nat := 0x80010
/-- QM_CTX_CONS (06_memory_queues_dma.md). -/
def qmCtxCons : Nat := 0x80014
/-- QM_CMD (06_memory_queues_dma.md). -/
def qmCmd : Nat := 0x80018
/-- QM_CONSUME (06_memory_queues_dma.md). -/
def qmConsume : Nat := 0x80020
/-- DMA_CH_CFG (06_memory_queues_dma.md). -/
def dmaChCfg (i : Nat) : Nat := 0xC0000 + i * 0x40
/-- DMA_CH_CTRL (06_memory_queues_dma.md). -/
def dmaChCtrl (i : Nat) : Nat := 0xC0004 + i * 0x40
/-- DMA_CH_STATUS (06_memory_queues_dma.md). -/
def dmaChStatus (i : Nat) : Nat := 0xC0008 + i * 0x40
/-- DMA_CH_DONE (06_memory_queues_dma.md). -/
def dmaChDone (i : Nat) : Nat := 0xC000C + i * 0x40
/-- DMA_CH_ERR_ADDR (06_memory_queues_dma.md). -/
def dmaChErrAddr (i : Nat) : Nat := 0xC0010 + i * 0x40
/-- DMA_CH_ERR_TAG (06_memory_queues_dma.md). -/
def dmaChErrTag (i : Nat) : Nat := 0xC0018 + i * 0x40
/-- DMA_TRIG_CNT (06_memory_queues_dma.md). -/
def dmaTrigCnt (i : Nat) : Nat := 0xC4000 + i * 0x4
/-- DMA_TRIG_SW (06_memory_queues_dma.md). -/
def dmaTrigSw : Nat := 0xC5000
/-- CMP_LAYER_CTRL (07_composition_and_commit.md). -/
def cmpLayerCtrl (i j : Nat) : Nat := 0x1001000 + i * 0x400000 + j * 0x100
/-- CMP_LAYER_POS (07_composition_and_commit.md). -/
def cmpLayerPos (i j : Nat) : Nat := 0x1001004 + i * 0x400000 + j * 0x100
/-- CMP_LAYER_PHASE (07_composition_and_commit.md). -/
def cmpLayerPhase (i j : Nat) : Nat := 0x1001008 + i * 0x400000 + j * 0x100
/-- CMP_LAYER_SIZE (07_composition_and_commit.md). -/
def cmpLayerSize (i j : Nat) : Nat := 0x100100C + i * 0x400000 + j * 0x100
/-- CMP_LAYER_CROP_POS (07_composition_and_commit.md). -/
def cmpLayerCropPos (i j : Nat) : Nat := 0x1001010 + i * 0x400000 + j * 0x100
/-- CMP_LAYER_CROP_SIZE (07_composition_and_commit.md). -/
def cmpLayerCropSize (i j : Nat) : Nat := 0x1001014 + i * 0x400000 + j * 0x100
/-- CMP_LAYER_ALPHA (07_composition_and_commit.md). -/
def cmpLayerAlpha (i j : Nat) : Nat := 0x1001018 + i * 0x400000 + j * 0x100
/-- CMP_LAYER_FBCOL (07_composition_and_commit.md). -/
def cmpLayerFbcol (i j : Nat) : Nat := 0x1001020 + i * 0x400000 + j * 0x100
/-- CMP_LAYER_FILL (07_composition_and_commit.md). -/
def cmpLayerFill (i j : Nat) : Nat := 0x1001028 + i * 0x400000 + j * 0x100
/-- CMP_LAYER_STATUS (07_composition_and_commit.md). -/
def cmpLayerStatus (i j : Nat) : Nat := 0x1001040 + i * 0x400000 + j * 0x100
/-- CMP_LAYER_COUNTS (07_composition_and_commit.md). -/
def cmpLayerCounts (i j : Nat) : Nat := 0x1001044 + i * 0x400000 + j * 0x100
/-- CMP_CANVAS_SIZE (07_composition_and_commit.md). -/
def cmpCanvasSize : Nat := 0x1000000
/-- CMP_CANVAS_CFG (07_composition_and_commit.md). -/
def cmpCanvasCfg : Nat := 0x1000004
/-- CMP_CANVAS_BG (07_composition_and_commit.md). -/
def cmpCanvasBg (i : Nat) : Nat := 0x1000010 + i * 0x8
/-- CMP_STATUS (07_composition_and_commit.md). -/
def cmpStatus (i : Nat) : Nat := 0x1000200 + i * 0x400000
/-- CMP_WB_CTRL (07_composition_and_commit.md). -/
def cmpWbCtrl : Nat := 0x1000100
/-- CMP_WB_POS (07_composition_and_commit.md). -/
def cmpWbPos : Nat := 0x1000104
/-- CMP_WB_SIZE (07_composition_and_commit.md). -/
def cmpWbSize : Nat := 0x1000108
/-- CMP_WB_RING (07_composition_and_commit.md). -/
def cmpWbRing : Nat := 0x1000110
/-- CMP_WB_STRIDE (07_composition_and_commit.md). -/
def cmpWbStride : Nat := 0x1000118
/-- CMP_WB_STATUS (07_composition_and_commit.md). -/
def cmpWbStatus : Nat := 0x1000120
/-- SCL_COEF (08_scaling_and_the_peck.md). -/
def sclCoef (i j k m : Nat) : Nat := 0x1050000 + i * 0x400000 + j * 0x1000 + k * 0x40 + m * 0x4
/-- SCL_LAYER_CFG (08_scaling_and_the_peck.md). -/
def sclLayerCfg (i j : Nat) : Nat := 0x1040100 + i * 0x400000 + j * 0x10
/-- SCL_LAYER_STATUS (08_scaling_and_the_peck.md). -/
def sclLayerStatus (i j : Nat) : Nat := 0x1040104 + i * 0x400000 + j * 0x10
/-- LST_ALLOC (08_scaling_and_the_peck.md). -/
def lstAlloc (i j : Nat) : Nat := 0x160000 + i * 0x20 + j * 0x4
/-- LST_NEED (08_scaling_and_the_peck.md). -/
def lstNeed (i j : Nat) : Nat := 0x160200 + i * 0x20 + j * 0x4
/-- LST_CHECK (08_scaling_and_the_peck.md). -/
def lstCheck : Nat := 0x160100
/-- LST_USE (08_scaling_and_the_peck.md). -/
def lstUse : Nat := 0x160104
/-- LANE_CFG of lane `l` (09_flexible_lanes.md). -/
def laneCfg (l : Nat) : Nat := 0x1080000 + l / 24 * 0x400000 + l % 24 * 0x4000
/-- LANE_CTRL of lane `l` (09_flexible_lanes.md). -/
def laneCtrl (l : Nat) : Nat := 0x1080004 + l / 24 * 0x400000 + l % 24 * 0x4000
/-- LANE_STATUS of lane `l` (09_flexible_lanes.md). -/
def laneStatus (l : Nat) : Nat := 0x1080008 + l / 24 * 0x400000 + l % 24 * 0x4000
/-- LANE_FOM of lane `l` (09_flexible_lanes.md). -/
def laneFom (l : Nat) : Nat := 0x108000C + l / 24 * 0x400000 + l % 24 * 0x4000
/-- LANE_FOM_LIMIT of lane `l` (09_flexible_lanes.md). -/
def laneFomLimit (l : Nat) : Nat := 0x1080010 + l / 24 * 0x400000 + l % 24 * 0x4000
/-- LANE_EQ of lane `l` (09_flexible_lanes.md). -/
def laneEq (l : Nat) : Nat := 0x1080014 + l / 24 * 0x400000 + l % 24 * 0x4000
/-- LANE_FEC of lane `l` (09_flexible_lanes.md). -/
def laneFec (l : Nat) : Nat := 0x1080018 + l / 24 * 0x400000 + l % 24 * 0x4000
/-- LANE_PEER of lane `l` (09_flexible_lanes.md). -/
def lanePeer (l : Nat) : Nat := 0x1080020 + l / 24 * 0x400000 + l % 24 * 0x4000
/-- LANE_PEER_INFO of lane `l` (09_flexible_lanes.md). -/
def lanePeerInfo (l : Nat) : Nat := 0x1080028 + l / 24 * 0x400000 + l % 24 * 0x4000
/-- LANE_TEST (09_flexible_lanes.md). -/
def laneTest (i : Nat) : Nat := 0x1080100 + i * 0x400000
/-- LANE_TEST_WORD (09_flexible_lanes.md). -/
def laneTestWord (i : Nat) : Nat := 0x1080108 + i * 0x400000
/-- LANE_PRBS_BITS (09_flexible_lanes.md). -/
def lanePrbsBits (i : Nat) : Nat := 0x1080110 + i * 0x400000
/-- LANE_PRBS_ERR (09_flexible_lanes.md). -/
def lanePrbsErr (i : Nat) : Nat := 0x1080118 + i * 0x400000
/-- HAL_PORT_ERR of lane `l` (10_halyard_protocol.md). -/
def halPortErr (l : Nat) : Nat := 0x1100000 + l / 24 * 0x400000 + l % 24 * 0x40
/-- HAL_PORT_CREDIT of lane `l` (10_halyard_protocol.md). -/
def halPortCredit (l : Nat) : Nat := 0x1100008 + l / 24 * 0x400000 + l % 24 * 0x40
/-- HAL_PORT_LOAD of lane `l` (10_halyard_protocol.md). -/
def halPortLoad (l : Nat) : Nat := 0x110000C + l / 24 * 0x400000 + l % 24 * 0x40
/-- HAL_PORT_TRAFFIC of lane `l` (10_halyard_protocol.md). -/
def halPortTraffic (l : Nat) : Nat := 0x1100010 + l / 24 * 0x400000 + l % 24 * 0x40
/-- DSC_CTRL (11_discovery_and_topology.md). -/
def dscCtrl : Nat := 0x150000
/-- DSC_CMD (11_discovery_and_topology.md). -/
def dscCmd : Nat := 0x150004
/-- DSC_CHECK (11_discovery_and_topology.md). -/
def dscCheck : Nat := 0x150008
/-- DSC_ADMIT (11_discovery_and_topology.md). -/
def dscAdmit (i : Nat) : Nat := 0x150400 + i * 0x4
/-- DSC_ORIGIN (11_discovery_and_topology.md). -/
def dscOrigin (i : Nat) : Nat := 0x154000 + i * 0x4
/-- DSC_TOPO (11_discovery_and_topology.md). -/
def dscTopo (i : Nat) : Nat := 0x158000 + i * 0x8
/-- DSC_INFO (11_discovery_and_topology.md). -/
def dscInfo : Nat := 0x150100
/-- DSC_SELF (11_discovery_and_topology.md). -/
def dscSelf : Nat := 0x150800
/-- DSC_ROUTE (11_discovery_and_topology.md). -/
def dscRoute (i j : Nat) : Nat := 0x152000 + i * 0x200 + j * 0x4
/-- COR_CFG (12_per_lamp_correction.md). -/
def corCfg : Nat := 0x1140000
/-- COR_STATUS (12_per_lamp_correction.md). -/
def corStatus : Nat := 0x1140004
/-- COR_GAIN (12_per_lamp_correction.md). -/
def corGain (i : Nat) : Nat := 0x1140010 + i * 0x4
/-- COR_GAIN_LIMIT (12_per_lamp_correction.md). -/
def corGainLimit : Nat := 0x114001C
/-- COR_CAP (12_per_lamp_correction.md). -/
def corCap : Nat := 0x1140020
/-- COR_LAMP_LIMIT (12_per_lamp_correction.md). -/
def corLampLimit : Nat := 0x1140024
/-- COR_I2C (12_per_lamp_correction.md). -/
def corI2c : Nat := 0x1140030
/-- COR_BSENS (12_per_lamp_correction.md). -/
def corBsens (i : Nat) : Nat := 0x1140100 + i * 0x4
/-- COR_GRID (12_per_lamp_correction.md). -/
def corGrid (i : Nat) : Nat := 0x1140200 + i * 0x4
/-- COR_LSENS_STATUS (12_per_lamp_correction.md). -/
def corLsensStatus (i : Nat) : Nat := 0x1140400 + i * 0x10
/-- COR_LSENS_READ (12_per_lamp_correction.md). -/
def corLsensRead (i : Nat) : Nat := 0x1140408 + i * 0x10
/-- COR_CAL_CTRL (12_per_lamp_correction.md). -/
def corCalCtrl : Nat := 0x1140500
/-- COR_CAL_STATUS (12_per_lamp_correction.md). -/
def corCalStatus : Nat := 0x1140504
/-- COR_PROBE_SEL (12_per_lamp_correction.md). -/
def corProbeSel : Nat := 0x1140600
/-- COR_PROBE (12_per_lamp_correction.md). -/
def corProbe : Nat := 0x1140608
/-- COR_QSTAT (12_per_lamp_correction.md). -/
def corQstat (i : Nat) : Nat := 0x1140800 + i * 0x400000
/-- COR_EOTF (12_per_lamp_correction.md). -/
def corEotf (i j k : Nat) : Nat := 0x1160000 + i * 0x10000 + j * 0x4000 + k * 0x4
/-- LMP_CLK (13_lervis_lamp_bus.md). -/
def lmpClk : Nat := 0x1180000
/-- LMP_PWM (13_lervis_lamp_bus.md). -/
def lmpPwm : Nat := 0x1180004
/-- LMP_CTRL (13_lervis_lamp_bus.md). -/
def lmpCtrl : Nat := 0x1180008
/-- LMP_STATUS (13_lervis_lamp_bus.md). -/
def lmpStatus : Nat := 0x118000C
/-- LMP_BANK (13_lervis_lamp_bus.md). -/
def lmpBank (i : Nat) : Nat := 0x1180010 + i * 0x400000
/-- LMP_QSTAT (13_lervis_lamp_bus.md). -/
def lmpQstat (i : Nat) : Nat := 0x1180014 + i * 0x400000
/-- LMP_GROUP_STATUS (13_lervis_lamp_bus.md). -/
def lmpGroupStatus (i j : Nat) : Nat := 0x1180100 + i * 0x400000 + j * 0x4
/-- LMP_SYNC_OFS (13_lervis_lamp_bus.md). -/
def lmpSyncOfs (i j : Nat) : Nat := 0x1180200 + i * 0x400000 + j * 0x4
/-- LMP_DRV_STATUS (13_lervis_lamp_bus.md). -/
def lmpDrvStatus (i j k m : Nat) : Nat := 0x1190000 + i * 0x400000 + j * 0x800 + k * 0x40 + m * 0x4
/-- LMP_FAULT_CFG (14_lamp_faults_fades_current.md). -/
def lmpFaultCfg : Nat := 0x1180400
/-- LMP_STRIKE_CFG (14_lamp_faults_fades_current.md). -/
def lmpStrikeCfg : Nat := 0x1180404
/-- LMP_FAULT_CTRL (14_lamp_faults_fades_current.md). -/
def lmpFaultCtrl : Nat := 0x1180408
/-- LMP_FAULT_STATUS (14_lamp_faults_fades_current.md). -/
def lmpFaultStatus : Nat := 0x118040C
/-- LMP_FAULT_COUNTS (14_lamp_faults_fades_current.md). -/
def lmpFaultCounts : Nat := 0x1180410
/-- LMP_FAULT_LAST (14_lamp_faults_fades_current.md). -/
def lmpFaultLast : Nat := 0x1180418
/-- LMP_FAULT_MAP (14_lamp_faults_fades_current.md). -/
def lmpFaultMap (i j : Nat) : Nat := 0x11D0000 + i * 0x400000 + j * 0x4
/-- COR_FADE (14_lamp_faults_fades_current.md). -/
def corFade : Nat := 0x1140700
/-- CMP_LAYER_FADE (14_lamp_faults_fades_current.md). -/
def cmpLayerFade (i j : Nat) : Nat := 0x1002000 + i * 0x400000 + j * 0x10
/-- COR_FADE_STATUS (14_lamp_faults_fades_current.md). -/
def corFadeStatus : Nat := 0x1140704
/-- CMP_LAYER_FADE_STATUS (14_lamp_faults_fades_current.md). -/
def cmpLayerFadeStatus (i j : Nat) : Nat := 0x1002004 + i * 0x400000 + j * 0x10
/-- LMP_SAG_CFG (14_lamp_faults_fades_current.md). -/
def lmpSagCfg : Nat := 0x1180500
/-- LMP_SAG_STATUS (14_lamp_faults_fades_current.md). -/
def lmpSagStatus (i : Nat) : Nat := 0x1180520 + i * 0x4
/-- LMP_SAG_MAP (14_lamp_faults_fades_current.md). -/
def lmpSagMap (i j : Nat) : Nat := 0x1180600 + i * 0x400000 + j * 0x4
/-- RED_CTRL (15_redundancy.md). -/
def redCtrl : Nat := 0x140000
/-- RED_CLAIM (15_redundancy.md). -/
def redClaim : Nat := 0x140004
/-- RED_STATUS (15_redundancy.md). -/
def redStatus : Nat := 0x140008
/-- RED_PARTNER_INFO (15_redundancy.md). -/
def redPartnerInfo : Nat := 0x140018
/-- RED_DIGEST_COUNTS (15_redundancy.md). -/
def redDigestCounts : Nat := 0x14001C
/-- RED_DIGEST_LAST (15_redundancy.md). -/
def redDigestLast : Nat := 0x140020
/-- RED_TAKEOVERS (15_redundancy.md). -/
def redTakeovers : Nat := 0x140028
/-- RED_PORT (15_redundancy.md). -/
def redPort (i : Nat) : Nat := 0x140100 + i * 0x4
/-- RED_TILE_CFG (15_redundancy.md). -/
def redTileCfg : Nat := 0x140800
/-- RED_TILE_STATUS (15_redundancy.md). -/
def redTileStatus : Nat := 0x140804
/-- RED_TILE_COUNTS (15_redundancy.md). -/
def redTileCounts : Nat := 0x140810
/-- RED_TILE_REFUSED (15_redundancy.md). -/
def redTileRefused : Nat := 0x140818
/-- CDC_DEC_CTRL (16_codec_and_clip_store.md). -/
def cdcDecCtrl (i : Nat) : Nat := 0x100000 + i * 0x40
/-- CDC_DEC_STATUS (16_codec_and_clip_store.md). -/
def cdcDecStatus (i : Nat) : Nat := 0x100004 + i * 0x40
/-- CDC_ENC_CTRL (16_codec_and_clip_store.md). -/
def cdcEncCtrl (i : Nat) : Nat := 0x101000 + i * 0x40
/-- CDC_ENC_RC (16_codec_and_clip_store.md). -/
def cdcEncRc (i : Nat) : Nat := 0x101004 + i * 0x40
/-- CDC_ENC_OUT (16_codec_and_clip_store.md). -/
def cdcEncOut (i : Nat) : Nat := 0x101010 + i * 0x40
/-- CDC_ENC_CMD (16_codec_and_clip_store.md). -/
def cdcEncCmd (i : Nat) : Nat := 0x101018 + i * 0x40
/-- CDC_ENC_STATUS (16_codec_and_clip_store.md). -/
def cdcEncStatus (i : Nat) : Nat := 0x10101C + i * 0x40
/-- CDC_STATUS (16_codec_and_clip_store.md). -/
def cdcStatus : Nat := 0x103000
/-- CLP_PORT_CFG (16_codec_and_clip_store.md). -/
def clpPortCfg (i : Nat) : Nat := 0xF0000 + i * 0x40
/-- CLP_PORT_STATUS (16_codec_and_clip_store.md). -/
def clpPortStatus (i : Nat) : Nat := 0xF0004 + i * 0x40
/-- CLP_CMD (16_codec_and_clip_store.md). -/
def clpCmd : Nat := 0xF0200
/-- CLP_RING_CFG (16_codec_and_clip_store.md). -/
def clpRingCfg (i : Nat) : Nat := 0xF1000 + i * 0x20
/-- THM_SENSOR (17_thermal_and_power.md). -/
def thmSensor (i : Nat) : Nat := 0x30000 + i * 0x8
/-- THM_LIMITS (17_thermal_and_power.md). -/
def thmLimits : Nat := 0x30200
/-- THM_POLICY (17_thermal_and_power.md). -/
def thmPolicy : Nat := 0x30208
/-- THM_STATUS (17_thermal_and_power.md). -/
def thmStatus : Nat := 0x30210
/-- THM_CAP (17_thermal_and_power.md). -/
def thmCap : Nat := 0x30220
/-- THM_HEAT_CFG (17_thermal_and_power.md). -/
def thmHeatCfg : Nat := 0x30300
/-- THM_CAP_CMD (17_thermal_and_power.md). -/
def thmCapCmd : Nat := 0x30310
/-- THM_HEAT_COUNT (17_thermal_and_power.md). -/
def thmHeatCount : Nat := 0x30314
/-- THM_ZONE_STATUS (17_thermal_and_power.md). -/
def thmZoneStatus (i : Nat) : Nat := 0x30400 + i * 0x4
/-- THM_ZONE (17_thermal_and_power.md). -/
def thmZone (i : Nat) : Nat := 0x31000 + i * 0x4
/-- PWR_DROOP_CFG (17_thermal_and_power.md). -/
def pwrDroopCfg : Nat := 0x40000
/-- PWR_DROOP_MASK (17_thermal_and_power.md). -/
def pwrDroopMask : Nat := 0x40004
/-- PWR_STRETCH (17_thermal_and_power.md). -/
def pwrStretch : Nat := 0x40010
/-- PWR_DROOP_COUNT (17_thermal_and_power.md). -/
def pwrDroopCount (i : Nat) : Nat := 0x40040 + i * 0x4
/-- PWR_AVS_CFG (17_thermal_and_power.md). -/
def pwrAvsCfg : Nat := 0x40100
/-- PWR_AVS_STATUS (17_thermal_and_power.md). -/
def pwrAvsStatus : Nat := 0x40104
/-- PWR_AVS_LIMITS (17_thermal_and_power.md). -/
def pwrAvsLimits : Nat := 0x40108
/-- RSTCAUSE (18_reset_start_up_trust.md). -/
def rstcause : Nat := 0x10000
/-- RST_EPISODES (18_reset_start_up_trust.md). -/
def rstEpisodes : Nat := 0x10004
/-- RST_CFG (18_reset_start_up_trust.md). -/
def rstCfg : Nat := 0x10008
/-- RST_FATAL_REACH (18_reset_start_up_trust.md). -/
def rstFatalReach : Nat := 0x1000C
/-- RST_CMD (18_reset_start_up_trust.md). -/
def rstCmd : Nat := 0x10010
/-- RST_WDT (18_reset_start_up_trust.md). -/
def rstWdt : Nat := 0x10020
/-- SEC_FW_INFO (18_reset_start_up_trust.md). -/
def secFwInfo : Nat := 0x20000
/-- SEC_FW_STATUS (18_reset_start_up_trust.md). -/
def secFwStatus : Nat := 0x20008
/-- SEC_FW_SLOT (18_reset_start_up_trust.md). -/
def secFwSlot : Nat := 0x2000C
/-- SEC_FW_LOAD_ADDR (18_reset_start_up_trust.md). -/
def secFwLoadAddr : Nat := 0x20010
/-- SEC_FW_LOAD_CTRL (18_reset_start_up_trust.md). -/
def secFwLoadCtrl : Nat := 0x20018
/-- SEC_MEAS (18_reset_start_up_trust.md). -/
def secMeas (i j : Nat) : Nat := 0x20140 + i * 0x40 + j * 0x4
/-- SEC_RELAY_CTRL (18_reset_start_up_trust.md). -/
def secRelayCtrl : Nat := 0x20400
/-- SEC_RELAY_STATUS (18_reset_start_up_trust.md). -/
def secRelayStatus : Nat := 0x20404
/-- SEC_RELAY_BUF (18_reset_start_up_trust.md). -/
def secRelayBuf (i : Nat) : Nat := 0x28000 + i * 0x4
/-- EVT_ROUTE (19_errors_and_events.md). -/
def evtRoute (i : Nat) : Nat := 0x50004 + i * 0x4
/-- EVT_RING_BIND (19_errors_and_events.md). -/
def evtRingBind (i : Nat) : Nat := 0x50100 + i * 0x4
/-- EVT_RING_LOST (19_errors_and_events.md). -/
def evtRingLost (i : Nat) : Nat := 0x50200 + i * 0x4
/-- EVT_CAP_PENDING (19_errors_and_events.md). -/
def evtCapPending (i : Nat) : Nat := 0x50300 + i * 0x4
/-- EVT_CAP_VECTOR (19_errors_and_events.md). -/
def evtCapVector (i : Nat) : Nat := 0x50310 + i * 0x4
/-- EVT_CAP_RECORD (19_errors_and_events.md). -/
def evtCapRecord (i j : Nat) : Nat := 0x51000 + i * 0x40 + j * 0x4
/-- EVT_CAP_CTRL (19_errors_and_events.md). -/
def evtCapCtrl (i : Nat) : Nat := 0x51020 + i * 0x40
/-- EVT_UP_CFG (19_errors_and_events.md). -/
def evtUpCfg : Nat := 0x50400
/-- EVT_UP_STATUS (19_errors_and_events.md). -/
def evtUpStatus : Nat := 0x50404
/-- TIME_PTP_PARENT (04_time_and_frame_lock.md). -/
def timePtpParent : Nat := 0x60098
/-- ING_SRC_PKTS (05_sources_and_ingest.md). -/
def ingSrcPkts (i : Nat) : Nat := 0xE9008 + i * 0x10
/-- ING_PORT_IPV4 (05_sources_and_ingest.md). -/
def ingPortIpv4 (i : Nat) : Nat := 0xE0004 + i * 0x40
/-- ING_PORT_MAC (05_sources_and_ingest.md). -/
def ingPortMac (i : Nat) : Nat := 0xE0008 + i * 0x40
/-- ING_PORT_IPV6 (05_sources_and_ingest.md). -/
def ingPortIpv6 (i : Nat) : Nat := 0xE0010 + i * 0x40
/-- ING_FILTER_UDP (05_sources_and_ingest.md). -/
def ingFilterUdp (i : Nat) : Nat := 0xE1004 + i * 0x40
/-- ING_FILTER_DST (05_sources_and_ingest.md). -/
def ingFilterDst (i : Nat) : Nat := 0xE1010 + i * 0x40
/-- ING_FILTER_SRC (05_sources_and_ingest.md). -/
def ingFilterSrc (i : Nat) : Nat := 0xE1020 + i * 0x40
/-- CMP_WB_FRAME (07_composition_and_commit.md). -/
def cmpWbFrame : Nat := 0x1000128
/-- CMP_LUT_E (07_composition_and_commit.md). -/
def cmpLutE (i j k : Nat) : Nat := 0x1010000 + i * 0x400000 + j * 0x4000 + k * 0x4
/-- CMP_LUT_W (07_composition_and_commit.md). -/
def cmpLutW (i j : Nat) : Nat := 0x1030000 + i * 0x400000 + j * 0x4
/-- COR_CAL_SEQ (12_per_lamp_correction.md). -/
def corCalSeq : Nat := 0x1140508
/-- RED_PARTNER (15_redundancy.md). -/
def redPartner : Nat := 0x140010
/-- RED_TILE_WIN_SERIAL (15_redundancy.md). -/
def redTileWinSerial : Nat := 0x140808
/-- CLP_PORT_BLOCKS (16_codec_and_clip_store.md). -/
def clpPortBlocks (i : Nat) : Nat := 0xF0008 + i * 0x40
/-- CLP_RING_BASE (16_codec_and_clip_store.md). -/
def clpRingBase (i : Nat) : Nat := 0xF1008 + i * 0x20
/-- CLP_RING_LEN (16_codec_and_clip_store.md). -/
def clpRingLen (i : Nat) : Nat := 0xF1010 + i * 0x20
/-- CLP_RING_WPOS (16_codec_and_clip_store.md). -/
def clpRingWpos (i : Nat) : Nat := 0xF1018 + i * 0x20
/-- CDC_ENC_MAXBITS (16_codec_and_clip_store.md). -/
def cdcEncMaxbits (i : Nat) : Nat := 0x101008 + i * 0x40
/-- CDC_ENC_OVERSHOOT (16_codec_and_clip_store.md). -/
def cdcEncOvershoot (i : Nat) : Nat := 0x101020 + i * 0x40
/-- RST_WDT_REMAIN (18_reset_start_up_trust.md). -/
def rstWdtRemain : Nat := 0x10024
/-- DSC_SEL (11_discovery_and_topology.md). -/
def dscSel : Nat := 0x150010
/-- DSC_MEAS (11_discovery_and_topology.md). -/
def dscMeas (i : Nat) : Nat := 0x150120 + i * 0x4
/-- MBX_CMD (03_host_interface.md). -/
def mbxCmd (i : Nat) : Nat := 0x170100 + i * 0x4
/-- MBX_ENTRY (03_host_interface.md). -/
def mbxEntry (i j : Nat) : Nat := 0x171000 + i * 0x40 + j * 0x4
/-- HIF_PBA (03_host_interface.md). -/
def hifPba (i : Nat) : Nat := 0x77000 + i * 0x4
/-- HIF_MSIX (03_host_interface.md). -/
def hifMsix (i j : Nat) : Nat := 0x78000 + i * 0x10 + j * 0x4
/-- HIF_MSIX_CTRL (03_host_interface.md). -/
def hifMsixCtrl (i : Nat) : Nat := 0x7800C + i * 0x10

end R

namespace F

-- fields of TOP_IMAGE_INFO
def topImageInfo_FORMAT : Fld := ⟨0, 16⟩
def topImageInfo_TARGET : Fld := ⟨16, 2⟩
def topImageInfo_PERSONALITY : Fld := ⟨18, 2⟩
def topImageInfo_SOURCE : Fld := ⟨20, 3⟩
-- fields of TOP_IMAGE_GEN
def topImageGen_IMAGE_GEN : Fld := ⟨0, 32⟩
-- fields of TOP_IMAGE_LOAD_ADDR
def topImageLoadAddr_ADDR : Fld := ⟨6, 58⟩
-- fields of TOP_IMAGE_LOAD_CTRL
def topImageLoadCtrl_OP : Fld := ⟨0, 3⟩
def topImageLoadCtrl_PERSIST : Fld := ⟨3, 1⟩
def topImageLoadCtrl_LENGTH : Fld := ⟨4, 19⟩
-- fields of TOP_IMAGE_STATUS
def topImageStatus_STATE : Fld := ⟨0, 2⟩
def topImageStatus_ACCEPTED : Fld := ⟨2, 1⟩
def topImageStatus_CAUSE : Fld := ⟨8, 8⟩
def topImageStatus_BOOT_CAUSE0 : Fld := ⟨16, 8⟩
def topImageStatus_BOOT_CAUSE1 : Fld := ⟨24, 8⟩
-- fields of TOP_IMAGE_SLOT
def topImageSlot_ACTIVE : Fld := ⟨0, 1⟩
def topImageSlot_VALID0 : Fld := ⟨1, 1⟩
def topImageSlot_VALID1 : Fld := ⟨2, 1⟩
-- fields of TOP_ID
def topId_PART : Fld := ⟨0, 16⟩
def topId_MINOR : Fld := ⟨16, 4⟩
def topId_MAJOR : Fld := ⟨20, 4⟩
def topId_BUILD : Fld := ⟨24, 2⟩
def topId_GRADE : Fld := ⟨26, 2⟩
-- fields of TOP_STATUS
def topStatus_STATE : Fld := ⟨0, 3⟩
def topStatus_PERSONALITY : Fld := ⟨3, 2⟩
def topStatus_CAUSE : Fld := ⟨8, 8⟩
def topStatus_FRAME_LOCKED : Fld := ⟨16, 1⟩
def topStatus_THROTTLE : Fld := ⟨17, 1⟩
def topStatus_LINK_DEGRADED : Fld := ⟨18, 1⟩
-- fields of HIF_LINK_STATUS
def hifLinkStatus_RATE : Fld := ⟨0, 3⟩
def hifLinkStatus_WIDTH : Fld := ⟨3, 4⟩
def hifLinkStatus_FLIT : Fld := ⟨7, 1⟩
def hifLinkStatus_L0P_WIDTH : Fld := ⟨8, 4⟩
def hifLinkStatus_RETRAINS : Fld := ⟨16, 16⟩
-- fields of TOP_COMMIT
def topCommit_GEN : Fld := ⟨0, 16⟩
def topCommit_WALL : Fld := ⟨16, 1⟩
-- fields of TOP_COMMIT_STATUS
def topCommitStatus_STATE : Fld := ⟨0, 3⟩
def topCommitStatus_REASON : Fld := ⟨8, 8⟩
def topCommitStatus_GEN : Fld := ⟨16, 16⟩
-- fields of TOP_COMMIT_DETAIL
def topCommitDetail_QUARTER : Fld := ⟨0, 2⟩
def topCommitDetail_LAYER : Fld := ⟨2, 3⟩
def topCommitDetail_LANE : Fld := ⟨5, 7⟩
def topCommitDetail_ACTIVE_GEN : Fld := ⟨16, 16⟩
-- fields of TOP_COMMIT_FRAME
def topCommitFrame_FRAME : Fld := ⟨0, 48⟩
-- fields of HIF_REMOTE_SEL
def hifRemoteSel_TILE : Fld := ⟨0, 12⟩
def hifRemoteSel_PAGE : Fld := ⟨12, 2⟩
def hifRemoteSel_TIMEOUT : Fld := ⟨16, 8⟩
-- fields of HIF_REMOTE_STATUS
def hifRemoteStatus_PENDING : Fld := ⟨0, 7⟩
def hifRemoteStatus_ERROR : Fld := ⟨7, 3⟩
def hifRemoteStatus_OVERFLOW : Fld := ⟨10, 1⟩
def hifRemoteStatus_OFFSET : Fld := ⟨11, 21⟩
-- fields of MBX_SUBMIT
def mbxSubmit_TAG : Fld := ⟨0, 8⟩
def mbxSubmit_LAST_TAG : Fld := ⟨8, 8⟩
def mbxSubmit_INDEX : Fld := ⟨16, 6⟩
def mbxSubmit_RESULT : Fld := ⟨22, 2⟩
def mbxSubmit_DONE_EVENT : Fld := ⟨24, 1⟩
-- fields of MBX_RELEASE
def mbxRelease_INDEX : Fld := ⟨0, 6⟩
-- fields of MP_LOAD
def mpLoad_LOAD : Fld := ⟨0, 8⟩
def mpLoad_PEAK : Fld := ⟨8, 8⟩
def mpLoad_HELD : Fld := ⟨16, 7⟩
def mpLoad_STRETCHED : Fld := ⟨23, 1⟩
-- fields of TIME_NOW
def timeNow_NS : Fld := ⟨0, 32⟩
def timeNow_SEC_LO : Fld := ⟨32, 32⟩
def timeNow_SEC_HI : Fld := ⟨64, 16⟩
def timeNow_EPOCH : Fld := ⟨80, 8⟩
-- fields of TIME_ADDEND
def timeAddend_FRAC : Fld := ⟨0, 32⟩
def timeAddend_INT : Fld := ⟨32, 32⟩
-- fields of TIME_CTRL
def timeCtrl_REF : Fld := ⟨0, 3⟩
def timeCtrl_REARM : Fld := ⟨3, 1⟩
def timeCtrl_SET_GO : Fld := ⟨4, 1⟩
-- fields of TIME_STATUS
def timeStatus_STATE : Fld := ⟨0, 3⟩
def timeStatus_STEP_USED : Fld := ⟨3, 1⟩
def timeStatus_REARM_PENDING : Fld := ⟨4, 1⟩
def timeStatus_REF_VALID : Fld := ⟨5, 1⟩
def timeStatus_FRAME_LOCKED : Fld := ⟨6, 1⟩
def timeStatus_STEP_NEEDED : Fld := ⟨7, 1⟩
def timeStatus_EPOCH : Fld := ⟨8, 8⟩
def timeStatus_SRC_LANE : Fld := ⟨16, 7⟩
def timeStatus_STANDBY : Fld := ⟨23, 1⟩
-- fields of TIME_OFFSET
def timeOffset_OFFSET : Fld := ⟨0, 32⟩
-- fields of TIME_SERVO_CFG
def timeServoCfg_SLEW_PPM : Fld := ⟨0, 8⟩
def timeServoCfg_LOCK_THRESH : Fld := ⟨8, 8⟩
def timeServoCfg_HOLDOVER_LIMIT : Fld := ⟨16, 8⟩
-- fields of TIME_SET
def timeSet_NS : Fld := ⟨0, 32⟩
def timeSet_SEC_LO : Fld := ⟨32, 32⟩
def timeSet_SEC_HI : Fld := ⟨64, 16⟩
-- fields of TIME_PTP_CFG
def timePtpCfg_DOMAIN : Fld := ⟨0, 8⟩
def timePtpCfg_SYNC : Fld := ⟨8, 3⟩
def timePtpCfg_ANNOUNCE : Fld := ⟨12, 2⟩
def timePtpCfg_IPV6 : Fld := ⟨14, 1⟩
def timePtpCfg_HYBRID : Fld := ⟨15, 1⟩
def timePtpCfg_DELAY : Fld := ⟨16, 3⟩
def timePtpCfg_PORT_A : Fld := ⟨24, 3⟩
def timePtpCfg_PORT_B : Fld := ⟨28, 3⟩
def timePtpCfg_PORT_B_EN : Fld := ⟨31, 1⟩
-- fields of TIME_PTP_STATUS
def timePtpStatus_STATE_A : Fld := ⟨0, 3⟩
def timePtpStatus_STATE_B : Fld := ⟨3, 3⟩
def timePtpStatus_ACTIVE_B : Fld := ⟨6, 1⟩
def timePtpStatus_STEPS_REMOVED : Fld := ⟨8, 8⟩
-- fields of TIME_PIN_CFG
def timePinCfg_OUT_MODE : Fld := ⟨0, 2⟩
def timePinCfg_FRAME_IN_POL : Fld := ⟨2, 1⟩
def timePinCfg_PPS_IN_POL : Fld := ⟨3, 1⟩
def timePinCfg_WIDTH : Fld := ⟨8, 17⟩
-- fields of TIME_LANE_ASYM
def timeLaneAsym_ASYM : Fld := ⟨0, 16⟩
-- fields of TIME_LANE_DELAY
def timeLaneDelay_DELAY : Fld := ⟨0, 24⟩
def timeLaneDelay_COUNT : Fld := ⟨24, 5⟩
-- fields of TIME_ALIGN_ORIGIN
def timeAlignOrigin_NS : Fld := ⟨0, 32⟩
def timeAlignOrigin_SEC : Fld := ⟨32, 48⟩
-- fields of TIME_FRAME
def timeFrame_FRAME : Fld := ⟨0, 48⟩
def timeFrame_SLOT : Fld := ⟨48, 2⟩
def timeFrame_PATTERN : Fld := ⟨50, 3⟩
def timeFrame_SEQ : Fld := ⟨53, 2⟩
-- fields of TIME_SEQ_CFG
def timeSeqCfg_REDUCE_DIV : Fld := ⟨0, 2⟩
def timeSeqCfg_REDUCE_CONTENT : Fld := ⟨2, 2⟩
-- fields of TIME_MODE_TIME
def timeModeTime_NS : Fld := ⟨0, 32⟩
def timeModeTime_SEC_LO : Fld := ⟨32, 32⟩
def timeModeTime_SEC_HI : Fld := ⟨64, 16⟩
-- fields of TIME_MODE_COMMIT
def timeModeCommit_PATTERN : Fld := ⟨0, 3⟩
def timeModeCommit_ACTION : Fld := ⟨3, 2⟩
def timeModeCommit_WALL : Fld := ⟨5, 1⟩
-- fields of TIME_MODE_STATUS
def timeModeStatus_STATE : Fld := ⟨0, 3⟩
def timeModeStatus_REASON : Fld := ⟨8, 8⟩
def timeModeStatus_PATTERN : Fld := ⟨16, 3⟩
def timeModeStatus_ACTION : Fld := ⟨19, 2⟩
-- fields of ING_SRC_CTRL
def ingSrcCtrl_EN : Fld := ⟨0, 1⟩
def ingSrcCtrl_KIND : Fld := ⟨1, 3⟩
def ingSrcCtrl_FORMAT : Fld := ⟨4, 8⟩
def ingSrcCtrl_WIRE : Fld := ⟨12, 4⟩
def ingSrcCtrl_RING_LOG2 : Fld := ⟨16, 2⟩
def ingSrcCtrl_MERGE : Fld := ⟨18, 1⟩
def ingSrcCtrl_DAMAGED_USE : Fld := ⟨19, 1⟩
def ingSrcCtrl_LATE_TOL : Fld := ⟨20, 3⟩
-- fields of ING_SRC_GEOM
def ingSrcGeom_WIDTH : Fld := ⟨0, 15⟩
def ingSrcGeom_HEIGHT : Fld := ⟨16, 15⟩
-- fields of ING_SRC_RATE
def ingSrcRate_FR_NUM : Fld := ⟨0, 16⟩
def ingSrcRate_FR_DEN : Fld := ⟨16, 16⟩
-- fields of ING_SRC_TIMING
def ingSrcTiming_LOSS_MS : Fld := ⟨0, 16⟩
def ingSrcTiming_MERGE_WIN : Fld := ⟨16, 10⟩
-- fields of ING_SRC_RING
def ingSrcRing_BASE : Fld := ⟨12, 52⟩
-- fields of ING_SRC_STRIDE
def ingSrcStride_SLOT_STRIDE : Fld := ⟨0, 20⟩
def ingSrcStride_LINE_STRIDE : Fld := ⟨20, 12⟩
-- fields of ING_SRC_LINK
def ingSrcLink_TRIG : Fld := ⟨0, 8⟩
def ingSrcLink_STREAM : Fld := ⟨8, 4⟩
-- fields of ING_SRC_STATUS
def ingSrcStatus_STATE : Fld := ⟨0, 2⟩
def ingSrcStatus_NEWEST : Fld := ⟨2, 3⟩
def ingSrcStatus_BOUND : Fld := ⟨5, 3⟩
def ingSrcStatus_HELD : Fld := ⟨8, 8⟩
def ingSrcStatus_PATH0_UP : Fld := ⟨16, 1⟩
def ingSrcStatus_PATH1_UP : Fld := ⟨17, 1⟩
def ingSrcStatus_FORMAT : Fld := ⟨24, 8⟩
-- fields of ING_SRC_COUNTS
def ingSrcCounts_LATE : Fld := ⟨0, 8⟩
def ingSrcCounts_DROPPED : Fld := ⟨8, 8⟩
def ingSrcCounts_DAMAGED : Fld := ⟨16, 8⟩
def ingSrcCounts_SKIPPED : Fld := ⟨24, 8⟩
-- fields of ING_FENCE
def ingFence_SLOT : Fld := ⟨0, 3⟩
-- fields of ING_PORT_CFG
def ingPortCfg_RESPOND : Fld := ⟨0, 1⟩
def ingPortCfg_JOIN : Fld := ⟨1, 1⟩
def ingPortCfg_TX_VID : Fld := ⟨2, 12⟩
-- fields of ING_PORT_DROP
def ingPortDrop_FCS : Fld := ⟨0, 8⟩
def ingPortDrop_OVERSIZE : Fld := ⟨8, 8⟩
def ingPortDrop_UNMATCHED : Fld := ⟨16, 8⟩
def ingPortDrop_OVERFLOW : Fld := ⟨24, 8⟩
-- fields of ING_FILTER_CTRL
def ingFilterCtrl_EN : Fld := ⟨0, 1⟩
def ingFilterCtrl_PORT : Fld := ⟨1, 3⟩
def ingFilterCtrl_IPV6 : Fld := ⟨4, 1⟩
def ingFilterCtrl_ANY_SRC : Fld := ⟨5, 1⟩
def ingFilterCtrl_TAGGED : Fld := ⟨6, 1⟩
def ingFilterCtrl_VID : Fld := ⟨7, 12⟩
def ingFilterCtrl_SOURCE : Fld := ⟨19, 6⟩
def ingFilterCtrl_PATH : Fld := ⟨25, 1⟩
-- fields of HBM_STATUS
def hbmStatus_STATE : Fld := ⟨0, 2⟩
def hbmStatus_STACK0_OK : Fld := ⟨2, 1⟩
def hbmStatus_STACK1_OK : Fld := ⟨3, 1⟩
def hbmStatus_MIN_SRC : Fld := ⟨8, 4⟩
-- fields of HBM_POWER_CFG
def hbmPowerCfg_PD_EN : Fld := ⟨0, 1⟩
def hbmPowerCfg_SR_EN : Fld := ⟨1, 1⟩
def hbmPowerCfg_SW_TOL : Fld := ⟨16, 16⟩
-- fields of HBM_SLEEP_COUNT
def hbmSleepCount_PD : Fld := ⟨0, 16⟩
def hbmSleepCount_SR : Fld := ⟨16, 16⟩
-- fields of HBM_ECC
def hbmEcc_CORRECTED : Fld := ⟨0, 16⟩
def hbmEcc_UNCORRECTED : Fld := ⟨16, 16⟩
-- fields of HBM_TOL
def hbmTol_TOL : Fld := ⟨0, 16⟩
-- fields of QM_SEL
def qmSel_QUEUE : Fld := ⟨0, 18⟩
-- fields of QM_CTX_CFG
def qmCtxCfg_EN : Fld := ⟨0, 1⟩
def qmCtxCfg_SIZE_LOG2 : Fld := ⟨1, 5⟩
def qmCtxCfg_ESIZE : Fld := ⟨6, 2⟩
def qmCtxCfg_CLASS : Fld := ⟨8, 3⟩
def qmCtxCfg_SPACE : Fld := ⟨11, 1⟩
def qmCtxCfg_VECTOR : Fld := ⟨12, 11⟩
def qmCtxCfg_PIN : Fld := ⟨23, 1⟩
-- fields of QM_CTX_BASE
def qmCtxBase_BASE : Fld := ⟨12, 52⟩
-- fields of QM_CTX_PROD
def qmCtxProd_INDEX : Fld := ⟨0, 24⟩
-- fields of QM_CTX_CONS
def qmCtxCons_INDEX : Fld := ⟨0, 24⟩
-- fields of QM_CMD
def qmCmd_OP : Fld := ⟨0, 2⟩
def qmCmd_RESULT : Fld := ⟨2, 2⟩
def qmCmd_REASON : Fld := ⟨4, 4⟩
-- fields of QM_CONSUME
def qmConsume_QUEUE : Fld := ⟨0, 18⟩
def qmConsume_INDEX : Fld := ⟨32, 24⟩
-- fields of DMA_CH_CFG
def dmaChCfg_QUEUE : Fld := ⟨0, 18⟩
def dmaChCfg_PRIO : Fld := ⟨18, 1⟩
def dmaChCfg_BURST : Fld := ⟨19, 3⟩
def dmaChCfg_REQ_EN : Fld := ⟨22, 1⟩
def dmaChCfg_REQ : Fld := ⟨23, 6⟩
-- fields of DMA_CH_CTRL
def dmaChCtrl_RUN : Fld := ⟨0, 1⟩
def dmaChCtrl_RESET : Fld := ⟨1, 1⟩
def dmaChCtrl_SKIP : Fld := ⟨2, 1⟩
-- fields of DMA_CH_STATUS
def dmaChStatus_STATE : Fld := ⟨0, 3⟩
def dmaChStatus_CAUSE : Fld := ⟨8, 8⟩
def dmaChStatus_ERR_SPACE : Fld := ⟨16, 2⟩
-- fields of DMA_CH_DONE
def dmaChDone_BYTES : Fld := ⟨0, 32⟩
-- fields of DMA_CH_ERR_ADDR
def dmaChErrAddr_ADDR : Fld := ⟨0, 64⟩
-- fields of DMA_CH_ERR_TAG
def dmaChErrTag_TAG : Fld := ⟨0, 32⟩
-- fields of DMA_TRIG_CNT
def dmaTrigCnt_COUNT : Fld := ⟨0, 16⟩
-- fields of DMA_TRIG_SW
def dmaTrigSw_LINE : Fld := ⟨0, 8⟩
-- fields of CMP_LAYER_CTRL
def cmpLayerCtrl_EN : Fld := ⟨0, 1⟩
def cmpLayerCtrl_SLOTS : Fld := ⟨1, 4⟩
def cmpLayerCtrl_SRC : Fld := ⟨5, 6⟩
def cmpLayerCtrl_CSPACE : Fld := ⟨11, 1⟩
def cmpLayerCtrl_RANGE : Fld := ⟨12, 1⟩
def cmpLayerCtrl_WSPACE : Fld := ⟨13, 1⟩
def cmpLayerCtrl_PA : Fld := ⟨14, 1⟩
def cmpLayerCtrl_LATE_POLICY : Fld := ⟨15, 1⟩
def cmpLayerCtrl_HOLD_LIMIT : Fld := ⟨16, 4⟩
def cmpLayerCtrl_FB_KIND : Fld := ⟨20, 2⟩
def cmpLayerCtrl_FB_SRC : Fld := ⟨22, 6⟩
def cmpLayerCtrl_CONCEAL_HOLD : Fld := ⟨28, 1⟩
-- fields of CMP_LAYER_POS
def cmpLayerPos_X : Fld := ⟨0, 16⟩
def cmpLayerPos_Y : Fld := ⟨16, 16⟩
-- fields of CMP_LAYER_PHASE
def cmpLayerPhase_PX : Fld := ⟨0, 6⟩
def cmpLayerPhase_PY : Fld := ⟨8, 6⟩
-- fields of CMP_LAYER_SIZE
def cmpLayerSize_OUT_W : Fld := ⟨0, 16⟩
def cmpLayerSize_OUT_H : Fld := ⟨16, 16⟩
-- fields of CMP_LAYER_CROP_POS
def cmpLayerCropPos_CX : Fld := ⟨0, 14⟩
def cmpLayerCropPos_CY : Fld := ⟨16, 14⟩
-- fields of CMP_LAYER_CROP_SIZE
def cmpLayerCropSize_CW : Fld := ⟨0, 15⟩
def cmpLayerCropSize_CH : Fld := ⟨16, 15⟩
-- fields of CMP_LAYER_ALPHA
def cmpLayerAlpha_GA : Fld := ⟨0, 13⟩
-- fields of CMP_LAYER_FBCOL
def cmpLayerFbcol_R : Fld := ⟨0, 12⟩
def cmpLayerFbcol_G : Fld := ⟨16, 12⟩
def cmpLayerFbcol_B : Fld := ⟨32, 12⟩
-- fields of CMP_LAYER_FILL
def cmpLayerFill_R : Fld := ⟨0, 12⟩
def cmpLayerFill_G : Fld := ⟨16, 12⟩
def cmpLayerFill_B : Fld := ⟨32, 12⟩
-- fields of CMP_LAYER_STATUS
def cmpLayerStatus_STATE : Fld := ⟨0, 2⟩
def cmpLayerStatus_RUN : Fld := ⟨2, 4⟩
-- fields of CMP_LAYER_COUNTS
def cmpLayerCounts_LATE : Fld := ⟨0, 16⟩
def cmpLayerCounts_UNDERRUN : Fld := ⟨16, 8⟩
def cmpLayerCounts_CONCEALED : Fld := ⟨24, 8⟩
-- fields of CMP_CANVAS_SIZE
def cmpCanvasSize_W : Fld := ⟨0, 16⟩
def cmpCanvasSize_H : Fld := ⟨16, 15⟩
-- fields of CMP_CANVAS_CFG
def cmpCanvasCfg_CSPACE : Fld := ⟨0, 1⟩
def cmpCanvasCfg_DITHER : Fld := ⟨1, 1⟩
def cmpCanvasCfg_BAND : Fld := ⟨2, 5⟩
def cmpCanvasCfg_LEAD : Fld := ⟨8, 14⟩
-- fields of CMP_CANVAS_BG
def cmpCanvasBg_R : Fld := ⟨0, 12⟩
def cmpCanvasBg_G : Fld := ⟨16, 12⟩
def cmpCanvasBg_B : Fld := ⟨32, 12⟩
-- fields of CMP_STATUS
def cmpStatus_BAND_LATE : Fld := ⟨0, 16⟩
def cmpStatus_WORST_US : Fld := ⟨16, 16⟩
-- fields of CMP_WB_CTRL
def cmpWbCtrl_EN : Fld := ⟨0, 1⟩
def cmpWbCtrl_DECIM : Fld := ⟨1, 2⟩
def cmpWbCtrl_SLOT : Fld := ⟨3, 2⟩
def cmpWbCtrl_TRIG : Fld := ⟨5, 8⟩
def cmpWbCtrl_TRIG_EN : Fld := ⟨13, 1⟩
def cmpWbCtrl_RING_LOG2 : Fld := ⟨14, 2⟩
-- fields of CMP_WB_POS
def cmpWbPos_X : Fld := ⟨0, 15⟩
def cmpWbPos_Y : Fld := ⟨16, 14⟩
-- fields of CMP_WB_SIZE
def cmpWbSize_W : Fld := ⟨0, 14⟩
def cmpWbSize_H : Fld := ⟨16, 13⟩
-- fields of CMP_WB_RING
def cmpWbRing_BASE : Fld := ⟨12, 52⟩
-- fields of CMP_WB_STRIDE
def cmpWbStride_SLOT_STRIDE : Fld := ⟨0, 16⟩
def cmpWbStride_LINE_STRIDE : Fld := ⟨16, 16⟩
-- fields of CMP_WB_STATUS
def cmpWbStatus_NEWEST : Fld := ⟨0, 3⟩
def cmpWbStatus_INCOMPLETE : Fld := ⟨3, 1⟩
def cmpWbStatus_INCOMPLETE_COUNT : Fld := ⟨8, 8⟩
-- fields of SCL_COEF
def sclCoef_C : Fld := ⟨0, 10⟩
-- fields of SCL_LAYER_CFG
def sclLayerCfg_H_SET : Fld := ⟨0, 4⟩
def sclLayerCfg_V_SET : Fld := ⟨4, 4⟩
def sclLayerCfg_H_TAPS : Fld := ⟨8, 4⟩
def sclLayerCfg_V_TAPS : Fld := ⟨12, 4⟩
def sclLayerCfg_TAPFIT : Fld := ⟨16, 1⟩
-- fields of SCL_LAYER_STATUS
def sclLayerStatus_V_TAPS_USED : Fld := ⟨0, 4⟩
def sclLayerStatus_REDUCED : Fld := ⟨4, 1⟩
def sclLayerStatus_H_BYPASS : Fld := ⟨5, 1⟩
def sclLayerStatus_V_BYPASS : Fld := ⟨6, 1⟩
-- fields of LST_ALLOC
def lstAlloc_FIRST : Fld := ⟨0, 8⟩
def lstAlloc_COUNT : Fld := ⟨8, 9⟩
-- fields of LST_NEED
def lstNeed_NEED : Fld := ⟨0, 9⟩
def lstNeed_WB : Fld := ⟨9, 15⟩
-- fields of LST_CHECK
def lstCheck_CAUSE : Fld := ⟨0, 2⟩
def lstCheck_QUARTER : Fld := ⟨2, 2⟩
def lstCheck_LAYER : Fld := ⟨4, 3⟩
def lstCheck_NEED : Fld := ⟨8, 9⟩
def lstCheck_COUNT : Fld := ⟨17, 9⟩
-- fields of LST_USE
def lstUse_ALLOCATED : Fld := ⟨0, 9⟩
def lstUse_USED : Fld := ⟨9, 9⟩
-- fields of LANE_CFG
def laneCfg_ROLE : Fld := ⟨0, 2⟩
def laneCfg_RATE : Fld := ⟨2, 3⟩
def laneCfg_PORT : Fld := ⟨5, 7⟩
def laneCfg_WIDTH : Fld := ⟨12, 2⟩
def laneCfg_POS : Fld := ⟨14, 2⟩
def laneCfg_TX_INV : Fld := ⟨16, 1⟩
def laneCfg_RX_INV : Fld := ⟨17, 1⟩
-- fields of LANE_CTRL
def laneCtrl_RETRAIN : Fld := ⟨0, 1⟩
def laneCtrl_ADAPT_FREEZE : Fld := ⟨1, 1⟩
def laneCtrl_DISABLE : Fld := ⟨2, 1⟩
-- fields of LANE_STATUS
def laneStatus_STATE : Fld := ⟨0, 4⟩
def laneStatus_FAILS : Fld := ⟨4, 4⟩
def laneStatus_LAST_CAUSE : Fld := ⟨8, 8⟩
def laneStatus_LINK_DOWNS : Fld := ⟨16, 8⟩
def laneStatus_SIGNAL : Fld := ⟨24, 1⟩
def laneStatus_TX_IDLE : Fld := ⟨25, 1⟩
-- fields of LANE_FOM
def laneFom_WIDTH : Fld := ⟨0, 8⟩
def laneFom_HEIGHT : Fld := ⟨8, 10⟩
def laneFom_VALID : Fld := ⟨18, 1⟩
-- fields of LANE_FOM_LIMIT
def laneFomLimit_WARN_W : Fld := ⟨0, 8⟩
def laneFomLimit_WARN_H : Fld := ⟨8, 10⟩
-- fields of LANE_EQ
def laneEq_CTLE : Fld := ⟨0, 4⟩
def laneEq_DFE1 : Fld := ⟨4, 7⟩
def laneEq_PRE : Fld := ⟨11, 4⟩
def laneEq_MAIN : Fld := ⟨15, 6⟩
def laneEq_POST : Fld := ⟨21, 5⟩
-- fields of LANE_FEC
def laneFec_CORRECTED : Fld := ⟨0, 32⟩
def laneFec_UNCORRECTABLE : Fld := ⟨32, 32⟩
-- fields of LANE_PEER
def lanePeer_SERIAL : Fld := ⟨0, 64⟩
-- fields of LANE_PEER_INFO
def lanePeerInfo_BUILD : Fld := ⟨0, 8⟩
def lanePeerInfo_PORT : Fld := ⟨8, 8⟩
def lanePeerInfo_DOMAIN : Fld := ⟨16, 4⟩
-- fields of LANE_TEST
def laneTest_EN : Fld := ⟨0, 1⟩
def laneTest_PATTERN : Fld := ⟨1, 2⟩
def laneTest_GEN : Fld := ⟨3, 1⟩
def laneTest_CHK : Fld := ⟨4, 1⟩
def laneTest_INJECT : Fld := ⟨5, 1⟩
def laneTest_SLIP : Fld := ⟨6, 1⟩
def laneTest_CLEAR : Fld := ⟨7, 1⟩
def laneTest_CHK_LOCK : Fld := ⟨8, 1⟩
def laneTest_TIMEOUT : Fld := ⟨16, 16⟩
-- fields of LANE_TEST_WORD
def laneTestWord_WORD : Fld := ⟨0, 64⟩
-- fields of LANE_PRBS_BITS
def lanePrbsBits_COUNT : Fld := ⟨0, 48⟩
-- fields of LANE_PRBS_ERR
def lanePrbsErr_COUNT : Fld := ⟨0, 48⟩
-- fields of HAL_PORT_ERR
def halPortErr_HDR : Fld := ⟨0, 16⟩
def halPortErr_CRC : Fld := ⟨16, 16⟩
def halPortErr_STOMPED : Fld := ⟨32, 16⟩
def halPortErr_DROPPED : Fld := ⟨48, 16⟩
-- fields of HAL_PORT_CREDIT
def halPortCredit_CTL_AVAIL : Fld := ⟨0, 7⟩
def halPortCredit_BLK_AVAIL : Fld := ⟨8, 9⟩
def halPortCredit_STALLED : Fld := ⟨24, 1⟩
-- fields of HAL_PORT_LOAD
def halPortLoad_LOAD : Fld := ⟨0, 10⟩
def halPortLoad_SPARE_US : Fld := ⟨16, 16⟩
-- fields of HAL_PORT_TRAFFIC
def halPortTraffic_TX : Fld := ⟨0, 32⟩
def halPortTraffic_RX : Fld := ⟨32, 32⟩
-- fields of DSC_CTRL
def dscCtrl_AUTO : Fld := ⟨0, 1⟩
def dscCtrl_HOLD_MS : Fld := ⟨8, 8⟩
-- fields of DSC_CMD
def dscCmd_OP : Fld := ⟨0, 2⟩
def dscCmd_LANE : Fld := ⟨2, 7⟩
def dscCmd_ADDR : Fld := ⟨9, 12⟩
def dscCmd_WALKING : Fld := ⟨21, 7⟩
-- fields of DSC_CHECK
def dscCheck_CAUSE : Fld := ⟨0, 3⟩
def dscCheck_ADDR_A : Fld := ⟨4, 12⟩
def dscCheck_ADDR_B : Fld := ⟨16, 12⟩
-- fields of DSC_ADMIT
def dscAdmit_ADMIT : Fld := ⟨0, 32⟩
-- fields of DSC_ORIGIN
def dscOrigin_X : Fld := ⟨0, 15⟩
def dscOrigin_Y : Fld := ⟨16, 14⟩
def dscOrigin_VALID : Fld := ⟨31, 1⟩
-- fields of DSC_TOPO
def dscTopo_STATE : Fld := ⟨0, 3⟩
def dscTopo_MISMATCH : Fld := ⟨3, 1⟩
def dscTopo_PARENT : Fld := ⟨4, 12⟩
def dscTopo_PARENT_PORT : Fld := ⟨16, 3⟩
def dscTopo_INGRESS : Fld := ⟨19, 3⟩
def dscTopo_HOPS : Fld := ⟨22, 6⟩
def dscTopo_UNCONFIRMED : Fld := ⟨28, 1⟩
def dscTopo_MULTIPATH : Fld := ⟨29, 1⟩
def dscTopo_LANE : Fld := ⟨32, 7⟩
-- fields of DSC_INFO
def dscInfo_SERIAL : Fld := ⟨0, 64⟩
def dscInfo_GEOM : Fld := ⟨64, 32⟩
def dscInfo_IMAGE_GEN : Fld := ⟨96, 32⟩
def dscInfo_FW : Fld := ⟨128, 32⟩
def dscInfo_WIDTH : Fld := ⟨160, 10⟩
def dscInfo_HEIGHT : Fld := ⟨176, 10⟩
-- fields of DSC_SELF
def dscSelf_ADDR : Fld := ⟨0, 12⟩
def dscSelf_DOMAIN : Fld := ⟨12, 4⟩
def dscSelf_ADMITTED : Fld := ⟨16, 1⟩
def dscSelf_WIDTH : Fld := ⟨32, 10⟩
def dscSelf_HEIGHT : Fld := ⟨48, 10⟩
-- fields of DSC_ROUTE
def dscRoute_MASK : Fld := ⟨0, 32⟩
-- fields of COR_CFG
def corCfg_MODE : Fld := ⟨0, 2⟩
def corCfg_DEPTH : Fld := ⟨2, 5⟩
def corCfg_DITHER : Fld := ⟨7, 1⟩
def corCfg_EOTF_BANK : Fld := ⟨8, 1⟩
-- fields of COR_STATUS
def corStatus_HOTTEST : Fld := ⟨0, 16⟩
def corStatus_SENSOR_FALLBACK : Fld := ⟨16, 1⟩
def corStatus_NO_BOARD : Fld := ⟨17, 1⟩
def corStatus_LAMP_REQ : Fld := ⟨18, 1⟩
-- fields of COR_GAIN
def corGain_G4 : Fld := ⟨0, 16⟩
-- fields of COR_GAIN_LIMIT
def corGainLimit_GMIN : Fld := ⟨0, 16⟩
def corGainLimit_GMAX : Fld := ⟨16, 16⟩
-- fields of COR_CAP
def corCap_WALL : Fld := ⟨0, 13⟩
def corCap_LOCAL : Fld := ⟨16, 13⟩
-- fields of COR_LAMP_LIMIT
def corLampLimit_LIMIT : Fld := ⟨0, 16⟩
-- fields of COR_I2C
def corI2c_ADDR : Fld := ⟨0, 7⟩
def corI2c_READ : Fld := ⟨7, 1⟩
def corI2c_PTR : Fld := ⟨8, 8⟩
def corI2c_DATA : Fld := ⟨16, 8⟩
def corI2c_GO : Fld := ⟨24, 1⟩
def corI2c_BUSY : Fld := ⟨25, 1⟩
def corI2c_NACK : Fld := ⟨26, 1⟩
-- fields of COR_BSENS
def corBsens_TEMP : Fld := ⟨0, 16⟩
def corBsens_STATE : Fld := ⟨16, 2⟩
-- fields of COR_GRID
def corGrid_NODE_LO : Fld := ⟨0, 16⟩
def corGrid_NODE_HI : Fld := ⟨16, 16⟩
-- fields of COR_LSENS_STATUS
def corLsensStatus_STATE : Fld := ⟨0, 2⟩
def corLsensStatus_SKIPS : Fld := ⟨8, 4⟩
-- fields of COR_LSENS_READ
def corLsensRead_RGB : Fld := ⟨0, 48⟩
-- fields of COR_CAL_CTRL
def corCalCtrl_UNLOCK : Fld := ⟨0, 1⟩
def corCalCtrl_APPLY : Fld := ⟨1, 1⟩
-- fields of COR_CAL_STATUS
def corCalStatus_STATE : Fld := ⟨0, 2⟩
def corCalStatus_COPY : Fld := ⟨2, 1⟩
def corCalStatus_CAUSE0 : Fld := ⟨8, 4⟩
def corCalStatus_CAUSE1 : Fld := ⟨12, 4⟩
def corCalStatus_NOBIN : Fld := ⟨16, 16⟩
-- fields of COR_PROBE_SEL
def corProbeSel_X : Fld := ⟨0, 9⟩
def corProbeSel_Y : Fld := ⟨16, 9⟩
-- fields of COR_PROBE
def corProbe_T_LAMP : Fld := ⟨0, 16⟩
def corProbe_H : Fld := ⟨16, 16⟩
def corProbe_T_BOARD : Fld := ⟨32, 16⟩
-- fields of COR_QSTAT
def corQstat_ECC_DISABLED : Fld := ⟨0, 16⟩
def corQstat_LATE : Fld := ⟨16, 16⟩
-- fields of COR_EOTF
def corEotf_L : Fld := ⟨0, 20⟩
-- fields of LMP_CLK
def lmpClk_LCK_DIV : Fld := ⟨0, 2⟩
def lmpClk_LGC_DIV : Fld := ⟨2, 2⟩
-- fields of LMP_PWM
def lmpPwm_SEG_LOG2 : Fld := ⟨0, 3⟩
def lmpPwm_REPEAT : Fld := ⟨8, 8⟩
-- fields of LMP_CTRL
def lmpCtrl_FORCE_BLANK : Fld := ⟨0, 1⟩
def lmpCtrl_RESCAN : Fld := ⟨1, 1⟩
-- fields of LMP_STATUS
def lmpStatus_REPEAT_USED : Fld := ⟨0, 8⟩
def lmpStatus_PWM_FIT : Fld := ⟨8, 1⟩
def lmpStatus_SLACK_US : Fld := ⟨16, 16⟩
-- fields of LMP_BANK
def lmpBank_VOLTS : Fld := ⟨0, 2⟩
-- fields of LMP_QSTAT
def lmpQstat_SKIPPED : Fld := ⟨0, 16⟩
def lmpQstat_CFG_SENT : Fld := ⟨16, 16⟩
-- fields of LMP_GROUP_STATUS
def lmpGroupStatus_STATE : Fld := ⟨0, 3⟩
def lmpGroupStatus_LFB_LOCK : Fld := ⟨3, 1⟩
def lmpGroupStatus_FB_DELAY : Fld := ⟨4, 5⟩
def lmpGroupStatus_SCANS : Fld := ⟨16, 16⟩
-- fields of LMP_SYNC_OFS
def lmpSyncOfs_OFS : Fld := ⟨0, 24⟩
-- fields of LMP_DRV_STATUS
def lmpDrvStatus_LO : Fld := ⟨0, 16⟩
def lmpDrvStatus_HI : Fld := ⟨16, 16⟩
-- fields of LMP_FAULT_CFG
def lmpFaultCfg_POLICY : Fld := ⟨0, 2⟩
def lmpFaultCfg_VF_ACT : Fld := ⟨2, 1⟩
def lmpFaultCfg_CONFIRM : Fld := ⟨3, 2⟩
def lmpFaultCfg_K : Fld := ⟨8, 6⟩
def lmpFaultCfg_SPREAD_MIN : Fld := ⟨16, 4⟩
def lmpFaultCfg_POP_MIN : Fld := ⟨21, 7⟩
-- fields of LMP_STRIKE_CFG
def lmpStrikeCfg_STRIKE_FRAMES : Fld := ⟨0, 16⟩
def lmpStrikeCfg_STRIKE_CURVE : Fld := ⟨16, 2⟩
-- fields of LMP_FAULT_CTRL
def lmpFaultCtrl_STRIKE_CLEAR : Fld := ⟨0, 1⟩
def lmpFaultCtrl_CLEAR_ALL : Fld := ⟨1, 1⟩
def lmpFaultCtrl_CLEAR_ONE : Fld := ⟨2, 1⟩
def lmpFaultCtrl_CHANNEL : Fld := ⟨3, 9⟩
def lmpFaultCtrl_POSITION : Fld := ⟨12, 9⟩
-- fields of LMP_FAULT_STATUS
def lmpFaultStatus_STRIKE : Fld := ⟨0, 1⟩
def lmpFaultStatus_STRIKE_DARK : Fld := ⟨1, 1⟩
def lmpFaultStatus_CONFIRMED : Fld := ⟨16, 16⟩
-- fields of LMP_FAULT_COUNTS
def lmpFaultCounts_NEW : Fld := ⟨0, 16⟩
def lmpFaultCounts_SUPPRESSED : Fld := ⟨16, 16⟩
-- fields of LMP_FAULT_LAST
def lmpFaultLast_CHANNEL : Fld := ⟨0, 9⟩
def lmpFaultLast_POSITION : Fld := ⟨9, 9⟩
def lmpFaultLast_COLOUR : Fld := ⟨18, 2⟩
def lmpFaultLast_KINDS : Fld := ⟨20, 4⟩
def lmpFaultLast_VF : Fld := ⟨24, 6⟩
def lmpFaultLast_MEDIAN : Fld := ⟨32, 6⟩
def lmpFaultLast_SPREAD : Fld := ⟨38, 6⟩
-- fields of LMP_FAULT_MAP
def lmpFaultMap_STATES : Fld := ⟨0, 32⟩
-- fields of COR_FADE
def corFade_TARGET : Fld := ⟨0, 13⟩
def corFade_CURVE : Fld := ⟨13, 2⟩
def corFade_FRAMES : Fld := ⟨16, 16⟩
-- fields of CMP_LAYER_FADE
def cmpLayerFade_TARGET : Fld := ⟨0, 13⟩
def cmpLayerFade_CURVE : Fld := ⟨13, 2⟩
def cmpLayerFade_FRAMES : Fld := ⟨16, 16⟩
-- fields of COR_FADE_STATUS
def corFadeStatus_FACTOR : Fld := ⟨0, 13⟩
def corFadeStatus_RUNNING : Fld := ⟨13, 1⟩
def corFadeStatus_TSTRIKE : Fld := ⟨16, 13⟩
-- fields of CMP_LAYER_FADE_STATUS
def cmpLayerFadeStatus_FACTOR : Fld := ⟨0, 13⟩
def cmpLayerFadeStatus_RUNNING : Fld := ⟨13, 1⟩
-- fields of LMP_SAG_CFG
def lmpSagCfg_EN : Fld := ⟨0, 1⟩
def lmpSagCfg_SPREAD_INIT : Fld := ⟨1, 1⟩
def lmpSagCfg_SAG_TRIG : Fld := ⟨8, 8⟩
def lmpSagCfg_GAP : Fld := ⟨16, 8⟩
-- fields of LMP_SAG_STATUS
def lmpSagStatus_SAG_US : Fld := ⟨0, 16⟩
def lmpSagStatus_MOVES : Fld := ⟨16, 16⟩
-- fields of LMP_SAG_MAP
def lmpSagMap_SUPPLY : Fld := ⟨0, 3⟩
def lmpSagMap_MAPPED : Fld := ⟨3, 1⟩
def lmpSagMap_PLACE : Fld := ⟨4, 3⟩
def lmpSagMap_LOAD : Fld := ⟨8, 24⟩
-- fields of RED_CTRL
def redCtrl_PAIR : Fld := ⟨0, 1⟩
def redCtrl_FOLLOW : Fld := ⟨1, 1⟩
def redCtrl_LOSS_MS : Fld := ⟨8, 8⟩
def redCtrl_RESYNC_N : Fld := ⟨16, 8⟩
-- fields of RED_CLAIM
def redClaim_CFG : Fld := ⟨0, 16⟩
def redClaim_CUR : Fld := ⟨16, 16⟩
-- fields of RED_STATUS
def redStatus_ROLE : Fld := ⟨0, 2⟩
def redStatus_PARTNER_HEARD : Fld := ⟨2, 1⟩
def redStatus_SYNCED : Fld := ⟨3, 1⟩
def redStatus_TIE : Fld := ⟨4, 1⟩
def redStatus_MATCH_RUN : Fld := ⟨8, 8⟩
-- fields of RED_PARTNER_INFO
def redPartnerInfo_CLAIM : Fld := ⟨0, 16⟩
def redPartnerInfo_ACTIVE_GEN : Fld := ⟨16, 16⟩
-- fields of RED_DIGEST_COUNTS
def redDigestCounts_MATCHED : Fld := ⟨0, 16⟩
def redDigestCounts_MISMATCHED : Fld := ⟨16, 8⟩
def redDigestCounts_MISSING : Fld := ⟨24, 8⟩
-- fields of RED_DIGEST_LAST
def redDigestLast_FRAME : Fld := ⟨0, 48⟩
def redDigestLast_LANE : Fld := ⟨48, 7⟩
def redDigestLast_FIELDS : Fld := ⟨55, 3⟩
-- fields of RED_TAKEOVERS
def redTakeovers_COUNT : Fld := ⟨0, 16⟩
-- fields of RED_PORT
def redPort_PAIRING : Fld := ⟨0, 2⟩
def redPort_PORT_WINNER : Fld := ⟨2, 1⟩
def redPort_LAST_MATCH : Fld := ⟨3, 1⟩
-- fields of RED_TILE_CFG
def redTileCfg_HOLD_MS : Fld := ⟨0, 8⟩
-- fields of RED_TILE_STATUS
def redTileStatus_WIN_CLAIM : Fld := ⟨0, 16⟩
def redTileStatus_BOTH : Fld := ⟨16, 1⟩
def redTileStatus_WIN_PORT : Fld := ⟨17, 3⟩
-- fields of RED_TILE_COUNTS
def redTileCounts_LOSER_USED : Fld := ⟨0, 32⟩
def redTileCounts_DUP_DROPPED : Fld := ⟨32, 32⟩
-- fields of RED_TILE_REFUSED
def redTileRefused_NOT_CLAIM : Fld := ⟨0, 16⟩
-- fields of CDC_DEC_CTRL
def cdcDecCtrl_INPUT : Fld := ⟨0, 1⟩
-- fields of CDC_DEC_STATUS
def cdcDecStatus_STATE : Fld := ⟨0, 2⟩
def cdcDecStatus_CONCEALING : Fld := ⟨2, 1⟩
def cdcDecStatus_PROFILE : Fld := ⟨3, 5⟩
def cdcDecStatus_LEVEL : Fld := ⟨8, 8⟩
def cdcDecStatus_CONCEALED : Fld := ⟨16, 8⟩
def cdcDecStatus_ERRORS : Fld := ⟨24, 8⟩
-- fields of CDC_ENC_CTRL
def cdcEncCtrl_EN : Fld := ⟨0, 1⟩
def cdcEncCtrl_MODE : Fld := ⟨1, 2⟩
def cdcEncCtrl_PROFILE : Fld := ⟨3, 2⟩
def cdcEncCtrl_CSPACE : Fld := ⟨5, 1⟩
def cdcEncCtrl_TRIG : Fld := ⟨6, 8⟩
def cdcEncCtrl_SRC : Fld := ⟨14, 6⟩
def cdcEncCtrl_RING_EN : Fld := ⟨20, 1⟩
def cdcEncCtrl_RING : Fld := ⟨21, 8⟩
-- fields of CDC_ENC_RC
def cdcEncRc_QUALITY : Fld := ⟨0, 6⟩
def cdcEncRc_QP_MAX : Fld := ⟨6, 6⟩
def cdcEncRc_WINDOW : Fld := ⟨12, 12⟩
def cdcEncRc_IDR_PERIOD : Fld := ⟨24, 8⟩
-- fields of CDC_ENC_OUT
def cdcEncOut_LOG2 : Fld := ⟨0, 6⟩
def cdcEncOut_BASE : Fld := ⟨12, 24⟩
def cdcEncOut_QUEUE : Fld := ⟨36, 18⟩
-- fields of CDC_ENC_CMD
def cdcEncCmd_IDR : Fld := ⟨0, 1⟩
-- fields of CDC_ENC_STATUS
def cdcEncStatus_EXHAUSTED : Fld := ⟨0, 8⟩
def cdcEncStatus_LATE : Fld := ⟨8, 8⟩
def cdcEncStatus_FULL : Fld := ⟨16, 8⟩
def cdcEncStatus_NO_MS : Fld := ⟨24, 8⟩
-- fields of CDC_STATUS
def cdcStatus_LOAD : Fld := ⟨0, 11⟩
def cdcStatus_SHED : Fld := ⟨11, 3⟩
def cdcStatus_REFUSED : Fld := ⟨14, 5⟩
-- fields of CLP_PORT_CFG
def clpPortCfg_REFMODE : Fld := ⟨0, 1⟩
-- fields of CLP_PORT_STATUS
def clpPortStatus_STATE : Fld := ⟨0, 3⟩
def clpPortStatus_RATE : Fld := ⟨3, 3⟩
def clpPortStatus_WIDTH : Fld := ⟨6, 4⟩
def clpPortStatus_LBA4K : Fld := ⟨10, 1⟩
-- fields of CLP_CMD
def clpCmd_OP : Fld := ⟨0, 2⟩
def clpCmd_RING : Fld := ⟨2, 8⟩
def clpCmd_PORT : Fld := ⟨10, 2⟩
def clpCmd_RESULT : Fld := ⟨12, 2⟩
-- fields of CLP_RING_CFG
def clpRingCfg_PORT : Fld := ⟨0, 2⟩
def clpRingCfg_STATE : Fld := ⟨2, 2⟩
def clpRingCfg_LOST : Fld := ⟨16, 16⟩
-- fields of THM_SENSOR
def thmSensor_RAW : Fld := ⟨0, 16⟩
def thmSensor_COUNTED : Fld := ⟨16, 16⟩
def thmSensor_STATE : Fld := ⟨32, 2⟩
-- fields of THM_LIMITS
def thmLimits_WARN : Fld := ⟨0, 8⟩
def thmLimits_THROTTLE : Fld := ⟨8, 8⟩
-- fields of THM_POLICY
def thmPolicy_RISE : Fld := ⟨0, 8⟩
def thmPolicy_RELEASE_HOLD : Fld := ⟨8, 8⟩
def thmPolicy_FEED_GRACE : Fld := ⟨16, 16⟩
def thmPolicy_TILE_GRACE : Fld := ⟨32, 8⟩
-- fields of THM_STATUS
def thmStatus_STATE : Fld := ⟨0, 2⟩
def thmStatus_HOLD : Fld := ⟨2, 1⟩
def thmStatus_RISE : Fld := ⟨3, 1⟩
def thmStatus_SHED : Fld := ⟨4, 3⟩
def thmStatus_SHUTDOWN_SEEN : Fld := ⟨7, 1⟩
def thmStatus_HOTTEST_TS : Fld := ⟨8, 6⟩
def thmStatus_HOTTEST : Fld := ⟨16, 16⟩
-- fields of THM_CAP
def thmCap_CAP_WANTED : Fld := ⟨0, 13⟩
def thmCap_REQ : Fld := ⟨13, 1⟩
def thmCap_ANSWERED : Fld := ⟨14, 1⟩
def thmCap_LOCAL : Fld := ⟨15, 1⟩
-- fields of THM_HEAT_CFG
def thmHeatCfg_AUTO : Fld := ⟨0, 1⟩
def thmHeatCfg_ZONED : Fld := ⟨1, 1⟩
def thmHeatCfg_FADE : Fld := ⟨8, 16⟩
def thmHeatCfg_RAISE_HOLD : Fld := ⟨24, 8⟩
-- fields of THM_CAP_CMD
def thmCapCmd_CAP : Fld := ⟨0, 13⟩
def thmCapCmd_ALL : Fld := ⟨13, 1⟩
def thmCapCmd_ZONE : Fld := ⟨14, 4⟩
def thmCapCmd_GO : Fld := ⟨18, 1⟩
-- fields of THM_HEAT_COUNT
def thmHeatCount_REQUESTS : Fld := ⟨0, 16⟩
def thmHeatCount_PENNANTS : Fld := ⟨16, 16⟩
-- fields of THM_ZONE_STATUS
def thmZoneStatus_TARGET : Fld := ⟨0, 13⟩
def thmZoneStatus_SENT : Fld := ⟨16, 13⟩
-- fields of THM_ZONE
def thmZone_ZONES : Fld := ⟨0, 32⟩
-- fields of PWR_DROOP_CFG
def pwrDroopCfg_THRESH : Fld := ⟨0, 5⟩
def pwrDroopCfg_HOLD : Fld := ⟨8, 12⟩
-- fields of PWR_DROOP_MASK
def pwrDroopMask_MASK : Fld := ⟨0, 16⟩
-- fields of PWR_STRETCH
def pwrStretch_DUTY : Fld := ⟨0, 10⟩
def pwrStretch_PEAK : Fld := ⟨16, 10⟩
-- fields of PWR_DROOP_COUNT
def pwrDroopCount_COUNT : Fld := ⟨0, 32⟩
-- fields of PWR_AVS_CFG
def pwrAvsCfg_EN : Fld := ⟨0, 1⟩
def pwrAvsCfg_RAIL : Fld := ⟨1, 4⟩
-- fields of PWR_AVS_STATUS
def pwrAvsStatus_TARGET : Fld := ⟨0, 10⟩
def pwrAvsStatus_READBACK : Fld := ⟨10, 10⟩
def pwrAvsStatus_LOST : Fld := ⟨20, 1⟩
def pwrAvsStatus_AT_MIN : Fld := ⟨21, 1⟩
def pwrAvsStatus_AT_MAX : Fld := ⟨22, 1⟩
-- fields of PWR_AVS_LIMITS
def pwrAvsLimits_VMIN : Fld := ⟨0, 10⟩
def pwrAvsLimits_VBOOT : Fld := ⟨10, 10⟩
def pwrAvsLimits_VMAX : Fld := ⟨20, 10⟩
-- fields of RSTCAUSE
def rstcause_SEEN : Fld := ⟨0, 8⟩
def rstcause_FIRST : Fld := ⟨8, 4⟩
def rstcause_REACH : Fld := ⟨12, 2⟩
def rstcause_WIDENED : Fld := ⟨14, 1⟩
def rstcause_FATAL_BLOCK : Fld := ⟨16, 8⟩
-- fields of RST_EPISODES
def rstEpisodes_CORE : Fld := ⟨0, 16⟩
def rstEpisodes_SYSTEM : Fld := ⟨16, 16⟩
-- fields of RST_CFG
def rstCfg_CMD_REACH : Fld := ⟨0, 1⟩
def rstCfg_WDT_PERIOD : Fld := ⟨8, 8⟩
-- fields of RST_FATAL_REACH
def rstFatalReach_SYSTEM : Fld := ⟨1, 23⟩
-- fields of RST_CMD
def rstCmd_KEY : Fld := ⟨0, 16⟩
def rstCmd_GO : Fld := ⟨16, 1⟩
-- fields of RST_WDT
def rstWdt_KICK : Fld := ⟨0, 16⟩
def rstWdt_WARNED : Fld := ⟨16, 1⟩
-- fields of SEC_FW_INFO
def secFwInfo_VERSION : Fld := ⟨0, 32⟩
def secFwInfo_SVN : Fld := ⟨32, 6⟩
def secFwInfo_FLOOR : Fld := ⟨40, 6⟩
-- fields of SEC_FW_STATUS
def secFwStatus_STATE : Fld := ⟨0, 2⟩
def secFwStatus_ACCEPTED : Fld := ⟨2, 1⟩
def secFwStatus_CAUSE : Fld := ⟨8, 8⟩
def secFwStatus_BOOT_CAUSE0 : Fld := ⟨16, 8⟩
def secFwStatus_BOOT_CAUSE1 : Fld := ⟨24, 8⟩
-- fields of SEC_FW_SLOT
def secFwSlot_ACTIVE : Fld := ⟨0, 1⟩
def secFwSlot_VALID0 : Fld := ⟨1, 1⟩
def secFwSlot_VALID1 : Fld := ⟨2, 1⟩
def secFwSlot_PENDING : Fld := ⟨3, 1⟩
def secFwSlot_TRIALS : Fld := ⟨4, 2⟩
def secFwSlot_BOOTED : Fld := ⟨6, 1⟩
def secFwSlot_FALLBACK : Fld := ⟨7, 1⟩
-- fields of SEC_FW_LOAD_ADDR
def secFwLoadAddr_ADDR : Fld := ⟨6, 58⟩
-- fields of SEC_FW_LOAD_CTRL
def secFwLoadCtrl_OP : Fld := ⟨0, 3⟩
def secFwLoadCtrl_FROM_FLASH : Fld := ⟨3, 1⟩
def secFwLoadCtrl_LENGTH : Fld := ⟨4, 13⟩
-- fields of SEC_MEAS
def secMeas_WORD : Fld := ⟨0, 32⟩
-- fields of SEC_RELAY_CTRL
def secRelayCtrl_TILE : Fld := ⟨0, 12⟩
def secRelayCtrl_LENGTH : Fld := ⟨12, 16⟩
def secRelayCtrl_GO : Fld := ⟨28, 1⟩
-- fields of SEC_RELAY_STATUS
def secRelayStatus_STATE : Fld := ⟨0, 2⟩
def secRelayStatus_RSP_LENGTH : Fld := ⟨2, 16⟩
-- fields of SEC_RELAY_BUF
def secRelayBuf_WORD : Fld := ⟨0, 32⟩
-- fields of EVT_ROUTE
def evtRoute_LOW_RING : Fld := ⟨0, 6⟩
def evtRoute_LOW_EN : Fld := ⟨6, 1⟩
def evtRoute_HIGH_RING : Fld := ⟨8, 6⟩
def evtRoute_HIGH_EN : Fld := ⟨14, 1⟩
-- fields of EVT_RING_BIND
def evtRingBind_QUEUE : Fld := ⟨0, 18⟩
def evtRingBind_EN : Fld := ⟨18, 1⟩
def evtRingBind_COALESCE : Fld := ⟨19, 8⟩
-- fields of EVT_RING_LOST
def evtRingLost_LOST : Fld := ⟨0, 16⟩
-- fields of EVT_CAP_PENDING
def evtCapPending_PENDING : Fld := ⟨1, 23⟩
-- fields of EVT_CAP_VECTOR
def evtCapVector_VECTOR : Fld := ⟨0, 11⟩
def evtCapVector_EN : Fld := ⟨11, 1⟩
-- fields of EVT_CAP_RECORD
def evtCapRecord_WORD : Fld := ⟨0, 32⟩
-- fields of EVT_CAP_CTRL
def evtCapCtrl_COUNT : Fld := ⟨0, 16⟩
def evtCapCtrl_VALID : Fld := ⟨16, 1⟩
def evtCapCtrl_OVERFLOW : Fld := ⟨17, 1⟩
-- fields of EVT_UP_CFG
def evtUpCfg_MIN_SEV : Fld := ⟨0, 3⟩
-- fields of EVT_UP_STATUS
def evtUpStatus_QUEUED : Fld := ⟨0, 7⟩
def evtUpStatus_LOST : Fld := ⟨16, 16⟩
-- fields of TIME_PTP_PARENT
def timePtpParent_ID : Fld := ⟨0, 64⟩
-- fields of ING_SRC_PKTS
def ingSrcPkts_PATH0 : Fld := ⟨0, 32⟩
def ingSrcPkts_PATH1 : Fld := ⟨32, 32⟩
-- fields of ING_PORT_IPV4
def ingPortIpv4_ADDR : Fld := ⟨0, 32⟩
-- fields of ING_PORT_MAC
def ingPortMac_MAC : Fld := ⟨0, 48⟩
-- fields of ING_PORT_IPV6
def ingPortIpv6_ADDR : Fld := ⟨0, 128⟩
-- fields of ING_FILTER_UDP
def ingFilterUdp_PORT : Fld := ⟨0, 16⟩
-- fields of ING_FILTER_DST
def ingFilterDst_ADDR : Fld := ⟨0, 128⟩
-- fields of ING_FILTER_SRC
def ingFilterSrc_ADDR : Fld := ⟨0, 128⟩
-- fields of CMP_WB_FRAME
def cmpWbFrame_FRAME : Fld := ⟨0, 48⟩
-- fields of CMP_LUT_E
def cmpLutE_ENTRY : Fld := ⟨0, 20⟩
-- fields of CMP_LUT_W
def cmpLutW_ENTRY : Fld := ⟨0, 20⟩
-- fields of COR_CAL_SEQ
def corCalSeq_SEQ : Fld := ⟨0, 32⟩
-- fields of RED_PARTNER
def redPartner_SERIAL : Fld := ⟨0, 64⟩
-- fields of RED_TILE_WIN_SERIAL
def redTileWinSerial_SERIAL : Fld := ⟨0, 64⟩
-- fields of CLP_PORT_BLOCKS
def clpPortBlocks_BLOCKS : Fld := ⟨0, 64⟩
-- fields of CLP_RING_BASE
def clpRingBase_BLOCK : Fld := ⟨0, 34⟩
-- fields of CLP_RING_LEN
def clpRingLen_BLOCKS : Fld := ⟨0, 34⟩
-- fields of CLP_RING_WPOS
def clpRingWpos_BLOCK : Fld := ⟨0, 64⟩
-- fields of CDC_ENC_MAXBITS
def cdcEncMaxbits_MAX_BITS : Fld := ⟨0, 32⟩
-- fields of CDC_ENC_OVERSHOOT
def cdcEncOvershoot_BITS : Fld := ⟨0, 32⟩
-- fields of RST_WDT_REMAIN
def rstWdtRemain_MS : Fld := ⟨0, 16⟩
-- fields of DSC_SEL
def dscSel_ADDR : Fld := ⟨0, 12⟩
-- fields of DSC_MEAS
def dscMeas_WORD : Fld := ⟨0, 32⟩
-- fields of MBX_CMD
def mbxCmd_WORD : Fld := ⟨0, 32⟩
-- fields of MBX_ENTRY
def mbxEntry_WORD : Fld := ⟨0, 32⟩
-- fields of HIF_PBA
def hifPba_PENDING : Fld := ⟨0, 32⟩
-- fields of HIF_MSIX
def hifMsix_WORD : Fld := ⟨0, 32⟩
-- fields of HIF_MSIX_CTRL
def hifMsixCtrl_MASK : Fld := ⟨0, 1⟩

end F

end Sys2Proof.Machine
end

