-- ==== Sys2Proof/Machine/Bits.lean ====
section
/-! DEFINITION. Bit fields, byte order, sign extension, saturation and the CRC-32 of the spec's containers. -/

namespace Sys2Proof.Machine

/-- The field `f` of a register value. -/
def fieldGet (v : Nat) (f : Fld) : Nat := v / 2 ^ f.lo % 2 ^ f.w

/-- The register value with field `f` set to `x`, cut to the field's width. -/
def fieldSet (v : Nat) (f : Fld) (x : Nat) : Nat :=
  v % 2 ^ f.lo + x % 2 ^ f.w * 2 ^ f.lo + v / 2 ^ (f.lo + f.w) * 2 ^ (f.lo + f.w)

/-- One bit of a value. -/
def bitOf (v i : Nat) : Bool := v / 2 ^ i % 2 == 1

/-- A value with one bit set or cleared. -/
def setBit (v i : Nat) (b : Bool) : Nat := fieldSet v ⟨i, 1⟩ b.toNat

/-- The signed reading of the low `w` bits (two's complement, Notation of the scope chapter). -/
def toSigned (w v : Nat) : Int :=
  let x := v % 2 ^ w
  if x < 2 ^ (w - 1) then x else (x : Int) - 2 ^ w

/-- The low `w` bits of an integer in two's complement. -/
def ofSigned (w : Nat) (v : Int) : Nat := (v % (2 ^ w : Int)).toNat

/-- Saturating addition at a bound, the rule of every counter that saturates. -/
def satAdd (bound a b : Nat) : Nat := min bound (a + b)

/-- A value clamped into a range. -/
def clampNat (lo hi v : Nat) : Nat := if v < lo then lo else if hi < v then hi else v

/-- An integer clamped into a range. -/
def clampInt (lo hi v : Int) : Int := if v < lo then lo else if hi < v then hi else v

/-- The little-endian bytes of a number. -/
def leBytes : Nat → Nat → List Nat
  | 0, _ => []
  | n + 1, v => v % 256 :: leBytes n (v / 256)

/-- The number that little-endian bytes spell. -/
def leVal : List Nat → Nat
  | [] => 0
  | b :: r => b + 256 * leVal r

/-- Division rounded up. -/
def ceilDiv (a b : Nat) : Nat := (a + b - 1) / b

/-- One bit step of the reflected CRC-32 of the IEEE 802.3 polynomial. -/
def crc32Bit (c : Nat) : Nat := if c % 2 = 1 then Nat.xor (c / 2) 0xEDB88320 else c / 2

/-- One byte step of the CRC-32. -/
def crc32Byte (c b : Nat) : Nat :=
  crc32Bit (crc32Bit (crc32Bit (crc32Bit (crc32Bit (crc32Bit (crc32Bit (crc32Bit (Nat.xor c b))))))))

/-- CRC-32 with the IEEE 802.3 polynomial (R34, R181, R199, R387). -/
def crc32 (bytes : List Nat) : Nat := Nat.xor (bytes.foldl crc32Byte 0xFFFFFFFF) 0xFFFFFFFF

/-- The first element that a test accepts, with its place. -/
def findIdxFrom {α : Type} (p : α → Bool) : Nat → List α → Option (Nat × α)
  | _, [] => none
  | i, a :: r => if p a then some (i, a) else findIdxFrom p (i + 1) r

/-- A list holds no element twice. -/
def distinct {α : Type} [DecidableEq α] : List α → Bool
  | [] => true
  | a :: r => !(r.contains a) && distinct r

/-- The element at a place set, the list unchanged where it has no such place. -/
def setAt {α : Type} (l : List α) (i : Nat) (a : α) : List α := l.set i a

/-- An element put into a sorted list, after its equals. -/
def insertBy {α : Type} (le : α → α → Bool) (a : α) : List α → List α
  | [] => [a]
  | b :: r => if le b a then b :: insertBy le a r else a :: b :: r

/-- A list sorted by insertion; equals keep their order. -/
def sortBy {α : Type} (le : α → α → Bool) (l : List α) : List α := l.foldl (fun r a => insertBy le a r) []

end Sys2Proof.Machine
end

