-- ==== Sys2Proof/Machine/ImageLayout.lean ====
section
/-! DEFINITION. The byte layouts of the Forjo image and of the firmware image: header, section table, the records of LAMPMAP, CORRBINS,
SLOTS and TILES, the plaintext of every section with its CRC, and the digests that are measured (R34, R35, R37, R77, R248, R286, R287, R387,
R393, R441). -/

namespace Sys2Proof

open Sys2Proof.Machine

/-! ### Records of the sections laid out by the spec -/

/-- A field of a record: its byte offset and its size in bytes. -/
def recField (v off n : Nat) : Nat := fieldGet v ⟨8 * off, 8 * n⟩

/-- A LAMPMAP channel entry (R286). -/
def channelOfWord (w : BitVec 64) : ChannelRec :=
  let f := recField w.toNat
  { drivers := f 0 1, lamps := f 2 2, gainR := f 4 1, gainG := f 5 1, gainB := f 6 1, reserved := f 1 1 != 0 || f 7 1 != 0 }

/-- A LAMPMAP lamp entry (R287). -/
def lampOfWord (w : BitVec 32) : LampRec :=
  { channel := fieldGet w.toNat ⟨0, 9⟩, driver := fieldGet w.toNat ⟨9, 5⟩, output := fieldGet w.toNat ⟨14, 4⟩,
    reserved := fieldGet w.toNat ⟨18, 13⟩, absent := bitOf w.toNat 31 }

/-- A CORRBINS record (R248). -/
def binOfWord (w : BitVec 512) : BinRec :=
  let f := recField w.toNat
  { bin := f 0x00 1, tref := toSigned 16 (f 0x02 2), tauMs := f 0x04 2, heatK := f 0x06 2, wr := f 0x08 1, wg := f 0x09 1, wb := f 0x0A 1,
    a1 := (List.range 3).map fun c => toSigned 32 (f (0x10 + 8 * c) 4), a2 := (List.range 3).map fun c => toSigned 32 (f (0x14 + 8 * c) 4),
    reservedZero := f 0x01 1 == 0 && f 0x0B 5 == 0 && f 0x28 24 == 0 }

/-- A SLOTS pattern record (R77). -/
def patternOfWord (w : BitVec 512) : PatternRec :=
  let f := recField w.toNat
  { index := f 0x00 1, slots := f 0x01 1, fpNum := f 0x04 4, fpDen := f 0x08 4,
    windows := (List.range 4).map fun k => (f (0x10 + 8 * k) 4, f (0x14 + 8 * k) 4),
    reservedZero := f 0x02 2 == 0 && f 0x0C 4 == 0 && f 0x30 16 == 0 }

/-- A TILES expectation record (R441). -/
def expectOfWord (w : BitVec 64) : ExpectRec := { geom := recField w.toNat 0 4, imageGen := recField w.toNat 4 4 }

/-- A TILES binding record (R441). -/
def bindOfWord (w : BitVec 256) : BindRec :=
  let f := recField w.toNat
  { serial := f 0x00 8, addr := f 0x08 2 % 4096, geom := f 0x0C 4, originX := f 0x10 2, originY := f 0x12 2, lane := f 0x14 1 }

/-- The reserved bits of a binding record are 0 (R441). -/
def bindReservedZero (w : BitVec 256) : Bool :=
  recField w.toNat 0x08 2 / 4096 == 0 && recField w.toNat 0x0A 2 == 0 && recField w.toNat 0x15 11 == 0

/-- LAMPMAP: the geometry block, the channel table and the lamp entries (R286, R287). -/
def ForjoBody.lampmap (b : ForjoBody) : LampMap :=
  { geom := b.geom, width := b.width, height := b.height, channels := b.channelWords.map channelOfWord, lamps := b.lampWords.map lampOfWord }

/-- CORRBINS (R248). -/
def ForjoBody.bins (b : ForjoBody) : List BinRec := b.binWords.map binOfWord

/-- SLOTS (R77). -/
def ForjoBody.patterns (b : ForjoBody) : List PatternRec := b.slotWords.map patternOfWord

/-- TILES (R441). -/
def ForjoBody.tiles (b : ForjoBody) : TilesSec :=
  let h := b.tilesHead.toNat
  { domain := fieldGet h ⟨0, 4⟩, expectsCount := recField h 0x04 2, bindingsCount := recField h 0x06 2,
    expects := b.expectWords.map expectOfWord, bindings := b.bindWords.map bindOfWord,
    reservedZero := fieldGet h ⟨4, 4⟩ == 0 && recField h 0x01 3 == 0 && recField h 0x08 56 == 0 && b.bindWords.all bindReservedZero }

/-- The bytes of records of `n` bytes. -/
def recordBytes {k : Nat} (n : Nat) (l : List (BitVec k)) : List Nat := l.flatMap fun w => leBytes n w.toNat

/-- The plaintext bytes of the section of a type. -/
def ForjoBody.plainOf (b : ForjoBody) (type : Nat) : List Nat :=
  let raw := ((b.plain.find? fun x => x.1 == type).map (·.2)).getD []
  match type with
  | 0x05 => raw ++ recordBytes 8 b.channelWords ++ recordBytes 4 b.lampWords
  | 0x06 => recordBytes 64 b.binWords
  | 0x07 => recordBytes 64 b.slotWords
  | 0x0A => leBytes 64 b.tilesHead.toNat ++ recordBytes 8 b.expectWords ++ recordBytes 32 b.bindWords
  | _ => raw

/-- The key identifier of SIGN, its first four bytes (the section contents table). -/
def ForjoBody.signKeyId (b : ForjoBody) : BitVec 32 := BitVec.ofNat 32 (leVal ((b.plainOf 0x0B).take 4))

/-! ### The Forjo header and its section table (R34, R35) -/

/-- The 128 header bytes before the CRC is judged: offsets 0x00 to 0x4B. -/
def forjoHeaderBytes (h : ForjoHeader) : List Nat :=
  leBytes 4 h.magic.toNat ++ leBytes 2 h.format.toNat ++ leBytes 2 h.hdrSize.toNat ++ leBytes 1 h.target.toNat ++
  leBytes 1 h.personality.toNat ++ leBytes 2 h.sections.toNat ++ leBytes 4 h.length.toNat ++ leBytes 4 h.imageGen.toNat ++
  leBytes 4 h.keyId.toNat ++ leBytes 4 h.minFw.toNat ++ leBytes 4 h.flags.toNat ++ leBytes 16 h.wallId.toNat ++
  leBytes 12 h.iv.toNat ++ leBytes 4 h.reserved3C.toNat ++ leBytes 8 h.built.toNat ++ leBytes 4 h.compiler.toNat

/-- The header that 128 stored bytes spell. -/
def forjoHeaderOf (b : List Nat) : ForjoHeader :=
  let f := fun o n => leVal ((b.drop o).take n)
  { magic := f 0x00 4, format := f 0x04 2, hdrSize := f 0x06 2, target := f 0x08 1, personality := f 0x09 1,
    sections := f 0x0A 2, length := f 0x0C 4, imageGen := f 0x10 4, keyId := f 0x14 4, minFw := f 0x18 4,
    flags := f 0x1C 4, wallId := f 0x20 16, iv := f 0x30 12, reserved3C := f 0x3C 4, built := f 0x40 8,
    compiler := f 0x48 4, hdrCrc := f 0x4C 4, reserved50 := f 0x50 48 }

/-- The section table entry that 32 stored bytes spell (R35). -/
def sectionEntryOf (b : List Nat) : SectionEntry :=
  let f := fun o n => leVal ((b.drop o).take n)
  { type := f 0x00 2, version := f 0x02 2, sflags := f 0x04 2, reserved06 := f 0x06 2, offset := f 0x08 4,
    length := f 0x0C 4, stored := f 0x10 4, crc := f 0x14 4, reserved18 := f 0x18 8 }

/-- The 32 bytes of a section table entry (R35). -/
def sectionEntryBytes (e : SectionEntry) : List Nat :=
  leBytes 2 e.type.toNat ++ leBytes 2 e.version.toNat ++ leBytes 2 e.sflags.toNat ++ leBytes 2 e.reserved06.toNat ++ leBytes 4 e.offset.toNat ++
  leBytes 4 e.length.toNat ++ leBytes 4 e.stored.toNat ++ leBytes 4 e.crc.toNat ++ leBytes 8 e.reserved18.toNat

/-- Step 6 of R37: the CRC-32 of every section's plaintext is the one in its table entry (R35). -/
def ForjoImage.crcsOk (i : ForjoImage) : Bool := i.entries.all fun e => crc32 (i.body.plainOf e.type.toNat) == e.crc.toNat

/-- The SHA-384 of the header, the section table and the plaintext sections, in table order without SIGN (step 7 of R37). -/
def ForjoImage.digest (i : ForjoImage) : Digest :=
  Config.sha384 (forjoHeaderBytes i.hdr ++ leBytes 4 i.hdr.hdrCrc.toNat ++ leBytes 48 i.hdr.reserved50.toNat ++
    i.entries.flatMap sectionEntryBytes ++ (i.entries.filter fun e => e.type != 0x000B#16).flatMap fun e => i.body.plainOf e.type.toNat)

/-- The image that stored bytes spell: header and table read here, the rest behind decryption. -/
def forjoOfBytes (b : List Nat) : ForjoImage :=
  let h := forjoHeaderOf b
  { hdr := h,
    entries := (List.range h.sections.toNat).map fun i => sectionEntryOf (b.drop (0x80 + 32 * i)),
    body := Config.openForjo b }

/-! ### The firmware image (R387) -/

/-- Header bytes 0x00 to 0x37. -/
def fwHeaderBytes (f : FwImage) : List Nat :=
  leBytes 4 f.magic.toNat ++ leBytes 2 f.format.toNat ++ leBytes 2 f.hdrSize.toNat ++ leBytes 2 f.product.toNat ++
  leBytes 1 f.builds.toNat ++ leBytes 1 f.flags.toNat ++ leBytes 4 f.keyId.toNat ++ leBytes 4 f.size.toNat ++
  leBytes 4 f.version.toNat ++ leBytes 1 f.svn.toNat ++ leBytes 3 f.reserved19.toNat ++ leBytes 12 f.iv.toNat ++
  leBytes 16 f.tag.toNat

/-- The firmware image that stored bytes spell. -/
def fwOfBytes (b : List Nat) : FwImage :=
  let g := fun o n => leVal ((b.drop o).take n)
  { magic := g 0x00 4, format := g 0x04 2, hdrSize := g 0x06 2, product := g 0x08 2, builds := g 0x0A 1, flags := g 0x0B 1,
    keyId := g 0x0C 4, size := g 0x10 4, version := g 0x14 4, svn := g 0x18 1, reserved19 := g 0x19 3, iv := g 0x1C 12,
    tag := g 0x28 16, hdrCrc := g 0x38 4, reserved3C := g 0x3C 4, sig := g 0x40 96, reservedA0 := g 0xA0 32, body := Config.openFw b }

/-- The SHA-384 of the header and the plaintext payload of a firmware image (R393, index 2). -/
def FwImage.digest (f : FwImage) : Digest :=
  Config.sha384 (fwHeaderBytes f ++ leBytes 4 f.hdrCrc.toNat ++ leBytes 4 f.reserved3C.toNat ++ leBytes 96 f.sig.toNat ++
    leBytes 32 f.reservedA0.toNat ++ f.body.plain)

end Sys2Proof
end

