-- ==== Sys2Proof/Machine/Sparse.lean ====
section
/-! DEFINITION. Sparse maps in one canonical form: keys strictly rising, no entry equal to what an unlisted key reads as.
The register file and the memories are such maps, so equal contents are equal data. -/

namespace Sys2Proof.Machine

/-- The entry of a key. -/
def sLookup {β : Type} : List (Nat × β) → Nat → Option β
  | [], _ => none
  | (k, v) :: r, x => if k = x then some v else sLookup r x

/-- The map without a key. -/
def sErase {β : Type} : List (Nat × β) → Nat → List (Nat × β)
  | [], _ => []
  | (k, v) :: r, x => if k = x then sErase r x else (k, v) :: sErase r x

/-- The map with an entry put in its place by key. -/
def sInsert {β : Type} : List (Nat × β) → Nat → β → List (Nat × β)
  | [], x, y => [(x, y)]
  | (k, v) :: r, x, y => if x < k then (x, y) :: (k, v) :: r else (k, v) :: sInsert r x y

/-- What a key reads as, `d` being what an unlisted key reads as. -/
def sRead {β : Type} (d : Nat → β) (m : List (Nat × β)) (k : Nat) : β := (sLookup m k).getD (d k)

/-- The map after a write; writing what an unlisted key reads as removes the entry. -/
def sWrite {β : Type} [DecidableEq β] (d : Nat → β) (m : List (Nat × β)) (k : Nat) (v : β) : List (Nat × β) :=
  if v = d k then sErase m k else sInsert (sErase m k) k v

/-- Every key of the map lies above a bound, keys strictly rising. -/
def sRising {β : Type} : Option Nat → List (Nat × β) → Bool
  | _, [] => true
  | b, (k, _) :: r => (match b with | none => true | some x => decide (x < k)) && sRising (some k) r

/-- The canonical form. -/
def sWf {β : Type} [DecidableEq β] (d : Nat → β) (m : List (Nat × β)) : Bool :=
  sRising none m && m.all fun e => !decide (e.2 = d e.1)

/-- An association list with a key's entry replaced or added at the end. -/
def aSet {β : Type} : List (Nat × β) → Nat → β → List (Nat × β)
  | [], k, v => [(k, v)]
  | (a, b) :: r, k, v => if a = k then (k, v) :: r else (a, b) :: aSet r k v

end Sys2Proof.Machine
end

