-- ==== Sys2Proof/Machine/State.lean ====
section
/-! DEFINITION. The state of the block as plain data, the reasons a step could stop with, and the state after reset.
Every register of the spec's register entries lives in `regs` under its BAR0 offset; what the chapters give the machine
beside its registers stands in the structures of this file, each with the rule that names it. -/

namespace Sys2Proof.Machine

/-! ### Fades (R306, R307) -/

/-- A fade of a factor (R306, R307): from A to B over FRAMES frames from F0, with a curve. -/
structure Fade where
  a : Int
  b : Int
  f0 : Int
  frames : Nat
  curve : Nat
  deriving DecidableEq, Repr

/-- A factor at 4,096 with no fade running. -/
def Fade.rest : Fade := { a := 4096, b := 4096, f0 := 0, frames := 1, curve := 0 }


/-! ### Fuses and boot flash (R386 to R392) -/

/-- What the fuses and the one-time-programmable memory hold. -/
structure Fuses where
  build : Build
  grade : Grade
  major : Nat
  minor : Nat
  serial : BitVec 64
  /-- KEY_IDs held, each with its revocation mark (R37, R387). -/
  keys : List (BitVec 32 × Bool)
  /-- The anti-rollback floor (R392). -/
  svnFloor : Nat
  /-- The lifecycle enables debug (R377). -/
  debug : Bool
  /-- The fused base MAC address of the Ethernet ports. -/
  macBase : Nat
  /-- The fused VMIN of the voltage loop in mV. -/
  vmin : Nat
  /-- For each thermal sensor its counts at 25 °C and at 105 °C (R357). -/
  trims : List (Nat × Nat)
  /-- The limits of the worst margin of the critical-path monitors below and above which the voltage loop moves (R373). -/
  marginLow : Int
  marginHigh : Int
  /-- The certificate chain (R395). -/
  certChain : List Byte
  deriving DecidableEq, Repr

/-- What a flash image slot holds: nothing, an image, or bytes that a BLK transfer wrote (R43, R222). -/
inductive Slot (α : Type) where
  | erased
  | image (i : α)
  | bytes (data : List Nat)
  deriving DecidableEq, Repr

/-- A settings block copy (R398): FORMAT, sequence number, whether its CRC-32 is right, and the pairs. -/
structure SettingsBlock where
  format : Nat
  seq : Nat
  crcOk : Bool
  pairs : List (Nat × Nat)
  deriving DecidableEq, Repr

/-- The boot flash (R386): the slot descriptor, the image slots, the settings copies and the calibration copies. -/
structure Flash where
  fwActive : Nat
  fwValid : List Bool
  fwPending : Bool
  fwTrials : Nat
  fw0 : Slot FwImage
  fw1 : Slot FwImage
  fjActive : Nat
  fjValid : List Bool
  fj0 : Slot ForjoImage
  fj1 : Slot ForjoImage
  settings0 : Option SettingsBlock
  settings1 : Option SettingsBlock
  /-- The calibration copies as bytes (R266); none is erased. -/
  cal0 : Option (List Nat)
  cal1 : Option (List Nat)
  deriving DecidableEq, Repr

/-! ### Resets and start-up (R376 to R394) -/

/-- The reset control: the level sources asserted, the reach in force, the deepest reach of the episode, the rails that are
low, the RESET_N drive, and the pulses that wait. -/
structure RstSt where
  /-- Codes of the level sources now asserted (0 PWR, 1 SUPPLY, 2 RESET_N, 4 THERM). -/
  asserted : List Nat
  /-- A reset episode runs. -/
  inReset : Bool
  /-- Reach in force now, 1 core, 2 system, 3 power-on. -/
  reach : Nat
  /-- Deepest reach of the episode (RSTCAUSE.REACH). -/
  deepest : Nat
  /-- Rails below their threshold (R425). -/
  lowRails : List Rail
  /-- The device drives RESET_N low (R379). -/
  driving : Bool
  /-- The RESET_N source follows the ball (R378). -/
  follows : Bool
  /-- A CMD reset of a tile waits for its WR_ACK (R383). -/
  tileCmd : Bool
  /-- The watchdog runs (R384). -/
  wdtRunning : Bool
  /-- FATAL events captured whose reset pulse is to come: block and capture time (R408). -/
  fatals : List (Nat × Nat)
  /-- A FATAL pulse has been asserted in the episode (R382). -/
  fatal : Bool
  deriving DecidableEq, Repr

/-- Where the boot ROM and the firmware stand (R388 to R391). -/
inductive BootPhase where
  | held
  | fetching (slot : Nat)
  | recovery
  | running (slot : Nat)
  deriving DecidableEq, Repr

/-- A firmware operation of SEC_FW_LOAD_CTRL in progress (R390). -/
structure FwOp where
  stage : Bool
  fromFlash : Bool
  image : Slot FwImage
  cause : Nat
  deriving DecidableEq, Repr

/-- Boot ROM and firmware state. -/
structure BootSt where
  phase : BootPhase
  /-- Slots refused in this boot. -/
  tried : List Nat
  /-- The running firmware. -/
  fw : Option FwImage
  /-- Inner digest of the latest extension of each index 1 to 5 (R393). -/
  inner : List Digest
  /-- The firmware of the running slot is confirmed (R391). -/
  confirmed : Bool
  op : Option FwOp
  deriving DecidableEq, Repr

/-! ### The Forjo loader (R38) -/

/-- The loader states of R38; `off` before the firmware runs. -/
inductive LdrPhase where
  | off | header | fetch | verify | build | ready | safeIdle
  deriving DecidableEq, Repr

/-- Where a candidate image comes from (TOP_IMAGE_INFO.SOURCE). -/
inductive ImgSource where
  | slot0 | slot1 | pcie
  deriving DecidableEq, Repr

/-- Loader state. -/
structure LdrSt where
  phase : LdrPhase
  source : ImgSource
  /-- The candidate's content. -/
  cand : Slot ForjoImage
  /-- Flash slots refused since the reset. -/
  tried : List Nat
  /-- The image in force. -/
  image : Option ForjoImage
  /-- The copy retained in HBM of an F build loaded over PCIe (R40). -/
  retained : Option ForjoImage
  /-- A STAGE, or the flash write of a LOAD_NOW, waits for its flash write: the image and its slot (R41). -/
  writing : Option (Slot ForjoImage × Nat)
  /-- A LOAD_NOW runs (R44). -/
  loadNow : Bool
  /-- LENGTH and PERSIST of the write that started it (R42). -/
  length : Nat
  persist : Bool
  /-- The rebuild after a core reset (R40, R400). -/
  rebuild : Bool
  /-- The endpoint is to retrain after a LOAD_NOW (R51). -/
  retrain : Bool
  deriving DecidableEq, Repr

/-! ### Register accesses (R10, R11) -/

/-- One item for each requester of R10. -/
structure PerReq (α : Type) where
  host : α
  mp : α
  claim0 : α
  claim1 : α
  deriving DecidableEq, Repr

/-- A requester's write staging buffer: the register and the lower words staged, each with its place (R11). -/
structure Staging where
  key : Nat
  words : List (Nat × Nat)
  deriving DecidableEq, Repr

/-- The bus state of the register space. -/
structure BusSt where
  /-- Each requester's one read latch: the whole value of the register whose low word it read last (R10, R64). -/
  latch : PerReq Nat
  staging : PerReq Staging
  /-- What the requester's last read returned. -/
  answer : PerReq Nat
  deriving DecidableEq, Repr

/-! ### Events (R401 to R415, R438) -/

/-- An event record (R401); `detail` holds words 3 to 7. -/
structure EventRec where
  block : Nat
  cause : Nat
  sev : Nat
  prog : Bool
  upstream : Bool
  merged : Bool
  lost : Bool
  ns32 : Nat
  tile : Nat
  domain : Nat
  unit : Nat
  d3 : Nat
  d4 : Nat
  d5 : Nat
  d6 : Nat
  d7 : Nat
  deriving DecidableEq, Repr

/-- The merging of one key of code, tile and unit (R412): time of the last record emitted, and the count since. -/
structure MergeRec where
  code : Nat
  tile : Nat
  unit : Nat
  last : Nat
  count : Nat
  deriving DecidableEq, Repr

/-- Event state: records on their way to a ring, rings whose next record carries LOST, the time of each ring's last message
and whether one shared message waits (R410), the upstream queue of a tile and its LOST mark (R413, R414), the merge keys,
the times of rate-limited events (R438), and the tile-wide event count (R224). -/
structure EvtSt where
  landing : List (Nat × EventRec)
  lostNext : List Nat
  lastMsg : List (Nat × Nat)
  coalesced : List Nat
  upstream : List EventRec
  upLost : Bool
  merges : List MergeRec
  limits : List (Nat × Nat × Nat)
  count : Nat
  deriving DecidableEq, Repr

/-! ### Host endpoint, remote window and mailbox (R46 to R61) -/

/-- The BAR set that the endpoint announces (R50). -/
inductive BarSet where
  | none | bar0 | all
  deriving DecidableEq, Repr

/-- A posted remote write that has been sent (R57): its TAG and the CLAIM it carries, its offset in the sub-window, and the tiles
that still have to answer. -/
structure RemoteWr where
  tag : Nat
  claim : Nat
  offset : Nat
  broadcast : Bool
  waiting : List Nat
  deriving DecidableEq, Repr

/-- What a remote read asks for: the word at an offset of the sub-window, and which of its bytes the host addressed, the first and
how many (R9). -/
structure ReadPart where
  offset : Nat
  first : Nat
  bytes : Nat
  deriving DecidableEq, Repr

/-- A remote read that has been sent (R58). -/
structure RemoteRd where
  tag : Nat
  claim : Nat
  part : ReadPart
  deriving DecidableEq, Repr

/-- An access to a sub-window, or a write of its HIF_REMOTE_SEL, that waits for those before it (R57). -/
inductive RemoteOp where
  | write (offset data : Nat)
  | read (part : ReadPart)
  | sel (value : Nat)
  deriving DecidableEq, Repr

/-- A sub-window of the remote tile window: the writes sent and not yet acknowledged, oldest first, the read sent, and what
waits. -/
structure SubWindow where
  writes : List RemoteWr
  read : Option RemoteRd
  queue : List RemoteOp
  deriving DecidableEq, Repr

/-- A sub-window with nothing under way. -/
def SubWindow.idle : SubWindow := { writes := [], read := none, queue := [] }

/-- The endpoint: in reset, link up, the BARs announced, whether configuration requests are answered with Configuration
Request Retry Status, what the last one was answered with, the DOE instance, and the MSI-X messages sent. -/
structure HifSt where
  perst : Bool
  linkUp : Bool
  bars : BarSet
  crs : Bool
  lastCfgRetry : Bool
  doeError : Bool
  doeBusy : Bool
  /-- The protocols that the latest DOE Discovery was answered with (R55). -/
  doeAnswer : Option (List DoeProtocol)
  windows : List SubWindow
  msix : List Nat
  /-- Writes to host memory: address and bytes, oldest first. -/
  hostWrites : List (Nat × List Nat)
  /-- The Max Payload Size that the host has set, in bytes (R46, R122). -/
  mps : Nat
  /-- The latency tolerance in ns that the latest LTR message reported (R48). -/
  ltr : Nat
  deriving DecidableEq, Repr

/-- A mailbox entry (R60): free, submitted, or done. -/
inductive MbxState where
  | free | submitted | done
  deriving DecidableEq, Repr

/-! ### Attestation (R55, R396, R397) -/

/-- What the SPDM responder answers (R396). -/
inductive SpdmAnswer where
  | version
  | capabilities (cert chal measSigned keyExchange psk session : Bool)
  | algorithms (ecdsaP384 sha384 : Bool)
  | digests (slot0 : Digest)
  | certificate (chain : List Byte)
  | challenge (signature : BitVec 768)
  | measurements (items : List (Nat × Bool × Digest)) (signature : Option (BitVec 768))
  | unsupportedRequest
  deriving DecidableEq, Repr

/-- A message of parts in assembly (R221): sender's claim, SEQ, message number, next part and bytes so far. -/
structure Assembly where
  port : Nat
  claim : Nat
  message : Nat
  nextPart : Nat
  bytes : List Nat
  deriving DecidableEq, Repr

/-- Attestation state: the answers given (newest last), the message being received in a tile, the message number of the
relay, and what the relay has collected. -/
structure SpdmSt where
  answers : List (SpdmVia × SpdmAnswer)
  rx : List Assembly
  relayMsg : Nat
  relayTile : Nat
  relayRx : List Nat
  relayPart : Nat
  /-- Complete SPDM_REQ messages of a tile that the responder has not answered: port, claim, SEQ, message number (R221). -/
  waiting : List (Nat × Nat × Nat × Nat)
  deriving DecidableEq, Repr

/-- Boot state while a reset holds. -/
def BootSt.reset : BootSt :=
  { phase := .held, tried := [], fw := none, inner := List.replicate 5 0#384, confirmed := false, op := none }

/-- Loader state while a reset holds. -/
def LdrSt.reset : LdrSt :=
  { phase := .off, source := .slot0, cand := .erased, tried := [], image := none, retained := none, writing := none,
    loadNow := false, length := 0, persist := false, rebuild := false, retrain := false }

/-- No register latched, nothing staged. -/
def BusSt.reset : BusSt :=
  { latch := ⟨0, 0, 0, 0⟩, staging := ⟨⟨0, []⟩, ⟨0, []⟩, ⟨0, []⟩, ⟨0, []⟩⟩, answer := ⟨0, 0, 0, 0⟩ }

/-- No event under way. -/
def EvtSt.reset : EvtSt :=
  { landing := [], lostNext := [], lastMsg := [], coalesced := [], upstream := [], upLost := false, merges := [],
    limits := [], count := 0 }

/-- The endpoint before its link trains. -/
def HifSt.reset : HifSt :=
  { perst := false, linkUp := false, bars := .none, crs := true, lastCfgRetry := false, doeError := false, doeBusy := false,
    doeAnswer := none, windows := List.replicate 4 SubWindow.idle, msix := [],
    hostWrites := [], mps := 128, ltr := 0xFFFF }

/-- No attestation exchange under way. -/
def SpdmSt.reset : SpdmSt :=
  { answers := [], rx := [], relayMsg := 0, relayTile := 0, relayRx := [], relayPart := 0, waiting := [] }


/-! ### Time counter (R62 to R64) -/

/-- The time counter: whole nanoseconds since the epoch, the fraction in units of 2^-32 ns, and whether it runs. -/
structure ClockSt where
  now : Nat
  frac : Nat
  running : Bool
  deriving DecidableEq, Repr

/-! ### Memory and queues (R108, R114) -/

/-- A queue context (R114, R117, QM_CTX registers). -/
structure QueueCtx where
  enabled : Bool
  sizeLog2 : Nat
  esize : Nat
  hostSpace : Bool
  pin : Bool
  vector : Nat
  base : Nat
  p : Nat
  c : Nat
  /-- A DISABLE waits for the consumer's current entry (R118). -/
  disabling : Bool
  deriving DecidableEq, Repr


/-- A queue context as reset leaves it: the QM_CTX registers' reset values. -/
def QueueCtx.fresh : QueueCtx :=
  { enabled := false, sizeLog2 := 6, esize := 1, hostSpace := false, pin := false, vector := 0, base := 0, p := 0, c := 0,
    disabling := false }


/-! ### Time servo, PTP, link delays, sequencer, Pennants (R62 to R88) -/

/-- What PTP knows of one of its two ports (R69, R70): the data set of the best master heard, the Sync that waits for its
Follow_Up (sequence, receive stamp, correction), and the Delay_Req sent (sequence, stamp) with the last completed delay
pair, reference minus local, in 2^-16 ns. -/
structure PtpPort where
  best : Option PtpDataset
  sync : Option (Nat × Int × Int)
  req : Option (Nat × Int)
  reqSeq : Nat
  pair : Option Int
  deriving DecidableEq, Repr

/-- The delay measurement of one Halyard port (R73, R217): the last exchanges, in 2^-16 ns, the requests that wait for their
answer (REQ_ID and stamp), and the request count. -/
structure LinkSt where
  port : Nat
  samples : List Int
  waiting : List (Nat × Int)
  count : Nat
  deriving DecidableEq, Repr

/-- The servo (R65 to R73, R442, R443): the reference in use, the measurement history and the offsets of ACQUIRE in
2^-16 ns, the counts of consecutive measurements, the sum of the filtered offsets that the integral gain weighs, the addends set
with their times, the last edge of the pin in use, the two PTP ports, the links, the beacon count, when the pulse of PPS_OUT under
way ends, and the serial of the source that Ensigns come from. -/
structure TimeSt where
  inUse : Nat
  hist : List Int
  acq : List Int
  lockRun : Nat
  needRun : Nat
  farRun : Nat
  integral : Int
  addends : List (Nat × Nat)
  edge : Option Int
  ptpA : PtpPort
  ptpB : PtpPort
  links : List LinkSt
  beacons : Nat
  pps : Option Nat
  source : Option Nat
  /-- Serial and epoch of the winner whose Ensign this tile has used (R87). -/
  used : Option (Nat × Nat)
  deriving DecidableEq, Repr

/-- A PTP port that has heard nothing. -/
def PtpPort.reset : PtpPort := { best := none, sync := none, req := none, reqSeq := 0, pair := none }

/-- The servo after a system reset. -/
def TimeSt.reset : TimeSt :=
  { inUse := 0, hist := [], acq := [], lockRun := 0, needRun := 0, farRun := 0, integral := 0, addends := [(0, 0xD5555555)],
    edge := none, ptpA := PtpPort.reset, ptpB := PtpPort.reset, links := [], beacons := 0, pps := none, source := none, used := none }

/-- The sequencer states of R82. -/
inductive SeqState where
  | idle | run | reduced
  deriving DecidableEq, Repr

/-- A mode switch (R86): effective time in ns, pattern, action and WALL. -/
structure ModeSwitch where
  time : Nat
  pattern : Nat
  action : Nat
  wall : Bool
  deriving DecidableEq, Repr

/-- A state that the sequencer enters at a frame boundary: at the first boundary of the pattern at or after `from_`. -/
structure SeqTarget where
  state : SeqState
  from_ : Nat
  deriving DecidableEq, Repr

/-- The sequencer (R82 to R88): its state, the pattern in force, the domain action, a state to enter at a frame boundary,
the switch being checked or pending, the instant from which the pattern's boundaries are used, whether a picture has been
latched since the last system reset, the state that a core reset interrupted, the dark hold of MODE_UNKNOWN, whether ADMIT 0
waits for a frame boundary, the frame that has seen PIX, and REDUCE_DIV and REDUCE_CONTENT in force. -/
structure SeqSt where
  state : SeqState
  pattern : Nat
  domainAction : SeqState
  target : Option SeqTarget
  /-- The instant from which the boundaries of the pattern in force are used (R86, R87). -/
  since : Nat
  checking : Option ModeSwitch
  pendingMode : Option ModeSwitch
  latched : Bool
  interrupted : Option SeqState
  dark : Bool
  demote : Bool
  pixSeen : Bool
  noPixRaised : Bool
  /-- The frame in progress has been in RUN from its start (R83). -/
  whole : Bool
  div : Nat
  content : Nat
  /-- The sequencer has left IDLE since the last system or core reset (R317). -/
  left : Bool
  /-- A RUN waits in a tile for the end of a calibration APPLY (R269). -/
  delayed : Bool
  deriving DecidableEq, Repr

/-- The sequencer after a system reset. -/
def SeqSt.reset : SeqSt :=
  { state := .idle, pattern := 0, domainAction := .idle, target := none, since := 0, checking := none, pendingMode := none,
    latched := false, interrupted := none, dark := false, demote := false, pixSeen := false, noPixRaised := false, whole := false,
    div := 1, content := 0, left := false, delayed := false }

/-- A Pennant that a feed unit is sending (R84, R220): its id, type, destination, body (bytes 8 on), and copies sent. -/
structure PennantOut where
  id : Nat
  type : Nat
  dst : Nat
  body : List Nat
  copies : Nat
  deriving DecidableEq, Repr

/-- Pennants: those being sent, the next id, the ids that this tile has acted on, and the cap Pennants in force (R261). -/
structure PenSt where
  out : List PennantOut
  nextId : Nat
  acted : List Nat
  caps : List PennantOut
  deriving DecidableEq, Repr

/-- No Pennant under way. -/
def PenSt.reset : PenSt := { out := [], nextId := 1, acted := [], caps := [] }



/-! ### Sources and Ethernet (R89 to R107) -/

/-- A picture in memory as a layer reads it: ring geometry, format and slot (R89, R134), whether the decoder marked it CONCEALED
(R150), and its number among the source's completed frames, which tells source frames of one slot apart (R151). -/
structure PicRef where
  source : Nat
  base : Nat
  slotBytes : Nat
  lineBytes : Nat
  format : Nat
  width : Nat
  height : Nat
  slot : Nat
  concealed : Bool
  serial : Nat
  deriving DecidableEq, Repr

/-- A network frame being received (R92): RTP timestamp, slot, the extended sequence numbers landed, the marker's number,
whether it is discarded, and whether it ended as damaged because its marker never arrived. -/
structure NetFrame where
  ts : Nat
  slot : Nat
  seqs : List Nat
  marker : Option Nat
  discarded : Bool
  ended : Bool
  deriving DecidableEq, Repr

/-- A packet of an HEVC flow that waits for one before it (R107): its extended sequence number, its RTP timestamp and marker, and what it
carries. -/
structure HevcHeld where
  seq : Nat
  ts : Nat
  marker : Bool
  payload : HevcPayload
  deriving DecidableEq, Repr

/-- The reception of an HEVC flow (R107): the timestamp of the access unit under way, the extended sequence number last taken,
the packets that wait for it in ascending number, the fragmentation unit under way, the bytes of the access unit so far, and the access
units handed to the decoder. -/
structure HevcRx where
  ts : Option Nat
  last : Option Nat
  held : List HevcHeld
  fu : Option (List Nat)
  au : List Nat
  done : List (List Nat)
  deriving DecidableEq, Repr

/-- A source beside its registers (R90 to R95): whether a frame has completed since it last entered WAIT, how many frames it has
completed, how many of them wait unbound, when the newest completed, the bound picture, the slots held with the wall frames that hold
them (R90), the slots whose picture is concealed, the frames in flight, the number of the last marker, the RTP timestamps of the frames
that ended last (R106), the HEVC reception, and what the last binding instant found: 1 a new frame, 2 a repeat, 3 late, 0 none ever. -/
structure SrcSt where
  any : Bool
  done : Nat
  fresh : Nat
  doneAt : Option Nat
  bound : Option PicRef
  /-- When the bound frame completed. -/
  boundAt : Option Nat
  holds : List (Nat × Nat)
  concealed : List Nat
  flights : List NetFrame
  lastMarker : Option Nat
  ended : List Nat
  hevc : HevcRx
  found : Nat
  deriving DecidableEq, Repr

/-- A source that has delivered nothing. -/
def SrcSt.reset : SrcSt :=
  { any := false, done := 0, fresh := 0, doneAt := none, bound := none, boundAt := none, holds := [], concealed := [], flights := [],
    lastMarker := none, ended := [], hevc := { ts := none, last := none, held := [], fu := none, au := [], done := [] }, found := 0 }

/-- A record of a membership report (R102): the group, whether its mode is EXCLUDE, and its sources. -/
structure GroupRec where
  group : Nat
  exclude : Bool
  sources : List Nat
  deriving DecidableEq, Repr

/-- A frame that an Ethernet port transmits (R99): a membership report in the version of IGMP or MLD spoken, with its sender's address
(R102), an ARP reply, a neighbour advertisement, a PTP Delay_Req. In the versions without sources an INCLUDE record without sources
says that the group is left. -/
inductive EthTx where
  | report (port : Nat) (vid : Nat) (v6 : Bool) (version : Nat) (sender : Nat) (groups : List GroupRec)
  | arpReply (port : Nat) (vid : Nat) (ip : Nat)
  | ndAdvert (port : Nat) (vid : Nat) (ip : Nat)
  | delayReq (port : Nat) (vid : Nat) (v6 : Bool) (unicast : Option Nat) (seq : Nat)
  deriving DecidableEq, Repr

/-- Ingest: the sources set up so far by number, the frames transmitted, the ports whose report waits for its repeat with the groups
they have left, each with its family, and the queriers' compatibility modes (R102). -/
structure IngSt where
  srcs : List (Nat × SrcSt)
  sent : List EthTx
  repeats : List (Nat × List (Bool × Nat))
  compat : List (Nat × Nat)
  deriving DecidableEq, Repr

/-- Ingest after a system reset. -/
def IngSt.reset : IngSt := { srcs := [], sent := [], repeats := [], compat := [] }



/-! ### DMA and HBM (R109 to R128) -/

/-- A DMA descriptor (the DMA descriptor table). -/
structure DmaDesc where
  srcSpace : Nat
  dstSpace : Nat
  pulse : Bool
  trig : Nat
  circSrc : Bool
  circDst : Bool
  length : Nat
  src : Nat
  dst : Nat
  srcLog2 : Nat
  dstLog2 : Nat
  tag : Nat
  deriving DecidableEq, Repr

/-- A channel at work (R122 to R127): its descriptor, the bytes issued, the bursts issued and not yet complete (offset and
length), the descriptor just completed without PULSE, whose write beats may still be answered with an error (R126), and whether a
host reset waits for the bursts already issued (R49). -/
structure DmaCh where
  ch : Nat
  desc : Option DmaDesc
  issued : Nat
  bursts : List (Nat × Nat)
  prev : Option DmaDesc
  hostReset : Bool
  deriving DecidableEq, Repr

/-- A channel with nothing under way. -/
def DmaCh.idle (c : Nat) : DmaCh := { ch := c, desc := none, issued := 0, bursts := [], prev := none, hostReset := false }

/-- DMA state: the channels at work, the request lines asserted, and the channels that have issued a burst, the latest last
(R123). -/
structure DmaSt where
  chans : List DmaCh
  drq : List Nat
  served : List Nat
  deriving DecidableEq, Repr

/-- No channel at work. -/
def DmaSt.reset : DmaSt := { chans := [], drq := [], served := [] }



/-! ### Composition and commit (R129 to R161) -/

/-- One lamp's three colours. -/
structure Rgb where
  r : Nat
  g : Nat
  b : Nat
  deriving DecidableEq, Repr

/-- A layer beside its registers: the picture it shows, the last one it showed that was not concealed (R150), whether an
underrun has cut it short for the frame (R149), and the position of that underrun in the walk: slot, band, row, column. -/
structure LayerSt where
  quarter : Nat
  layer : Nat
  shown : Option PicRef
  clean : Option PicRef
  cut : Option (Nat × Nat × Nat × Nat)
  /-- EN was set and the source has not yet supplied a frame (R148, OFF). -/
  first : Bool
  deriving DecidableEq, Repr

/-- A composed band of one slot of one frame (R129): the band, its first column, its rows from the top; rows at or after an
abandonment are absent (R130). -/
structure BandPic where
  band : Nat
  frame : Nat
  slot : Nat
  x0 : Nat
  /-- When the composition of the slot starts, and its deadline D (R129, R130). -/
  start : Int
  deadline : Int
  /-- The slots of the frame that are composed (R82, R86). -/
  slots : List Nat
  rows : List (List Rgb)
  deriving DecidableEq, Repr

/-- A commit accepted and not yet applied: generation, effective frame, WALL, whether the frame is the partner's (R329), and
whether COMMIT_SKEW has been raised for it. -/
structure CommitPend where
  gen : Nat
  frame : Nat
  wall : Bool
  followed : Bool
  skewed : Bool
  deriving DecidableEq, Repr

/-- Composition and commit: the layers, the bands composed, the write-back frame under way and whether it is incomplete, the
write-back slot last written, the commit being checked (generation, WALL) or pending. -/
structure CmpSt where
  layers : List LayerSt
  bands : List BandPic
  wbFrame : Option Nat
  wbBad : Bool
  wbNext : Nat
  checking : Option (Nat × Bool)
  pend : Option CommitPend
  /-- The fade of each layer that has one, by quarter × 8 + layer (R306). -/
  fades : List (Nat × Fade)
  /-- The effective frame of the last commit, and the values in force before it: pictures of earlier frames use them (R85). -/
  prev : Option (Nat × List (Nat × Nat))
  deriving DecidableEq, Repr

/-- Nothing composed, no commit under way. -/
def CmpSt.reset : CmpSt :=
  { layers := [], bands := [], wbFrame := none, wbBad := false, wbNext := 0, checking := none, pend := none,
    fades := [], prev := none }



/-! ### Lanes (R175 to R194) -/

/-- A lane beside its registers (R179 to R193): consecutive expiries of LOCK, whether a good CAPS record of the partner has
been acknowledged and its bytes, whether the partner has acknowledged ours, whether HOLDOFF has raised its event since ACTIVE
was last left, the counts of low and of recovered FOM measurements and whether LOW_MARGIN stands, the DFE taps from the second
on, the partner's FFE request that waits for the next marker, an accepted LANE_TEST.EN that waits for its 100 µs, whether the
PRBS counters start anew at the next lock, the slips and the injected bits since EN, and the CAPS record last sent. -/
structure LaneSt where
  lane : Nat
  lockFails : Nat
  record : Option (List Nat)
  acked : Bool
  holdSeen : Bool
  low : Nat
  good : Nat
  lowMargin : Bool
  taps : List Int
  ffe : Option (Nat × Nat × Nat)
  ffeOut : Option (Nat × Nat × Nat)
  rxPos : Nat
  armed : Bool
  startCount : Bool
  slips : Nat
  injected : Nat
  capsSent : List Nat
  deriving DecidableEq, Repr

/-- A lane as a system reset leaves it. -/
def LaneSt.fresh (l : Nat) : LaneSt :=
  { lane := l, lockFails := 0, record := none, acked := false, holdSeen := false, low := 0, good := 0, lowMargin := false,
    taps := [], ffe := none, ffeOut := none, rxPos := 0, armed := false, startCount := true, slips := 0, injected := 0, capsSent := [] }

/-- The lanes used so far, and the lane references declared lost (R194). -/
structure LanesSt where
  lanes : List LaneSt
  refLost : List Nat
  deriving DecidableEq, Repr

/-- Lanes after a system reset. -/
def LanesSt.reset : LanesSt := { lanes := [], refLost := [] }



/-! ### Halyard ports (R198 to R207, R439) -/

/-- The credit counts of one pool of one port, modulo 4,096 (R206): SENT, the partner's FREED and SENT, and the credits of
packets this side still holds; `changed` is when the partner's FREED last changed, `waitFrom` since when the oldest packet waits. -/
structure PoolCredit where
  sent : Nat
  partnerFreed : Nat
  partnerSent : Nat
  held : Nat
  changed : Nat
  waitFrom : Option Nat
  deriving DecidableEq, Repr

/-- A packet on its way in (R197): its bytes so far, and whether every codeword under it was corrected. -/
structure RxPacket where
  bytes : List Nat
  clean : Bool
  deriving DecidableEq, Repr

/-- One Halyard port: its first lane, its credits, the CREDIT block last sent, and the packet that it is receiving. -/
structure HalPort where
  port : Nat
  ctl : PoolCredit
  blk : PoolCredit
  /-- The bytes of the CREDIT block last sent (R196). -/
  block : List Nat
  rx : Option RxPacket
  deriving DecidableEq, Repr

/-- A packet queued at an egress (R203): the egress port, the packet, whether it goes out stomped, for a packet being forwarded its ingress
port and, where it holds credits there, the number of that hold (R206), and the stamp of its arrival (R74, R217). -/
structure Queued where
  port : Nat
  pkt : Packet
  stomped : Bool
  ingress : Option Nat
  hold : Option Nat
  arrived : Int
  started : Bool
  deriving DecidableEq, Repr

/-- The credits of a received packet that are not yet freed (R206): the number of the hold, the ingress port, the packet, the copies that
still need it, and whether one of them is the part that a WRITE_BLOCK has to store (R223). -/
structure CreditHold where
  id : Nat
  port : Nat
  pkt : Packet
  copies : Nat
  write : Bool
  deriving DecidableEq, Repr

/-- A BLK transfer of a tile (R222, R223). -/
structure BlkTransfer where
  transfer : Nat
  target : Nat
  total : Nat
  bytes : Nat
  packets : Nat
  failed : Bool
  claim : Nat
  deriving DecidableEq, Repr

/-- The Halyard state: the ports, the packets queued at the egresses (oldest first), the packets sent (newest last),
the upstream packets a feed unit has accepted for the duplicate check of R224, the transfers of a tile, the sequence
counters. -/
structure HalSt where
  ports : List HalPort
  queue : List Queued
  accepted : List (Nat × Nat × Nat)
  transfers : List BlkTransfer
  senderCount : Nat
  nextHold : Nat
  holds : List CreditHold
  blkAcks : List (Nat × Nat × Nat)
  deriving DecidableEq, Repr

/-- No port, nothing queued. -/
def HalSt.reset : HalSt :=
  { ports := [], queue := [], accepted := [], transfers := [], senderCount := 0, nextHold := 0, holds := [],
    blkAcks := [] }

/-- A pool as every entry to ACTIVE leaves it: all four counts 0 (R206). -/
def PoolCredit.reset : PoolCredit :=
  { sent := 0, partnerFreed := 0, partnerSent := 0, held := 0, changed := 0, waitFrom := none }

/-! ### The PIX that a feed unit sends (R151, R213, R325) -/

/-- What a port has sent of a frame: the packets passed in each slot, the count and the sum of the hashes of the packets sent,
and whether the DIGEST is sent. -/
structure PixCursor where
  port : Nat
  frame : Nat
  passed : List (Nat × Nat)
  packets : Nat
  sum : Nat
  done : Bool
  deriving DecidableEq, Repr

/-- A fragment generation of one tile and layer (R151): address, layer, FRAG_GEN, the picture it was cut from. -/
structure FragGen where
  addr : Nat
  layer : Nat
  gen : Nat
  pic : PicRef
  deriving DecidableEq, Repr

/-- A packet of a frame that a port has still to send in layer mode, with the source and slot that a fragment was cut from (R90). -/
structure PixOut where
  port : Nat
  frame : Nat
  pkt : Packet
  cut : Option (Nat × Nat)
  deriving DecidableEq, Repr

/-- PIX on its way: the cursors, in layer mode the packets of a frame that a port has still to send, and the fragment
generations. -/
structure PixSt where
  cursors : List PixCursor
  out : List PixOut
  gens : List FragGen
  /-- The latest frame for which layer mode has made packets. -/
  made : Option Nat
  deriving DecidableEq, Repr

/-- No PIX sent. -/
def PixSt.reset : PixSt := { cursors := [], out := [], gens := [], made := none }



/-! ### Discovery (R228 to R240) -/

/-- What an ANSWER reports (R225). -/
structure AnswerRec where
  serial : Nat
  ingress : Nat
  addr : Nat
  domain : Nat
  geom : Nat
  gen : Nat
  fw : Nat
  ports : List Nat
  depth : Nat
  cycle : Bool
  meas : List Nat
  deriving DecidableEq, Repr

/-- The states of a walk between two commands (R229); COMPARE ends within the step that enters it. -/
inductive WalkPhase where
  | idle | hold | walk
  deriving DecidableEq, Repr

/-- The walk of one port (R229): its state, WALK_ID, the answers, a trigger that waits, and whether this is the second WALK. -/
structure PortWalk where
  port : Nat
  phase : WalkPhase
  id : Nat
  answers : List AnswerRec
  trigger : Bool
  again : Bool
  deriving DecidableEq, Repr

/-- What the table keeps of an address beside DSC_TOPO: the last answer's values, the walks missed, the generation and
measurement recorded when last ADMITTED (R238), the width and height read from DSC_SELF, LANE_CFG of its ingress lane (R213, 0 until it is
read). -/
structure TileEntry where
  addr : Nat
  serial : Nat
  geom : Nat
  gen : Nat
  fw : Nat
  meas : List Nat
  missed : Nat
  recorded : Option (Nat × List Nat)
  width : Nat
  height : Nat
  hop : Nat
  deriving DecidableEq, Repr

/-- An ASSIGN or ADMIT without its answer (R233): address, port, packet, sends so far. -/
structure DscWait where
  addr : Nat
  port : Nat
  pkt : Packet
  sends : Nat
  deriving DecidableEq, Repr

/-- A walk that a tile has answered (R230): WALK_ID, claim, port of the first copy, its time, and whether the CYCLE answer is
given. -/
structure WalkSeen where
  id : Nat
  claim : Nat
  port : Nat
  time : Nat
  cycle : Bool
  deriving DecidableEq, Repr

/-- A word of a route mask written to a tile (R240): tile, branch port, word, value, TAG of the WRITE, and whether it is acknowledged. -/
structure MaskSent where
  tile : Nat
  branch : Nat
  word : Nat
  value : Nat
  tag : Nat
  acked : Bool
  deriving DecidableEq, Repr

/-- Discovery: the walks, the next WALK_ID, the table, the unanswered sends and those given up until the next walk, the route masks sent, the
generation whose changed origins have been sent (R234), and in a tile the walks answered and its canvas origin. -/
structure DscSt where
  walks : List PortWalk
  nextWalk : Nat
  table : List TileEntry
  waits : List DscWait
  failed : List DscWait
  masks : List MaskSent
  originsFor : Option Nat
  seen : List WalkSeen
  origin : Option (Nat × Nat)
  deriving DecidableEq, Repr

/-- Discovery after a system reset. -/
def DscSt.reset : DscSt :=
  { walks := [], nextWalk := 1, table := [], waits := [], failed := [], masks := [], originsFor := none, seen := [], origin := none }



/-! ### Pictures in a tile (R24, R209 to R215, R324) -/

/-- A slice held for a slot picture under reception (R209, R324). -/
structure SliceRec where
  frame : Nat
  slot : Nat
  index : Nat
  row : Nat
  col : Nat
  lamps : List Rgb
  preferred : Bool
  deriving DecidableEq, Repr

/-- A part of a fragment held (R210, R324). -/
structure PartRec where
  layer : Nat
  gen : Nat
  part : Nat
  last : Bool
  preferred : Bool
  data : List Nat
  deriving DecidableEq, Repr

/-- A complete fragment (R151, R210). -/
structure Fragment where
  layer : Nat
  gen : Nat
  width : Nat
  height : Nat
  alpha : Bool
  pixels : List Nat
  deriving DecidableEq, Repr

/-- A composition list held (R152, R211): the entries' bytes. -/
structure ListRec where
  frame : Nat
  slot : Nat
  preferred : Bool
  entries : List (List Nat)
  deriving DecidableEq, Repr

/-- A complete slot picture: the tile's lamps row by row (R24). -/
structure SlotPic where
  slot : Nat
  frame : Nat
  lamps : List Rgb
  deriving DecidableEq, Repr

/-- The frame hold and the fragment store of a tile. -/
structure HoldSt where
  slices : List SliceRec
  pics : List SlotPic
  parts : List PartRec
  frags : List Fragment
  lists : List ListRec
  deriving DecidableEq, Repr

/-- Nothing received. -/
def HoldSt.reset : HoldSt := { slices := [], pics := [], parts := [], frags := [], lists := [] }



/-! ### Per-lamp correction (R241 to R270) -/

/-- A colour sensor of the calibration (R266): address, pointer, whether its reading is big-endian, its view, DARK, S_INV row-major. -/
structure CalLight where
  addr : Nat
  ptr : Nat
  big : Bool
  x0 : Nat
  y0 : Nat
  x1 : Nat
  y1 : Nat
  dark : List Nat
  sinv : List Int
  deriving DecidableEq, Repr

/-- The calibration in force beside the per-lamp records (R266, R268): board sensors (address and pointer), the pairs of sensor index
and weight of each of the 256 grid nodes, and the colour sensors. -/
structure CalSet where
  boards : List (Nat × Nat)
  nodes : List (List (Nat × Nat))
  lights : List CalLight
  deriving DecidableEq, Repr

/-- The one-record buffer of a quarter's coefficient store (R244): the record and the words written so far. -/
structure RecBuf where
  quarter : Nat
  record : Nat
  words : List (Nat × Nat)
  deriving DecidableEq, Repr

/-- A board sensor's consecutive polls (R250): without acknowledge, out of range, good. -/
structure BoardSens where
  idx : Nat
  nack : Nat
  range : Nat
  good : Nat
  deriving DecidableEq, Repr

/-- A colour sensor's accumulators and its consecutive good periods (R256, R258). -/
structure LightSens where
  idx : Nat
  n : Nat
  acc : List Nat
  good : Nat
  deriving DecidableEq, Repr

/-- A ramp of a cap (R260): the value before it, its target, its first frame and its frames. -/
structure CapRamp where
  old : Int
  cap : Int
  frame : Int
  fade : Nat
  deriving DecidableEq, Repr

/-- A cap at 4,096 with no ramp running. -/
def CapRamp.rest : CapRamp := { old := 4096, cap := 4096, frame := 0, fade := 1 }

/-- Correction beside its registers: the calibration; the per-lamp records by channel × 512 + position; the record buffers;
self-heating H; stage-6 values of the slot being corrected and those last sent; the grey-word store; the grid that waits for the
next slot boundary; G4 in force, the frame for which it was taken (R255) and whether it stands at a limit; the caps; the sensors;
since when the hottest lamp has been cool (R263); the tile fade, the Strike and whether its release runs; the copy that APPLY
checks. -/
structure CorSt where
  cal : CalSet
  recs : List (Nat × Nat)
  bufs : List RecBuf
  heat : List (Nat × Nat)
  l6New : List (Nat × Rgb)
  l6 : List (Nat × Rgb)
  greys : List (Nat × Rgb)
  gridNext : Option (List Int)
  gain : List Nat
  gainFrame : Option Int
  atLimit : List Bool
  wall : CapRamp
  locCap : CapRamp
  boards : List BoardSens
  lights : List LightSens
  coolFrom : Option Nat
  tfade : Fade
  tstrike : Fade
  releasing : Bool
  applying : Option Nat
  deriving DecidableEq, Repr

/-- No calibration. -/
def CalSet.none : CalSet := { boards := [], nodes := [], lights := [] }

/-- Correction after a system reset. -/
def CorSt.reset : CorSt :=
  { cal := CalSet.none, recs := [], bufs := [], heat := [], l6New := [], l6 := [], greys := [], gridNext := none,
    gain := [16384, 16384, 16384], gainFrame := none, atLimit := [false, false, false], wall := CapRamp.rest, locCap := CapRamp.rest, boards := [],
    lights := [], coolFrom := none, tfade := Fade.rest, tstrike := Fade.rest, releasing := false, applying := none }

/-! ### The Lervis lamp bus (R271 to R312) -/

/-- What configuration words carry beside the LAMPMAP gains (R280): depth, segments, repeats. -/
structure DrvCfg where
  depth : Nat
  seg : Nat
  repeats : Nat
  deriving DecidableEq, Repr

/-- A group beside its registers: its scans since it entered CONFIG and whether CFG_FAILED has been raised there, whether LBLANK_N is
deasserted, whether a status scan is under way, the drivers' pending configuration and the one in force, whether its picture
transfer of the slot has been made, the strobes sent from the last LATCH on by their counts (R277), and the instant of the SYNC whose
PWM has not been stopped (R283). -/
structure GroupSt where
  group : Nat
  scans : Nat
  failed : Bool
  lit : Bool
  scanning : Bool
  pendCfg : Option DrvCfg
  cfg : Option DrvCfg
  sent : Bool
  strobes : List Nat
  pwm : Option Int
  deriving DecidableEq, Repr

/-- A group as a system reset leaves it, its drivers without a configuration. -/
def GroupSt.fresh (g : Nat) : GroupSt :=
  { group := g, scans := 0, failed := false, lit := false, scanning := false, pendCfg := none, cfg := none, sent := false,
    strobes := [], pwm := none }

/-- LMP beside its registers: the groups; the grey words in the drivers' shift registers, write banks and display banks, by
channel × 512 + position (R274); the slots since the last move of each lamp supply (R311); and what the bank detectors see (R273). -/
structure LmpSt where
  groups : List GroupSt
  shift : List (Nat × Rgb)
  wbank : List (Nat × Rgb)
  disp : List (Nat × Rgb)
  since : List (Nat × Nat)
  volts : List Nat
  deriving DecidableEq, Repr

/-- LMP after a power-on reset, the bank supplies not yet there. -/
def LmpSt.reset : LmpSt := { groups := [], shift := [], wbank := [], disp := [], since := [], volts := [0, 0, 0, 0] }



/-! ### Active and standby feed units (R313 to R330) -/

/-- An entry of a tile's claim table (R322): the claim, the serial last seen with it in an Ensign, the ingress port of that
Ensign (CAPS port coding and first lane), when it was seen last, and whether it counts as seen within HOLD_MS. -/
structure ClaimEntry where
  claim : Nat
  serial : Option Nat
  port : Option Nat
  seen : Nat
  live : Bool
  deriving DecidableEq, Repr

/-- A frame digest of one port (R325, R326). -/
structure DigestRec where
  port : Nat
  frame : Nat
  gen : Nat
  packets : Nat
  digest : Nat
  deriving DecidableEq, Repr

/-- A frame being judged under R327: the ports that compared a digest for it or missed it, and the two outcomes. -/
structure FrameJudge where
  frame : Nat
  done : List Nat
  compared : Bool
  missed : Bool
  mismatch : Bool
  deriving DecidableEq, Repr

/-- Pair state of a feed unit and claim state of a tile: the claim table, the count that orders its packets, the ports that
hear the partner, the hops of their newest Ensign, what the partner's newest Ensign showed, the unit's own digests and those
held for it, the frames being judged, the commits the partner has named, and whether the check of R317 still applies. -/
structure RedSt where
  claims : List ClaimEntry
  tick : Nat
  hearing : List Nat
  hops : List (Nat × Nat)
  partnerRun : Nat
  partnerStandby : Bool
  own : List DigestRec
  heldDigests : List DigestRec
  judging : List FrameJudge
  named : List (Nat × Nat)
  joining : Bool
  deriving DecidableEq, Repr

/-- No partner heard, no claim seen. -/
def RedSt.reset : RedSt :=
  { claims := [], tick := 0, hearing := [], hops := [], partnerRun := 0, partnerStandby := false, own := [], heldDigests := [],
    judging := [], named := [], joining := true }



/-! ### The clip store (R348 to R355) -/

/-- Commands to a drive (R349). -/
inductive DriveCmd where
  | identify | createQueues | flush | smart | errorLog | labelWrite | deallocate (ring : Nat) | asyncEvent
  deriving DecidableEq, Repr

/-- A drive: the commands outstanding with their numbers, the next number, the controller resets that failed, whether a
controller reset runs, and its 4 KiB blocks. -/
structure DriveSt where
  port : Nat
  cmds : List (Nat × DriveCmd)
  nextCmd : Nat
  failed : Nat
  resetting : Bool
  blocks : Nat
  deriving DecidableEq, Repr

/-- A clip ring as the label holds it (R350, R351): drive, base block, length, the write position and wrap count, the position
and wrap count stored last, and the sequence number of the next record. -/
structure ClipRing where
  ring : Nat
  drive : Nat
  base : Nat
  len : Nat
  wpos : Nat
  wrap : Nat
  savedPos : Nat
  savedWrap : Nat
  seq : Nat
  deriving DecidableEq, Repr

/-- A record written to a ring (R351): ring, block, the access-unit entry, the sequence number, the bytes. -/
structure ClipRecord where
  ring : Nat
  block : Nat
  seq : Nat
  entry : List Nat
  bytes : List Nat
  deriving DecidableEq, Repr

/-- The clip store: drives, rings, the records written (newest last), and for each decode stream the access units read and not
yet delivered (R353). -/
structure ClpSt where
  drives : List DriveSt
  rings : List ClipRing
  written : List ClipRecord
  play : List (Nat × List (List Nat))
  /-- The store identifier of the drives in use (R350, R354). -/
  store : Option Nat
  deriving DecidableEq, Repr

/-- No drive, no ring. -/
def ClpSt.reset : ClpSt := { drives := [], rings := [], written := [], play := [], store := none }



/-! ### The codec (R331 to R347) -/

/-- The planes of a picture row by row: its size, its chroma sampling (0 4:2:0, 1 4:2:2, 2 4:4:4), luma, Cb and Cr. -/
structure Planes where
  width : Nat
  height : Nat
  sampling : Nat
  luma : List Nat
  cb : List Nat
  cr : List Nat
  deriving DecidableEq, Repr

/-- A decode stream beside its registers: the pictures decoded and not yet output, each with its concealed mark; whether any later
picture is marked until the next IRAP; whether SIZE_MISMATCH has been raised in the IRAP period; the access units of the play queue
that wait for the decoder; whether a shed step has stopped it; and whether the last IRAP is the one at which decoding started. -/
structure DecSt where
  stream : Nat
  marks : List (Nat × Bool)
  conceal : Bool
  mismatch : Bool
  waiting : List (List Nat)
  stopped : Bool
  first : Bool
  deriving DecidableEq, Repr

/-- A picture being coded (R338 to R346): its start, frame, source slot, whether it is an IDR, its budget, whether it takes a motion
search partition, the reach of its motion search, whether its write-back picture is incomplete, the generation of its frame, whether it has missed its deadline, whether an input before it was skipped,
and the converted input (R339). -/
structure EncRun where
  start : Nat
  frame : Nat
  slot : Nat
  idr : Bool
  budget : Int
  search : Bool
  reach : Nat × Nat
  incomplete : Bool
  gen : Nat
  late : Bool
  skippedBefore : Bool
  input : Planes
  deriving DecidableEq, Repr

/-- An encode stream beside its registers: the picture being coded; an IDR that is requested; pictures since the last IDR, none before
the first; the bits of the last pictures, newest last; whether the next input is to be skipped and whether one was; whether the
last picture was exhausted; the chain and the hash of the last access unit (R347); the write position and the starts of the access
units written; the completion time of the source frame last encoded; and whether a shed step has stopped it. -/
structure EncSt where
  stream : Nat
  run : Option EncRun
  idrReq : Bool
  sinceIdr : Option Nat
  bits : List Nat
  skipNext : Bool
  skipped : Bool
  exhausted : Bool
  chain : Digest
  last : Option Digest
  wpos : Nat
  starts : List Nat
  doneFrame : Option Nat
  stopped : Bool
  deriving DecidableEq, Repr

/-- The codec: its streams. -/
structure CdcSt where
  decs : List DecSt
  encs : List EncSt
  /-- The encode streams whose trigger pulse or binding instant has come, one entry for each (R128, R338). -/
  due : List Nat
  deriving DecidableEq, Repr

/-- No stream running. -/
def CdcSt.reset : CdcSt := { decs := [], encs := [], due := [] }

/-! ### Heat, droop and voltage (R357 to R375) -/

/-- A sensor's runs (R358 to R364): consecutive samples far from and near to the median of its neighbours, in range, and at or above
125 °C; the samples and the sum of the 100 ms interval under way; the sums of the intervals before, newest last. -/
structure SensSt where
  idx : Nat
  far : Nat
  near : Nat
  inRange : Nat
  hot : Nat
  n : Nat
  sum : Int
  sums : List Int
  deriving DecidableEq, Repr

/-- A tile's heat request at a feed unit (R369): address, CAP_WANTED, and whether it arrived within the last 3 s. -/
structure HeatRec where
  addr : Nat
  cap : Nat
  live : Bool
  deriving DecidableEq, Repr

/-- The thermal unit beside its registers: the sensors; since when the
release condition has held; the heat requests kept; and in a tile the latest CAP_WANTED of the die and of the lamp request. -/
structure ThmSt where
  sens : List SensSt
  relFrom : Option Nat
  heats : List HeatRec
  dieCap : Nat
  lampCap : Nat
  deriving DecidableEq, Repr

/-- The thermal unit after a system reset. -/
def ThmSt.reset : ThmSt := { sens := [], relFrom := none, heats := [], dieCap := 4096, lampCap := 4096 }

/-- Droop and voltage beside their registers: whether the clocks are stretched, the milliseconds in a row above 25 % duty, the
stretches since the last update of the voltage loop, the updates in a row above the high limit, the writes in a row without
acknowledge, and the target the regulator acknowledged last. -/
structure PwrSt where
  stretched : Bool
  highMs : Nat
  stretches : Nat
  highRun : Nat
  nacks : Nat
  ackedTarget : Nat
  deriving DecidableEq, Repr

/-- Droop and voltage after a power-on reset. -/
def PwrSt.reset : PwrSt := { stretched := false, highMs := 0, stretches := 0, highRun := 0, nacks := 0, ackedTarget := 800 }



/-! ### The whole state -/

/-- A register file, sparse: pairs of the BAR0 offset of a register's lowest word and the register's whole value, offsets
strictly rising, no pair equal to what an unlisted register reads as (its reset value in the register entries). -/
abbrev RegFile := List (Nat × Nat)

/-- Reasons to stop with a fault: every command of this block has an effect the spec gives or leaves free, so no meaning
raises one (safe: nothing stops). The constructor stands for an access that the spec says does not exist. -/
inductive Fault where
  /-- Raised by no meaning; it would be safe. -/
  | noSuchAccess
  deriving DecidableEq, Repr

/-- Reasons to refuse a command. -/
inductive Refusal where
  /-- The command has no meaning yet, by its mnemonic (safe: the step stops). -/
  | notModelled (mnemonic : String)
  deriving DecidableEq, Repr

/-- The state of the block. -/
structure State where
  /-- The commands that wait, first in, first out. -/
  pending : List Instr
  /-- Every register of the register space; for a shadowed field, the shadow (R13). -/
  regs : RegFile
  /-- The values in force of the registers that hold shadowed fields (R157, R158). -/
  active : RegFile
  /-- Offsets of the shadowed registers written since the last commit took effect (R306). -/
  shWritten : List Nat
  /-- The model's own counter of free values used (Config.freeValue). -/
  freeCount : Nat
  /-- Fuses and one-time-programmable memory. -/
  fuses : Fuses
  /-- The boot flash (R386). -/
  flash : Flash
  /-- Reset control (R376 to R384). -/
  rst : RstSt
  /-- Boot ROM and firmware (R388 to R394). -/
  boot : BootSt
  /-- The Forjo loader (R38). -/
  ldr : LdrSt
  /-- Read latches and write staging buffers (R10, R11). -/
  bus : BusSt
  /-- Event delivery (R401 to R415). -/
  evt : EvtSt
  /-- The host endpoint and the remote window (R46 to R59). -/
  hif : HifSt
  /-- The 64 mailbox entries' states (R60). -/
  mbx : List MbxState
  /-- The SPDM responder and relay (R396, R397). -/
  spdm : SpdmSt
  /-- The time counter (R62). -/
  clock : ClockSt
  /-- The contexts of the queues set up, by queue number (R114 to R118). -/
  queues : List (Nat × QueueCtx)
  /-- The device memory that BAR2 and the DMA reach: the HBM of an F build, the SRAM region of R32 of a T build; sparse, an unlisted byte reads 0 (log entry 6). -/
  mem : List Host.Cell
  /-- The time servo, PTP and link delays (R65 to R75). -/
  time : TimeSt
  /-- The sequencer (R82 to R88). -/
  seq : SeqSt
  /-- Pennants (R84, R220). -/
  pen : PenSt
  /-- Sources and Ethernet ports (R89 to R107). -/
  ing : IngSt
  /-- DMA channels and request lines (R120 to R128). -/
  dma : DmaSt
  /-- The queues whose contexts the context cache of an F build holds, the latest used first (R117). -/
  qmCache : List Nat
  /-- Entries that a hardware producer keeps for a full ring, oldest first (R116). -/
  qmWait : List (Nat × List Nat)
  /-- Composition and commit (R129 to R161). -/
  cmp : CmpSt
  /-- Lanes (R175 to R194). -/
  lan : LanesSt
  /-- Halyard ports, egress queues and transfers (R198 to R224, R439). -/
  hal : HalSt
  /-- PIX on its way (R151, R213, R325). -/
  pix : PixSt
  /-- Discovery (R228 to R240). -/
  dsc : DscSt
  /-- Frame hold and fragment store of a tile (R24, R324). -/
  hold : HoldSt
  /-- Per-lamp correction (R241 to R270, R306, R307). -/
  cor : CorSt
  /-- The Lervis lamp bus (R271 to R312). -/
  lmp : LmpSt
  /-- The pair and the claims (R313 to R330). -/
  red : RedSt
  /-- The clip store (R348 to R355). -/
  clp : ClpSt
  /-- The codec (R331 to R347). -/
  cdc : CdcSt
  /-- Thermal sensors, throttling and heat requests (R357 to R370). -/
  thm : ThmSt
  /-- Droop and adaptive voltage (R371 to R374). -/
  pwr : PwrSt
  deriving DecidableEq, Repr

/-- The registers whose reset value comes from the fuses and the grade (TOP_ID, THM_LIMITS, PWR_AVS_LIMITS, ING_PORT_MAC). -/
def regsAtReset : RegFile :=
  [(0x0, 0x01107700), (0x30200, 0x695F), (0x40108, 700 + 800 * 2 ^ 10 + 850 * 2 ^ 20),
   (0xE0048, 1), (0xE0088, 2), (0xE00C8, 3), (0xE0108, 4), (0xE0148, 5), (0xE0188, 6), (0xE01C8, 7)]

/-- The machine in its power-on reset, with every source released: every register at its reset value. -/
def State.reset : State where
  pending := []
  regs := regsAtReset
  active := []
  shWritten := []
  freeCount := 0
  fuses := { build := .f, grade := .c, major := 1, minor := 0, serial := 1#64, keys := [(1#32, false)], svnFloor := 0, debug := false,
             macBase := 0, vmin := 700, trims := [], marginLow := 0, marginHigh := 16, certChain := [] }
  flash := { fwActive := 0, fwValid := [false, false], fwPending := false, fwTrials := 0, fw0 := .erased, fw1 := .erased, fjActive := 0, fjValid := [false, false], fj0 := .erased, fj1 := .erased, settings0 := none, settings1 := none, cal0 := none, cal1 := none }
  rst := { asserted := [], inReset := true, reach := 3, deepest := 3, lowRails := [], driving := true, follows := false, tileCmd := false, wdtRunning := false, fatals := [], fatal := false }
  boot := BootSt.reset
  ldr := LdrSt.reset
  bus := BusSt.reset
  evt := EvtSt.reset
  hif := HifSt.reset
  mbx := List.replicate 64 .free
  spdm := SpdmSt.reset
  clock := { now := 0, frac := 0, running := true }
  queues := []
  mem := []
  time := TimeSt.reset
  seq := SeqSt.reset
  pen := PenSt.reset
  ing := IngSt.reset
  dma := DmaSt.reset
  qmCache := []
  qmWait := []
  cmp := CmpSt.reset
  lan := LanesSt.reset
  hal := HalSt.reset
  pix := PixSt.reset
  dsc := DscSt.reset
  hold := HoldSt.reset
  cor := CorSt.reset
  lmp := LmpSt.reset
  red := RedSt.reset
  clp := ClpSt.reset
  cdc := CdcSt.reset
  thm := ThmSt.reset
  pwr := PwrSt.reset

end Sys2Proof.Machine
end

