-- ==== Sys2Proof/Machine/Ops.lean ====
section
/-! DEFINITION. The shared operations over the state: register lookup, whole-register and field access, values in force,
free values, device identity, and which blocks are live. -/

namespace Sys2Proof.Machine

/-- The outcome type of every meaning. -/
abbrev Out := Host.Outcome State Fault Refusal

/-! ### Register lookup -/

/-- The block that owns a BAR0 offset (block bases of the register entries; a device-wide block spans 64 KiB, log entry 5). -/
def blockAt (off : Nat) : Option Block :=
  if off < 0x1000000 then
    match off / 0x10000 with
    | 0x00 => some .top | 0x01 => some .rst | 0x02 => some .sec | 0x03 => some .thm | 0x04 => some .pwr
    | 0x05 => some .evt | 0x06 => some .time | 0x07 => some .hif | 0x08 => some .qm | 0x0C => some .dma
    | 0x0D => some .hbm | 0x0E => some .ing | 0x0F => some .clp | 0x10 => some .cdc | 0x14 => some .red
    | 0x15 => some .dsc | 0x16 => some .lst | 0x17 => some .mbx | _ => none
  else if off < 0x2000000 then
    let r := off % 0x400000
    if r < 0x40000 then some .cmp else if r < 0x80000 then some .scl else if r < 0x100000 then some .lane
    else if r < 0x140000 then some .hal else if r < 0x180000 then some .cor else if r < 0x200000 then some .lmp
    else some .cor
  else none

/-- The part of an offset below the instances of an offset formula, when every instance number is in range. -/
def dimRest : List (Nat × Nat) → Nat → Option Nat
  | [], r => some r
  | (c, st) :: ds, r => if r / st < c then dimRest ds (r % st) else none

/-- An entry covers an offset: the byte offset inside the register, if so. -/
def RegSpec.within (sp : RegSpec) (off : Nat) : Option Nat :=
  if off < sp.base then none
  else match dimRest sp.dims (off - sp.base) with
    | some r => if r < 4 * sp.words then some r else none
    | none => none

/-- A register found at an offset: its entry, the offset of its lowest word, and the word addressed. -/
structure RegHit where
  spec : RegSpec
  key : Nat
  word : Nat
  deriving DecidableEq, Repr

/-- The first entry that covers an offset. -/
def findReg : List RegSpec → Nat → Option RegHit
  | [], _ => none
  | sp :: r, off =>
    match sp.within off with
    | some x => some { spec := sp, key := off - x, word := x / 4 }
    | none => findReg r off

/-- The register at an offset of BAR0 or of a tile's register space. -/
def regAt (off : Nat) : Option RegHit :=
  match blockAt off with
  | some b => findReg (regsOf b) off
  | none => none

/-- The reset value of an entry: its fields' reset values in place. -/
def RegSpec.resetValue (sp : RegSpec) : Nat :=
  sp.fields.foldl (fun v f => fieldSet v ⟨f.lo, f.w⟩ f.reset) 0

/-- What an unlisted register reads as: its reset value, 0 where there is no register. -/
def regReset (key : Nat) : Nat :=
  match regAt key with
  | some h => h.spec.resetValue
  | none => 0

/-! ### Whole registers and fields -/

/-- The whole value of a register. -/
def State.reg (s : State) (key : Nat) : Nat := sRead regReset s.regs key

/-- The state with a register's whole value set. -/
def State.setReg (s : State) (key v : Nat) : State := { s with regs := sWrite regReset s.regs key v }

/-- A field of a register. -/
def State.get (s : State) (key : Nat) (f : Fld) : Nat := fieldGet (s.reg key) f

/-- The state with a field of a register set. -/
def State.put (s : State) (key : Nat) (f : Fld) (v : Nat) : State := s.setReg key (fieldSet (s.reg key) f v)

/-- A field read as a flag. -/
def State.flag (s : State) (key : Nat) (f : Fld) : Bool := s.get key f != 0

/-- A counter field advanced by a number, saturating at the field's width. -/
def State.count (s : State) (key : Nat) (f : Fld) (n : Nat := 1) : State :=
  s.put key f (satAdd (2 ^ f.w - 1) (s.get key f) n)

/-- The value in force of a register that holds shadowed fields. -/
def State.act (s : State) (key : Nat) : Nat := sRead regReset s.active key

/-- A field in force. -/
def State.actGet (s : State) (key : Nat) (f : Fld) : Nat := fieldGet (s.act key) f

/-- The state with a value in force set. -/
def State.setAct (s : State) (key v : Nat) : State := { s with active := sWrite regReset s.active key v }

/-- The register file with the entries of registers that a test selects dropped, so that they read their reset values. -/
def dropRegs (p : RegHit → Bool) (rf : RegFile) : RegFile :=
  rf.filter fun e => match regAt e.1 with | some h => !p h | none => false

/-! ### Free values -/

/-- A free value below `2 ^ w`, and the state that has used it (log entry 3). -/
def State.fresh (s : State) (w : Nat) : Nat × State :=
  (Config.freeValue s.freeCount % 2 ^ w, { s with freeCount := s.freeCount + 1 })

/-! ### Identity, personality, live blocks -/

/-- The build that the fuses hold. -/
def State.isF (s : State) : Bool := s.fuses.build == .f

/-- The unit serial. -/
def State.serial (s : State) : Nat := s.fuses.serial.toNat

/-- The personality in force, from TOP_IMAGE_INFO (R16). -/
def State.personality (s : State) : Option Personality :=
  match s.get R.topImageInfo F.topImageInfo_PERSONALITY with
  | 1 => some .feed
  | 2 => some .tile
  | _ => none

/-- The device runs as a feed unit. -/
def State.isFeed (s : State) : Bool := s.personality == some .feed

/-- The device runs as a tile. -/
def State.isTile (s : State) : Bool := s.personality == some .tile

/-- The image in force runs layer mode. -/
def State.layerMode (s : State) : Bool :=
  match s.ldr.image with | some i => i.body.quarters.layerMode | none => false

/-- A core reset holds the block (R376: the rows marked as reset). -/
def State.heldByReset (s : State) (b : Block) : Bool :=
  s.rst.inReset && s.rst.reach == 1 && [Block.mbx, .cmp, .scl, .lst, .cdc, .qm, .dma].contains b

/-- The block's role in the table of R16 for the personality loaded is other than held off. -/
def State.roleLive (s : State) (b : Block) : Bool :=
  match s.personality with
  | some .feed =>
    match b with
    | .cor | .lmp => false
    | .hbm | .clp => s.isF
    | _ => true
  | some .tile =>
    match b with
    | .hif | .qm | .dma | .hbm | .ing | .clp | .cdc => false
    | .cmp | .scl | .lst => s.layerMode
    | _ => true
  | none => match b with
    | .hbm => s.isF
    | _ => true

/-- The block's registers respond (R15, R16, R376). -/
def State.live (s : State) (b : Block) : Bool := s.roleLive b && !s.heldByReset b

/-- The tile address, 0xFFF in a feed unit or while unassigned. -/
def State.tileAddr (s : State) : Nat :=
  if s.isTile then s.get R.dscSelf F.dscSelf_ADDR else 0xFFF

end Sys2Proof.Machine
end

