-- ==== Sys2Proof/Machine/Requesters.lean ====
section
/-! DEFINITION. Who may write: the claim winner of a tile's claim table (R322, R323) and the requesters whose writes the
register space accepts (R10, R43, R61). -/

namespace Sys2Proof.Machine

/-- A claim entry beats another: the higher claim, and of equal claims the higher serial (R322, R323). -/
def claimBeats (a b : ClaimEntry) : Bool :=
  decide (b.claim < a.claim) || (a.claim == b.claim && decide (b.serial.getD 0 < a.serial.getD 0))

/-- The entries seen within HOLD_MS. -/
def State.liveClaims (s : State) : List ClaimEntry := s.red.claims.filter (·.live)

/-- The tile's claim winner (R322, R323). -/
def State.claimWinner (s : State) : Option ClaimEntry :=
  match s.liveClaims with
  | [] => none
  | a :: r => some (r.foldl (fun w e => if claimBeats e w then e else w) a)

/-- The entry of the claim table that a requester is. -/
def State.claimOf (s : State) (req : Requester) : Option ClaimEntry :=
  match req with
  | .claim0 => s.red.claims[0]?
  | .claim1 => s.red.claims[1]?
  | _ => none

/-- A packet is refused because it does not come from the claim winner: RED_TILE_REFUSED counts it (R322). -/
def State.refuseClaim (s : State) : State := s.count R.redTileRefused F.redTileRefused_NOT_CLAIM

/-- A requester whose writes are accepted: the management processor; the host, but for a tile, whose endpoint is held off (R16);
in a tile the claim winner, whose writes arrive as CTL WRITEs (R43, R61, R322). -/
def State.mayWrite (s : State) (req : Requester) : Bool :=
  match req with
  | .mp => true
  | .host => !s.isTile
  | _ => s.isTile && s.claimOf req == s.claimWinner && s.claimWinner.isSome

/-- A requester whose reads are answered: a tile has no host, and only a tile has claims, both of which may read (R10, R322). -/
def State.mayRead (s : State) (req : Requester) : Bool :=
  match req with
  | .mp => true
  | .host => !s.isTile
  | _ => s.isTile

/-- The effect of a requester's write: `t` where its writes are accepted; a write of a claim that is not the winner's is refused and
counted (R322); a write of a requester that the personality has not is none. -/
def State.byReq (s : State) (req : Requester) (t : State) : State :=
  if s.mayWrite req then t else if s.isTile && (s.claimOf req).isSome then s.refuseClaim else s

/-- A write of the mailbox's command registers: in a tile from the claim winner only, so not from the tile's own management
processor (R61). -/
def State.byMailbox (s : State) (req : Requester) (t : State) : State :=
  if s.isTile && req == .mp then s else s.byReq req t

end Sys2Proof.Machine
end

