-- ==== Sys2Proof/Machine/Mem.lean ====
section
/-! DEFINITION. Device memory (HBM of R108, or the SRAM region of R32) and the queue contexts over it. -/

namespace Sys2Proof.Machine

/-- What a byte of device memory that nothing has written reads as (log entry 6). -/
def memDefault : Nat → Byte := fun _ => 0#8

/-- The size of the device memory: 72,000,000,000 B of HBM (R108), or the 12 MiB of R32. -/
def State.memSize (s : State) : Nat := if s.isF then 72000000000 else 12582912

/-- The size of the region that BAR2 and the DMA reach (R52, R108). -/
def State.sharedSize (s : State) : Nat := if s.isF then 68719476736 else 12582912

/-- The memory is in its canonical form. -/
def memWf (m : List Host.Cell) : Bool := sWf memDefault m

/-- One byte of device memory. -/
def State.memByte (s : State) (a : Nat) : Byte := sRead memDefault s.mem a

/-- The memory with bytes written from an address on. -/
def writeBytes : List Host.Cell → Nat → List Byte → List Host.Cell
  | m, _, [] => m
  | m, a, b :: r => writeBytes (sWrite memDefault m a b) (a + 1) r

/-- The bytes of a stretch of memory. -/
def State.readBytes (s : State) (a n : Nat) : List Byte := (List.range n).map fun i => s.memByte (a + i)

/-! ### The HBM's power states (R112, R113) -/

/-- HBM_STATUS takes a state. -/
def State.hbmTo (s : State) (st : Nat) : State := s.put R.hbmStatus F.hbmStatus_STATE st

/-- The HBM state code: 0 OFF, 1 ACTIVE, 2 POWER_DOWN, 3 SELF_REFRESH. -/
def State.hbmState (s : State) : Nat := s.get R.hbmStatus F.hbmStatus_STATE

/-- The HBM is held in its state: in a tile and in safe idle (R2, R39), and in a reset (R113). -/
def State.hbmHeld (s : State) : Bool := s.isTile || s.ldr.phase == .safeIdle || s.rst.inReset

/-- The HBM serves: its registers respond and nothing holds it. -/
def State.hbmServes (s : State) : Bool := s.live .hbm && !s.hbmHeld

/-- An access to the HBM starts the exit from the power state it sleeps in (R112). -/
def State.hbmTouch (s : State) : State :=
  if s.hbmServes && (s.hbmState == 2 || s.hbmState == 3) then s.hbmTo 1 else s

/-- The state with bytes of device memory written, an access to the HBM of an F build; there is no memory beyond its size (R32, R108). -/
def State.memWrite (s : State) (a : Nat) (bs : List Byte) : State :=
  { s.hbmTouch with mem := writeBytes s.mem a (bs.take (s.memSize - a)) }

/-! ### The areas of the HBM (R108) -/

/-- The areas of the HBM (R108): the shared region, and of the private region the queue contexts, the retained image and the codec's. -/
inductive HbmArea where
  | shared | contexts | retained | codec
  deriving DecidableEq, Repr

/-- Where an area starts, and its size in bytes (R108). -/
def HbmArea.span : HbmArea → Nat × Nat
  | .shared => (0, 0x1000000000)
  | .contexts => (0x1000000000, 0x1000000)
  | .retained => (0x1001000000, 0x1000000)
  | .codec => (0x1002000000, 3246968832)

/-- The area that an HBM offset lies in (R108). -/
def hbmArea (off : Nat) : Option HbmArea :=
  [HbmArea.shared, .contexts, .retained, .codec].find? fun x => decide (x.span.1 ≤ off ∧ off < x.span.1 + x.span.2)

/-- The HBM offset of a queue's context of 64 B (R108, R117). -/
def contextAt (q : Nat) : Nat := HbmArea.contexts.span.1 + 64 * q

/-- The state with bytes of host memory written: the device puts the write on the link. -/
def State.hostWrite (s : State) (a : Nat) (bs : List Nat) : State :=
  { s with hif := { s.hif with hostWrites := s.hif.hostWrites ++ [(a, bs)] } }

/-- A queue's context; a queue that nothing has set up reads as reset left it. -/
def State.queue (s : State) (q : Nat) : QueueCtx := (sLookup s.queues q).getD QueueCtx.fresh

/-- The pool of the QUEUES section that holds a queue. -/
def State.pool (s : State) (q : Nat) : Option PoolRec :=
  match s.ldr.image with
  | some i => i.body.queues.find? fun p => decide (p.base ≤ q ∧ q < p.base + p.count)
  | none => none

/-- The class of the pool that holds a queue, where one does. -/
def State.queueClass (s : State) (q : Nat) : Option Nat := (s.pool q).map (·.cls)

/-! ### Queue contexts (R114, R117) -/

/-- A context stays resident: PIN, or an event queue (R117). -/
def State.resident (s : State) (q : Nat) : Bool := (s.queue q).enabled && ((s.queue q).pin || s.queueClass q == some 1)

/-- A list without the last element that a test selects. -/
def dropLast? {α : Type} (p : α → Bool) (l : List α) : List α :=
  match findIdxFrom p 0 l.reverse with
  | some (i, _) => l.eraseIdx (l.length - 1 - i)
  | none => l

/-- The context cache after a use of a queue's context (R117): the 4,096 most recently used, of which a resident one never leaves. A T
build holds every context and writes none to memory. -/
def State.cacheUse (s : State) (q : Nat) : List Nat :=
  if !s.isF then s.qmCache
  else
    let l := q :: s.qmCache.filter (· != q)
    if l.length ≤ 4096 then l else dropLast? (fun x => x != q && !s.resident x) l

/-- A use of a queue's context misses the context cache (R117). -/
def State.cacheMiss (s : State) (q : Nat) : Bool := s.isF && !s.qmCache.contains q

/-- The state with a queue's context set: a use of it. -/
def State.setQueue (s : State) (q : Nat) (x : QueueCtx) : State :=
  { s with queues := sInsert (sErase s.queues q) q x, qmCache := s.cacheUse q }

/-- Ring entries N of a context (R114). -/
def QueueCtx.size (x : QueueCtx) : Nat := 2 ^ x.sizeLog2

/-- Bytes of an entry (QM_CTX_CFG.ESIZE). -/
def QueueCtx.entryBytes (x : QueueCtx) : Nat := 16 * 2 ^ x.esize

/-- The ring is empty (R114). -/
def QueueCtx.isEmpty (x : QueueCtx) : Bool := x.p == x.c

/-- The ring is full once a number of entries on their way have landed (R114). -/
def QueueCtx.isFull (x : QueueCtx) (inFlight : Nat := 0) : Bool :=
  (x.p + x.size - x.c) % x.size + inFlight + 1 ≥ x.size

/-- An entry written at P and P advanced (R114); the bytes go to the ring's space. -/
def State.pushEntry (s : State) (q : Nat) (bytes : List Nat) : State :=
  let x := s.queue q
  let a := x.base + x.p * x.entryBytes
  let s1 := if x.hostSpace then s.hostWrite a bytes else s.memWrite a (bytes.map (BitVec.ofNat 8))
  s1.setQueue q { x with p := (x.p + 1) % x.size }

end Sys2Proof.Machine
end

