-- ==== Sys2Proof/Machine/Events.lean ====
section
/-! DEFINITION. Events (chapter 19): the record of R401, capture (R406, R407), routing to rings (R409 to R411), the upstream
queue of a tile (R413, R414), merging (R412), rate limits (R438), and the MSI-X messages. -/

namespace Sys2Proof.Machine

/-- The low 32 bits of PTP time in nanoseconds (Glossary, ns32). -/
def State.ns32 (s : State) : Nat := s.clock.now % 2 ^ 32

/-- The domain: of the TILES section in a feed unit, of DSC_SELF in a tile, 0xF for none (R401). -/
def State.domain (s : State) : Nat :=
  match s.personality with
  | some .feed => match s.ldr.image with | some i => i.body.tiles.domain | none => 0xF
  | some .tile => if s.get R.dscSelf F.dscSelf_ADDR = 0xFFF then 0xF else s.get R.dscSelf F.dscSelf_DOMAIN
  | none => 0xF

/-- A record of this device (R401): word 7 is 0 until merging sets it. -/
def State.record (s : State) (block : Block) (cause sev unit : Nat) (details : List Nat) : EventRec :=
  { block := block.id, cause := cause, sev := sev, prog := cause == 0, upstream := false, merged := false, lost := false,
    ns32 := s.ns32, tile := s.tileAddr, domain := s.domain, unit := unit % 65536,
    d3 := details.getD 0 0, d4 := details.getD 1 0, d5 := details.getD 2 0, d6 := details.getD 3 0, d7 := 0 }

/-- Word 0 of a record. -/
def EventRec.word0 (r : EventRec) : Nat :=
  r.block * 256 + r.cause + r.sev * 2 ^ 16 + r.prog.toNat * 2 ^ 19 + r.upstream.toNat * 2 ^ 20 +
    r.merged.toNat * 2 ^ 21 + r.lost.toNat * 2 ^ 22

/-- The eight words of a record (R401). -/
def EventRec.words (r : EventRec) : List Nat :=
  [r.word0, r.ns32, r.tile + r.domain * 2 ^ 12 + r.unit * 2 ^ 16, r.d3 % 2 ^ 32, r.d4 % 2 ^ 32, r.d5 % 2 ^ 32,
   r.d6 % 2 ^ 32, r.d7 % 2 ^ 16]

/-- The 32 bytes of a record. -/
def EventRec.bytes (r : EventRec) : List Nat := (r.words.map (leBytes 4)).flatten

/-- The record that 32 bytes spell (an EVENT payload, R224). -/
def eventOfWords (w : List Nat) : EventRec :=
  let g := fun i => w.getD i 0
  { block := fieldGet (g 0) ⟨8, 8⟩, cause := fieldGet (g 0) ⟨0, 8⟩, sev := fieldGet (g 0) ⟨16, 3⟩, prog := bitOf (g 0) 19,
    upstream := bitOf (g 0) 20, merged := bitOf (g 0) 21, lost := bitOf (g 0) 22, ns32 := g 1,
    tile := fieldGet (g 2) ⟨0, 12⟩, domain := fieldGet (g 2) ⟨12, 4⟩, unit := fieldGet (g 2) ⟨16, 16⟩,
    d3 := g 3, d4 := g 4, d5 := g 5, d6 := g 6, d7 := g 7 }

/-! ### MSI-X -/

/-- An MSI-X message: sent when the entry is unmasked and the endpoint serves the host, pended otherwise. -/
def State.sendMsix (s : State) (v : Nat) : State :=
  if s.roleLive .hif then
    if s.flag (R.hifMsixCtrl v) F.hifMsixCtrl_MASK then s.put (R.hifPba (v / 32)) ⟨v % 32, 1⟩ 1
    else { s with hif := { s.hif with msix := s.hif.msix ++ [v] } }
  else s

/-! ### Capture -/

/-- The place of a capture slot among the 69 of EVT_CAP (block 1 to 23, severity 2 to 4). -/
def capSlot (block sev : Nat) : Nat := (block - 1) * 3 + (sev - 2)

/-- The record's words copied into a capture slot. -/
def State.setCapRecord (s : State) (slot : Nat) (words : List Nat) : State :=
  (List.range 8).foldl (fun t i => t.setReg (R.evtCapRecord slot i) (words.getD i 0)) s

/-- An event reaches its capture slot (R406, R407); severities below DEGRADED are not captured. -/
def State.capture (s : State) (r : EventRec) : State :=
  if r.sev < 2 ∨ r.block = 0 ∨ 4 < r.sev then s
  else
    let slot := capSlot r.block r.sev
    if s.flag (R.evtCapCtrl slot) F.evtCapCtrl_VALID then
      (s.count (R.evtCapCtrl slot) F.evtCapCtrl_COUNT).put (R.evtCapCtrl slot) F.evtCapCtrl_OVERFLOW 1
    else
      let s1 := (s.setCapRecord slot r.words).setReg (R.evtCapCtrl slot) (2 ^ 16)
      let s2 := s1.put (R.evtCapPending (r.sev - 2)) ⟨r.block, 1⟩ 1
      let v := R.evtCapVector (r.sev - 2)
      if s2.flag v F.evtCapVector_EN then s2.sendMsix (s2.get v F.evtCapVector_VECTOR) else s2

/-! ### Rings -/

/-- Records on their way to the rings that are bound to a queue. -/
def State.inFlight (s : State) (q : Nat) : Nat :=
  s.evt.landing.countP fun e => s.get (R.evtRingBind e.1) F.evtRingBind_QUEUE == q

/-- A record of a ring is lost (R411): EVT_RING_LOST counts it, and the next record of the ring carries LOST. -/
def State.ringLost (s : State) (ring : Nat) : State :=
  let s1 := s.count (R.evtRingLost ring) F.evtRingLost_LOST
  { s1 with evt := { s1.evt with lostNext := if s1.evt.lostNext.contains ring then s1.evt.lostNext else ring :: s1.evt.lostNext } }

/-- A record for a ring (R409 to R411): discarded where the ring is not in use, counted lost where its queue is full or not
enabled, and otherwise on its way to the ring, carrying LOST after a loss. -/
def State.toRing (s : State) (ring : Nat) (r : EventRec) : State :=
  let b := R.evtRingBind ring
  if s.flag b F.evtRingBind_EN then
    let n := s.get b F.evtRingBind_QUEUE
    let q := s.queue n
    if !q.enabled || q.isFull (s.inFlight n) then s.ringLost ring
    else
      let r1 := if s.evt.lostNext.contains ring then { r with lost := true } else r
      { s with evt := { s.evt with landing := s.evt.landing ++ [(ring, r1)],
                                   lostNext := s.evt.lostNext.filter (· != ring) } }
  else s

/-- A record routed by EVT_ROUTE of its block (R409). -/
def State.routeRecord (s : State) (r : EventRec) : State :=
  if r.block = 0 ∨ 23 < r.block then s
  else
    let k := R.evtRoute (r.block - 1)
    if r.sev < 2 then
      if s.flag k F.evtRoute_LOW_EN then s.toRing (s.get k F.evtRoute_LOW_RING) r else s
    else if s.flag k F.evtRoute_HIGH_EN then s.toRing (s.get k F.evtRoute_HIGH_RING) r else s

/-- A record for the upstream queue of a tile (R413, R414). -/
def State.toUpstream (s : State) (r : EventRec) : State :=
  if r.sev < s.get R.evtUpCfg F.evtUpCfg_MIN_SEV then s
  else if 64 ≤ s.evt.upstream.length then
    let s1 := s.count R.evtUpStatus F.evtUpStatus_LOST
    { s1 with evt := { s1.evt with upLost := true } }
  else
    let r1 := if s.evt.upLost then { r with lost := true } else r
    let s1 := { s with evt := { s.evt with upstream := s.evt.upstream ++ [r1], upLost := false } }
    s1.put R.evtUpStatus F.evtUpStatus_QUEUED s1.evt.upstream.length

/-- A record leaves for the rings of a feed unit or the upstream queue of a tile. -/
def State.emit (s : State) (r : EventRec) : State := if s.isTile then s.toUpstream r else s.routeRecord r

/-! ### Raising -/

/-- A record is raised: captured (R406), emitted, and, when FATAL, marked for its reset pulse (R408). -/
def State.raiseRecord (s : State) (r : EventRec) : State :=
  let s1 := (s.capture r).emit r
  if r.sev = 4 then { s1 with rst := { s1.rst with fatals := s1.rst.fatals ++ [(r.block, s1.clock.now)] } } else s1

/-- An event is raised (R401). -/
def State.raise (s : State) (block : Block) (cause sev : Nat) (unit : Nat := 0) (details : List Nat := []) : State :=
  s.raiseRecord (s.record block cause sev unit details)

/-- A deadline event (R405): captured always, emitted under the merging of R412. -/
def State.raiseDeadline (s : State) (block : Block) (cause unit : Nat) (details : List Nat) : State :=
  let r := s.record block cause 3 unit details
  let s1 := s.capture r
  let code := r.block * 256 + r.cause
  let same := fun m : MergeRec => m.code == code && m.tile == r.tile && m.unit == r.unit
  match s1.evt.merges.find? same with
  | some m =>
    if s1.clock.now < m.last + 10000000 then
      { s1 with evt := { s1.evt with merges := s1.evt.merges.map fun x => if same x then { x with count := x.count + 1 } else x } }
    else
      let r1 := if m.count = 0 then r else { r with merged := true, d7 := min 0xFFFF m.count }
      let s2 := s1.emit r1
      { s2 with evt := { s2.evt with merges := s2.evt.merges.map fun x => if same x then { x with last := s.clock.now, count := 0 } else x } }
  | none =>
    let s2 := s1.emit r
    { s2 with evt := { s2.evt with merges := s2.evt.merges ++
        [{ code := code, tile := r.tile, unit := r.unit, last := s.clock.now, count := 0 }] } }

/-- How many events of a limited kind were raised in the 1 s before now (R438). -/
def State.limitCount (s : State) (code unit : Nat) : Nat :=
  s.evt.limits.countP fun e => e.1 == code && e.2.1 == unit && decide (s.clock.now < e.2.2 + 1000000000)

/-- An event under a rate limit of `n` a second for its code and unit (R438). -/
def State.raiseLimited (s : State) (n : Nat) (block : Block) (cause sev unit : Nat) (details : List Nat := []) : State :=
  let code := block.id * 256 + cause
  if s.limitCount code unit < n then
    let keep := s.evt.limits.filter fun e => decide (s.clock.now < e.2.2 + 1000000000)
    let s1 := { s with evt := { s.evt with limits := keep ++ [(code, unit, s.clock.now)] } }
    s1.raise block cause sev unit details
  else s

/-- The requester code of a PROG_ERROR (R402). -/
def reqCode : Requester → Nat
  | .host => 0
  | .mp => 1
  | .claim0 => 2
  | .claim1 => 2

/-- A programming error (R402): block, offset, value written, requester. -/
def State.progErrorIn (s : State) (block : Block) (off value : Nat) (req : Requester) : State :=
  s.raise block 0 1 0 [off, value, reqCode req]

/-- The block whose identifier a programming error at an offset carries (R402): the one that owns the offset; HIF where no block does
(R54). EVT has no identifier of its own; its errors carry that of MBX, the block of the events' memory in R404 (DEDUCED, log
entry 82). -/
def errorBlock (off : Nat) : Block :=
  match blockAt off with
  | some .evt => .mbx
  | some b => b
  | none => .hif

/-- A programming error at an offset (R402). -/
def State.progError (s : State) (off value : Nat) (req : Requester) : State := s.progErrorIn (errorBlock off) off value req

/-! ### Delivery -/

/-- The MSI-X message that follows a record of a ring (R410): at once, or shared at the end of the coalescing interval. -/
def State.ringMessage (s : State) (ring sev vector : Nat) : State :=
  let co := s.get (R.evtRingBind ring) F.evtRingBind_COALESCE
  let recent := match sLookup s.evt.lastMsg ring with
    | some t => decide (s.clock.now < t + co * 10000)
    | none => false
  if co != 0 && decide (sev < 3) && recent then
    { s with evt := { s.evt with coalesced := if s.evt.coalesced.contains ring then s.evt.coalesced else s.evt.coalesced ++ [ring] } }
  else
    let s1 := s.sendMsix vector
    { s1 with evt := { s1.evt with lastMsg := aSet s1.evt.lastMsg ring s1.clock.now } }

/-- The oldest record on its way lands in its ring, P advances, and its message follows (R410); a queue disabled since, or full after
having been enabled anew, is a full ring (R114, R409). -/
def State.landRecord (s : State) : State :=
  match s.evt.landing with
  | [] => s
  | (ring, r) :: rest =>
    let s1 := { s with evt := { s.evt with landing := rest } }
    let q := s1.get (R.evtRingBind ring) F.evtRingBind_QUEUE
    if (s1.queue q).enabled && !(s1.queue q).isFull then
      (s1.pushEntry q r.bytes).ringMessage ring r.sev (s1.queue q).vector
    else s1.ringLost ring

/-- EVENT_RECORD_LANDED (R410). -/
def execEventRecordLanded (s : State) : Out := .next s.landRecord

/-- COALESCE_EXPIRE: the one shared message of the ring's interval is sent (R410). -/
def execCoalesceExpire (ring : Fin 64) (s : State) : Out :=
  .next (if s.evt.coalesced.contains ring.val then
    let q := s.get (R.evtRingBind ring.val) F.evtRingBind_QUEUE
    let s1 := { s with evt := { s.evt with coalesced := s.evt.coalesced.filter (· != ring.val) } }
    let s2 := s1.sendMsix (s1.queue q).vector
    { s2 with evt := { s2.evt with lastMsg := aSet s2.evt.lastMsg ring.val s2.clock.now } }
  else s)

/-- A capture slot acknowledged: VALID, COUNT and OVERFLOW clear (R406). -/
def State.ackCapture (s : State) (block sev : Nat) : State :=
  let slot := capSlot block sev
  let s1 := s.setReg (R.evtCapCtrl slot) 0
  s1.put (R.evtCapPending (sev - 2)) ⟨block, 1⟩ 0

/-- A write of EVT_CAP_CTRL: writing 1 to VALID acknowledges the slot (R406, R407). -/
def State.capCtrlWrite (s : State) (slot value : Nat) : State :=
  if fieldGet value F.evtCapCtrl_VALID = 1 then s.ackCapture (slot / 3 + 1) (slot % 3 + 2) else s

/-- CAPTURE_ACK (R406). -/
def execCaptureAck (slot : Fin 69) (value : Word) (s : State) : Out := .next (s.capCtrlWrite slot.val value.toNat)

/-- A write of EVT_RING_BIND: EN is refused unless the queue's class is 1 (R409). -/
def State.ringBindWrite (s : State) (ring value : Nat) (req : Requester) : State :=
  let q := fieldGet value F.evtRingBind_QUEUE
  if fieldGet value F.evtRingBind_EN = 1 ∧ s.queueClass q ≠ some 1 then s.progError (R.evtRingBind ring) value req
  else s.setReg (R.evtRingBind ring) (value % 2 ^ 27)

/-- EVT_RING_BIND_WRITE (R409). -/
def execEvtRingBindWrite (req : Requester) (ring : Fin 64) (value : Word) (s : State) : Out :=
  .next (s.byReq req (s.ringBindWrite ring.val value.toNat req))

end Sys2Proof.Machine
end

