-- ==== Sys2Proof/Machine/Clock.lean ====
section
/-! DEFINITION. The time counter (R62, R64), frames, slots and light windows (R78), and the instants the sequencer uses. -/

namespace Sys2Proof.Machine

/-! ### The counter -/

/-- One cycle of the time counter's clock: TIME_ADDEND is added to nanoseconds and fraction (R62). -/
def State.tick (s : State) : State :=
  if s.clock.running then
    let v := s.clock.now * 2 ^ 32 + s.clock.frac + s.reg R.timeAddend
    { s with clock := { s.clock with now := v / 2 ^ 32, frac := v % 2 ^ 32 } }
  else s

/-- The time in units of 2^-16 ns, at the 1/16 ns resolution of the stamps (R69, R74). -/
def State.stamp (s : State) : Int := ((s.clock.now * 16 + s.clock.frac / 2 ^ 28) * 2 ^ 12 : Nat)

/-- A time in nanoseconds from a register of NS and SEC (TIME_SET, TIME_MODE_TIME, TIME_ALIGN_ORIGIN). -/
def nsOf (v : Nat) : Nat := v % 2 ^ 32 + v / 2 ^ 32 % 2 ^ 48 * 1000000000

/-- The register value of a time in nanoseconds. -/
def nsTo (t : Nat) : Nat := t % 1000000000 + t / 1000000000 % 2 ^ 48 * 2 ^ 32

/-- What TIME_NOW reads (R64). -/
def State.timeNow (s : State) : Nat := nsTo s.clock.now + s.get R.timeStatus F.timeStatus_EPOCH * 2 ^ 80

/-! ### Frames and slots (R78) -/

/-- The pattern of an index in the image in force. -/
def State.patternRec (s : State) (i : Nat) : Option PatternRec :=
  match s.ldr.image with
  | some m => m.body.patterns.find? fun p => p.index == i
  | none => none

/-- The pattern in force. -/
def State.pattern (s : State) : Option PatternRec := s.patternRec s.seq.pattern

/-- The alignment origin in ns. -/
def State.origin (s : State) : Nat := nsOf (s.reg R.timeAlignOrigin)

/-- s(n): the start of frame n (R78). -/
def frameStart (o : Nat) (p : PatternRec) (n : Int) : Int := o + n * (p.fpNum * 1000000000 : Nat) / (p.fpDen : Int)

/-- The frame number at an instant: the largest n with s(n) ≤ t (R78). -/
def frameAt (o : Nat) (p : PatternRec) (t : Int) : Int := ((t - o + 1) * p.fpDen - 1) / (p.fpNum * 1000000000 : Nat)

/-- b(n, k): the start of slot k of frame n (R78). -/
def slotStart (o : Nat) (p : PatternRec) (n : Int) (k : Nat) : Int :=
  frameStart o p n + k * (frameStart o p (n + 1) - frameStart o p n) / (p.slots : Int)

/-- The slot in progress at an instant of frame n: the largest k with b(n, k) ≤ t. -/
def slotAt (o : Nat) (p : PatternRec) (n t : Int) : Nat :=
  (List.range p.slots).foldl (fun a k => if slotStart o p n k ≤ t then k else a) 0

/-- The first frame number whose start is at or after an instant. -/
def firstFrameFrom (o : Nat) (p : PatternRec) (t : Int) : Int := frameAt o p (t - 1) + 1

/-- The frame period rounded up to whole ns (R86). -/
def periodCeil (p : PatternRec) : Nat := ceilDiv (p.fpNum * 1000000000) p.fpDen

/-- The frame number in progress, as a 48-bit count (R78); 0 where no pattern is in force. -/
def State.frameNow (s : State) : Nat :=
  match s.pattern with
  | some p => ofSigned 48 (frameAt s.origin p s.clock.now)
  | none => 0

/-- The frame in progress as an integer. -/
def State.frameInt (s : State) : Int :=
  match s.pattern with
  | some p => frameAt s.origin p s.clock.now
  | none => 0

/-- The slot in progress. -/
def State.slotNow (s : State) : Nat :=
  match s.pattern with
  | some p => slotAt s.origin p (frameAt s.origin p s.clock.now) s.clock.now
  | none => 0

/-- The slots of the pattern in force; 1 where there is none. -/
def State.slotCount (s : State) : Nat := match s.pattern with | some p => p.slots | none => 1

/-- b(N, k) of the frame in progress in ns, 0 where no pattern is in force. -/
def State.slotTime (s : State) (k : Nat) : Int :=
  match s.pattern with
  | some p => slotStart s.origin p (frameAt s.origin p s.clock.now) k
  | none => 0

/-- The code of a sequencer state (TIME_FRAME.SEQ). -/
def seqCode : SeqState → Nat
  | .idle => 0
  | .run => 1
  | .reduced => 2

/-- The sequencer state of a code. -/
def seqOfCode (c : Nat) : SeqState := if c = 1 then .run else if c = 2 then .reduced else .idle

/-- The sequencer state that an action names (TIME_MODE_COMMIT.ACTION: 0 RUN, 1 IDLE, 2 REDUCED). -/
def seqOfAction (a : Nat) : SeqState := if a = 0 then .run else if a = 2 then .reduced else .idle

/-- What TIME_FRAME reads. -/
def State.timeFrame (s : State) : Nat :=
  s.frameNow + s.slotNow * 2 ^ 48 + s.seq.pattern * 2 ^ 50 + seqCode s.seq.state * 2 ^ 53

/-- REDUCE_DIV for a frame: a change takes effect at the next frame boundary (TIME_SEQ_CFG). -/
def State.divFor (s : State) (n : Int) : Nat :=
  if s.frameInt < n then s.get R.timeSeqCfg F.timeSeqCfg_REDUCE_DIV else s.seq.div

/-- A sequencer state latches slot k of frame n: every slot in RUN, slot 0 of every 2^(REDUCE_DIV + 1)th frame in REDUCED, none
in IDLE (R82). -/
def State.latchRule (s : State) (st : SeqState) (n : Int) (k : Nat) : Bool :=
  match st with
  | .run => true
  | .reduced => k == 0 && n % (2 ^ (s.divFor n + 1) : Nat) == 0
  | .idle => false

/-- The sequencer latches slot k of frame n; while a state is to be entered at a frame boundary, only frames from there on
(R82, R86). -/
def State.latches (s : State) (n : Int) (k : Nat) : Bool :=
  match s.seq.target with
  | some t =>
    match s.pattern with
    | some p => decide ((t.from_ : Int) ≤ frameStart s.origin p n) && s.latchRule t.state n k
    | none => false
  | none => s.latchRule s.seq.state n k

/-- A tile that is admitted and LOCKED (R82, R237). -/
def State.mayRun (s : State) : Bool :=
  s.flag R.dscSelf F.dscSelf_ADMITTED && s.get R.timeStatus F.timeStatus_STATE == 3

/-- The state that an action gives: in a tile RUN only where it may run, else REDUCED (R82). -/
def State.allowed (s : State) (st : SeqState) : SeqState :=
  if s.isTile && st == .run && !s.mayRun then .reduced else st

/-- The sequencer aims at a state from an instant on: `now_` is the state until its first frame boundary. A tile that a core reset interrupted
stays in IDLE, and the state replaces the one it returns to (R82). -/
def SeqSt.aim (q : SeqSt) (now_ st : SeqState) (from_ : Nat) : SeqSt :=
  if st = .idle then { q with state := now_, target := none, interrupted := none, whole := false }
  else if q.interrupted.isSome then { q with state := .idle, target := none, interrupted := some st, whole := false }
  else { q with state := now_, target := some { state := st, from_ := from_ }, whole := false }

/-- The sequencer once a mode switch has taken effect at its time T (R86, R87): the first latch is that of the first new frame
boundary at or after T; with a pattern that the device does not hold it is dark in IDLE. -/
def State.modeTo (s : State) (m : ModeSwitch) : State :=
  let act := seqOfAction m.action
  let held := (s.patternRec m.pattern).isSome
  let st := if held then s.allowed act else .idle
  { s with seq := { (s.seq.aim st st m.time) with
             pattern := m.pattern, domainAction := act, since := m.time, pendingMode := none, dark := !held },
           cmp := { s.cmp with prev := none } }

/-- The sequencer as it will stand at an instant ahead: with the pending mode switch in effect where its time has come. -/
def State.planned (s : State) (t : Int) : State :=
  match s.seq.pendingMode with
  | some m => if (m.time : Int) ≤ t then s.modeTo m else s
  | none => s

/-- The slots of a frame that are composed: those latched whose boundary lies before a mode switch that is pending (R86). -/
def State.usedSlots (s : State) (n : Int) : List Nat :=
  match s.pattern with
  | some p => (List.range p.slots).filter fun k =>
      s.latches n k && (match s.seq.pendingMode with
        | some m => decide (slotStart s.origin p n k < m.time)
        | none => true)
  | none => []

/-- The frame number nearest this device's own whose low 16 bits are given (R209). -/
def State.frameNear (s : State) (low : Nat) : Int :=
  let n := s.frameInt
  let d := (low - n) % 65536
  if d < 32768 then n + d else n + d - 65536

/-- The full time in ns of a stamp of 32 bits, extended against a snapshot of TIME_NOW within 2.147 s of it (R76). -/
def extendNs32 (snap stamp : Int) : Int :=
  let d := (stamp - snap) % 4294967296
  if d < 2147483648 then snap + d else snap + d - 4294967296

end Sys2Proof.Machine
end

