-- ==== Sys2Proof/Machine/ImageCheck.lean ====
section
/-! DEFINITION. The checks of the Forjo image (R2, R23, R34 to R37, R77, R98, R176, R177, R286, R287, R441) and of the
firmware image (R387, R392), each answering the cause of the first failure, 0 for none. -/

namespace Sys2Proof.Machine

/-! ### The header stage (R34) -/

/-- The image in a slot's content, where there is one. -/
def slotForjo : Slot ForjoImage → Option ForjoImage
  | .erased => none
  | .image i => some i
  | .bytes b => some (forjoOfBytes b)

/-- The image in a firmware slot, where there is one. -/
def slotFw : Slot FwImage → Option FwImage
  | .erased => none
  | .image i => some i
  | .bytes b => some (fwOfBytes b)

/-- A key identifier is held and not revoked (R37, R387). -/
def keyHeld (fu : Fuses) (k : BitVec 32) : Bool := fu.keys.any fun e => e.1 == k && !e.2

/-- FORMAT causes of R34. -/
def headerFormatBad (h : ForjoHeader) : Bool :=
  fieldGet h.format.toNat ⟨8, 8⟩ != 1 || h.hdrSize != 128#16

/-- TARGET and PERSONALITY judged together at offset 0x08 (R34): 4 FORMAT, 5 BUILD_MISMATCH. -/
def headerTargetCause (fu : Fuses) (h : ForjoHeader) : Nat :=
  let t := h.target.toNat
  let p := h.personality.toNat
  if t < 1 ∨ 3 < t ∨ p < 1 ∨ 2 < p then 0x04
  else if (t = 1 ∧ fu.build ≠ .f) ∨ (t = 2 ∧ fu.build ≠ .t) ∨ (t = 3 ∧ p = 1) then 0x05
  else 0

/-- The header stage of R34: HDR_CRC first, MAGIC second, then the fields in offset order. `given` is the length given to
the loader for an image in host memory; `fwVersion` the running firmware's version. -/
def headerCause (fu : Fuses) (fwVersion : Nat) (given : Option Nat) (h : ForjoHeader) : Nat :=
  let len := h.length.toNat
  if crc32 (forjoHeaderBytes h) ≠ h.hdrCrc.toNat then 0x02
  else if h.magic ≠ 0x4A524F46#32 then 0x03
  else if headerFormatBad h then 0x04
  else if headerTargetCause fu h ≠ 0 then headerTargetCause fu h
  else if h.sections.toNat < 2 ∨ 32 < h.sections.toNat then 0x0A
  else if len % 64 ≠ 0 ∨ 16777216 < len ∨ len < 128 + 32 * h.sections.toNat ∨ (given.isSome ∧ given ≠ some len) then 0x07
  else if !keyHeld fu h.keyId then 0x08
  else if fwVersion < h.minFw.toNat then 0x09
  else if h.flags ≠ 1#32 ∨ h.reserved3C ≠ 0#32 ∨ h.reserved50 ≠ 0#384 then 0x04
  else 0

/-! ### The section table (R35, R36) -/

/-- Every section starts at a multiple of 64 B, its stored length is its length rounded up to a multiple of 64, and its reserved fields
are 0 (R35). -/
def entryShapeOk (e : SectionEntry) : Bool :=
  e.offset.toNat % 64 == 0 && e.stored.toNat == ceilDiv e.length.toNat 64 * 64 && e.reserved06 == 0#16 && e.reserved18 == 0#64 &&
    decide (e.sflags.toNat < 2)

/-- Two sections do not overlap. -/
def entriesApart (a b : SectionEntry) : Bool :=
  decide (a.offset.toNat + a.stored.toNat ≤ b.offset.toNat) || decide (b.offset.toNat + b.stored.toNat ≤ a.offset.toNat)

/-- No two sections of the table overlap. -/
def entriesDisjoint : List SectionEntry → Bool
  | [] => true
  | a :: r => r.all (entriesApart a) && entriesDisjoint r

/-- SIGN is the last section of the image and ends at LENGTH (R35). -/
def signLast (h : ForjoHeader) (es : List SectionEntry) : Bool :=
  match es.find? fun e => e.type == 0x000B#16 with
  | some e => e.offset.toNat + e.stored.toNat == h.length.toNat &&
      es.all fun x => x.type == 0x000B#16 || decide (x.offset.toNat + x.stored.toNat ≤ e.offset.toNat)
  | none => false

/-- Whether a section type is known. -/
def knownType (t : Nat) : Bool := decide (1 ≤ t ∧ t ≤ 11)

/-- Presence by personality at step 2 (R36): 1 feed, 2 tile; PECK in a tile depends on the mode. -/
def presenceOk (personality : Nat) (has : Nat → Bool) : Bool :=
  let both := has 0x1 && has 0x2 && has 0x7 && has 0x8 && has 0x9 && has 0xB
  if personality = 1 then both && has 0x3 && has 0x4 && has 0xA && !has 0x5 && !has 0x6
  else both && has 0x5 && has 0x6 && !has 0x3 && !has 0xA

/-- The whole table checked for SECTION_TABLE, then VERSION of each known type in table order (R36).
Which versions the device supports is left open (log entry 7). -/
def tableCause (h : ForjoHeader) (es : List SectionEntry) : Nat :=
  let types := es.map fun e => e.type.toNat
  let has := fun t => types.contains t
  if es.length ≠ h.sections.toNat ∨ !es.all entryShapeOk ∨ !entriesDisjoint es ∨ !signLast h es ∨ !distinct types ∨
      es.any (fun e => !knownType e.type.toNat && !bitOf e.sflags.toNat 0) ∨
      es.any (fun e => decide (e.offset.toNat < 128 + 32 * es.length)) ∨
      !presenceOk h.personality.toNat has then 0x0A
  else if es.any (fun e => knownType e.type.toNat && !Config.versionSupported e.type.toNat e.version.toNat) then 0x0B
  else 0

/-- Steps 1 and 2 of R37. -/
def headerStageCause (fu : Fuses) (fwVersion : Nat) (given : Option Nat) (i : ForjoImage) : Nat :=
  let c := headerCause fu fwVersion given i.hdr
  if c ≠ 0 then c else tableCause i.hdr i.entries

/-! ### LANES (R98, R176, R177) -/

/-- The width in lanes of a port width code. -/
def widthLanes (w : Nat) : Nat := if w = 0 then 1 else if w = 1 then 2 else 4

/-- The rate family of a rate code (R176): 1 A, 2 B, 3 C, 0 off. -/
def rateFamily (r : Nat) : Nat := if r = 1 ∨ r = 2 then 1 else if r = 3 then 2 else if r = 4 then 3 else 0

/-- A lane record's rate suits its role (R175). -/
def laneRateOk (l : LaneRec) : Bool :=
  match l.role with
  | .off => l.rate == 0#3
  | .halyard => l.rate == 1#3 || l.rate == 2#3
  | .ethernet => l.rate == 1#3 || l.rate == 3#3
  | .nvme => l.rate == 4#3

/-- The default record for a missing lane. -/
def laneOff : LaneRec := { role := .off, rate := 0#3, port := 0#7, width := 0#2, pos := 0#2, txInv := false, rxInv := false }

/-- A lane of the section. -/
def laneOf (ls : List LaneRec) (l : Nat) : LaneRec := ls.getD l laneOff

/-- The first lane of the port that lane `l` belongs to. -/
def portFirst (ls : List LaneRec) (l : Nat) : Nat := l - (laneOf ls l).pos.toNat

/-- A lane's quad mixes no two families (R176). -/
def quadFamilyOk (ls : List LaneRec) (g : Nat) : Bool :=
  let fs := ((List.range 4).map fun i => rateFamily (laneOf ls (4 * g + i)).rate.toNat).filter (· != 0)
  fs.all fun f => f == fs.headD 0

/-- The lanes of one port agree and lie as the rules place them (R177): lane `l` seen from its first lane. -/
def lanePortOk (ls : List LaneRec) (l : Nat) : Bool :=
  let r := laneOf ls l
  let w := widthLanes r.width.toNat
  let f := portFirst ls l
  if r.role = .off then true
  else
    decide (r.width.toNat ≤ 2) && decide (r.pos.toNat < w) && decide (r.pos.toNat ≤ l) && decide (f % w = 0) &&
    ((List.range w).all fun i =>
      let x := laneOf ls (f + i)
      x.role == r.role && x.rate == r.rate && x.port == r.port && x.width == r.width && x.pos.toNat == i) &&
    (match r.role with
     | .ethernet => decide (f % 4 = 0) && decide (r.port.toNat < 8) &&
         ((List.range 4).all fun i => decide (i < w) || (laneOf ls (f + i)).role == .off) &&
         (decide (r.rate.toNat = 1 ∧ w = 1) || decide (r.rate.toNat = 3 ∧ (w = 2 ∨ w = 4)))
     | .nvme => decide (w = 4) && decide (f % 4 = 0) && decide (r.port.toNat < 4)
     | _ => true)

/-- The first lanes of the ports of a role. -/
def portsOf (ls : List LaneRec) (role : LaneRole) : List Nat :=
  (List.range 96).filter fun l => (laneOf ls l).role == role && (laneOf ls l).pos == 0#2

/-- The rate of an Ethernet port in Gb/s (Ethernet port types of chapter 5). -/
def ethRate (r : LaneRec) : Nat :=
  if r.rate = 1#3 then 25 else if widthLanes r.width.toNat = 2 then 100 else 200

/-- Halyard port numbers (R177): a feed port bears its first lane; tile ports are CH0, CH1, BR0 to BR5, each once,
CH0 and CH1 present, and no other role. -/
def halyardNamesOk (personality : Nat) (ls : List LaneRec) : Bool :=
  let hs := portsOf ls .halyard
  if personality = 1 then hs.all fun l => (laneOf ls l).port.toNat == l
  else
    let names := hs.map fun l => (laneOf ls l).port.toNat
    names.all (fun n => decide (n < 8)) && distinct names && names.contains 0 && names.contains 1 &&
      (portsOf ls .ethernet).isEmpty && (portsOf ls .nvme).isEmpty

/-- The cause that the record of lane `l` gives, judged beside the whole section: PERSONALITY_LIMIT for an NVMe lane of a T-build image, else
LANES (R2, R175 to R177). The rate families of a quad are judged at each of its lanes. -/
def laneRecordCause (build : Build) (ls : List LaneRec) (l : Nat) : Nat :=
  if build = .t ∧ (laneOf ls l).role = .nvme then 0x06
  else if laneRateOk (laneOf ls l) && quadFamilyOk ls (l / 4) && lanePortOk ls l then 0
  else 0x10

/-- The first nonzero cause of a list. -/
def firstCause : List Nat → Nat
  | [] => 0
  | c :: r => if c ≠ 0 then c else firstCause r

/-- LANES limits, record by record in lane order (step 8 of R37), then those over the whole section (R98, R177; log entry 131). -/
def lanesCause (build : Build) (personality : Nat) (ls : List LaneRec) : Nat :=
  let eth := portsOf ls .ethernet
  let ethNames := eth.map fun l => (laneOf ls l).port.toNat
  let nv := portsOf ls .nvme
  let nvNames := nv.map fun l => (laneOf ls l).port.toNat
  firstCause [
    firstCause ((List.range 96).map (laneRecordCause build ls)),
    if ls.length ≠ 96 ∨ !halyardNamesOk personality ls ∨ 8 < eth.length ∨ !distinct ethNames ∨
      800 < (eth.map fun l => ethRate (laneOf ls l)).sum ∨ 4 < nv.length ∨ !distinct nvNames then 0x10 else 0]

/-! ### The other sections -/

/-- QUARTERS limits; layer mode in a T-build feed image is PERSONALITY_LIMIT. -/
def quartersCause (build : Build) (personality : Nat) (q : QuartersRec) : Nat :=
  if build = .t ∧ personality = 1 ∧ q.layerMode then 0x06
  else if q.bandWidth < 1 ∨ 16 < q.bandWidth ∨ q.layers.length ≠ 4 then 0x11
  else if personality = 1 ∨ q.layerMode then
    if q.layers.all fun n => decide (2 ≤ n ∧ n ≤ 8) then 0 else 0x11
  else if q.layers.all fun n => n == 0 then 0 else 0x11

/-- Two pools share no queue. -/
def poolsApart (a b : PoolRec) : Bool := decide (a.base + a.count ≤ b.base) || decide (b.base + b.count ≤ a.base)

/-- One pool record in its limits. -/
def poolOk (p : PoolRec) : Bool :=
  decide (p.cls ≤ 4) && p.count % 64 == 0 && decide (0 < p.count) && decide (p.base + p.count ≤ 262144) &&
    p.sizes.all fun z => z == 16 || z == 32 || z == 64

/-- QUEUES records in order, each judged beside those before it (step 8 of R37): in a T-build feed image a pool of the NVMe pair class, or
one that takes the total above 2,048, is PERSONALITY_LIMIT (R2; log entry 131). -/
def poolsCause (build : Build) (before : List PoolRec) : List PoolRec → Nat
  | [] => 0
  | p :: r =>
    let all := before ++ [p]
    let total := (all.map PoolRec.count).sum
    if build = .t ∧ (2048 < total ∨ p.cls = 3) then 0x06
    else if !poolOk p ∨ !before.all (poolsApart p) ∨ 262144 < total ∨
        64 < ((all.filter fun (x : PoolRec) => x.cls == 1).map (·.count)).sum ∨ 16 < all.length then 0x12
    else poolsCause build all r

/-- QUEUES limits. -/
def queuesCause (build : Build) (ps : List PoolRec) : Nat := if ps.isEmpty then 0x12 else poolsCause build [] ps

/-- Two granule runs share no granule. -/
def runsApart (a b : PeckRec) : Bool := decide (a.first + a.count ≤ b.first) || decide (b.first + b.count ≤ a.first)

/-- PECK runs pairwise disjoint. -/
def runsDisjoint : List PeckRec → Bool
  | [] => true
  | a :: r => r.all (fun b => runsApart a b || a.count == 0 || b.count == 0) && runsDisjoint r

/-- PECK limits. -/
def peckCause (ps : List PeckRec) : Nat :=
  if 32 < ps.length ∨ !distinct (ps.map fun p => (p.quarter, p.layer)) ∨ !runsDisjoint ps ∨
      256 < (ps.map (·.count)).sum ∨ ps.any (fun p => decide (3 < p.quarter ∨ 7 < p.layer ∨ 256 < p.first + p.count)) then 0x13
  else 0

/-- The lamps that a channel's entries place on it. -/
def lampsOn (m : LampMap) (c : Nat) : List LampRec := m.lamps.filter fun l => !l.absent && l.channel.toNat == c

/-- A lamp's position along its channel (R287). -/
def lampPos (l : LampRec) : Nat := 16 * l.driver.toNat + l.output.toNat

/-- LAMPMAP limits (R23, R286, R287). -/
def lampmapCause (m : LampMap) : Nat :=
  let present := m.lamps.filter fun l => !l.absent
  if m.width < 1 ∨ 512 < m.width ∨ m.height < 1 ∨ 512 < m.height ∨ m.channels.length ≠ 512 ∨
      m.lamps.length ≠ m.width * m.height ∨
      m.channels.any (fun c => decide (32 < c.drivers ∨ 512 < c.lamps) || c.reserved) ∨
      m.lamps.any (fun l => l.reserved != 0#13 ||
        (l.absent && (l.channel != 0#9 || l.driver != 0#5 || l.output != 0#4))) ∨
      present.any (fun l => match m.channels[l.channel.toNat]? with
        | some c => decide (c.drivers ≤ l.driver.toNat) | none => true) ∨
      !m.channels.zipIdx.all (fun x => x.1.lamps == (lampsOn m x.2).length) ∨
      !distinct (present.map fun l => l.channel.toNat * 512 + lampPos l) ∨
      (List.range 4).any (fun q => decide (65536 < (present.filter fun l => l.channel.toNat / 128 == q).length)) then 0x14
  else 0

/-- CORRBINS limits. -/
def binsCause (bs : List BinRec) : Nat :=
  if bs.length < 1 ∨ 64 < bs.length ∨ !distinct (bs.map (·.bin)) ∨ bs.any (fun b => decide (63 < b.bin) || !b.reservedZero) then 0x15 else 0

/-- One slot pattern in the limits of R77. -/
def patternOk (p : PatternRec) : Bool :=
  decide (p.index ≤ 7) && (p.slots == 1 || p.slots == 2 || p.slots == 4) && p.reservedZero && decide (0 < p.fpDen) &&
    decide (0 < p.fpNum) &&
    -- 1/240 s ≤ FP_NUM / FP_DEN ≤ 1/20 s, and SLOTS × FP_DEN / FP_NUM ≤ 240
    decide (p.fpDen ≤ 240 * p.fpNum) && decide (20 * p.fpNum ≤ p.fpDen) && decide (p.slots * p.fpDen ≤ 240 * p.fpNum) &&
    p.windows.length == 4 &&
    (List.range 4).all fun k =>
      let w := p.windows.getD k (0, 0)
      if k < p.slots then
        decide (1000 ≤ w.1) && decide (w.1 + 50000 ≤ w.2) &&
          decide (w.2 + 10001 ≤ p.fpNum * 1000000000 / (p.fpDen * p.slots))
      else w.2 == 0

/-- SLOTS limits. -/
def slotsCause (ps : List PatternRec) : Nat :=
  if ps.length < 1 ∨ 8 < ps.length ∨ !ps.all patternOk ∨ !distinct (ps.map (·.index)) ∨
      !ps.any (fun p => p.index == 0) then 0x16 else 0

/-- THERMAL limits. -/
def thermalCause (t : ThermalRec) : Nat := if t.warn ≤ t.throttle ∧ t.throttle < 125 then 0 else 0x17

/-- RESETS limits. -/
def resetsCause (r : ResetsRec) : Nat :=
  if r.cmdReach ≤ 1 ∧ r.fatalReach.all (fun x => decide (x ≤ 1)) ∧ r.fatalReach.length ≤ 24 then 0 else 0x18

/-- TILES limits (R441, and the section contents table); `length` is the section's LENGTH. -/
def tilesCause (length : Nat) (t : TilesSec) : Nat :=
  if length ≠ 64 + 8 * t.expectsCount + 32 * t.bindingsCount ∨ 256 < t.expectsCount ∨ 4095 < t.bindingsCount ∨
      !t.reservedZero ∨ t.expects.length ≠ t.expectsCount ∨ t.bindings.length ≠ t.bindingsCount ∨ 15 < t.domain ∨
      t.bindings.any (fun b => decide (0xFFE < b.addr ∨ 32767 < b.originX ∨ 16383 < b.originY)) ∨
      !distinct (t.bindings.map (·.addr)) ∨ !distinct (t.bindings.map (·.serial)) ∨
      !distinct (t.expects.map (·.geom)) then 0x19
  else 0

/-! ### Verification (steps 4 to 8 of R37) -/

/-- The receive burst buffers of the Ethernet ports, 256 KiB each, fit beside the transmit staging in the 1 MiB of their quarter (R32): all
that an image fixes of the placement in a T-build feed unit, whose rings and pictures are set by registers (log entry 132). -/
def placementFits (ls : List LaneRec) : Bool :=
  (List.range 4).all fun q => decide (((portsOf ls .ethernet).filter fun l => l / 24 == q).length * 262144 ≤ 1048576)

/-- The LENGTH of a section in the table. -/
def sectionLength (i : ForjoImage) (t : Nat) : Nat :=
  match i.entries.find? fun e => e.type.toNat == t with
  | some e => e.length.toNat
  | none => 0

/-- Step 8: mode-dependent presence, then every limit in the order of the section contents table. `hbmOk` says that both
stacks trained (R109). -/
def limitsCause (build : Build) (hbmOk : Bool) (i : ForjoImage) : Nat :=
  let p := i.hdr.personality.toNat
  let b := i.body
  let hasPeck := i.entries.any fun e => e.type == 0x0004#16
  if p = 2 ∧ b.quarters.layerMode ≠ hasPeck then 0x0A
  else firstCause
    [lanesCause build p b.lanes, quartersCause build p b.quarters,
     if p = 1 then queuesCause build b.queues else 0,
     if hasPeck then peckCause b.peck else 0,
     if p = 2 then lampmapCause b.lampmap else 0,
     if p = 2 then binsCause b.bins else 0,
     slotsCause b.patterns, thermalCause b.thermal, resetsCause b.resets,
     if p = 1 then tilesCause (sectionLength i 0x0A) b.tiles else 0,
     if b.signKeyId ≠ i.hdr.keyId then 0x0D else 0,
     if p = 1 ∧ ((build = .f ∧ !hbmOk) ∨ (build = .t ∧ !placementFits b.lanes)) then 0x1A else 0]

/-- Steps 4 to 8 of R37. -/
def verifyCause (build : Build) (hbmOk : Bool) (i : ForjoImage) : Nat :=
  if !i.body.signatureOk then 0x0D
  else if !i.body.tagOk then 0x0E
  else if !i.crcsOk then 0x0F
  else limitsCause build hbmOk i

/-! ### Firmware images (R387, R388, R392) -/

/-- Step 1 of R388: the fields marked in R387, HDR_CRC first, the others in offset order. -/
def fwHeaderCause (fu : Fuses) (f : FwImage) : Nat :=
  let sz := f.size.toNat
  if crc32 (fwHeaderBytes f) ≠ f.hdrCrc.toNat then 0x02
  else if f.magic ≠ 0x49574657#32 then 0x03
  else if fieldGet f.format.toNat ⟨8, 8⟩ ≠ 1 ∨ f.hdrSize ≠ 192#16 then 0x04
  else if f.product ≠ 0x7700#16 then 0x05
  else if fieldGet f.builds.toNat ⟨2, 6⟩ ≠ 0 ∨ !bitOf f.builds.toNat (if fu.build = .f then 0 else 1) then 0x06
  else if f.flags ≠ 1#8 then 0x04
  else if !keyHeld fu f.keyId then 0x07
  else if sz % 64 ≠ 0 ∨ sz < 64 ∨ 458752 < sz then 0x08
  else if 63 < f.svn.toNat ∨ f.svn.toNat < fu.svnFloor then 0x09
  else if f.reserved19 ≠ 0#24 ∨ f.reserved3C ≠ 0#32 ∨ f.reservedA0 ≠ 0#256 then 0x04
  else 0

/-- Steps 3 and 4 of R388. -/
def fwVerifyCause (f : FwImage) : Nat :=
  if !f.body.signatureOk then 0x0B else if !f.body.tagOk then 0x0C else 0

/-- Steps 1 to 4 of R388 on a slot's content; an empty one is NO_IMAGE. -/
def fwCause (fu : Fuses) (c : Slot FwImage) : Nat :=
  match slotFw c with
  | none => 0x01
  | some f => if fwHeaderCause fu f ≠ 0 then fwHeaderCause fu f else fwVerifyCause f

end Sys2Proof.Machine
end

