-- ==== Sys2Proof/Machine/Layers.lean ====
section
/-! DEFINITION. The settings of canvas, layers, sources and write-back as records read from a register file: the shadows, or
the values in force. -/

namespace Sys2Proof.Machine

/-- A field of a register in a register file. -/
def rfGet (rf : RegFile) (key : Nat) (f : Fld) : Nat := fieldGet (sRead regReset rf key) f

/-- A flag of a register in a register file. -/
def rfFlag (rf : RegFile) (key : Nat) (f : Fld) : Bool := rfGet rf key f != 0

/-- The settings of one layer of one quarter. -/
structure LayerCfg where
  quarter : Nat
  layer : Nat
  en : Bool
  slots : Nat
  src : Nat
  cspace : Nat
  range : Nat
  linear : Bool
  pa : Bool
  fallbackAtOnce : Bool
  holdLimit : Nat
  fbKind : Nat
  fbSrc : Nat
  concealHold : Bool
  x : Int
  y : Int
  px : Nat
  py : Nat
  outW : Nat
  outH : Nat
  cx : Nat
  cy : Nat
  cw : Nat
  ch : Nat
  ga : Nat
  fbcol : Rgb
  fill : Rgb
  hSet : Nat
  vSet : Nat
  hTaps : Nat
  vTaps : Nat
  tapfit : Bool
  first : Nat
  count : Nat
  deriving DecidableEq, Repr

/-- A colour of a register with the layout of CMP_LAYER_FBCOL. -/
def rfColour (rf : RegFile) (key : Nat) : Rgb :=
  ⟨rfGet rf key F.cmpLayerFbcol_R, rfGet rf key F.cmpLayerFbcol_G, rfGet rf key F.cmpLayerFbcol_B⟩

/-- The settings of layer `n` of quarter `q`. -/
def layerCfg (rf : RegFile) (q n : Nat) : LayerCfg :=
  let c := R.cmpLayerCtrl q n
  { quarter := q, layer := n, en := rfFlag rf c F.cmpLayerCtrl_EN, slots := rfGet rf c F.cmpLayerCtrl_SLOTS,
    src := rfGet rf c F.cmpLayerCtrl_SRC, cspace := rfGet rf c F.cmpLayerCtrl_CSPACE,
    range := rfGet rf c F.cmpLayerCtrl_RANGE, linear := rfFlag rf c F.cmpLayerCtrl_WSPACE,
    pa := rfFlag rf c F.cmpLayerCtrl_PA, fallbackAtOnce := rfFlag rf c F.cmpLayerCtrl_LATE_POLICY,
    holdLimit := max 1 (rfGet rf c F.cmpLayerCtrl_HOLD_LIMIT), fbKind := rfGet rf c F.cmpLayerCtrl_FB_KIND,
    fbSrc := rfGet rf c F.cmpLayerCtrl_FB_SRC, concealHold := rfFlag rf c F.cmpLayerCtrl_CONCEAL_HOLD,
    x := toSigned 16 (rfGet rf (R.cmpLayerPos q n) F.cmpLayerPos_X),
    y := toSigned 16 (rfGet rf (R.cmpLayerPos q n) F.cmpLayerPos_Y),
    px := rfGet rf (R.cmpLayerPhase q n) F.cmpLayerPhase_PX, py := rfGet rf (R.cmpLayerPhase q n) F.cmpLayerPhase_PY,
    outW := rfGet rf (R.cmpLayerSize q n) F.cmpLayerSize_OUT_W, outH := rfGet rf (R.cmpLayerSize q n) F.cmpLayerSize_OUT_H,
    cx := rfGet rf (R.cmpLayerCropPos q n) F.cmpLayerCropPos_CX, cy := rfGet rf (R.cmpLayerCropPos q n) F.cmpLayerCropPos_CY,
    cw := rfGet rf (R.cmpLayerCropSize q n) F.cmpLayerCropSize_CW,
    ch := rfGet rf (R.cmpLayerCropSize q n) F.cmpLayerCropSize_CH,
    ga := min 4096 (rfGet rf (R.cmpLayerAlpha q n) F.cmpLayerAlpha_GA),
    fbcol := rfColour rf (R.cmpLayerFbcol q n), fill := rfColour rf (R.cmpLayerFill q n),
    hSet := rfGet rf (R.sclLayerCfg q n) F.sclLayerCfg_H_SET, vSet := rfGet rf (R.sclLayerCfg q n) F.sclLayerCfg_V_SET,
    hTaps := rfGet rf (R.sclLayerCfg q n) F.sclLayerCfg_H_TAPS, vTaps := rfGet rf (R.sclLayerCfg q n) F.sclLayerCfg_V_TAPS,
    tapfit := rfFlag rf (R.sclLayerCfg q n) F.sclLayerCfg_TAPFIT,
    first := rfGet rf (R.lstAlloc q n) F.lstAlloc_FIRST, count := rfGet rf (R.lstAlloc q n) F.lstAlloc_COUNT }

/-- The enabled layers of a quarter, LY0 first. -/
def enabledLayers (rf : RegFile) (q : Nat) : List LayerCfg :=
  ((List.range 8).map (layerCfg rf q)).filter (·.en)

/-- The enabled layers of the device, in order of quarter and then layer. -/
def allLayers (rf : RegFile) : List LayerCfg := (List.range 4).flatMap (enabledLayers rf)

/-- The canvas settings. -/
structure CanvasCfg where
  w : Nat
  h : Nat
  cspace : Nat
  dither : Bool
  band : Nat
  lead : Nat
  bg : List Rgb
  deriving DecidableEq, Repr

/-- The canvas settings of a register file; LEAD in ns, BAND in lamps. -/
def canvasCfg (rf : RegFile) : CanvasCfg :=
  { w := rfGet rf R.cmpCanvasSize F.cmpCanvasSize_W, h := rfGet rf R.cmpCanvasSize F.cmpCanvasSize_H,
    cspace := rfGet rf R.cmpCanvasCfg F.cmpCanvasCfg_CSPACE, dither := rfFlag rf R.cmpCanvasCfg F.cmpCanvasCfg_DITHER,
    band := 256 * rfGet rf R.cmpCanvasCfg F.cmpCanvasCfg_BAND, lead := 1000 * rfGet rf R.cmpCanvasCfg F.cmpCanvasCfg_LEAD,
    bg := (List.range 4).map fun k => rfColour rf (R.cmpCanvasBg k) }

/-- The settings of a source descriptor. -/
structure SrcCfg where
  en : Bool
  kind : Nat
  format : Nat
  wire : Nat
  ringLog2 : Nat
  merge : Bool
  damagedUse : Bool
  lateTol : Nat
  width : Nat
  height : Nat
  num : Nat
  den : Nat
  lossMs : Nat
  mergeWin : Nat
  base : Nat
  slotBytes : Nat
  lineBytes : Nat
  trig : Nat
  stream : Nat
  deriving DecidableEq, Repr

/-- The ring format of a wire format (R104); 0 where the commit refuses it. -/
def wireFormat (w : Nat) : Nat :=
  match w with
  | 0 => 1 | 1 => 2 | 2 => 3 | 3 => 0xA | 4 => 0xA | 5 => 0xA | 6 => 4 | 7 => 4 | 8 => 5 | _ => 0

/-- The settings of source `s` in a register file; the format is that of the ring (ING_SRC_CTRL.FORMAT). -/
def srcCfg (rf : RegFile) (s : Nat) : SrcCfg :=
  let c := R.ingSrcCtrl s
  let kind := rfGet rf c F.ingSrcCtrl_KIND
  let wire := rfGet rf c F.ingSrcCtrl_WIRE
  { en := rfFlag rf c F.ingSrcCtrl_EN, kind := kind,
    format := if kind = 0 then wireFormat wire else if kind = 1 then 6 else rfGet rf c F.ingSrcCtrl_FORMAT,
    wire := wire, ringLog2 := rfGet rf c F.ingSrcCtrl_RING_LOG2, merge := rfFlag rf c F.ingSrcCtrl_MERGE,
    damagedUse := rfFlag rf c F.ingSrcCtrl_DAMAGED_USE, lateTol := max 1 (rfGet rf c F.ingSrcCtrl_LATE_TOL),
    width := rfGet rf (R.ingSrcGeom s) F.ingSrcGeom_WIDTH, height := rfGet rf (R.ingSrcGeom s) F.ingSrcGeom_HEIGHT,
    num := rfGet rf (R.ingSrcRate s) F.ingSrcRate_FR_NUM, den := rfGet rf (R.ingSrcRate s) F.ingSrcRate_FR_DEN,
    lossMs := max 1 (rfGet rf (R.ingSrcTiming s) F.ingSrcTiming_LOSS_MS),
    mergeWin := clampNat 10 1000 (rfGet rf (R.ingSrcTiming s) F.ingSrcTiming_MERGE_WIN),
    base := 4096 * rfGet rf (R.ingSrcRing s) F.ingSrcRing_BASE,
    slotBytes := 4096 * rfGet rf (R.ingSrcStride s) F.ingSrcStride_SLOT_STRIDE,
    lineBytes := 64 * rfGet rf (R.ingSrcStride s) F.ingSrcStride_LINE_STRIDE,
    trig := rfGet rf (R.ingSrcLink s) F.ingSrcLink_TRIG, stream := rfGet rf (R.ingSrcLink s) F.ingSrcLink_STREAM }

/-- The slots of a source ring (R89). -/
def SrcCfg.slots (c : SrcCfg) : Nat := 2 ^ c.ringLog2

/-- A slot of a source's ring as a picture. -/
def SrcCfg.pic (c : SrcCfg) (s slot serial : Nat) (concealed : Bool) : PicRef :=
  { source := s, base := c.base, slotBytes := c.slotBytes, lineBytes := c.lineBytes, format := c.format, width := c.width,
    height := c.height, slot := slot, concealed := concealed, serial := serial }

/-- The write-back settings. -/
structure WbCfg where
  en : Bool
  decim : Nat
  slot : Nat
  trig : Nat
  trigEn : Bool
  ringLog2 : Nat
  x : Nat
  y : Nat
  w : Nat
  h : Nat
  base : Nat
  slotBytes : Nat
  lineBytes : Nat
  deriving DecidableEq, Repr

/-- The write-back settings of a register file. -/
def wbCfg (rf : RegFile) : WbCfg :=
  let c := R.cmpWbCtrl
  { en := rfFlag rf c F.cmpWbCtrl_EN, decim := rfGet rf c F.cmpWbCtrl_DECIM, slot := rfGet rf c F.cmpWbCtrl_SLOT,
    trig := rfGet rf c F.cmpWbCtrl_TRIG, trigEn := rfFlag rf c F.cmpWbCtrl_TRIG_EN,
    ringLog2 := rfGet rf c F.cmpWbCtrl_RING_LOG2, x := rfGet rf R.cmpWbPos F.cmpWbPos_X, y := rfGet rf R.cmpWbPos F.cmpWbPos_Y,
    w := rfGet rf R.cmpWbSize F.cmpWbSize_W, h := rfGet rf R.cmpWbSize F.cmpWbSize_H,
    base := 4096 * rfGet rf R.cmpWbRing F.cmpWbRing_BASE, slotBytes := 4096 * rfGet rf R.cmpWbStride F.cmpWbStride_SLOT_STRIDE,
    lineBytes := 64 * rfGet rf R.cmpWbStride F.cmpWbStride_LINE_STRIDE }

/-- The register file of frame `n`: the shadows once a pending commit takes effect at or before it, the values before the last commit for
a frame that it follows, else the values in force (R85, R158). -/
def State.cfgFor (s : State) (n : Int) : RegFile :=
  let past := match s.cmp.prev with
    | some (f, old) => if n < f then old else s.active
    | none => s.active
  match s.cmp.pend with
  | some p => if (p.frame : Int) ≤ n then s.regs else past
  | none => past

/-- LEAD in force, in ns. -/
def State.lead (s : State) : Nat := (canvasCfg s.active).lead

/-- LEAD of the frame whose composition is `extra` ns further ahead: that of a pending commit from its effective frame on (R158). -/
def State.leadAhead (s : State) (extra : Nat) : Nat :=
  match s.cmp.pend, s.pattern with
  | some c, some p =>
    let next := (canvasCfg s.regs).lead
    if (c.frame : Int) ≤ frameAt s.origin p ((s.clock.now + next + extra : Nat) : Int) then next else s.lead
  | _, _ => s.lead

/-- The bands of the canvas (R18). -/
def bandCount (c : CanvasCfg) : Nat := if c.band = 0 ∨ c.h = 0 then 0 else ceilDiv c.w c.band

/-- The bands that a quarter walks: band b belongs to quarter b mod 4 (R18). -/
def bandsOf (c : CanvasCfg) (q : Nat) : List Nat := (List.range (bandCount c)).filter fun b => b % 4 == q

/-- The columns of band b, clipped at the canvas edge (R18): the first, and how many. -/
def bandCols (c : CanvasCfg) (b : Nat) : Nat × Nat := (b * c.band, min c.band (c.w - b * c.band))

/-- The lamps of a quarter in one slot (R19, R131). -/
def quarterLamps (c : CanvasCfg) (q : Nat) : Nat := (bandsOf c q).foldl (fun n b => n + (bandCols c b).2 * c.h) 0

/-- Every other shadowed field whose value its register marks as refused: COR_CFG, the fade curves, the Strike curve. -/
def markedFieldsOk (rf : RegFile) : Bool :=
  decide (rfGet rf R.corCfg F.corCfg_MODE ≠ 3 ∧ 12 ≤ rfGet rf R.corCfg F.corCfg_DEPTH ∧ rfGet rf R.corCfg F.corCfg_DEPTH ≤ 16 ∧
    rfGet rf R.corFade F.corFade_CURVE ≠ 3 ∧ rfGet rf R.lmpStrikeCfg F.lmpStrikeCfg_STRIKE_CURVE ≠ 3) &&
    (List.range 4).all fun q => (List.range 8).all fun n => rfGet rf (R.cmpLayerFade q n) F.cmpLayerFade_CURVE != 3

end Sys2Proof.Machine
end

