-- ==== Sys2Proof/Machine/Fades.lean ====
section
/-! DEFINITION. Fades (R306 to R308) and the ramps of the brightness caps (R260). -/

namespace Sys2Proof.Machine

/-- The weight w of a fade's curve at u (Fade curves); `up` says that B lies above A. -/
def fadeWeight (curve : Nat) (up : Bool) (u : Nat) : Nat :=
  match curve with
  | 0 => u
  | 1 => (u * u * (196608 - 2 * u) + 2 ^ 31) / 2 ^ 32
  | _ => if up then u * u * u / 2 ^ 32 else 65536 - (65536 - u) * (65536 - u) * (65536 - u) / 2 ^ 32

/-- The factor of a fade in frame n (R307). -/
def Fade.value (f : Fade) (n : Int) : Int :=
  if n < f.f0 then f.a
  else if n < f.f0 + f.frames then
    let u := ((n - f.f0 + 1).toNat * 65536) / f.frames
    f.a + ((f.b - f.a) * (fadeWeight f.curve (decide (f.a < f.b)) u : Nat)).tdiv 65536
  else f.b

/-- A fade is running in frame n. -/
def Fade.running (f : Fade) (n : Int) : Bool := decide (f.f0 ≤ n ∧ n < f.f0 + f.frames)

/-- The fade that a request register starts at frame F0, over the one before (R306). -/
def fadeFrom (v : Nat) (old : Fade) (f0 : Int) : Fade :=
  { a := old.value (f0 - 1), b := (min 4096 (fieldGet v F.corFade_TARGET) : Nat), f0 := f0,
    frames := max 1 (fieldGet v F.corFade_FRAMES), curve := fieldGet v F.corFade_CURVE }

/-- The fade that governs a request register in frame n: a commit that takes effect at or before it starts the one requested, where
the register has been written since the last commit (R306). -/
def State.fadeFor (s : State) (key : Nat) (old : Fade) (n : Int) : Fade :=
  match s.cmp.pend with
  | some p => if (p.frame : Int) ≤ n ∧ s.shWritten.contains key then fadeFrom (s.reg key) old p.frame else old
  | none => old

/-- The fade of a layer; one that has none rests at 4,096. -/
def State.layerFadeSt (s : State) (q n : Nat) : Fade := (sLookup s.cmp.fades (q * 8 + n)).getD Fade.rest

/-- The fade factor of a layer in a frame (R140, R308). -/
def State.layerFade (s : State) (q n : Nat) (frame : Int) : Nat :=
  ((s.fadeFor (R.cmpLayerFade q n) (s.layerFadeSt q n) frame).value frame).toNat

/-- The tile fade TFADE in a frame. -/
def State.tfade (s : State) (frame : Int) : Int := (s.fadeFor R.corFade s.cor.tfade frame).value frame

/-- TF, the tile fade factor of a frame: TFADE and TSTRIKE together (R264, R308). -/
def State.tf (s : State) (frame : Int) : Nat := ((s.tfade frame * s.cor.tstrike.value frame + 2048) / 4096).toNat

/-- The value of a cap's ramp in frame n (R260). -/
def CapRamp.value (r : CapRamp) (n : Int) : Int :=
  if n < r.frame then r.old
  else if n < r.frame + r.fade then r.old + ((r.cap - r.old) * (n - r.frame + 1)).tdiv r.fade
  else r.cap

/-- A new ramp over the one before (R260). -/
def CapRamp.next (r : CapRamp) (cap : Int) (frame : Int) (fade : Nat) : CapRamp :=
  { old := r.value (frame - 1), cap := cap, frame := frame, fade := max 1 fade }

/-- CAP_EFF in a frame (R259): for the frame in progress the caps in force, which are constant over it; for a later one what the ramps
give. -/
def State.capEff (s : State) (n : Int) : Nat :=
  if n ≤ s.frameInt then min (s.get R.corCap F.corCap_WALL) (s.get R.corCap F.corCap_LOCAL)
  else (min (s.cor.wall.value n) (s.cor.locCap.value n)).toNat

end Sys2Proof.Machine
end

