-- ==== Sys2Proof/Machine/MemErrors.lean ====
section
/-! DEFINITION. Uncorrected memory errors: those of the on-chip SRAM by region (R30, R32, R404) and those of the HBM (R110). -/

namespace Sys2Proof.Machine

/-- The block under which an uncorrected error of an SRAM region is raised, and its severity (R404); none for a tile's per-lamp records,
which R245 handles. -/
def sramReport (r : SramRegion) (tile : Bool) : Option (Block × Nat) :=
  match r with
  | .coefStore => if tile then none else some (.scl, 3)
  | .frameHold => some (.hal, 3)
  | .packetBuffer => some (.hal, 3)
  | .misc => some (if tile then .cor else .cmp, 3)
  | .peck => some (.lst, 3)
  | .codec => some (.cdc, 3)
  | .dmaBuffer => some (.dma, 3)
  | .ingestStaging => some (.ing, 2)
  | .qmCache => some (.qm, 4)
  | .mpMemory => some (.mbx, 4)
  | .eventsMailbox => some (.mbx, 4)
  | .hifTables => some (.hif, 4)

/-- An uncorrected SRAM error raises SRAM_ECC with the word address (R402, R404), whether or not the block is active. -/
def State.sramError (s : State) (r : SramRegion) (word : Nat) : State :=
  match sramReport r s.isTile with
  | some (b, sev) => s.raise b 0x7F sev 0 [word % 2 ^ 32]
  | none => s

/-- An uncorrected HBM error is counted and raised (R110). -/
def State.hbmError (s : State) (addr : Nat) : State :=
  (s.count R.hbmEcc F.hbmEcc_UNCORRECTED).raise .hbm 2 3 0 [addr % 2 ^ 32, addr / 2 ^ 32 % 2 ^ 32]

/-- An uncorrected error of the memory that BAR2 and the DMA reach: the HBM of an F build, the packet and fragment buffers of a T build
(R32), in words of 64 bits. -/
def State.memoryError (s : State) (addr : Nat) : State :=
  if s.isF then s.hbmError addr else s.sramError .packetBuffer (addr / 8)

/-- Uncorrected errors that a command's accesses met. -/
def State.memErrors (s : State) (l : List MemError) : State :=
  l.foldl (fun t e => match e with
    | .hbm a => if t.isF then t.hbmError a.toNat else t
    | .sram r w => t.sramError r w.toNat) s

end Sys2Proof.Machine
end

