-- ==== Sys2Proof/Machine/Lamps.lean ====
section
/-! DEFINITION. The lamps of a tile as its LAMPMAP places them (R287). -/

namespace Sys2Proof.Machine

/-- The LAMPMAP in force. -/
def State.lampMap (s : State) : Option LampMap := s.ldr.image.map (·.body.lampmap)

/-- A lamp of the tile: its place in row order, its position, its channel, its position along the channel. -/
structure LampAt where
  index : Nat
  x : Nat
  y : Nat
  channel : Nat
  pos : Nat
  deriving DecidableEq, Repr

/-- The key of a lamp in the stores: channel × 512 + position (R244). -/
def LampAt.key (l : LampAt) : Nat := l.channel * 512 + l.pos

/-- The lamps of a map, in row order (R287). -/
def lampsOf (m : LampMap) : List LampAt :=
  m.lamps.zipIdx.filterMap fun e =>
    if e.1.absent then none
    else some { index := e.2, x := e.2 % max 1 m.width, y := e.2 / max 1 m.width, channel := e.1.channel.toNat, pos := lampPos e.1 }

/-- The lamps of the tile. -/
def State.lamps (s : State) : List LampAt := match s.lampMap with | some m => lampsOf m | none => []

end Sys2Proof.Machine
end

