-- ==== Sys2Proof/Machine/Pixels.lean ====
section
/-! DEFINITION. Pictures in memory as pixels: the layer formats (R134), widening (R135), binary16 (R136), chroma interpolation
(R137) and the conversion to RGB (R138). -/

namespace Sys2Proof.Machine

/-- A pixel on its way to the scaler: 12-bit colour and an alpha of 0 to 4,096 (R139). -/
structure Pix where
  r : Int
  g : Int
  b : Int
  a : Int
  deriving DecidableEq, Repr

/-! ### Samples (R134) -/

/-- `w` bits of a big-endian bit string of bytes, from bit `o` on. -/
def msbBits (rd : Nat → Nat) (base o : Nat) : Nat → Nat
  | 0 => 0
  | w + 1 => 2 * msbBits rd base o w + rd (base + (o + w) / 8) / 2 ^ (7 - (o + w) % 8) % 2

/-- The bytes and pixels of a format's group (R134); format 0x06 in either plane (R174). -/
def formatGroup (f : Nat) : Nat × Nat :=
  match f with
  | 1 => (3, 1) | 2 => (15, 4) | 3 => (9, 2) | 4 => (5, 2) | 5 => (6, 2) | 6 => (4, 2) | 7 => (4, 1) | 8 => (8, 1)
  | 9 => (1, 1) | 0xA => (9, 2) | _ => (0, 1)

/-- The layer formats that the hardware knows (R134). -/
def formatKnown (f : Nat) : Bool := decide (1 ≤ f ∧ f ≤ 0xA)

/-- The bytes of one line of a picture in a format (for 0x06 of one luma line). -/
def lineBytesOf (f w : Nat) : Nat := ceilDiv w (formatGroup f).2 * (formatGroup f).1

/-- The formats whose group needs an even or fourfold width: the width must be a multiple of it (R134). -/
def formatPixels (f : Nat) : Nat := (formatGroup f).2

/-- The formats that carry alpha. -/
def formatAlpha (f : Nat) : Bool := f == 7 || f == 8 || f == 9

/-- The start of a line of a picture in memory. -/
def lineBase (p : PicRef) (y : Nat) : Nat := p.base + p.slot * p.slotBytes + y * p.lineBytes

/-- A colour sample widened by bit replication (R135). -/
def widen (d v : Nat) : Nat := if d < 12 then v * 2 ^ (12 - d) + v / 2 ^ (2 * d - 12) else v

/-- An 8-bit alpha sample (R135). -/
def alpha8 (v : Nat) : Nat := (v * 4112 + 128) / 256

/-- A binary16 component times `k`, rounded: floor(v × k + 0.5) with v clamped to 0 to 1 (R136). -/
def half (k bits : Nat) : Nat :=
  let sign := bits / 2 ^ 15 % 2
  let e := bits / 2 ^ 10 % 32
  let m := bits % 1024
  if sign = 1 then 0
  else if e = 31 then (if m = 0 then k else 0)
  else if 15 ≤ e then k
  else
    let num := if e = 0 then m else 1024 + m
    let sh := if e = 0 then 24 else 25 - e
    (2 * num * k + 2 ^ sh) / 2 ^ (sh + 1)

/-- A little-endian 16-bit word. -/
def le16 (rd : Nat → Nat) (a : Nat) : Nat := rd a + 256 * rd (a + 1)

/-- A luma sample at 12 bits (R134, R135). -/
def lumaAt (rd : Nat → Nat) (p : PicRef) (x y : Nat) : Nat :=
  let b := lineBase p y
  match p.format with
  | 4 => msbBits rd (b + x / 2 * 5) (if x % 2 = 0 then 10 else 30) 10 * 4
  | 5 => msbBits rd (b + x / 2 * 6) (if x % 2 = 0 then 12 else 36) 12
  | 6 => le16 rd (b + 2 * x) % 1024 * 4
  | _ => msbBits rd (b + x / 2 * 9) (if x % 2 = 0 then 12 else 48) 12

/-- A chroma sample at 12 bits: column `i` and chroma line `j`; `second` selects Cr (R134, R135). -/
def chromaAt (rd : Nat → Nat) (p : PicRef) (second : Bool) (i j : Nat) : Nat :=
  match p.format with
  | 4 => msbBits rd (lineBase p j + i * 5) (if second then 20 else 0) 10 * 4
  | 5 => msbBits rd (lineBase p j + i * 6) (if second then 24 else 0) 12
  | 6 => le16 rd (p.base + p.slot * p.slotBytes + p.lineBytes * p.height + j * p.lineBytes + 4 * i + (if second then 2 else 0)) % 1024 * 4
  | _ => msbBits rd (lineBase p j + i / 2 * 9) ((if i % 2 = 0 then 0 else 36) + (if second then 24 else 0)) 12

/-! ### Chroma (R137) -/

/-- The chroma of a column on a luma row: for 4:2:0 the vertical interpolation, else the sample itself. -/
def chromaRow (rd : Nat → Nat) (p : PicRef) (second : Bool) (i y : Nat) : Nat :=
  if p.format = 6 then
    let j := y / 2
    let last := p.height / 2 - 1
    let c := fun k => chromaAt rd p second i k
    if y % 2 = 0 then (3 * c j + c (j - 1) + 2) / 4 else (3 * c j + c (min last (j + 1)) + 2) / 4
  else chromaAt rd p second i y

/-- The chroma of a pixel: for 4:2:2 and 4:2:0 the horizontal interpolation, co-sited with even pixels. -/
def chromaPixel (rd : Nat → Nat) (p : PicRef) (second : Bool) (x y : Nat) : Nat :=
  if p.format = 0xA then chromaAt rd p second x y
  else
    let i := x / 2
    let last := p.width / 2 - 1
    if x % 2 = 0 then chromaRow rd p second i y
    else (chromaRow rd p second i y + chromaRow rd p second (min last (i + 1)) y + 1) / 2

/-! ### Conversion (R138) -/

/-- The coefficients KY, KRV, KGU, KGV, KBU by colour space (0 BT.709, 1 BT.2020) and range (0 narrow, 1 full). -/
def yuvCoef (cspace range : Nat) : List Int :=
  if cspace = 0 then (if range = 0 then [9574, 14740, 1753, 4382, 17368] else [8192, 12901, 1535, 3835, 15201])
  else (if range = 0 then [9574, 13802, 1540, 5348, 17610] else [8192, 12080, 1348, 4681, 15412])

/-- 12-bit YCbCr to 12-bit RGB (R138). -/
def yuvToRgb (cspace range y cb cr : Nat) : Int × Int × Int :=
  let k := yuvCoef cspace range
  let g := fun i => k.getD i 0
  let yy : Int := (y : Int) - (if range = 0 then 256 else 0)
  let u : Int := (cb : Int) - 2048
  let v : Int := (cr : Int) - 2048
  let cl := fun (t : Int) => clampInt 0 4095 (t / 8192)
  (cl (g 0 * yy + g 1 * v + 4096), cl (g 0 * yy - g 2 * u - g 3 * v + 4096), cl (g 0 * yy + g 4 * u + 4096))

/-- A source pixel brought to 12-bit RGB and alpha for a layer (R134 to R139). -/
def srcPixel (rd : Nat → Nat) (p : PicRef) (l : LayerCfg) (x y : Nat) : Pix :=
  let b := lineBase p y
  let opaque_ : Int := 4096
  match p.format with
  | 1 => ⟨widen 8 (rd (b + 3 * x)), widen 8 (rd (b + 3 * x + 1)), widen 8 (rd (b + 3 * x + 2)), opaque_⟩
  | 2 =>
    let o := b + x / 4 * 15
    let k := x % 4 * 30
    ⟨widen 10 (msbBits rd o k 10), widen 10 (msbBits rd o (k + 10) 10), widen 10 (msbBits rd o (k + 20) 10), opaque_⟩
  | 3 =>
    let o := b + x / 2 * 9
    let k := x % 2 * 36
    ⟨msbBits rd o k 12, msbBits rd o (k + 12) 12, msbBits rd o (k + 24) 12, opaque_⟩
  | 7 =>
    let o := b + 4 * x
    ⟨widen 8 (rd o), widen 8 (rd (o + 1)), widen 8 (rd (o + 2)), if l.pa then (alpha8 (rd (o + 3)) : Nat) else opaque_⟩
  | 8 =>
    let o := b + 8 * x
    ⟨half 4095 (le16 rd o), half 4095 (le16 rd (o + 2)), half 4095 (le16 rd (o + 4)),
     if l.pa then (half 4096 (le16 rd (o + 6)) : Nat) else opaque_⟩
  | 9 => ⟨l.fill.r, l.fill.g, l.fill.b, if l.pa then (alpha8 (rd (b + x)) : Nat) else opaque_⟩
  | _ =>
    let c := yuvToRgb l.cspace l.range (lumaAt rd p x y) (chromaPixel rd p false x y) (chromaPixel rd p true x y)
    ⟨c.1, c.2.1, c.2.2, opaque_⟩

/-- The bytes of device memory as numbers. -/
def State.rd (s : State) (a : Nat) : Nat := (s.memByte a).toNat

/-! ### The packed 36-bit layout of format 0x03, written (R154, R151, R209) -/

/-- A list of 12-bit codes packed MSB first, zero bits to the byte boundary. -/
def pack12 : List Nat → List Nat
  | [] => []
  | [a] => [a / 16 % 256, a % 16 * 16]
  | a :: b :: r => a / 16 % 256 :: (a % 16 * 16 + b / 256 % 16) :: b % 256 :: pack12 r

/-- The 12-bit codes that packed bytes hold. -/
def unpack12 : List Nat → List Nat
  | a :: b :: c :: r => (a * 16 + b / 16) :: (b % 16 * 256 + c) :: unpack12 r
  | [a, b] => [a * 16 + b / 16]
  | _ => []

/-- The codes of lamps in order R, G, B. -/
def rgbCodes (l : List Rgb) : List Nat := l.flatMap fun c => [c.r, c.g, c.b]

/-- The lamps of codes. -/
def codesRgb : List Nat → List Rgb
  | a :: b :: c :: r => ⟨a, b, c⟩ :: codesRgb r
  | _ => []

end Sys2Proof.Machine
end

