-- ==== Sys2Proof/Machine/Scaler.lean ====
section
/-! DEFINITION. The polyphase scaler: sample positions (R162), taps (R163), bypass (R164), arithmetic (R166), the reduced
filter (R171), the coefficient store (R167), and the need of a layer for Peck granules (R168 to R170). -/

namespace Sys2Proof.Machine

/-- One direction of a layer: crop origin, crop size, output size, phase, taps. -/
structure Dir where
  c : Nat
  nIn : Nat
  nOut : Nat
  p : Nat
  taps : Nat
  deriving DecidableEq, Repr

/-- The horizontal direction of a layer. -/
def LayerCfg.hdir (l : LayerCfg) : Dir := ⟨l.cx, l.cw, l.outW, l.px, l.hTaps⟩

/-- The vertical direction of a layer, at a tap count. -/
def LayerCfg.vdir (l : LayerCfg) (taps : Nat) : Dir := ⟨l.cy, l.ch, l.outH, l.py, taps⟩

/-- A direction is bypassed (R164). -/
def Dir.bypass (d : Dir) : Bool := d.nIn == d.nOut && d.p == 0

/-- The step of a direction in u4.28 (R162). -/
def Dir.step (d : Dir) : Nat := d.nIn * 2 ^ 28 / d.nOut

/-- The position of a lamp index in 2^-28 source pixel (R162). -/
def Dir.pos (d : Dir) (i : Nat) : Int :=
  (128 * (i : Int) + 64 - 2 * d.p) * d.step / 128 - 2 ^ 27 + d.c * 2 ^ 28

/-- The integer source pixel of a lamp index (R162). -/
def Dir.pixel (d : Dir) (i : Nat) : Int := d.pos i / 2 ^ 28

/-- The tap phase of a lamp index (R162). -/
def Dir.phase (d : Dir) (i : Nat) : Nat := (d.pos i / 2 ^ 22 % 64).toNat

/-- A pixel index clamped into the crop (R163). -/
def Dir.clampIndex (d : Dir) (k : Int) : Nat := (clampInt d.c (d.c + d.nIn - 1) k).toNat

/-- The source pixels that a lamp index reads, tap 0 first (R163); one pixel where bypassed (R164). -/
def Dir.reads (d : Dir) (i : Nat) : List Nat :=
  if d.bypass then [d.c + i]
  else (List.range d.taps).map fun (t : Nat) => d.clampIndex (d.pixel i + (t : Int) - ((d.taps / 2 : Nat) : Int) + 1)

/-- The coefficients of a phase of a set of a quarter, taps of them (R166). -/
def State.coefs (s : State) (q set_ phase taps : Nat) : List Int :=
  (List.range taps).map fun t => toSigned 10 (s.get (R.sclCoef q set_ phase t) F.sclCoef_C)

/-- The filter of `v` taps reduced to `t` taps: the middle ones, the outermost kept taking the sums dropped on their side (R171). -/
def reduceTaps (cs : List Int) (t : Nat) : List Int :=
  let v := cs.length
  let d := (v - t) / 2
  if d = 0 then cs
  else
    let mid := (cs.drop d).take t
    let low := (cs.take d).foldl (· + ·) 0
    let high := (cs.drop (d + t)).foldl (· + ·) 0
    mid.zipIdx.map fun x => if x.2 = 0 then x.1 + low else if x.2 + 1 = t then x.1 + high else x.1

/-- The sum of products of a filter. -/
def dot : List Int → List Int → Int
  | a :: r, b :: t => a * b + dot r t
  | _, _ => 0

/-- The vertical stage on one column of samples (R166). -/
def vStage (bypass : Bool) (cs ps : List Int) : Int :=
  if bypass then ps.headD 0 * 8 else clampInt (-65536) 65535 ((dot cs ps + 16) / 32)

/-- The horizontal stage on intermediate values (R166). -/
def hStage (bypass : Bool) (m : Int) (cs is_ : List Int) : Int :=
  if bypass then clampInt 0 m ((is_.headD 0 + 4) / 8) else clampInt 0 m ((dot cs is_ + 1024) / 2048)

/-- The sample of a lamp (i, j) of a layer from a pixel function: colour and alpha through the same filters (R163 to R166). -/
def scaleAt (hd vd : Dir) (hc vc : List Int) (px : Nat → Nat → Pix) (i j : Nat) : Pix :=
  let xs := hd.reads i
  let ys := vd.reads j
  let col := fun (sel : Pix → Int) => xs.map fun x => vStage vd.bypass vc (ys.map fun y => sel (px x y))
  { r := hStage hd.bypass 4095 hc (col (·.r)), g := hStage hd.bypass 4095 hc (col (·.g)),
    b := hStage hd.bypass 4095 hc (col (·.b)), a := hStage hd.bypass 4096 hc (col (·.a)) }

/-- The sample of a lamp of a layer in the quarter's own coefficients, at `v` vertical taps. -/
def State.layerSample (s : State) (q : Nat) (l : LayerCfg) (v : Nat) (px : Nat → Nat → Pix) (i j : Nat) : Pix :=
  let hd := l.hdir
  let vd := l.vdir v
  let hc := s.coefs q l.hSet (hd.phase i) l.hTaps
  let vc := reduceTaps (s.coefs q l.vSet (vd.phase j) l.vTaps) v
  scaleAt hd vd hc vc px i j

/-- The pre-scale of a direction in layer mode: a scale factor below 1/2 goes to twice the output size (R173). -/
def Dir.pre (d : Dir) : Dir := ⟨0, d.nIn, if 2 * d.nOut < d.nIn then 2 * d.nOut else d.nIn, 0, d.taps⟩

/-- The alpha of a fragment's pixel as every reader decodes it (R151). -/
def fragAlpha (a : Int) : Int := if 4096 ≤ a then 4096 else min a 4094

/-- A pixel of the pre-scaled crop from which fragments are cut (R151, R173). -/
def State.fragPixel (s : State) (q : Nat) (l : LayerCfg) (v : Nat) (px : Nat → Nat → Pix) (x y : Nat) : Pix :=
  let hd := l.hdir.pre
  let vd := (l.vdir v).pre
  let hc := s.coefs q l.hSet (hd.phase x) l.hTaps
  let vc := reduceTaps (s.coefs q l.vSet (vd.phase y) l.vTaps) v
  let p := scaleAt hd vd hc vc (fun a b => px (l.cx + a) (l.cy + b)) x y
  { p with a := fragAlpha p.a }

/-- The sample of a lamp of a layer in layer mode: the pre-scaled picture scaled to its output size, both at the vertical taps in force
(R171, R173). -/
def State.layerModeSample (s : State) (q : Nat) (l : LayerCfg) (v : Nat) (px : Nat → Nat → Pix) (i j : Nat) : Pix :=
  let hd : Dir := ⟨0, l.hdir.pre.nOut, l.outW, l.px, l.hTaps⟩
  let vd : Dir := ⟨0, (l.vdir v).pre.nOut, l.outH, l.py, v⟩
  scaleAt hd vd (s.coefs q l.hSet (hd.phase i) l.hTaps) (reduceTaps (s.coefs q l.vSet (vd.phase j) l.vTaps) v) (s.fragPixel q l v px) i j

/-! ### The Peck (R168 to R171) -/

/-- The canvas columns that a layer covers in a span of columns, as lamp indexes of the layer. -/
def coveredCols (l : LayerCfg) (canvasW x0 w : Nat) : List Nat :=
  (List.range l.outW).filter fun i =>
    let x := l.x + i
    decide (0 ≤ x ∧ x < canvasW ∧ (x0 : Int) ≤ x ∧ x < x0 + w)

/-- The layer covers a canvas row. -/
def coversRows (l : LayerCfg) (canvasH : Nat) : Bool := decide (l.y < canvasH ∧ 0 < l.y + l.outH)

/-- Distinct values of a list. -/
def dedupNat : List Nat → List Nat
  | [] => []
  | a :: r => let t := dedupNat r; if t.contains a then t else a :: t

/-- The crop pixels that the horizontal stage reads for lamp indexes (R168). -/
def readCount (d : Dir) (is_ : List Nat) : Nat :=
  if d.bypass then is_.length else (dedupNat (is_.flatMap d.reads)).length

/-- The band-limited source width W_B of a layer (R168). -/
def bandWidthNeed (c : CanvasCfg) (l : LayerCfg) : Nat :=
  if coversRows l c.h then
    (bandsOf c l.quarter).foldl (fun m b =>
      let (x0, w) := bandCols c b
      max m (readCount l.hdir (coveredCols l c.w x0 w))) 0
  else 0

/-- W_B of a layer in layer mode: the columns of the pre-scaled picture take the place of canvas lamps (R173). -/
def preWidthNeed (c : CanvasCfg) (l : LayerCfg) : Nat :=
  let d := l.hdir.pre
  let cols := (List.range d.nOut).filter fun i => decide (0 < c.band) && (i / c.band) % 4 == l.quarter
  (List.range (ceilDiv d.nOut (max 1 c.band))).foldl (fun m b => max m (readCount d (cols.filter fun i => i / c.band == b))) 0

/-- W_B of a layer in a layer-mode tile: each quarter walks the tile's width as one band, and its lamps read columns of the fragment
(chapter 8). -/
def State.tileWidthNeed (s : State) (l : LayerCfg) : Nat :=
  let o := s.dsc.origin.getD (0, 0)
  let mine := s.lamps.filter fun a => a.channel / 128 == l.quarter &&
    decide (l.x ≤ (o.1 + a.x : Nat) ∧ ((o.1 + a.x : Nat) : Int) < l.x + l.outW ∧ l.y ≤ (o.2 + a.y : Nat) ∧ ((o.2 + a.y : Nat) : Int) < l.y + l.outH)
  readCount ⟨0, l.hdir.pre.nOut, l.outW, l.px, l.hTaps⟩ (dedupNat (mine.map fun a => (((o.1 + a.x : Nat) : Int) - l.x).toNat))

/-- What the Peck check counts of a layer (R168, R173): W_B, and whether its vertical direction is bypassed. In layer mode a feed unit
filters vertically where it pre-scales, and a tile what is left to scale. -/
structure PeckLayer where
  wb : Nat
  bypass : Bool
  deriving DecidableEq, Repr

/-- A layer as the Peck check of this device sees it. -/
def State.peckLayer (s : State) (c : CanvasCfg) (l : LayerCfg) : PeckLayer :=
  let vd := l.vdir l.vTaps
  if !s.layerMode then ⟨bandWidthNeed c l, vd.bypass⟩
  else if s.isTile then ⟨s.tileWidthNeed l, ({ vd.pre with c := 0, nIn := vd.pre.nOut, nOut := l.outH, p := l.py } : Dir).bypass⟩
  else ⟨preWidthNeed c l, vd.pre.bypass⟩

/-- Granules that a layer of W_B needs at `v` vertical taps (R169). -/
def granules (k : PeckLayer) (v : Nat) : Nat :=
  if k.bypass ∨ k.wb = 0 then 0 else ceilDiv (k.wb * 9 * (v - 1)) 8192

/-- The largest even tap count from 2 up to V_TAPS whose need fits in COUNT (R171). -/
def fitTaps (l : LayerCfg) (k : PeckLayer) : Option Nat :=
  ((List.range (l.vTaps / 2)).map fun i => l.vTaps - 2 * i).find? fun t => decide (2 ≤ t ∧ granules k t ≤ l.count)

/-- The taps that a committed layer uses: V_TAPS, or fewer under TAPFIT (R171); 0 where bypassed. -/
def tapsUsed (l : LayerCfg) (k : PeckLayer) : Nat :=
  if k.bypass then 0
  else if granules k l.vTaps ≤ l.count then l.vTaps
  else if l.tapfit then (fitTaps l k).getD l.vTaps else l.vTaps

/-! ### The fetch of a band (R174) -/

/-- The bytes that a band fetches of a line for crop pixels p0 to p1 of a picture of a width, in whole groups and whole 64 B words (R174).
A line of format 0x06 has groups of 2 pixels and 4 B in either plane. -/
def fetchBytes (format width p0 p1 : Nat) : Nat :=
  let wide := 4 ≤ format ∧ format ≤ 6
  let a := if wide then p0 - 2 else p0
  let b := if wide then min (width - 1) (p1 + 2) else p1
  let (gb, g) := if format = 6 then (4, 2) else formatGroup format
  64 * ceilDiv (ceilDiv (b + 1) g * gb) 64 - 64 * (a / g * gb / 64)

/-- The bytes that band b fetches of each source line of a layer (R174): none where it covers no lamp of the band. -/
def bandFetch (c : CanvasCfg) (l : LayerCfg) (f : SrcCfg) (b : Nat) : Nat :=
  let (x0, w) := bandCols c b
  match (coveredCols l c.w x0 w).flatMap l.hdir.reads with
  | [] => 0
  | a :: r => fetchBytes f.format f.width (r.foldl min a) (r.foldl max a)

/-! ### The coefficient store (R167) -/

/-- An enabled layer of the quarter uses a set, in a register file. -/
def setUsed (rf : RegFile) (q set_ : Nat) : Bool := (enabledLayers rf q).any fun l => l.hSet == set_ || l.vSet == set_

/-- A commit is being checked or is pending. -/
def State.committing (s : State) : Bool := s.cmp.checking.isSome || s.cmp.pend.isSome

/-- A write of SCL_COEF (R167). -/
def State.coefWrite (s : State) (q set_ phase t value : Nat) (req : Requester) : State :=
  let k := R.sclCoef q set_ phase t
  if setUsed s.active q set_ || (s.committing && setUsed s.regs q set_) then s.progError k value req
  else s.setReg k (value % 1024)

/-- SCL_COEF_WRITE (R167). -/
def execSclCoefWrite (req : Requester) (quarter : Fin 4) (set_ : Fin 16) (phase : Fin 64) (tap : Fin 12) (value : Word) (s : State) : Out :=
  .next (s.byReq req (if s.live .scl then s.coefWrite quarter.val set_.val phase.val tap.val value.toNat req else s))

end Sys2Proof.Machine
end

