-- ==== Sys2Proof/Machine/Compose.lean ====
section
/-! DEFINITION. Alpha and blend (R140 to R143), the LUTs (R144), dither and output (R145, R146), and the canvas value of a lamp (R141). -/

namespace Sys2Proof.Machine

/-! ### Blend -/

/-- The effective alpha of a layer at a lamp (R140). -/
def effectiveAlpha (a : Int) (ga fade : Nat) : Int := ((a * ga + 2048) / 4096 * fade + 2048) / 4096

/-- A coded blend of one colour (R142). -/
def blendCoded (alpha s a : Int) : Int := (alpha * (s * 16) + (4096 - alpha) * a + 2048) / 4096

/-- The rows of the gamut conversion matrices (R143); `to2020` selects BT.709 to BT.2020. -/
def gamutRows (to2020 : Bool) : List (List Int) :=
  if to2020 then [[10279, 5395, 709], [1132, 15065, 187], [269, 1442, 14673]]
  else [[27206, -9627, -1193], [-2041, 18562, -136], [-298, -1648, 18329]]

/-- Linear light converted between gamuts (R143). -/
def gamut (to2020 : Bool) (v : List Int) : List Int :=
  (gamutRows to2020).map fun row => clampInt 0 1048575 ((dot row v + 8192) / 16384)

/-- The accumulator made linear by W (R143 step 2). -/
def toLinear (w : Nat → Int) (a : Int) : Int :=
  let i := (a / 16).toNat
  let nxt := if i < 4095 then w (i + 1) else w 4095
  w i + ((nxt - w i) * (a % 16) + 8) / 16

/-- The largest index below 4,096 with W[i] ≤ L, by halving; W is non-decreasing (R144). -/
def largestIndex (w : Nat → Int) (l : Int) : Nat → Nat → Nat
  | 0, lo => lo
  | n + 1, lo => if lo + 2 ^ n < 4096 ∧ w (lo + 2 ^ n) ≤ l then largestIndex w l n (lo + 2 ^ n) else largestIndex w l n lo

/-- Linear light coded again (R143 step 4). -/
def toCoded (w : Nat → Int) (l : Int) : Int :=
  if l < w 0 then 0
  else
    let i := largestIndex w l 12 0
    if i = 4095 then 65520
    else
      let d := w (i + 1) - w i
      let f := if d = 0 then 0 else (l - w i) * 16 / d
      i * 16 + min f 15

/-- What a layer contributes at a lamp. -/
structure Contribution where
  alpha : Int
  s : Pix
  linear : Bool
  cspace : Nat
  e : Nat → Int

/-- A layer blended over an accumulator of three coded-16 values (R142, R143). -/
def blend (canvasSpace : Nat) (w : Nat → Int) (c : Contribution) (acc : List Int) : List Int :=
  let sv := [c.s.r, c.s.g, c.s.b]
  if c.linear then
    let ls := sv.map fun v => c.e v.toNat
    let lc := if c.cspace = canvasSpace then ls else gamut (canvasSpace == 1) ls
    (lc.zip acc).map fun x => toCoded w ((c.alpha * x.1 + (4096 - c.alpha) * toLinear w x.2 + 2048) / 4096)
  else (sv.zip acc).map fun x => blendCoded c.alpha x.1 x.2

/-! ### Dither (R145) -/

/-- The dither generator: d, 0 to 65,535 (R145). -/
def dither (x y c frame slot : Nat) : Nat :=
  let m := 2 ^ 32
  let k := x % 2 ^ 15 + y % 2 ^ 14 * 2 ^ 15 + c * 2 ^ 29
  let s := (frame % m * 4 + slot) % m
  let v0 := Nat.xor (k % m) (s * 0x9e3779b9 % m)
  let v1 := Nat.xor v0 (v0 / 2 ^ 16) * 0x85ebca6b % m
  let v2 := Nat.xor v1 (v1 / 2 ^ 13) * 0xc2b2ae35 % m
  Nat.xor v2 (v2 / 2 ^ 16) / 2 ^ 16

/-- The canvas value of one colour from its accumulator (R145). -/
def canvasCode (dith : Bool) (a : Int) (x y c frame slot : Nat) : Nat :=
  if dith then min 4095 ((a.toNat + dither x y c frame slot / 4096) / 16) else min 4095 ((a.toNat + 8) / 16)

/-- A list of three accumulators as canvas values (R145, R146). -/
def canvasRgb (dith : Bool) (acc : List Int) (x y frame slot : Nat) : Rgb :=
  ⟨canvasCode dith (acc.getD 0 0) x y 0 frame slot, canvasCode dith (acc.getD 1 0) x y 1 frame slot,
   canvasCode dith (acc.getD 2 0) x y 2 frame slot⟩

/-! ### LUTs (R144) -/

/-- The wall EOTF LUT W of a quarter. -/
def State.lutW (s : State) (q : Nat) (i : Nat) : Int := s.get (R.cmpLutW q i) F.cmpLutW_ENTRY

/-- The EOTF LUT E of a layer. -/
def State.lutE (s : State) (q n : Nat) (i : Nat) : Int := s.get (R.cmpLutE q n i) F.cmpLutE_ENTRY

/-- A layer is enabled in linear space in a register file. -/
def linearOn (rf : RegFile) (q n : Nat) : Bool := (layerCfg rf q n).en && (layerCfg rf q n).linear

/-- A write of E of a layer: only while the layer is disabled or coded in force and in a commit under way (R144). -/
def State.lutEWrite (s : State) (q n i value : Nat) (req : Requester) : State :=
  let k := R.cmpLutE q n i
  if linearOn s.active q n || (s.committing && linearOn s.regs q n) then s.progError k value req
  else s.setReg k (value % 2 ^ 20)

/-- A write of W: only while the sequencer is in IDLE (R144). -/
def State.lutWWrite (s : State) (q i value : Nat) (req : Requester) : State :=
  if s.seq.state = .idle then s.setReg (R.cmpLutW q i) (value % 2 ^ 20) else s.progError (R.cmpLutW q i) value req

/-- CMP_LUT_WRITE (R144): `layer` names a layer's E, none the wall's W. -/
def execCmpLutWrite (req : Requester) (quarter : Fin 4) (layer : Option (Fin 8)) (entry : Fin 4096) (value : Word) (s : State) : Out :=
  .next (s.byReq req (if s.live .cmp then
    match layer with
    | some n => s.lutEWrite quarter.val n.val entry.val value.toNat req
    | none => s.lutWWrite quarter.val entry.val value.toNat req
  else s))

/-! ### One lamp of the canvas (R141) -/

/-- A layer's own state; one that nothing has set shows nothing. -/
def State.layerSt (s : State) (q n : Nat) : LayerSt :=
  (s.cmp.layers.find? fun l => l.quarter == q && l.layer == n).getD
    { quarter := q, layer := n, shown := none, clean := none, cut := none, first := false }

/-- The state with a layer's own state set. -/
def State.setLayerSt (s : State) (l : LayerSt) : State :=
  { s with cmp := { s.cmp with layers :=
      (s.cmp.layers.filter fun x => !(x.quarter == l.quarter && x.layer == l.layer)) ++ [l] } }

/-- A position in a quarter's walk of a frame lies at or after an underrun (R149): slot, band, row, column in order. -/
def afterCut (cut : Option (Nat × Nat × Nat × Nat)) (k b row col : Nat) : Bool :=
  match cut with
  | none => false
  | some (k0, b0, r0, c0) => !lexLess4 (k, b, row, col) (k0, b0, r0, c0)
where
  /-- Lexicographic order of walk positions. -/
  lexLess4 (a b : Nat × Nat × Nat × Nat) : Bool :=
    decide (a.1 < b.1) || (a.1 == b.1 && (decide (a.2.1 < b.2.1) || (a.2.1 == b.2.1 &&
      (decide (a.2.2.1 < b.2.2.1) || (a.2.2.1 == b.2.2.1 && decide (a.2.2.2 < b.2.2.2))))))

/-- The layer covers a canvas lamp (R141). -/
def LayerCfg.covers (l : LayerCfg) (x y : Int) : Bool :=
  decide (l.x ≤ x ∧ x < l.x + l.outW ∧ l.y ≤ y ∧ y < l.y + l.outH)

/-- The vertical taps a layer uses in a frame's settings (R171). -/
def State.layerTaps (s : State) (rf : RegFile) (l : LayerCfg) : Nat :=
  let t := tapsUsed l (s.peckLayer (canvasCfg rf) l)
  if t = 0 then l.vTaps else t

/-- A layer in FALLBACK, by its status register. -/
def State.layerState (s : State) (q n : Nat) : Nat := s.get (R.cmpLayerStatus q n) F.cmpLayerStatus_STATE

/-- What an enabled layer that covers a lamp contributes there; none where it shows nothing (R148, R149). -/
def State.contribution (s : State) (rf : RegFile) (l : LayerCfg) (frame k b row x y : Nat) : Option Contribution :=
  let q := l.quarter
  let st := s.layerSt q l.layer
  let mk := fun (p : Pix) =>
    ({ alpha := if afterCut st.cut k b row x then 0 else effectiveAlpha p.a l.ga (s.layerFade q l.layer frame), s := p,
       linear := l.linear, cspace := l.cspace, e := s.lutE q l.layer } : Contribution)
  if s.layerState q l.layer = 2 ∧ l.fbKind = 1 then some (mk ⟨l.fbcol.r, l.fbcol.g, l.fbcol.b, 4096⟩)
  else match st.shown with
    | some p =>
      let i := ((x : Int) - l.x).toNat
      let j := ((y : Int) - l.y).toNat
      let px := srcPixel s.rd p l
      let v := s.layerTaps rf l
      some (mk (if s.layerMode then s.layerModeSample q l v px i j else s.layerSample q l v px i j))
    | none => none

/-- The canvas value of a lamp of slot k of a frame, in the settings of that frame (R141 to R146). -/
def State.canvasValue (s : State) (rf : RegFile) (frame k b row x : Nat) : Rgb :=
  let c := canvasCfg rf
  let q := b % 4
  let bg := c.bg.getD k ⟨0, 0, 0⟩
  let layers := (enabledLayers rf q).filter fun l => bitOf l.slots k && l.covers x row
  let acc := layers.foldl (fun acc l =>
    match s.contribution rf l frame k b row x row with
    | some t => blend c.cspace (s.lutW q) t acc
    | none => acc) [(bg.r * 16 : Int), bg.g * 16, bg.b * 16]
  canvasRgb c.dither acc x row frame k

end Sys2Proof.Machine
end

