-- ==== Sys2Proof/Machine/Sources.lean ====
section
/-! DEFINITION. Sources (R89 to R97): write slots and holds, completion, activity, lateness, the binding instant with the layer states of
R148 and R150, fences, and the trigger matrix (R128). -/

namespace Sys2Proof.Machine

/-! ### A source -/

/-- A source beside its registers. -/
def State.src (s : State) (i : Nat) : SrcSt := (sLookup s.ing.srcs i).getD SrcSt.reset

/-- The state with a source set. -/
def State.setSrc (s : State) (i : Nat) (x : SrcSt) : State :=
  { s with ing := { s.ing with srcs := sInsert (sErase s.ing.srcs i) i x } }

/-- The state code of a source: 0 DISABLED, 1 WAIT, 2 ACTIVE, 3 LOST. -/
def State.srcState (s : State) (i : Nat) : Nat := s.get (R.ingSrcStatus i) F.ingSrcStatus_STATE

/-- The settings of a source in force. -/
def State.srcNow (s : State) (i : Nat) : SrcCfg := srcCfg s.active i

/-- The write slot W (R90). -/
def State.writeSlot (s : State) (i : Nat) : Nat :=
  if (s.src i).any then (s.get (R.ingSrcStatus i) F.ingSrcStatus_NEWEST + 1) % (s.srcNow i).slots else 0

/-- A slot of a source is held (R90). -/
def State.slotHeld (s : State) (i slot : Nat) : Bool := bitOf (s.get (R.ingSrcStatus i) F.ingSrcStatus_HELD) slot

/-- DROPPED of a source increments. -/
def State.srcDrop (s : State) (i : Nat) : State := s.count (R.ingSrcCounts i) F.ingSrcCounts_DROPPED

/-- The slots of a source that a running CAPTURE picture reads (R338). -/
def State.captureSlots (s : State) (i : Nat) : List Nat :=
  s.cdc.encs.filterMap fun x =>
    let k := R.cdcEncCtrl x.stream
    match x.run with
    | some r => if s.actGet k F.cdcEncCtrl_MODE = 2 ∧ s.actGet k F.cdcEncCtrl_SRC = i then some r.slot else none
    | none => none

/-- HELD of a source: the slots held by wall frames and those that the encoder reads (R90, R338). -/
def State.showHeld (s : State) (i : Nat) : State :=
  s.put (R.ingSrcStatus i) F.ingSrcStatus_HELD
    (((s.src i).holds.map (·.1) ++ s.captureSlots i).foldl (fun v k => setBit v k true) 0)

/-- Frames in flight whose slot has become held are discarded whole (R90). -/
def State.dropHeldFlights (s : State) (i : Nat) : State :=
  let x := s.src i
  let hit := fun (f : NetFrame) => !f.discarded && s.slotHeld i f.slot
  (s.setSrc i { x with flights := x.flights.map fun f => { f with discarded := f.discarded || hit f } }).count
    (R.ingSrcCounts i) F.ingSrcCounts_DROPPED (x.flights.countP hit)

/-- The slot of the bound picture is held for a wall frame, where it lies in the ring in force (R90). -/
def State.holdBound (s : State) (i frame : Nat) : State :=
  let x := s.src i
  let c := s.srcNow i
  match x.bound with
  | some p =>
    if p.base = c.base ∧ p.slotBytes = c.slotBytes then
      ((s.setSrc i { x with holds := x.holds ++ [(p.slot, frame)] }).showHeld i).dropHeldFlights i
    else s
  | none => s

/-- A fragment cut from a slot of a source waits to be sent (R90). -/
def State.fragmentWaits (s : State) (i slot : Nat) : Bool := s.pix.out.any fun o => o.cut == some (i, slot)

/-- The holds of the wall frames that are over end, but for slots whose fragments wait to be sent (R90). -/
def State.releaseHolds (s : State) (past : Nat → Bool) : State :=
  s.ing.srcs.foldl (fun t e =>
    let keep := e.2.holds.filter fun h => !past h.2 || s.fragmentWaits e.1 h.1
    if keep.length = e.2.holds.length then t else (t.setSrc e.1 { t.src e.1 with holds := keep }).showHeld e.1) s

/-- A frame completes in a slot (R90, R94). -/
def State.completeFrame (s : State) (i slot : Nat) (concealed : Bool := false) : State :=
  let x := s.src i
  let cs := x.concealed.filter (· != slot)
  let s1 := s.setSrc i { x with any := true, done := x.done + 1, fresh := x.fresh + 1, doneAt := some s.clock.now,
                                concealed := if concealed then slot :: cs else cs }
  let st := s1.srcState i
  let s2 := (s1.put (R.ingSrcStatus i) F.ingSrcStatus_NEWEST slot).put (R.ingSrcStatus i) F.ingSrcStatus_STATE 2
  if st = 3 then s2.raise .ing 3 1 i else s2

/-- A source enters WAIT (R94, R95): frames in flight are discarded, unbound frames are never bound, W is slot 0; what is bound
stays bound, read from the old ring, whose holds go on where the new ring is the same memory. -/
def State.srcWait (s : State) (i : Nat) (sameRing : Bool) : State :=
  let x := s.src i
  let s1 := s.count (R.ingSrcCounts i) F.ingSrcCounts_SKIPPED x.fresh
  let s2 := s1.setSrc i { SrcSt.reset with done := x.done, bound := x.bound, boundAt := x.boundAt,
                                           holds := if sameRing then x.holds else [] }
  let f := (s2.srcNow i).format
  (s2.setReg (R.ingSrcStatus i) (1 + f % 256 * 2 ^ 24)).showHeld i

/-- A source enters DISABLED (R94). -/
def State.srcDisable (s : State) (i : Nat) : State :=
  let x := s.src i
  let s1 := s.count (R.ingSrcCounts i) F.ingSrcCounts_SKIPPED x.fresh
  (s1.setSrc i { SrcSt.reset with done := x.done }).setReg (R.ingSrcStatus i) 0

/-- The descriptor registers of a source as a register file holds them (R95). -/
def srcWords (rf : RegFile) (i : Nat) : List Nat :=
  [R.ingSrcCtrl i, R.ingSrcGeom i, R.ingSrcRate i, R.ingSrcTiming i, R.ingSrcRing i, R.ingSrcStride i, R.ingSrcLink i].map
    (sRead regReset rf)

/-- The sources after a commit changed the descriptors from one register file to the other (R94, R95): any field that changes restarts an
enabled source. -/
def State.srcsCommitted (s : State) (old : RegFile) : State :=
  (List.range 64).foldl (fun t i =>
    let a := srcCfg old i
    let b := t.srcNow i
    if b.en then
      (if srcWords old i = srcWords t.active i ∧ t.srcState i ≠ 0 then t
       else t.srcWait i (a.base == b.base && a.slotBytes == b.slotBytes))
    else if t.srcState i ≠ 0 then t.srcDisable i else t) s

/-! ### Host completion: trigger pulses and fences (R96, R97, R128) -/

/-- A completion of a host source: of slot W, refused while it is held (R90). -/
def State.hostComplete (s : State) (i off value : Nat) (req : Requester) : State :=
  let w := s.writeSlot i
  if s.slotHeld i w then (s.srcDrop i).progErrorIn .ing off value req else s.completeFrame i w

/-- The encode streams in RECORD or RETURN that listen to a trigger line are due (R128, R338). -/
def State.pulseStreams (s : State) (line : Nat) : State :=
  let hit := (List.range 8).filter fun e =>
    s.actGet (R.cdcEncCtrl e) F.cdcEncCtrl_EN == 1 && s.actGet (R.cdcEncCtrl e) F.cdcEncCtrl_MODE != 2 &&
      s.actGet (R.cdcEncCtrl e) F.cdcEncCtrl_TRIG == line
  if s.live .cdc then { s with cdc := { s.cdc with due := s.cdc.due ++ hit } } else s

/-- A pulse on a trigger line (R128): counted, a picture start of the encode streams that listen to it (R338), and a completion of the
DMA-fed source that listens to it (R97). During a core reset ING takes no completion (R96). -/
def State.pulse (s : State) (line : Nat) : State :=
  let k := R.dmaTrigCnt line
  let s1 := (s.put k F.dmaTrigCnt_COUNT (s.get k F.dmaTrigCnt_COUNT + 1)).pulseStreams line
  if s1.rst.inReset || !s1.live .ing then s1
  else match (List.range 64).find? fun i => (s1.srcNow i).en && (s1.srcNow i).kind == 2 && (s1.srcNow i).trig == line with
    | some i => if s1.srcState i = 0 then s1 else s1.hostComplete i (R.dmaTrigSw) line .host
    | none => s1

/-- TRIG_SW_PULSE (R128): a write of DMA_TRIG_SW. -/
def State.trigSw (s : State) (value : Nat) : State := if s.live .dma then s.pulse (fieldGet value F.dmaTrigSw_LINE) else s

/-- TRIG_SW_PULSE (R128). -/
def execTrigSwPulse (req : Requester) (value : Word) (s : State) : Out := .next (s.byReq req (s.trigSw value.toNat))

/-- A write of ING_FENCE (R96). -/
def State.fence (s : State) (i value : Nat) (req : Requester) : State :=
  if !s.live .ing || s.rst.inReset then s
  else
    let slot := fieldGet value F.ingFence_SLOT
    if (s.srcNow i).kind = 3 ∧ s.srcState i ≠ 0 ∧ slot = s.writeSlot i ∧ !s.slotHeld i slot then s.completeFrame i slot
    else (s.srcDrop i).progError (R.ingFence i) value req

/-- FRAME_FENCE (R96). -/
def execFrameFence (req : Requester) (source : Fin 64) (value : Word) (s : State) : Out :=
  .next (s.byReq req (s.fence source.val value.toNat req))

/-! ### Timeouts (R94, R106) -/

/-- SOURCE_LOSS_TIMEOUT: the source enters LOST (R94); during a core reset no LOSS_MS time is counted (R376). -/
def execSourceLossTimeout (source : Fin 64) (s : State) : Out :=
  .next (let st := s.srcState source.val
    if s.live .ing ∧ !s.rst.inReset ∧ (st = 1 ∨ st = 2) then
      (s.put (R.ingSrcStatus source.val) F.ingSrcStatus_STATE 3).raise .ing 2 2 source.val
    else s)

/-- The bit of a path in ING_SRC_STATUS. -/
def pathBit (p : Nat) : Fld := if p = 0 then F.ingSrcStatus_PATH0_UP else F.ingSrcStatus_PATH1_UP

/-- PATH_LOSS_TIMEOUT: the path clears its bit with a DEGRADED event, the source keeps its state (R106); during a core reset no
LOSS_MS time is counted (R376). -/
def execPathLossTimeout (source : Fin 64) (path : Fin 2) (s : State) : Out :=
  .next (if s.live .ing && !s.rst.inReset && s.flag (R.ingSrcStatus source.val) (pathBit path.val) then
    (s.put (R.ingSrcStatus source.val) (pathBit path.val) 0).raise .ing 5 2 source.val [path.val]
  else s)

/-! ### Binding (R91, R93) -/

/-- The next-frame deadline of a source whose newest frame completed at `t` (R93). -/
def nextDeadline (c : SrcCfg) (t : Nat) : Nat := t + ceilDiv (c.num * 1000000000) c.den * (8 + c.lateTol) / 8

/-- A source at a binding instant (R91, R93): its picture is held for the wall frame (R90). Until a restarted source delivers, its bound
picture of the old ring stays (R95). -/
def State.bindSource (s : State) (i frame : Nat) : State :=
  let st := s.srcState i
  let x := s.src i
  if st = 0 then s
  else if !x.any then (s.setSrc i { x with found := 0 }).holdBound i frame
  else
    let c := s.srcNow i
    let slot := s.get (R.ingSrcStatus i) F.ingSrcStatus_NEWEST
    let s1 := s.put (R.ingSrcStatus i) F.ingSrcStatus_BOUND slot
    if 0 < x.fresh then
      let s2 := s1.count (R.ingSrcCounts i) F.ingSrcCounts_SKIPPED (x.fresh - 1)
      (s2.setSrc i { x with fresh := 0, bound := some (c.pic i slot x.done (x.concealed.contains slot)), boundAt := x.doneAt,
                            found := 1 }).holdBound i frame
    else
      let d := nextDeadline c (x.doneAt.getD 0)
      if d ≤ s.clock.now then
        (((s1.setSrc i { x with found := 3 }).holdBound i frame).count (R.ingSrcCounts i) F.ingSrcCounts_LATE).raiseDeadline .ing 1 i
          [frame, 0, d, i]
      else (s1.setSrc i { x with found := 2 }).holdBound i frame

/-- The picture a layer shows of a source, under CONCEAL_HOLD (R150). -/
def State.showBound (s : State) (l : LayerCfg) (st : LayerSt) : State :=
  let x := s.src l.src
  match x.bound with
  | none => s.setLayerSt { st with shown := none, cut := none }
  | some p =>
    if l.concealHold && p.concealed then
      let s1 := s.setLayerSt { st with shown := st.clean, cut := none }
      if x.found = 1 then s1.count (R.cmpLayerCounts l.quarter l.layer) F.cmpLayerCounts_CONCEALED else s1
    else s.setLayerSt { st with shown := some p, cut := none, clean := if p.concealed then st.clean else some p }

/-- A layer at a binding instant (R148). A source that has completed no frame since it entered WAIT, first or by a restart, has its layers
in FALLBACK (R93, R148; log entry 63). -/
def State.stepLayer (s : State) (l : LayerCfg) : State :=
  let q := l.quarter
  let n := l.layer
  let k := R.cmpLayerStatus q n
  let st0 := s.layerSt q n
  let code := s.layerState q n
  let first := code == 3 || st0.first
  let was := if code = 3 then 2 else code
  let x := s.src l.src
  let sst := s.srcState l.src
  let run := if code = 3 then 0 else s.get k F.cmpLayerStatus_RUN
  let late := sst != 0 && x.found == 3
  let toFallback := sst == 0 || !x.any
  let new_ :=
    if toFallback then 2
    else if first then (if late then 2 else 0)
    else if x.found = 1 then 0
    else if late then
      (if was = 0 then (if l.fallbackAtOnce then 2 else 1)
       else if was = 1 ∧ l.holdLimit ≤ run then 2 else was)
    else was
  let run2 := if toFallback then run else if new_ = 0 ∧ !late then (if x.found = 1 ∨ first then 0 else run) else if late then min 15 (run + 1) else run
  let s1 := (s.put k F.cmpLayerStatus_STATE new_).put k F.cmpLayerStatus_RUN run2
  let s2 := if late && !toFallback then s1.count (R.cmpLayerCounts q n) F.cmpLayerCounts_LATE else s1
  let s3 := if new_ = 2 ∧ (code = 0 ∨ code = 1) then s2.raise .cmp 2 2 (q * 8 + n)
    else if new_ = 0 ∧ code = 2 then s2.raise .cmp 3 1 (q * 8 + n) else s2
  let st := { st0 with first := first && new_ != 0 }
  if new_ = 2 then
    let shown := if l.fbKind = 2 then (s3.src l.fbSrc).bound else none
    s3.setLayerSt { st with shown := shown, cut := none }
  else s3.showBound l st

/-- A layer that is not enabled is OFF (R148). -/
def State.layerOff (s : State) (q n : Nat) : State :=
  if s.layerState q n = 3 then s
  else
    let k := R.cmpLayerStatus q n
    ((s.put k F.cmpLayerStatus_STATE 3).put k F.cmpLayerStatus_RUN 0).setLayerSt
      { quarter := q, layer := n, shown := none, clean := none, cut := none, first := false }

/-- The frame whose sampling instant σ is now (R132). -/
def State.bindFrame (s : State) : Option Int :=
  let t : Int := s.clock.now + s.leadAhead 100000 + 100000
  let v := s.planned t
  match v.pattern with
  | some p => some (frameAt v.origin p t)
  | none => none

/-- The encode streams in CAPTURE are due at a binding instant (R338). -/
def State.captureDue (s : State) : State :=
  let hit := (List.range 8).filter fun e =>
    s.actGet (R.cdcEncCtrl e) F.cdcEncCtrl_EN == 1 && s.actGet (R.cdcEncCtrl e) F.cdcEncCtrl_MODE == 2
  if s.live .cdc then { s with cdc := { s.cdc with due := s.cdc.due ++ hit } } else s

/-- BINDING_INSTANT (R91): the frames before are over (R130), every enabled source binds, then every layer of the frame's settings
advances. -/
def State.bindAll (s : State) : State :=
  match s.bindFrame with
  | none => s
  | some n =>
    let frame := ofSigned 48 n
    let s0 := s.releaseHolds (· != frame)
    let s1 := (List.range 64).foldl (fun t i => t.bindSource i frame) s0
    let rf := s1.cfgFor n
    ((List.range 4).foldl (fun t q => (List.range 8).foldl (fun t i =>
      let l := layerCfg rf q i
      if l.en then t.stepLayer l else t.layerOff q i) t) s1).captureDue

/-- BINDING_INSTANT (R91). -/
def execBindingInstant (s : State) : Out := .next (if s.live .ing && !s.rst.inReset then s.bindAll else s)

end Sys2Proof.Machine
end

