-- ==== Sys2Proof/Machine/Bands.lean ====
section
/-! DEFINITION. The bands a compositor walks (R129, R130, R149), the end of a slot's holds (R90), and the write-back (R154, R155). -/

namespace Sys2Proof.Machine

/-! ### The walk (R129, R130, R149) -/

/-- D(N, k), the band completion deadline, at the LEAD of the frame (R130). -/
def State.bandDeadline (s : State) (lead : Nat) (p : PatternRec) (n : Int) (k : Nat) : Int :=
  let nextB := if k + 1 < p.slots then slotStart s.origin p n (k + 1) else frameStart s.origin p (n + 1)
  min (slotStart s.origin p n k - 300000) (nextB - lead - 100000)

/-- A slot whose composition starts: the frame and slot, its start and deadline, the slots composed of its frame, and the settings of the
frame (R158). -/
structure ComposeAt where
  frame : Int
  slot : Nat
  start : Int
  deadline : Int
  slots : List Nat
  rf : RegFile
  deriving DecidableEq, Repr

/-- The frame and slot whose composition starts now: those of the instant LEAD ahead, where that slot is latched (R82, R129). -/
def State.composeAt (s : State) : Option ComposeAt :=
  let t : Int := s.clock.now + s.leadAhead 0
  let v := s.planned t
  match v.pattern with
  | some p =>
    let n := frameAt v.origin p t
    let k := slotAt v.origin p n t
    let rf := v.cfgFor n
    let lead := (canvasCfg rf).lead
    if v.latches n k then
      some { frame := n, slot := k, start := slotStart v.origin p n k - lead, deadline := v.bandDeadline lead p n k,
             slots := v.usedSlots n, rf := rf }
    else none
  | none => none

/-- One band of a slot composed: its rows from the top. -/
def State.composeBand (s : State) (frame : Nat) (at_ : ComposeAt) (b : Nat) : BandPic :=
  let c := canvasCfg at_.rf
  let (x0, w) := bandCols c b
  { band := b, frame := frame, slot := at_.slot, x0 := x0, start := at_.start, deadline := at_.deadline, slots := at_.slots,
    rows := (List.range c.h).map fun y => (List.range w).map fun i => s.canvasValue at_.rf frame at_.slot b y (x0 + i) }

/-- An underrun of a layer (R149): counted, a FAULT names quarter, layer, slot and row, and the layer is cut. -/
def State.underrun (s : State) (q n k b row col : Nat) : State :=
  let st := s.layerSt q n
  match st.cut with
  | some _ => s
  | none =>
    ((s.setLayerSt { st with cut := some (k, b, row, col) }).count (R.cmpLayerCounts q n) F.cmpLayerCounts_UNDERRUN).raise
      .cmp 4 3 (q * 8 + n) [q, n, k, row]

/-- The composition of a frame has read its pictures: every band of its slots is composed, its write-back is done, and in layer mode its
fragments have been cut (R90). -/
def State.frameRead (s : State) (frame : Nat) : Bool :=
  match s.cmp.bands.find? (·.frame == frame) with
  | none => false
  | some b =>
    let c := canvasCfg (s.cfgFor frame)
    s.cmp.wbFrame != some frame && (!s.layerMode || s.pix.made == some frame) &&
      b.slots.all fun k => (List.range 4).all fun q => (bandsOf c q).isEmpty ||
        s.cmp.bands.any fun x => x.frame == frame && x.slot == k && x.band % 4 == q

/-- The holds of the frames that have been read end (R90). -/
def State.endHolds (s : State) : State := s.releaseHolds s.frameRead

/-- A quarter composes its bands of a slot, whose write-back frame is then under way where it is the slot captured (R129, R155); underruns
are events of the memory. -/
def State.bandStart (s : State) (q : Nat) (under : List (Nat × Nat × Nat × Nat)) : State :=
  match s.composeAt with
  | none => s
  | some at_ =>
    if !s.isFeed then s
    else
      let k := at_.slot
      let frame := ofSigned 48 at_.frame
      let s1 := under.foldl (fun t u => t.underrun q u.1 k u.2.1 u.2.2.1 u.2.2.2) s
      let pics := (bandsOf (canvasCfg at_.rf) q).map (s1.composeBand frame at_)
      let prev := ((s1.cmp.bands.filter fun b => b.frame != frame).getLast?).map (·.frame)
      let kept := s1.cmp.bands.filter fun b => (b.frame == frame || prev == some b.frame) &&
        !(b.band % 4 == q && b.frame == frame && b.slot == k)
      let s2 : State := { s1 with cmp := { s1.cmp with bands := kept ++ pics } }
      let w := wbCfg at_.rf
      let s3 : State := if w.en ∧ w.slot = k ∧ s2.cmp.wbFrame ≠ some frame then
          { s2 with cmp := { s2.cmp with wbFrame := some frame, wbBad := false } }
        else s2
      s3.endHolds

/-- BAND_START (R129): `under` lists the layers whose pixels have not arrived: layer, band, row, column (R149); `errors` are the uncorrected
memory errors since the last command that carries any (R110, R404; log entry 139). -/
def execBandStart (quarter : Fin 4) (under : List (Nat × Nat × Nat × Nat)) (errors : List MemError) (s : State) : Out :=
  .next (if s.live .cmp then (s.hbmTouch.memErrors errors).bandStart quarter.val under else s.memErrors errors)

/-- BAND_DEADLINE: a band still incomplete is abandoned at its row (R130); the event carries the words of R405. -/
def State.abandonBand (s : State) (b row : Nat) : State :=
  match (s.cmp.bands.filter fun x => x.band == b).getLast? with
  | none => s
  | some pic =>
    if pic.rows.length ≤ row then s
    else
      let cut : BandPic := { pic with rows := pic.rows.take row }
      let s1 : State := { s with cmp := { s.cmp with
        bands := s.cmp.bands.map fun x => if x = pic then cut else x,
        wbBad := s.cmp.wbBad || (s.cmp.wbFrame == some pic.frame) } }
      (s1.count (R.cmpStatus (b % 4)) F.cmpStatus_BAND_LATE).raiseDeadline .cmp 1 (b % 4)
        [pic.frame, pic.slot, ofSigned 32 pic.deadline, row % 65536 + b * 65536]

/-- BAND_DEADLINE (R130). -/
def execBandDeadline (band : Fin 128) (row : BitVec 14) (s : State) : Out :=
  .next (if s.live .cmp then s.abandonBand band.val row.toNat else s)

/-! ### Write-back (R154, R155) -/

/-- A composed lamp of a slot: outer none while its band has not been started, inner none where the band was abandoned above
it. -/
def State.composedLamp (s : State) (c : CanvasCfg) (frame slot x y : Nat) : Option (Option Rgb) :=
  match s.cmp.bands.find? fun b => b.frame == frame && b.slot == slot && b.band == x / max 1 c.band with
  | none => none
  | some b => some (match b.rows[y]? with
    | some r => r[x - b.x0]?
    | none => none)

/-- The decimation factor. -/
def WbCfg.f (w : WbCfg) : Nat := 2 ^ w.decim

/-- The mean of the canvas values of one output sample (R154). -/
def wbMean (f : Nat) (vals : List Rgb) : Rgb :=
  let mean := fun (sel : Rgb → Nat) => ((vals.foldl (fun t c => t + sel c) 0) + f * f / 2) / (f * f)
  ⟨mean (·.r), mean (·.g), mean (·.b)⟩

/-- One output sample of the write-back: the mean of f × f canvas values as the bands hold them, none where one of them was not
composed (R130, R154). -/
def State.wbSample (s : State) (rf : RegFile) (frame : Nat) (i j : Nat) : Option Rgb :=
  let w := wbCfg rf
  let vals := (List.range w.f).flatMap fun v => (List.range w.f).map fun u =>
    (s.composedLamp (canvasCfg rf) frame w.slot (w.x + w.f * i + u) (w.y + w.f * j + v)).getD none
  (vals.mapM id).map (wbMean w.f)

/-- A sample put into its place of a pair in the layout of 0x03. -/
def State.wbPut (s : State) (base i : Nat) (v : Rgb) : State :=
  let at_ := base + i / 2 * 9
  let codes := unpack12 ((List.range 9).map fun b => s.rd (at_ + b))
  let o := i % 2 * 3
  s.memWrite at_ ((pack12 (((codes.set o v.r).set (o + 1) v.g).set (o + 2) v.b)).map (BitVec.ofNat 8))

/-- The samples of a frame in its ring slot (R154, R155). They land as the frame is done, not row by row (log entry 145). -/
def State.wbWrite (s : State) (rf : RegFile) (frame slot : Nat) : State :=
  let w := wbCfg rf
  (List.range w.h).foldl (fun t j =>
    (List.range w.w).foldl (fun t i =>
      match s.wbSample rf frame i j with
      | some v => t.wbPut (w.base + slot * w.slotBytes + j * w.lineBytes) i v
      | none => t) t) s

/-- Every sample of the write-back of a frame has been composed. -/
def State.wbWhole (s : State) (rf : RegFile) (frame : Nat) : Bool :=
  let w := wbCfg rf
  (List.range w.h).all fun j => (List.range w.w).all fun i => (s.wbSample rf frame i j).isSome

/-- WRITEBACK_DONE (R155): the frame is complete, or its last deadline passed; `late` says that a write was late (R26). The settings are
those of the frame (R158). -/
def State.wbDone (s : State) (late : Bool) : State :=
  match s.cmp.wbFrame with
  | none => s
  | some f =>
    let rf := s.cfgFor f
    let w := wbCfg rf
    let bad := late || s.cmp.wbBad || !s.wbWhole rf f
    let slot := s.cmp.wbNext % 2 ^ w.ringLog2
    let k := R.cmpWbStatus
    let s0 := s.wbWrite rf f slot
    let s1 := ((s0.put k F.cmpWbStatus_NEWEST slot).put k F.cmpWbStatus_INCOMPLETE bad.toNat).setReg R.cmpWbFrame f
    let s2 := if bad then s1.count k F.cmpWbStatus_INCOMPLETE_COUNT else s1
    let s3 : State := { s2 with cmp := { s2.cmp with wbFrame := none, wbBad := false, wbNext := (slot + 1) % 2 ^ w.ringLog2 } }
    let s4 := s3.endHolds
    if w.trigEn then s4.pulse w.trig else s4

/-- WRITEBACK_DONE (R155). -/
def execWritebackDone (late : Bool) (s : State) : Out := .next (if s.live .cmp then s.wbDone late else s)

end Sys2Proof.Machine
end

