-- ==== Sys2Proof/Machine/Egress.lean ====
section
/-! DEFINITION. Halyard packets, ports and egresses: the header of R198, credits (R206), the egress priority of R203, and the
discard of what a port that is not ACTIVE would carry (R439). -/

namespace Sys2Proof.Machine

/-! ### Packets (R198) -/

/-- The classes of R198. -/
def clsPix : Nat := 1
def clsTim : Nat := 2
def clsCtl : Nat := 3
def clsBlk : Nat := 4
def clsDsc : Nat := 5
def clsUpe : Nat := 6

/-- A packet is of a class and type. -/
def pktIs (p : Packet) (c t : Nat) : Bool := p.hdr.cls.toNat == c && p.hdr.type.toNat == t

/-- A packet is a Pennant: CTL 0x10 to 0x12. -/
def isPennant (p : Packet) : Bool := pktIs p 3 0x10 || pktIs p 3 0x11 || pktIs p 3 0x12

/-- Payload bytes as numbers. -/
def payloadBytes (p : Packet) : List Nat := p.payload.map (·.toNat)

/-- A little-endian payload field of `n` bytes at an offset. -/
def payField (p : Packet) (o n : Nat) : Nat := leVal (((payloadBytes p).drop o).take n)

/-- A packet occupies whole blocks of 8 bytes (R197). -/
def wireLength (length : Nat) : Nat := 8 * ceilDiv (24 + length + 4) 8

/-- The credits that a packet takes (R206). -/
def packetCredits (p : Packet) : Nat := ceilDiv (24 + p.hdr.length.toNat + 4) 256

/-- The pool a packet draws on: 1 CTL, 2 BLK, 0 none (R206). -/
def packetPool (p : Packet) : Nat :=
  let c := p.hdr.cls.toNat
  if c = 4 then 2 else if c = 5 ∨ c = 6 then 1 else if c = 3 ∧ !isPennant p then 1 else 0

/-- The egress priority level of R203, 1 first. -/
def packetLevel (p : Packet) : Nat :=
  let c := p.hdr.cls.toNat
  if c = 1 ∨ isPennant p then 1 else if c = 2 then 2 else if c = 4 then 4 else 3

/-- A payload padded with zero bytes to a multiple of 4 (R198). -/
def padPayload (bs : List Nat) : List Byte :=
  (bs ++ List.replicate ((4 - bs.length % 4) % 4) 0).map (BitVec.ofNat 8)

/-- A packet that this device originates: HOPS 1, VERSION 1, LENGTH from the padded payload. -/
def makePacket (cls type dst domain src claim seq frame slot arg : Nat) (up last : Bool) (bs : List Nat) : Packet :=
  let pl := padPayload bs
  { hdr := { version := 1, cls := .ofNat 4 cls, type := .ofNat 8 type, dst := .ofNat 12 dst, domain := .ofNat 4 domain,
             src := .ofNat 12 src, claim := .ofNat 16 claim, seq := .ofNat 32 seq, frame := .ofNat 16 frame,
             slot := .ofNat 2 slot, hops := 1, up := up, last := last, arg := .ofNat 32 arg,
             length := .ofNat 16 pl.length },
    payload := pl }

/-! ### Ports -/

/-- The lanes that are the first lane of a Halyard port (LANE_CFG). -/
def State.halPorts (s : State) : List Nat :=
  (List.range 96).filter fun l => s.get (R.laneCfg l) F.laneCfg_ROLE == 1 && s.get (R.laneCfg l) F.laneCfg_POS == 0

/-- A lane is the first lane of a Halyard port. -/
def State.isHalPort (s : State) (l : Nat) : Bool :=
  decide (l < 96) && s.get (R.laneCfg l) F.laneCfg_ROLE == 1 && s.get (R.laneCfg l) F.laneCfg_POS == 0

/-- The lanes of a lane's port. -/
def State.portLanes (s : State) (l : Nat) : List Nat :=
  let f := l - s.get (R.laneCfg l) F.laneCfg_POS
  (List.range (2 ^ s.get (R.laneCfg l) F.laneCfg_WIDTH)).map fun i => f + i

/-- A port is ACTIVE (LANE_STATUS.STATE of its first lane). -/
def State.portActive (s : State) (l : Nat) : Bool := s.get (R.laneStatus l) F.laneStatus_STATE == 6

/-- The name of a tile's port: 0 CH0, 1 CH1, 2 to 7 BR0 to BR5 (LANE_CFG.PORT). -/
def State.portName (s : State) (l : Nat) : Nat := s.get (R.laneCfg l) F.laneCfg_PORT

/-- The first lane of a tile's port by name. -/
def State.portByName (s : State) (n : Nat) : Option Nat := s.halPorts.find? fun l => s.portName l == n

/-- The state of a port; a port that nothing has used yet has all counts 0. -/
def State.halPort (s : State) (l : Nat) : HalPort :=
  (s.hal.ports.find? fun p => p.port == l).getD { port := l, ctl := .reset, blk := .reset, block := [], rx := none }

/-- The state with a port's state set. -/
def State.setHalPort (s : State) (p : HalPort) : State :=
  let rest := s.hal.ports.filter fun x => x.port != p.port
  { s with hal := { s.hal with ports := rest ++ [p] } }

/-- The credits of a pool available to send: the pool size minus what the partner has not freed (R206). -/
def creditsAvailable (size : Nat) (c : PoolCredit) : Nat := size - (c.sent + 4096 - c.partnerFreed % 4096) % 4096

/-- HAL_PORT_CREDIT follows the counts. -/
def State.showCredits (s : State) (l : Nat) : State :=
  let p := s.halPort l
  (s.put (R.halPortCredit l) F.halPortCredit_CTL_AVAIL (creditsAvailable 64 p.ctl)).put
    (R.halPortCredit l) F.halPortCredit_BLK_AVAIL (creditsAvailable 256 p.blk)

/-- The egress holds a packet's credits. -/
def State.hasCredits (s : State) (l : Nat) (pkt : Packet) : Bool :=
  let p := s.halPort l
  match packetPool pkt with
  | 1 => decide (packetCredits pkt ≤ creditsAvailable 64 p.ctl)
  | 2 => decide (packetCredits pkt ≤ creditsAvailable 256 p.blk)
  | _ => true

/-- SENT advances by a packet's credits. -/
def State.spendCredits (s : State) (l : Nat) (pkt : Packet) : State :=
  let p := s.halPort l
  let n := packetCredits pkt
  match packetPool pkt with
  | 1 => (s.setHalPort { p with ctl := { p.ctl with sent := (p.ctl.sent + n) % 4096, waitFrom := none } }).showCredits l
  | 2 => (s.setHalPort { p with blk := { p.blk with sent := (p.blk.sent + n) % 4096, waitFrom := none } }).showCredits l
  | _ => s

/-- A received packet is held on its ingress port, so its credits stay unfreed (R206). -/
def State.holdCredits (s : State) (l : Nat) (pkt : Packet) : State :=
  let p := s.halPort l
  let n := packetCredits pkt
  match packetPool pkt with
  | 1 => s.setHalPort { p with ctl := { p.ctl with held := p.ctl.held + n } }
  | 2 => s.setHalPort { p with blk := { p.blk with held := p.blk.held + n } }
  | _ => s

/-- The ingress port frees a packet's credits. -/
def State.freeCredits (s : State) (l : Nat) (pkt : Packet) : State :=
  let p := s.halPort l
  let n := packetCredits pkt
  match packetPool pkt with
  | 1 => s.setHalPort { p with ctl := { p.ctl with held := p.ctl.held - n } }
  | 2 => s.setHalPort { p with blk := { p.blk with held := p.blk.held - n } }
  | _ => s

/-- A packet that holds credits on its ingress port for a number of copies: the number of the hold, and the state (R206). -/
def State.holdPacket (s : State) (l : Nat) (pkt : Packet) (copies : Nat) (write : Bool) : Nat × State :=
  let n := s.hal.nextHold
  let h : CreditHold := { id := n, port := l, pkt := pkt, copies := copies, write := write }
  (n, ({ s with hal := { s.hal with nextHold := n + 1, holds := s.hal.holds ++ [h] } } : State).holdCredits l pkt)

/-- One copy no longer needs a hold: with the last one the ingress port frees the credits (R206). -/
def State.dropCopy (s : State) (n : Nat) : State :=
  match s.hal.holds.find? fun h => h.id == n with
  | none => s
  | some h =>
    if h.copies ≤ 1 then
      ({ s with hal := { s.hal with holds := s.hal.holds.filter fun x => x.id != n } } : State).freeCredits h.port h.pkt
    else { s with hal := { s.hal with holds := s.hal.holds.map fun x => if x.id = n then { x with copies := x.copies - 1 } else x } }

/-- A copy of a forwarded packet has left or is discarded (R206, R439). -/
def State.releaseHold (s : State) (q : Queued) : State := match q.hold with | some n => s.dropCopy n | none => s

/-- The part that a received WRITE_BLOCK held its credits for is stored, or will not be (R223). -/
def State.writeDone (s : State) (l : Nat) (pkt : Packet) : State :=
  match s.hal.holds.find? fun h => h.port == l && h.write && h.pkt == pkt with
  | some h =>
    ({ s with hal := { s.hal with holds := s.hal.holds.map fun x => if x.id = h.id then { x with write := false } else x } } :
      State).dropCopy h.id
  | none => s

/-- A port starts afresh: the counts of its credits are 0 and nothing is held or on its way in (R206). -/
def State.freshPort (s : State) (l : Nat) : State :=
  let p := s.halPort l
  ({ s with hal := { s.hal with holds := s.hal.holds.filter fun h => h.port != l } } : State).setHalPort
    { p with ctl := .reset, blk := .reset, rx := none }

/-- The oldest packet that waits for credits of a pool notes when its wait began (R207). -/
def State.noteWait (s : State) (l : Nat) (pkt : Packet) : State :=
  let p := s.halPort l
  match packetPool pkt with
  | 1 => if p.ctl.waitFrom.isSome then s else s.setHalPort { p with ctl := { p.ctl with waitFrom := some s.clock.now } }
  | 2 => if p.blk.waitFrom.isSome then s else s.setHalPort { p with blk := { p.blk with waitFrom := some s.clock.now } }
  | _ => s

/-! ### Egress -/

/-- The bytes in a port's PIX FIFO: PIX and Pennants not yet started (R204). -/
def State.pixFifo (s : State) (l : Nat) : Nat :=
  (s.hal.queue.filter fun q => q.port == l && packetLevel q.pkt == 1 && !q.started).foldl
    (fun n q => n + wireLength q.pkt.hdr.length.toNat) 0

/-- A packet may start now: its level needs no credits, or the egress holds them. -/
def State.mayStart (s : State) (l : Nat) (q : Queued) : Bool :=
  q.port == l && !q.started && s.hasCredits l q.pkt

/-- The packet that an egress starts next (R203): level 1, then 2, then CTL, UPE and DSC, then BLK. Those of one level leave in the order in
which they entered, so one without its credits keeps those of its level behind it (R226). -/
def State.nextQueued (s : State) (l : Nat) : Option (Nat × Queued) :=
  [1, 2, 3, 4].findSome? fun v =>
    match findIdxFrom (fun q => q.port == l && !q.started && packetLevel q.pkt == v) 0 s.hal.queue with
    | some x => if s.mayStart l x.2 then some x else none
    | none => none

/-- An egress has a packet in progress. -/
def State.egressBusy (s : State) (l : Nat) : Bool := s.hal.queue.any fun q => q.port == l && q.started

/-- The bytes of a time in ns: 4 B of nanoseconds, 6 B of seconds. -/
def timeBytes (t : Nat) : List Nat := leBytes 4 (t % 1000000000) ++ leBytes 6 (t / 1000000000)

/-- A packet with other payload bytes from an offset on. -/
def patchPayload (p : Packet) (o : Nat) (bs : List Nat) : Packet :=
  { p with payload := ((payloadBytes p).take o ++ bs ++ (payloadBytes p).drop (o + bs.length)).map (BitVec.ofNat 8) }

/-- The cut-through latency of an ingress port in 1/16 ns, an open value within its limits (R202, R227): 130 to 400 ns, to 610 ns at
Halyard-12. -/
def State.latency (s : State) (l : Nat) : Nat × State :=
  let most := if s.get (R.laneCfg l) F.laneCfg_RATE = 2 then 610 else 400
  let (v, s1) := s.fresh 32
  (130 * 16 + v % ((most - 130) * 16 + 1), s1)

/-- The delay measurement of a port. -/
def State.link (s : State) (l : Nat) : LinkSt :=
  (s.time.links.find? fun x => x.port == l).getD { port := l, samples := [], waiting := [], count := 0 }

/-- The state with a port's delay measurement set. -/
def State.setLink (s : State) (x : LinkSt) : State :=
  { s with time := { s.time with links := (s.time.links.filter fun y => y.port != x.port) ++ [x] } }

/-- What a packet takes as its START block leaves (R74, R216, R217): an Ensign of this unit its launch stamp, a forwarded one its residence
here, from ingress stamp to egress stamp in 1/16 ns; a DELAY_REQ is stamped; a DELAY_RESP carries the turnaround, of which the circuit's own
part is an open value of at most 100 µs. -/
def State.launch (s : State) (l : Nat) (q : Queued) : Packet × State :=
  let own := q.ingress.isNone
  let waited := (s.stamp - q.arrived).toNat
  match q.pkt.hdr.cls.toNat, q.pkt.hdr.type.toNat with
  | 2, 1 =>
    if own then (patchPayload (patchPayload q.pkt 0 (timeBytes s.clock.now)) 0xC (leBytes 8 (s.clock.frac / 2 ^ 28 * 2 ^ 12)), s)
    else
      let (v, s1) := s.latency (q.ingress.getD l)
      let residence : Int := (waited / 4096 + v) * 4096
      (patchPayload q.pkt 0xC (leBytes 8 (ofSigned 64 (toSigned 64 (payField q.pkt 0xC 8) + residence))), s1)
  | 2, 2 =>
    let x := s.link l
    let fresh := x.waiting.filter fun w => decide (s.stamp - w.2 ≤ 65536000000)
    (q.pkt, s.setLink { x with waiting := fresh ++ [(payField q.pkt 0 4, s.stamp)] })
  | 2, 3 =>
    let (v, s1) := s.fresh 64
    (patchPayload q.pkt 8 (leBytes 8 (waited + v % (100000 * 65536 + 1))), s1)
  | _, _ => (q.pkt, s)

/-- An idle egress starts its next packet: it takes what its launch gives it, its credits are spent, and the ingress frees those it
held. -/
def State.startNext (s : State) (l : Nat) : State :=
  if s.egressBusy l then s
  else match s.nextQueued l with
    | none => s
    | some (i, q) =>
      let (pkt, s1) := s.launch l q
      let q1 : Queued := { q with pkt := pkt, started := true }
      let s2 := { s1 with hal := { s1.hal with queue := s1.hal.queue.set i q1 } }
      (s2.spendCredits l q.pkt).releaseHold q

/-- The packet in progress at an egress has left: counted in TX, and the next one starts (R203). -/
def State.finishPacket (s : State) (l : Nat) : State :=
  if s.egressBusy l then
    let s1 := { s with hal := { s.hal with queue := s.hal.queue.filter fun q => !(q.port == l && q.started) } }
    (s1.count (R.halPortTraffic l) F.halPortTraffic_TX).startNext l
  else s.startNext l

/-- A feed unit in a tie whose serial is the lower one, before it has lowered its claim (R320); a tie at claim 1 stays. -/
def State.tieMuted (s : State) : Bool :=
  s.isFeed && s.flag R.redStatus F.redStatus_TIE && decide (s.serial < s.reg R.redPartner) && decide (1 < s.get R.redClaim F.redClaim_CUR)

/-- A packet that a unit in such a tie does not originate: a CTL write, a Pennant, DSC or BLK (R320). -/
def tieHeld (p : Packet) : Bool := p.hdr.cls.toNat == 4 || p.hdr.cls.toNat == 5 || pktIs p 3 2 || isPennant p

/-- A packet may stand at an egress: its port is ACTIVE (R439), a feed unit in a core reset originates only Ensigns and delay
exchanges, the class TIM (R205), and in a tie it originates none of those R320 names. -/
def State.carries (s : State) (l : Nat) (pkt : Packet) : Bool :=
  s.portActive l && !(s.isFeed && s.rst.inReset && pkt.hdr.cls.toNat != clsTim) && !(s.tieMuted && tieHeld pkt)

/-- A packet put at an egress: discarded where it may not stand there, and then its hold ends (R205, R439). -/
def State.enqueue (s : State) (l : Nat) (pkt : Packet) (stomped : Bool := false) (ingress : Option Nat := none)
    (hold : Option Nat := none) : State :=
  let q : Queued := { port := l, pkt := pkt, stomped := stomped, ingress := ingress, hold := hold, arrived := s.stamp, started := false }
  if s.carries l pkt then
    let s1 : State := { s with hal := { s.hal with queue := s.hal.queue ++ [q] } }
    let s2 := if s1.hasCredits l pkt then s1 else s1.noteWait l pkt
    s2.startNext l
  else s.releaseHold q

/-- A packet put at each of several egresses. -/
def State.enqueueAll (s : State) (ls : List Nat) (pkt : Packet) : State := ls.foldl (fun t l => t.enqueue l pkt) s

/-- When a port leaves ACTIVE every packet queued at its egress that has not started is discarded; the one in progress is
ended (R199, R439), and forwarded ones free their credits. -/
def State.flushPort (s : State) (l : Nat) : State :=
  let gone := s.hal.queue.filter fun q => q.port == l
  let s1 := { s with hal := { s.hal with queue := s.hal.queue.filter fun q => q.port != l } }
  gone.foldl (fun t q => if q.started then t else t.releaseHold q) s1

/-- The CLAIM of a packet that this device originates: the claim of a feed unit, 0 in a tile (R198). -/
def State.ownClaim (s : State) : Nat := if s.isFeed then s.get R.redClaim F.redClaim_CUR else 0

/-- The count of packets that this device has originated (SEQ of the classes that count per sender). -/
def State.nextSeq (s : State) : Nat × State :=
  (s.hal.senderCount, { s with hal := { s.hal with senderCount := (s.hal.senderCount + 1) % 2 ^ 32 } })

end Sys2Proof.Machine
end

