-- ==== Sys2Proof/Machine/Servo.lean ====
section
/-! DEFINITION. The time servo: measurements, the states of R68, the step of ACQUIRE, rate correction inside the band of R63,
loss and change of the reference (R442, R443), re-arming (R67) and SET_GO. Offsets are in 2^-16 ns, reference minus local. -/

namespace Sys2Proof.Machine

/-- The nominal addend: 10^9 over 1.2 × 10^9 ns in 32.32 form (R62). -/
def nominalAddend : Nat := 0xD5555555

/-- The lowest addend of the band (R63). -/
def bandLow (ppm : Nat) : Nat := ceilDiv (nominalAddend * (1000000 - ppm)) 1000000

/-- The highest addend of the band (R63). -/
def bandHigh (ppm : Nat) : Nat := nominalAddend * (1000000 + ppm) / 1000000

/-- The servo state codes of TIME_STATUS.STATE. -/
def svFree : Nat := 0
def svAcquire : Nat := 1
def svTrack : Nat := 2
def svLocked : Nat := 3
def svHoldover : Nat := 4

/-- The servo state. -/
def State.servo (s : State) : Nat := s.get R.timeStatus F.timeStatus_STATE

/-- FRAME_LOCKED is 1 in LOCKED and HOLDOVER unless a re-arm is pending, in both registers (R68). -/
def State.showLock (s : State) : State :=
  let v := (s.servo == svLocked || s.servo == svHoldover) && !s.flag R.timeStatus F.timeStatus_REARM_PENDING
  (s.put R.timeStatus F.timeStatus_FRAME_LOCKED v.toNat).put R.topStatus F.topStatus_FRAME_LOCKED v.toNat

/-- The device is frame locked (R68). -/
def State.frameLocked (s : State) : Bool := s.flag R.timeStatus F.timeStatus_FRAME_LOCKED

/-- The measurement history emptied, and with it every count of consecutive measurements (R443). -/
def State.emptyHistory (s : State) : State :=
  { s with time := { s.time with hist := [], lockRun := 0, needRun := 0, farRun := 0 } }

/-- The servo enters a state; entry to FREE empties the history (R443), entry to ACQUIRE starts its collection (R66). The counts of
consecutive measurements go on: R443 ties them to the emptying of the history alone (DEDUCED, log entry 141). -/
def State.servoTo (s : State) (st : Nat) : State :=
  let s1 := (s.put R.timeStatus F.timeStatus_STATE st).showLock
  if st = svFree then s1.emptyHistory
  else if st = svAcquire then { s1 with time := { s1.time with acq := [] } }
  else s1

/-- The addend set, with the moment noted for the mean of HOLDOVER: those of the last 2 s and the one before them stay. -/
def State.setAddend (s : State) (a : Nat) : State :=
  let s1 := s.setReg R.timeAddend a
  let new := fun (e : Nat × Nat) => decide (s1.clock.now < e.1 + 2000000000)
  let keep := ((s1.time.addends.filter fun e => !new e).getLast?).toList ++ s1.time.addends.filter new
  { s1 with time := { s1.time with addends := keep ++ [(s1.clock.now, a)] } }

/-- An addend moved into the band of SLEW_PPM (R63). -/
def State.intoBand (s : State) (a : Nat) : Nat :=
  let ppm := s.get R.timeServoCfg F.timeServoCfg_SLEW_PPM
  clampNat (bandLow ppm) (bandHigh ppm) a

/-- The sum of addend times ns over pieces of the last second: each entry holds until the next. -/
def addendSum (from_ : Nat) : Nat → List (Nat × Nat) → Nat → Nat
  | cur, [], now => cur * (now - from_)
  | cur, (t, a) :: r, now =>
    if t ≤ from_ then addendSum from_ a r now
    else cur * (t - from_) + addendSum t a r now

/-- The mean of the addend over the last 1 s (HOLDOVER); over the time counted since the reset where that is less, and the addend in force
where nothing has been counted: the spec speaks of neither (DESIGN CHOICE, log entry 142). -/
def State.meanAddend (s : State) : Nat :=
  let now := s.clock.now
  let start := max (now - 1000000000) ((s.time.addends.map (·.1)).headD 0)
  let a0 := ((s.time.addends.filter fun e => decide (e.1 ≤ start)).getLast?.map (·.2)).getD (s.reg R.timeAddend)
  if now ≤ start then s.reg R.timeAddend
  else addendSum start a0 (s.time.addends.filter fun e => decide (start < e.1)) now / (now - start)

/-- The counter is set to a time in units of 2^-32 ns; the moments noted for the mean of HOLDOVER move with it. -/
def State.stepCounter (s : State) (v : Nat) : State :=
  let d : Int := (v / 2 ^ 32 : Nat) - (s.clock.now : Int)
  { s with clock := { s.clock with now := v / 2 ^ 32, frac := v % 2 ^ 32 },
           time := { s.time with addends := s.time.addends.map fun e => (((e.1 : Int) + d).toNat, e.2) },
           cmp := { s.cmp with prev := none } }

/-- The proportional and integral gains, 2^-3 and 2^-8 per measurement (R443): their output in 2^-16 ns, the integral over the filtered
offsets. -/
def piOutput (f sum : Int) : Int := f / 2 ^ 3 + sum / 2 ^ 8

/-- A servo update by rate alone (R63, R66, R443): an addend outside the band moves to the nearer limit; else the PI correction sets it,
inside the band. The spec gives the gains and no scale, so the addend that their output asks for is free (log entry 20). -/
def State.rateUpdate (s : State) (f : Int) : State :=
  let sum := s.time.integral + f
  let s1 : State := { s with time := { s.time with integral := sum } }
  let a := s1.reg R.timeAddend
  if s1.intoBand a ≠ a then s1.setAddend (s1.intoBand a)
  else s1.setAddend (s1.intoBand (Config.addendFor s1.time.inUse a (piOutput f sum)))

/-- The reference is lost (R68). -/
def State.loseReference (s : State) : State :=
  let s1 := (s.emptyHistory).put R.timeStatus F.timeStatus_REF_VALID 0
  if s1.servo = svAcquire ∨ s1.servo = svTrack then s1.servoTo svFree
  else if s1.servo = svLocked then (s1.setAddend (s1.intoBand s1.meanAddend)).servoTo svHoldover
  else s1

/-- A change of the reference in use (R442); a change to FREE is a loss. -/
def State.changeReference (s : State) (ref : Nat) : State :=
  let s1 := (s.emptyHistory).put R.timeStatus F.timeStatus_REF_VALID 0
  let s2 : State := { s1 with time := { s1.time with inUse := ref, acq := [], edge := none, source := none } }
  if ref = 0 then s2.loseReference else s2

/-- The median of R66: v[7] of the 16 values in ascending order. -/
def acquireMedian (l : List Int) : Int := (sortBy (fun a b => decide (a ≤ b)) l).getD 7 0

/-- The step of ACQUIRE (R66): the counter moves by the median, STEP_USED is set, the history is emptied, TRACK follows. -/
def State.acquireStep (s : State) : State :=
  let m := acquireMedian s.time.acq
  let v := ((s.clock.now * 2 ^ 32 + s.clock.frac : Nat) : Int) + m * 2 ^ 16
  (((s.stepCounter v.toNat).put R.timeStatus F.timeStatus_STEP_USED 1).emptyHistory).servoTo svTrack

/-- The lock count of the reference in use (R443). -/
def lockCount (ref : Nat) : Nat := if ref = 1 then 80 else if ref = 4 then 1000 else 16

/-- The filtered offset: the mean of the history (R443), rounded down. -/
def filteredOffset (h : List Int) : Int := if h.length = 0 then 0 else h.foldl (· + ·) 0 / (h.length : Int)

/-- TIME_OFFSET shows the filtered offset in s27.4 ns, saturating. -/
def State.showOffset (s : State) (f : Int) : State :=
  s.setReg R.timeOffset (ofSigned 32 (clampInt (-2147483647) 2147483647 (f / 2 ^ 12)))

/-- The state machine of R68 on a filtered offset, for a measurement that did not end in the step. -/
def State.servoJudge (s : State) (f : Int) : State :=
  let th : Int := (s.get R.timeServoCfg F.timeServoCfg_LOCK_THRESH * 65536 : Nat)
  let within := decide (-th ≤ f ∧ f ≤ th)
  let far := decide (f < -(4 * th) ∨ 4 * th < f)
  let need := decide (f < -65536000000 ∨ 65536000000 < f)
  let t := s.time
  let s1 : State := { s with time := { t with lockRun := if within then t.lockRun + 1 else 0,
                                              farRun := if far then t.farRun + 1 else 0,
                                              needRun := if need then t.needRun + 1 else 0 } }
  if s1.servo = svTrack then
    let s2 := if s1.time.needRun = 16 then
        (s1.put R.timeStatus F.timeStatus_STEP_NEEDED 1).raise .time 3 2
      else s1
    if lockCount s2.time.inUse ≤ s2.time.lockRun then s2.servoTo svLocked else s2
  else if s1.servo = svLocked then
    if 8 ≤ s1.time.farRun then (s1.servoTo svTrack).raise .time 4 2 else s1
  else if s1.servo = svHoldover then
    if within then s1.servoTo svLocked else s1.servoTo svTrack
  else s1

/-- A measurement of the reference in use (R68): it validates the reference, joins the history, and drives the servo. While a re-arm is
pending no step is taken: the servo works by rate alone (R67). -/
def State.measure (s : State) (o : Int) : State :=
  let s1 := s.put R.timeStatus F.timeStatus_REF_VALID 1
  let s2 := if s1.servo = svFree then
      (if s1.flag R.timeStatus F.timeStatus_STEP_USED then s1.servoTo svTrack else s1.servoTo svAcquire)
    else s1
  let h := (s2.time.hist ++ [o]).drop (s2.time.hist.length - 7)
  let f := filteredOffset h
  let s3 := ({ s2 with time := { s2.time with hist := h } } : State).showOffset f
  if s3.servo = svAcquire then
    let s4 : State := { s3 with time := { s3.time with acq := (s3.time.acq ++ [o]).drop (s3.time.acq.length - 15) } }
    if s4.flag R.timeStatus F.timeStatus_REARM_PENDING then s4.rateUpdate f
    else if s4.time.acq.length = 16 then s4.acquireStep else s4
  else
    let s4 := s3.servoJudge f
    if s4.servo = svTrack ∨ s4.servo = svLocked then s4.rateUpdate f else s4

/-! ### TIME_CTRL and TIME_SERVO_CFG -/

/-- A re-arm is requested (R67). -/
def State.rearm (s : State) : State :=
  if s.flag R.timeStatus F.timeStatus_REARM_PENDING then s
  else (((s.put R.timeStatus F.timeStatus_REARM_PENDING 1).put R.timeCtrl F.timeCtrl_REARM 1).showLock).raise .time 2 1

/-- A re-arm takes effect (R67): only with the sequencer in IDLE and no mode switch pending. -/
def State.rearmEffect (s : State) : State :=
  if s.flag R.timeStatus F.timeStatus_REARM_PENDING && s.seq.state == .idle && s.seq.pendingMode.isNone &&
      s.seq.checking.isNone then
    let e := s.get R.timeStatus F.timeStatus_EPOCH
    let s1 := (s.put R.timeStatus F.timeStatus_REARM_PENDING 0).put R.timeCtrl F.timeCtrl_REARM 0
    let s2 := ((s1.put R.timeStatus F.timeStatus_EPOCH (e + 1)).put R.timeStatus F.timeStatus_STEP_USED 0).put
      R.timeStatus F.timeStatus_STEP_NEEDED 0
    s2.servoTo svFree
  else s

/-- SET_GO (TIME_CTRL): the counter takes TIME_SET, where it is honoured. -/
def State.setGo (s : State) (value : Nat) (req : Requester) : State :=
  let r := s.time.inUse
  let t := s.reg R.timeSet
  if s.flag R.timeStatus F.timeStatus_STEP_USED || !(r == 0 || r == 2 || r == 3) || decide (999999999 < t % 2 ^ 32) then
    s.progError R.timeCtrl value req
  else
    let s1 := s.stepCounter (nsOf t * 2 ^ 32)
    if r = 0 then s1.put R.timeStatus F.timeStatus_STEP_USED 1 else s1

/-- The reference that R65 gives a device: ENSIGN in a tile and in a standby unit that a chain port serves, else REF. -/
def State.wantedReference (s : State) : Nat :=
  if s.isTile then 4
  else if s.flag R.timeStatus F.timeStatus_STANDBY then 4
  else s.get R.timeCtrl F.timeCtrl_REF

/-- The reference in use follows R65; a change acts as R442 says. -/
def State.updateReference (s : State) : State :=
  if s.wantedReference = s.time.inUse then s else s.changeReference s.wantedReference

/-- A write of TIME_CTRL: REF, then REARM, then SET_GO. In a tile REF keeps its value (R65). The codes 0b101 to 0b111, and ENSIGN in a feed
unit that is no standby, are stored and become the reference in use, one that no command measures: the spec gives them no effect
(DESIGN CHOICE, log entry 143). -/
def State.timeCtrlWrite (s : State) (value : Nat) (req : Requester) : State :=
  let s1 := if s.isTile then s
    else (s.put R.timeCtrl F.timeCtrl_REF (fieldGet value F.timeCtrl_REF)).updateReference
  let s2 := if fieldGet value F.timeCtrl_REARM = 1 then s1.rearm else s1
  if fieldGet value F.timeCtrl_SET_GO = 1 then s2.setGo value req else s2

/-- TIME_REF_WRITE (R442). -/
def execTimeRefWrite (req : Requester) (value : Word) (s : State) : Out := .next (s.byReq req (s.timeCtrlWrite value.toNat req))

/-- REARM (R67). -/
def execRearm (req : Requester) (value : Word) (s : State) : Out := .next (s.byReq req (s.timeCtrlWrite value.toNat req))

/-- REARM_EFFECT (R67). -/
def execRearmEffect (s : State) : Out := .next s.rearmEffect

/-- SET_GO (R64, TIME_CTRL). -/
def execSetGo (req : Requester) (value : Word) (s : State) : Out := .next (s.byReq req (s.timeCtrlWrite value.toNat req))

/-- A write of TIME_SERVO_CFG: a SLEW_PPM outside 1 to 200 makes the whole write ignored and reported; the band
applies at the next servo update (R63). -/
def State.servoCfgWrite (s : State) (value : Nat) (req : Requester) : State :=
  let ppm := fieldGet value F.timeServoCfg_SLEW_PPM
  if ppm = 0 ∨ 200 < ppm then s.progError R.timeServoCfg value req
  else s.setReg R.timeServoCfg (value % 2 ^ 24)

/-- SLEW_PPM_WRITE (R63). -/
def execSlewPpmWrite (req : Requester) (value : Word) (s : State) : Out := .next (s.byReq req (s.servoCfgWrite value.toNat req))

/-! ### Timers of the servo -/

/-- ACQUIRE_TIMEOUT: ACQUIRE restarts with a NOTICE (R68). -/
def State.acquireTimeout (s : State) : State :=
  if s.servo = svAcquire then (s.servoTo svAcquire).raise .time 1 1 else s

/-- ACQUIRE_TIMEOUT (R68). -/
def execAcquireTimeout (s : State) : Out := .next s.acquireTimeout

/-- HOLDOVER_EXPIRE: FREE with a DEGRADED event (R68). -/
def State.holdoverExpire (s : State) : State :=
  if s.servo = svHoldover then (s.servoTo svFree).raise .time 5 2 else s

/-- HOLDOVER_EXPIRE (R68). -/
def execHoldoverExpire (s : State) : Out := .next s.holdoverExpire

/-! ### Pins (R71, R72) -/

/-- An interval between edges lies within 100 ppm of one nominal period of `num` over `den` s; times in 2^-16 ns. -/
def nearPeriod (d : Int) (num den : Nat) : Bool :=
  let want : Int := (num * 1000000000 * 65536 : Nat)
  decide (d * den - want ≤ want / 10000 ∧ want - d * den ≤ want / 10000)

/-- An edge of the pin that supplies the reference (R68, R442): the first anchors; a second within 100 ppm of a period is a
measurement of `offset`; one farther away loses the reference and anchors anew. -/
def State.pinEdge (s : State) (num den : Nat) (offset : Int) : State :=
  let now := s.stamp
  let s1 : State := { s with time := { s.time with edge := some now } }
  match s.time.edge with
  | none => s1
  | some e => if nearPeriod (now - e) num den then s1.measure offset else s1.loseReference

/-- The offset of the nearest frame boundary of the pattern in force to now, in 2^-16 ns (R71). -/
def State.frameEdgeOffset (s : State) (p : PatternRec) : Int :=
  let now := s.stamp
  let n := frameAt s.origin p s.clock.now
  let a := frameStart s.origin p n * 65536 - now
  let b := frameStart s.origin p (n + 1) * 65536 - now
  if -a ≤ b then a else b

/-- The offset of the nearest second to now, in 2^-16 ns (R71). -/
def State.secondEdgeOffset (s : State) : Int :=
  let now := s.stamp
  let sec : Int := 65536000000000
  let a := now / sec * sec - now
  if -a ≤ a + sec then a else a + sec

/-- FRAME_IN_EDGE (R71): the edge of the polarity selected, at least 100 ns long, of the reference in use. -/
def execFrameInEdge (rising : Bool) (widthNs : Nat) (s : State) : Out :=
  .next (if decide (widthNs < 100) || rising == s.flag R.timePinCfg F.timePinCfg_FRAME_IN_POL || s.time.inUse != 2 then s
    else match s.pattern with
      | some p => s.pinEdge p.fpNum p.fpDen (s.frameEdgeOffset p)
      | none => s)

/-- PPS_IN_EDGE (R71). -/
def execPpsInEdge (rising : Bool) (widthNs : Nat) (s : State) : Out :=
  .next (if decide (widthNs < 100) || rising == s.flag R.timePinCfg F.timePinCfg_PPS_IN_POL || s.time.inUse != 3 then s
    else s.pinEdge 1 1 s.secondEdgeOffset)

/-- EDGE_TIMEOUT: two nominal periods without an edge lose the reference (R68); the next edge anchors anew. -/
def execEdgeTimeout (s : State) : Out :=
  .next (if s.time.inUse = 2 ∨ s.time.inUse = 3 then
    ({ s with time := { s.time with edge := none } } : State).loseReference
  else s)

/-- The selected instants of PPS_OUT on either side of now (R72): each second, or each frame or slot boundary of the pattern in force; the latest
at or before now and the next. -/
def State.ppsInstants (s : State) : Option (Int × Int) :=
  let now : Int := s.clock.now
  match s.get R.timePinCfg F.timePinCfg_OUT_MODE, s.pattern with
  | 1, _ => some (now / 1000000000 * 1000000000, (now / 1000000000 + 1) * 1000000000)
  | 2, some p =>
    let n := frameAt s.origin p now
    some (frameStart s.origin p n, frameStart s.origin p (n + 1))
  | 3, some p =>
    let n := frameAt s.origin p now
    let k := slotAt s.origin p n now
    some (slotStart s.origin p n k, slotStart s.origin p n (k + 1))
  | _, _ => none

/-- PPS_OUT_PULSE: PPS_OUT rises at a selected instant, within ±2 ns of the counter, for WIDTH µs, cut to half the period of the instants
(R72). -/
def execPpsOutPulse (s : State) : Out :=
  .next (match s.ppsInstants with
    | some (a, b) =>
      let now : Int := s.clock.now
      let at_ := if now - a ≤ 2 then some a else if b - now ≤ 2 then some b else none
      let w : Int := min (s.get R.timePinCfg F.timePinCfg_WIDTH * 1000 : Nat) ((b - a) / 2)
      match at_ with
      | some t => { s with time := { s.time with pps := some (t + w).toNat } }
      | none => s
    | none => s)

/-- PPS_OUT_END: PPS_OUT falls at the end of its pulse (R72). -/
def execPpsOutEnd (s : State) : Out :=
  .next (match s.time.pps with
    | some t => if t ≤ s.clock.now then { s with time := { s.time with pps := none } } else s
    | none => s)

/-- A write of TIME_PIN_CFG: while its MODE is off, PPS_OUT is low (R72). -/
def State.pinCfgWrite (s : State) (value : Nat) : State :=
  let keep := value % 2 ^ 25 - fieldGet value ⟨4, 4⟩ * 2 ^ 4
  let s1 := s.setReg R.timePinCfg keep
  if fieldGet value F.timePinCfg_OUT_MODE = 0 then { s1 with time := { s1.time with pps := none } } else s1

end Sys2Proof.Machine
end

