-- ==== Sys2Proof/Machine/Claims.lean ====
section
/-! DEFINITION. Claims: the claim table of a tile (R322, R323), and in a feed unit the current claim, the partner, the roles
and the port winner (R314 to R321). -/

namespace Sys2Proof.Machine

/-! ### The tile's claim table -/

/-- Both entries hold the same claim with different serials (R323). -/
def State.claimTie (s : State) : Bool :=
  match s.liveClaims with
  | [a, b] => a.claim == b.claim && a.serial != b.serial
  | _ => false

/-- A packet of a claim that arrives on a port comes from the tile's claim winner (R322, R323). -/
def State.fromWinner (s : State) (port claim : Nat) : Bool :=
  match s.claimWinner with
  | some w => w.claim == claim && (!s.claimTie || w.port == some port)
  | none => false

/-- RED_TILE_STATUS and RED_TILE_WIN_SERIAL follow the table. -/
def State.showClaims (s : State) : State :=
  let both := decide (2 ≤ s.liveClaims.length)
  match s.claimWinner with
  | some w =>
    let v := w.claim + both.toNat * 2 ^ 16 + (w.port.map s.portName).getD 0 % 8 * 2 ^ 17
    (s.setReg R.redTileStatus v).setReg R.redTileWinSerial (w.serial.getD 0)
  | none => (s.setReg R.redTileStatus 0).setReg R.redTileWinSerial 0

/-- A new entry takes a free place, or that of the entry seen longest ago (R322). -/
def claimPlace (l : List ClaimEntry) : Nat :=
  match l with
  | [] => 0
  | [_] => 1
  | a :: b :: _ => if a.seen ≤ b.seen then 0 else 1

/-- The entry of a place holds another claim: its read latch and its staging buffer begin anew (R10, R11). -/
def BusSt.forget (b : BusSt) (i : Nat) : BusSt :=
  if i = 0 then { b with latch := { b.latch with claim0 := 0 }, staging := { b.staging with claim0 := ⟨0, []⟩ } }
  else { b with latch := { b.latch with claim1 := 0 }, staging := { b.staging with claim1 := ⟨0, []⟩ } }

/-- A packet from a feed unit carried a claim (R322); `ens` is the serial and port of an Ensign. -/
def State.noteClaim (s : State) (claim : Nat) (ens : Option (Nat × Nat)) : State :=
  if !s.isTile then s
  else
    let t := s.red.tick + 1
    let same := fun (e : ClaimEntry) => match ens with
      | some (ser, _) => e.claim == claim && (e.serial.isNone || e.serial == some ser)
      | none => e.claim == claim
    let upd := fun (e : ClaimEntry) => match ens with
      | some (ser, p) => ({ e with serial := some ser, port := some p, seen := t, live := true } : ClaimEntry)
      | none => { e with seen := t, live := true }
    let s1 : State := { s with red := { s.red with tick := t } }
    if s.red.claims.any same then
      ({ s1 with red := { s1.red with claims := s.red.claims.map fun e => if same e then upd e else e } } : State).showClaims
    else
      let i := claimPlace s.red.claims
      let e := upd { claim := claim, serial := none, port := none, seen := t, live := true }
      let l := if i < s.red.claims.length then s.red.claims.set i e else s.red.claims ++ [e]
      ({ s1 with red := { s1.red with claims := l }, bus := s1.bus.forget i } : State).showClaims

/-- The requester of R10 that a claim is: its place in the claim table. -/
def State.claimRequester (s : State) (claim : Nat) : Requester :=
  match s.red.claims with
  | a :: _ => if a.claim = claim then .claim0 else .claim1
  | [] => .claim0

/-- CLAIM_AGE_OUT: an entry goes HOLD_MS unseen (R322). -/
def State.claimAgeOut (s : State) (claim : Nat) : State :=
  ({ s with red := { s.red with claims := s.red.claims.map fun e =>
      if e.claim = claim then { e with live := false } else e } } : State).showClaims

/-- CLAIM_AGE_OUT (R322). -/
def execClaimAgeOut (claim : BitVec 16) (s : State) : Out := .next (if s.isTile then s.claimAgeOut claim.toNat else s)

/-! ### The pair of feed units -/

/-- The unit is one of a pair. -/
def State.paired (s : State) : Bool := s.flag R.redCtrl F.redCtrl_PAIR

/-- The unit hears its partner (R315). -/
def State.hears (s : State) : Bool := !s.red.hearing.isEmpty

/-- The current claim. -/
def State.cur (s : State) : Nat := s.get R.redClaim F.redClaim_CUR

/-- The partner's claim. -/
def State.partnerClaim (s : State) : Nat := s.get R.redPartnerInfo F.redPartnerInfo_CLAIM

/-- The unit is claim winner (R316); a solo unit ignores the partner rules. -/
def State.unitWins (s : State) : Bool :=
  !s.paired || !s.hears || decide (s.partnerClaim < s.cur) ||
    (s.cur == s.partnerClaim && decide (s.reg R.redPartner < s.serial))

/-- The unit is port winner on a port (R321). -/
def State.portWins (s : State) (l : Nat) : Bool := s.unitWins || !s.red.hearing.contains l

/-- The role codes of RED_STATUS.ROLE. -/
def State.role (s : State) : Nat := s.get R.redStatus F.redStatus_ROLE

/-- The role that the pair state gives: SOLO, ACTIVE, STANDBY or RESYNC (R316 and the pair roles table). -/
def State.roleOf (s : State) : Nat :=
  if !s.paired then 0 else if s.unitWins then 1 else if s.flag R.redStatus F.redStatus_SYNCED then 2 else 3

/-- RED_PORT of a port follows what it hears. -/
def State.showPort (s : State) (l : Nat) : State :=
  let pairing := if s.red.hearing.contains l then 1
    else if s.get (R.redPort l) F.redPort_PAIRING = 0 then 0 else 2
  (s.put (R.redPort l) F.redPort_PAIRING pairing).put (R.redPort l) F.redPort_PORT_WINNER (s.portWins l).toNat

/-- The role, TIE, PARTNER_HEARD, the ports and the time reference follow the claims (R65, R316, R320, R321). -/
def State.updateRole (s : State) : State :=
  let s1 := (s.put R.redStatus F.redStatus_ROLE s.roleOf).put R.redStatus F.redStatus_PARTNER_HEARD s.hears.toNat
  let s2 := s1.put R.redStatus F.redStatus_TIE (s.paired && s.hears && s.cur == s.partnerClaim).toNat
  let s3 := s2.halPorts.foldl State.showPort s2
  let standby := s3.isFeed && s3.paired && !s3.unitWins && s3.hears
  (s3.put R.timeStatus F.timeStatus_STANDBY standby.toNat).updateReference

/-- CUR takes a value; a change raises CLAIM_CHANGE with the old and new values (R314). -/
def State.setCur (s : State) (v : Nat) : State :=
  if v = s.cur then s.updateRole
  else ((s.put R.redClaim F.redClaim_CUR v).raise .red 1 1 0 [s.cur, v]).updateRole

/-- A write of RED_CLAIM.CFG sets CUR at once; 0 acts as 1 (R314). -/
def State.claimCfgWrite (s : State) (value : Nat) : State :=
  let v := fieldGet value F.redClaim_CFG
  (s.put R.redClaim F.redClaim_CFG v).setCur (max 1 v)

/-- CLAIM_CFG_WRITE (R314). -/
def execClaimCfgWrite (req : Requester) (value : Word) (s : State) : Out :=
  .next (s.byReq req (if s.isTile then s else s.claimCfgWrite value.toNat))

/-- The Pennants of a pending commit or mode switch are sent again with a new id (R318). -/
def State.resendPennants (s : State) : State :=
  let again := fun (p : PennantOut) => p.type == 0x10 || p.type == 0x11
  let wait := s.pen.out.filter again
  { s with pen := { s.pen with
      out := (s.pen.out.filter fun p => !again p) ++
        (wait.zipIdx.map fun x => { x.1 with id := (s.pen.nextId + x.2) % 2 ^ 32, copies := 0 }),
      nextId := (s.pen.nextId + wait.length) % 2 ^ 32 } }

/-- A claim loser that stops hearing its partner takes over (R318). -/
def State.takeover (s : State) : State :=
  if s.isFeed && s.paired && s.hears && !s.unitWins then
    let synced := s.flag R.redStatus F.redStatus_SYNCED
    let pc := s.partnerClaim
    let s1 : State := { s with red := { s.red with hearing := [], hops := [] } }
    let s2 := s1.setCur (min 0xFFFF (pc + 1))
    let s3 := if synced then s2.raise .red 2 2 else s2.raise .red 3 3
    (s3.count R.redTakeovers F.redTakeovers_COUNT).resendPennants
  else s

/-- TAKEOVER (R318). -/
def execTakeover (s : State) : Out := .next s.takeover

/-- PORT_PARTNER_LOST (R321, R330): the port is BROKEN and the unit its port winner; with the last port the partner is
lost, and a claim loser takes over (R318). -/
def State.portPartnerLost (s : State) (l : Nat) : State :=
  if s.red.hearing.contains l then
    if s.red.hearing.all (· == l) && s.isFeed && s.paired && !s.unitWins then s.takeover
    else
      ({ s with red := { s.red with hearing := s.red.hearing.filter (· != l),
                                    hops := s.red.hops.filter fun h => h.1 != l } } : State).updateRole
  else s

/-- PORT_PARTNER_LOST (R321). -/
def execPortPartnerLost (port : Fin 96) (s : State) : Out := .next (s.portPartnerLost port.val)

/-- The partner's Ensign is heard on a port (R315): serial, claim, generation in force, sequencer state, hops. -/
def State.hearPartner (s : State) (l serial claim gen run : Nat) (standby : Bool) (hops : Nat) : State :=
  let s1 : State := { s with red := { s.red with
    hearing := if s.red.hearing.contains l then s.red.hearing else s.red.hearing ++ [l],
    hops := (s.red.hops.filter fun h => h.1 != l) ++ [(l, hops)], partnerRun := run, partnerStandby := standby } }
  ((s1.setReg R.redPartner serial).setReg R.redPartnerInfo (claim % 65536 + gen % 65536 * 65536)).updateRole

/-- On joining a running wall a unit yields (R317). -/
def State.claimYield (s : State) : State :=
  if s.paired && s.red.joining && (s.red.partnerRun == 1 || s.red.partnerRun == 2) && !s.red.partnerStandby &&
      decide (s.partnerClaim ≤ s.cur) then s.setCur (max 1 (s.partnerClaim - 1))
  else s

/-- In a tie the unit of the lower serial lowers its claim (R320). -/
def State.tieLower (s : State) : State :=
  if s.paired && s.hears && s.cur == s.partnerClaim && decide (s.serial < s.reg R.redPartner) then
    s.setCur (max 1 (s.partnerClaim - 1))
  else s

/-- The hand-over at the start of a core reset (R319). -/
def State.coreHandover (s : State) : State :=
  if s.isFeed && s.paired && s.hears && s.unitWins then
    (s.put R.redStatus F.redStatus_SYNCED 0).setCur (max 1 (s.partnerClaim - 1))
  else if s.isFeed && s.paired then (s.put R.redStatus F.redStatus_SYNCED 0).updateRole
  else s

end Sys2Proof.Machine
end

