-- ==== Sys2Proof/Machine/Links.lean ====
section
/-! DEFINITION. The delay exchange of every Halyard link (R73, R217) and the link delay it measures. -/

namespace Sys2Proof.Machine

/-- The link delay of a port in 2^-16 ns: the mean of its exchanges plus TIME_LANE_ASYM (R73). -/
def State.linkDelay (s : State) (l : Nat) : Int :=
  let x := s.link l
  let n := x.samples.length
  let mean := if n = 0 then 0 else x.samples.foldl (· + ·) 0 / (n : Int)
  mean + toSigned 16 (s.get (R.timeLaneAsym l) F.timeLaneAsym_ASYM) * 4096

/-- The link delay of a port is valid: it stands on 16 exchanges (R73). -/
def State.linkValid (s : State) (l : Nat) : Bool := (s.link l).samples.length == 16

/-- TIME_LANE_DELAY of a port: the delay in 1/16 ns within its 24 bits, and the exchanges in the mean. -/
def State.showLink (s : State) (l : Nat) : State :=
  let n := (s.link l).samples.length
  let d := if n = 0 then 0 else clampInt 0 (2 ^ 24 - 1) (s.linkDelay l / 4096)
  (s.put (R.timeLaneDelay l) F.timeLaneDelay_DELAY d.toNat).put (R.timeLaneDelay l) F.timeLaneDelay_COUNT n

/-- A link delay becomes invalid: its exchanges are dropped (R73). -/
def State.dropLink (s : State) (l : Nat) : State :=
  (s.setLink { port := l, samples := [], waiting := [], count := (s.link l).count }).showLink l

/-- DELAY_REQ_SEND (R217): a request for an ACTIVE port; it is stamped as it leaves. -/
def State.delayReqSend (s : State) (l : Nat) : State :=
  if s.isHalPort l && s.portActive l then
    let x := s.link l
    let s1 := s.setLink { x with count := (x.count + 1) % 2 ^ 32 }
    s1.enqueue l (makePacket 2 2 0xFFF s.domain s.tileAddr s.ownClaim x.count s.frameNow 0 0 false false
      (leBytes 4 x.count ++ [0, 0, 0, 0]))
  else s

/-- DELAY_REQ_SEND (R217). -/
def execDelayReqSend (port : Fin 96) (s : State) : Out := .next (s.delayReqSend port.val)

/-- DELAY_REQ (R217): the port answers with a DELAY_RESP, which takes its turnaround as it leaves. -/
def execDelayReq (port : Fin 96) (pkt : Packet) (s : State) : Out :=
  .next (if s.isHalPort port.val && pkt.hdr.length.toNat == 8 && s.portActive port.val then
    s.enqueue port.val (makePacket 2 3 0xFFF s.domain s.tileAddr s.ownClaim pkt.hdr.seq.toNat s.frameNow 0 0 false false
      ((payloadBytes pkt).take 4 ++ List.replicate 12 0))
  else s)

/-- DELAY_RESP (R73, R217): an answer to an outstanding request within 1 ms enters the mean of the last 16; any other is
discarded and the exchange counts as missing. -/
def State.delayResp (s : State) (l : Nat) (pkt : Packet) : State :=
  let x := s.link l
  let id := payField pkt 0 4
  match x.waiting.find? fun w => w.1 == id with
  | none => s
  | some (_, t1) =>
    let rest := x.waiting.filter fun w => w.1 != id
    if s.stamp - t1 ≤ 65536000000 then
      let d := ((s.stamp - t1) - (payField pkt 8 8 : Int)) / 2
      (s.setLink { x with waiting := rest, samples := (x.samples ++ [d]).drop (x.samples.length - 15) }).showLink l
    else s.setLink { x with waiting := rest }

/-- DELAY_RESP (R73). -/
def execDelayResp (port : Fin 96) (pkt : Packet) (s : State) : Out :=
  .next (if s.isHalPort port.val && pkt.hdr.length.toNat == 16 then s.delayResp port.val pkt else s)

end Sys2Proof.Machine
end

