-- ==== Sys2Proof/Machine/Discovery.lean ====
section
/-! DEFINITION. Discovery (R228 to R240): the walk of each port, the topology table, binding, ASSIGN and ADMIT with their
retries, release, route masks, and in a tile the answers to WALK, ASSIGN and ADMIT. -/

namespace Sys2Proof.Machine

/-! ### The table -/

/-- The bindings of the TILES section. -/
def State.bindings (s : State) : List BindRec := match s.ldr.image with | some i => i.body.tiles.bindings | none => []

/-- The binding of an address, for a bound address (R231). -/
def State.boundAt (s : State) (a : Nat) : Option BindRec := s.bindings.find? fun b => b.addr == a

/-- The state of an address (DSC_TOPO.STATE): 0 NONE, 1 EXPECTED, 2 FOUND, 3 ADMITTED, 4 ABSENT, 5 REFUSED. -/
def State.topoState (s : State) (a : Nat) : Nat := s.get (R.dscTopo a) F.dscTopo_STATE

/-- The entry of an address; one that has held no tile is empty. -/
def State.tileEntry (s : State) (a : Nat) : TileEntry :=
  (s.dsc.table.find? fun e => e.addr == a).getD
    { addr := a, serial := 0, geom := 0, gen := 0, fw := 0, meas := [], missed := 0, recorded := none, width := 0, height := 0,
      hop := 0 }

/-- DSC_INFO and DSC_MEAS show the address of DSC_SEL. -/
def State.showTile (s : State) : State :=
  let a := s.get R.dscSel F.dscSel_ADDR
  let e := if s.topoState a = 0 then (State.tileEntry { s with dsc := { s.dsc with table := [] } } a) else s.tileEntry a
  let v := e.serial + e.geom * 2 ^ 64 + e.gen * 2 ^ 96 + e.fw * 2 ^ 128 + e.width % 1024 * 2 ^ 160 + e.height % 1024 * 2 ^ 176
  (List.range 12).foldl (fun t i => t.setReg (R.dscMeas i) (leVal ((e.meas.drop (4 * i)).take 4))) (s.setReg R.dscInfo v)

/-- The state with an entry set. -/
def State.setTile (s : State) (e : TileEntry) : State :=
  ({ s with dsc := { s.dsc with table := (s.dsc.table.filter fun x => x.addr != e.addr) ++ [e] } } : State).showTile

/-- An address enters a state; on entry to ADMITTED the generation and the measurement are recorded (R238). -/
def State.setTopo (s : State) (a st : Nat) : State :=
  let s1 := s.put (R.dscTopo a) F.dscTopo_STATE st
  if st = 3 then let e := s1.tileEntry a; s1.setTile { e with recorded := some (e.gen, e.meas) } else s1.showTile

/-- The admission bit of an address in a register file: bit i of word w admits 32w + i (R236). -/
def admitBit (rf : RegFile) (a : Nat) : Bool := decide (a < 4095) && bitOf (sRead regReset rf (R.dscAdmit (a / 32))) (a % 32)

/-- The admission of an address in force. -/
def State.admitted (s : State) (a : Nat) : Bool := admitBit s.active a

/-- The addresses that a register file admits. -/
def admittedAddrs (rf : RegFile) : List Nat :=
  (List.range 128).flatMap fun w =>
    let v := sRead regReset rf (R.dscAdmit w)
    if v = 0 then [] else ((List.range 32).filter fun i => bitOf v i && decide (32 * w + i < 4095)).map fun i => 32 * w + i

/-- The canvas origin of an address in a register file, none while it is not VALID (R231). -/
def originOf (rf : RegFile) (a : Nat) : Option (Nat × Nat) :=
  let v := sRead regReset rf (R.dscOrigin a)
  if fieldGet v F.dscOrigin_VALID = 1 then some (fieldGet v F.dscOrigin_X, fieldGet v F.dscOrigin_Y) else none

/-- The addresses that hold a serial: those whose entry is not NONE. -/
def State.holders (s : State) (serial : Nat) : List Nat :=
  (s.dsc.table.filter fun e => e.serial == serial && s.topoState e.addr != 0).map (·.addr)

/-- An address holds a serial. -/
def State.addrHeld (s : State) (a : Nat) : Bool :=
  (s.boundAt a).isSome || (s.topoState a != 0 && (s.dsc.table.any fun e => e.addr == a))

/-! ### Walks (R229) -/

/-- The walk of a port. -/
def State.walkOf (s : State) (l : Nat) : PortWalk :=
  (s.dsc.walks.find? fun w => w.port == l).getD
    { port := l, phase := .idle, id := 0, answers := [], trigger := false, again := false }

/-- The state with a port's walk set; DSC_CMD.WALKING counts the walks under way. -/
def State.setWalk (s : State) (w : PortWalk) : State :=
  let s1 : State := { s with dsc := { s.dsc with walks := (s.dsc.walks.filter fun x => x.port != w.port) ++ [w] } }
  s1.put R.dscCmd F.dscCmd_WALKING (s1.dsc.walks.countP fun x => x.phase != .idle)

/-- A trigger of a port's walk: IDLE goes to HOLD, HOLD merges it, and later it waits for the end of the walk (R229). -/
def State.walkTrigger (s : State) (l : Nat) : State :=
  let w := s.walkOf l
  match w.phase with
  | .idle => s.setWalk { w with phase := .hold }
  | .hold => s
  | .walk => s.setWalk { w with trigger := true }

/-- A link trigger: one on the port itself or in a tile of its segment, honoured while DSC_CTRL.AUTO is set (R229). -/
def State.linkTrigger (s : State) (l : Nat) : State :=
  if s.isFeed && s.isHalPort l && s.flag R.dscCtrl F.dscCtrl_AUTO then s.walkTrigger l else s

/-! ### ASSIGN and ADMIT (R233) -/

/-- A DSC packet of a tile address leaves, and leaves again until its answer comes. -/
def State.sendDsc (s : State) (l a type dst : Nat) (body : List Nat) : State :=
  let (n, s1) := s.nextSeq
  let p := makePacket 5 type dst s1.domain 0xFFF s1.cur n s1.frameNow 0 0 false false body
  let s2 : State := { s1 with dsc := { s1.dsc with waits := s1.dsc.waits ++ [{ addr := a, port := l, pkt := p, sends := 1 }] } }
  s2.enqueue l p

/-- The first lane of the port that reaches an address. -/
def State.topoLane (s : State) (a : Nat) : Nat := s.get (R.dscTopo a) F.dscTopo_LANE

/-- ASSIGN for an address: its serial, the address, the domain and the origin of a register file, 0xFFFF while there is none. -/
def State.sendAssign (s : State) (rf : RegFile) (a : Nat) : State :=
  let o := (originOf rf a).getD (0xFFFF, 0xFFFF)
  s.sendDsc (s.topoLane a) a 3 0xFFF
    (leBytes 8 (s.tileEntry a).serial ++ leBytes 2 (a + s.domain % 16 * 4096) ++ leBytes 2 o.1 ++ leBytes 2 o.2 ++ [0, 0])

/-- ADMIT for an address: 1 admits, 0 withdraws. -/
def State.sendAdmit (s : State) (a v : Nat) : State := s.sendDsc (s.topoLane a) a 4 a [v, 0, 0, 0]

/-- The answer to an ASSIGN or ADMIT of an address has come: it answers the oldest that waits; with the last the address is confirmed. -/
def State.confirmed (s : State) (a : Nat) : State :=
  let rest := match s.dsc.waits.find? fun w => w.addr == a with | some w => s.dsc.waits.erase w | none => s.dsc.waits
  let s1 : State := { s with dsc := { s.dsc with waits := rest } }
  if rest.any (·.addr == a) || s.dsc.failed.any (·.addr == a) then s1 else s1.put (R.dscTopo a) F.dscTopo_UNCONFIRMED 0

/-- ASSIGN_RETRY (R233): 1 ms without an answer sends again; after the third send UNCONFIRMED is set and ASSIGN_FAILED
raised, and the next walk tries again. -/
def State.assignRetry (s : State) (a : Nat) : State :=
  match s.dsc.waits.find? fun w => w.addr == a with
  | none => s
  | some w =>
    if w.sends < 3 then
      let s1 : State := { s with dsc := { s.dsc with waits := s.dsc.waits.map fun x =>
        if x = w then { x with sends := x.sends + 1 } else x } }
      s1.enqueue w.port w.pkt
    else
      let s1 : State := { s with dsc := { s.dsc with waits := s.dsc.waits.erase w, failed := s.dsc.failed ++ [w] } }
      (s1.put (R.dscTopo a) F.dscTopo_UNCONFIRMED 1).raise .dsc 5 1 w.port [a]

/-- ASSIGN_RETRY (R233). -/
def execAssignRetry (address : BitVec 12) (s : State) : Out := .next (if s.isFeed then s.assignRetry address.toNat else s)

/-! ### Binding (R232) -/

/-- The ANSWER that a payload spells (R225). -/
def answerOf (p : Packet) : AnswerRec :=
  { serial := payField p 4 8, ingress := payField p 0xD 1, addr := payField p 0xE 2 % 4096, domain := payField p 0xE 2 / 4096,
    geom := payField p 0x10 4, gen := payField p 0x14 4, fw := payField p 0x18 4,
    ports := (((payloadBytes p).drop 0x1C).take 8).map (· % 16), depth := payField p 0x24 1,
    cycle := bitOf (payField p 0x25 1) 0, meas := ((payloadBytes p).drop 0x30).take 48 }

/-- The address that the binding order gives a serial (R232, rules 2 to 5). -/
def State.bindAddress (s : State) (a : AnswerRec) : Option Nat :=
  match s.bindings.find? fun b => b.serial.toNat == a.serial with
  | some b => some b.addr
  | none =>
    match (s.holders a.serial).find? fun x => (s.boundAt x).isNone with
    | some x => some x
    | none =>
      if decide (a.addr < 4095) && !s.addrHeld a.addr && a.domain == s.domain then some a.addr
      else (List.range 4095).find? fun x => !s.addrHeld x

/-- The IMAGE_GEN that TILES expects for a geometry differs from the one answered (DSC_TOPO.MISMATCH). -/
def State.genMismatch (s : State) (a : AnswerRec) : Bool :=
  match s.ldr.image with
  | some i => i.body.tiles.expects.any fun x => x.geom.toNat == a.geom && x.imageGen.toNat != a.gen
  | none => false

/-- DSC_TOPO of an address takes what an answer says of the path: port, ingress, depth, mismatch. -/
def State.notePath (s : State) (l a : Nat) (r : AnswerRec) : State :=
  let k := R.dscTopo a
  let s1 := (s.put k F.dscTopo_LANE l).put k F.dscTopo_INGRESS (r.ingress % 8)
  (s1.put k F.dscTopo_HOPS r.depth).put k F.dscTopo_MISMATCH (s1.genMismatch r).toNat

/-- The domain and the address a tile reports differ from those bound, so ASSIGN goes out (R233). -/
def State.needsAssign (s : State) (a : Nat) (r : AnswerRec) : Bool := r.addr != a || r.domain != s.domain

/-- What was sent to an address in vain, for the walk that tries again (R233). -/
def State.takeFailed (s : State) (a : Nat) : List DscWait × State :=
  (s.dsc.failed.filter (·.addr == a), { s with dsc := { s.dsc with failed := s.dsc.failed.filter (·.addr != a) } })

/-- ASSIGN and ADMIT to a tile just found (R233, R238): ASSIGN where it reports another address or domain, which also makes its parent unknown
and its masks unwritten (R234, R235), or where the last one failed; ADMIT 1 where it is admitted again, or the last one that failed where it
still says what the entry is. -/
def State.tellTile (s : State) (a : Nat) (r : AnswerRec) (back : Bool) : State :=
  let k := R.dscTopo a
  let (old, s0) := s.takeFailed a
  let s1 := if s0.needsAssign a r then
      let u : State := { s0 with dsc := { s0.dsc with masks := s0.dsc.masks.filter (·.tile != a) } }
      ((u.put k F.dscTopo_PARENT 0xFFF).put k F.dscTopo_PARENT_PORT 0).sendAssign s0.active a
    else if old.any fun w => pktIs w.pkt 5 3 then s0.sendAssign s0.active a
    else s0
  let now := s1.topoState a == 3
  if back && now then s1.sendAdmit a 1
  else match old.find? fun w => pktIs w.pkt 5 4 with
    | some w => if (payField w.pkt 0 1 == 1) == now then s1.sendAdmit a now.toNat else s1
    | none => s1

/-- A serial is found at an address (R232, R238): the entry takes the answer, and its state changes as the table of a topology entry says; a
REFUSED one without a duplicate goes to FOUND. -/
def State.tileFound (s : State) (l a : Nat) (r : AnswerRec) : State :=
  let old := s.topoState a
  let e := s.tileEntry a
  let known := e.serial == r.serial && old != 0
  let fresh := old == 0 || old == 1 || old == 4
  let s1 := s.setTile { e with
    serial := r.serial, geom := r.geom, gen := r.gen, fw := r.fw, meas := r.meas, missed := 0,
    recorded := if known || old == 1 then e.recorded else none,
    width := if known then e.width else 0, height := if known then e.height else 0, hop := if known then e.hop else 0 }
  let s2 := s1.notePath l a r
  let same : Bool := match (s2.tileEntry a).recorded with
    | none => true
    | some (g, m) => g == r.gen && m == r.meas
  let back := fresh || (old == 3 && s2.needsAssign a r)
  let s3 := if back then
      if s2.admitted a then
        if same then s2.setTopo a 3 else (s2.setTopo a 2).raise .dsc 6 1 l [a]
      else s2.setTopo a 2
    else if old == 5 then s2.setTopo a 2
    else s2.showTile
  if s3.portWins l then s3.tellTile a r back else s3

/-- Every entry of a serial goes to REFUSED, and nothing more is sent to it (R232, rule 1, and the table of a topology entry). -/
def State.refuseSerial (s : State) (l serial : Nat) : State :=
  let hs := s.holders serial
  let s1 : State := { s with dsc := { s.dsc with waits := s.dsc.waits.filter fun w => !hs.contains w.addr,
                                                 failed := s.dsc.failed.filter fun w => !hs.contains w.addr } }
  (hs.foldl (fun t a => t.setTopo a 5) s1).raise .dsc 3 3 l [serial % 2 ^ 32, serial / 2 ^ 32]

/-- A serial is held by a FOUND or ADMITTED entry reached through another port (R232, rule 1). -/
def State.heldElsewhere (s : State) (l serial : Nat) : Bool :=
  (s.holders serial).any fun a => (s.topoState a == 2 || s.topoState a == 3) && s.topoLane a != l

/-- MULTIPATH of a tile whose answers in a walk include one with CYCLE (R230). -/
def State.noteCycle (s : State) (l a : Nat) (cycle : Bool) : State :=
  let s1 := s.put (R.dscTopo a) F.dscTopo_MULTIPATH cycle.toNat
  if cycle then s1.raise .dsc 2 3 l [a] else s1

/-- A tile at depth 32 reports a further port in ACTIVE: BEYOND_DEPTH names it by address and serial (R228). -/
def State.beyondDepth (s : State) (l a : Nat) (r : AnswerRec) : State :=
  if r.depth = 32 ∧ (r.ports.zipIdx.any fun x => x.1 == 6 && x.2 != r.ingress) = true then
    s.raise .dsc 1 2 l [a, r.serial % 2 ^ 32, r.serial / 2 ^ 32]
  else s

/-- A serial of a walk is bound by the first rule of R232 that applies, over all its answers in the walk; the other unit of a pair binds nothing
and takes the address that the tile reports. -/
def State.bindSerial (s : State) (l : Nat) (answers : List AnswerRec) (serial : Nat) : State :=
  let mine := answers.filter fun r => r.serial == serial
  let found := fun (a : Nat) (r : AnswerRec) => ((s.tileFound l a r).noteCycle l a (mine.any (·.cycle))).beyondDepth l a r
  match mine.filter fun r => !r.cycle with
  | [] => s
  | r :: more =>
    if s.portWins l then
      if !more.isEmpty || s.heldElsewhere l serial then (s.refuseSerial l serial).beyondDepth l ((s.holders serial).headD 0xFFF) r
      else match s.bindAddress r with
        | some a => found a r
        | none => (s.raise .dsc 4 2 l [serial % 2 ^ 32, serial / 2 ^ 32]).beyondDepth l 0xFFF r
    else if r.addr < 4095 ∧ r.domain = s.domain then found r.addr r
    else s.beyondDepth l 0xFFF r

/-- The end of WALK binds every serial that answered: rule 1 of R232 needs all the answers of the walk (DEDUCED, log entry 93). -/
def State.bindWalk (s : State) (l : Nat) (answers : List AnswerRec) : State :=
  ((answers.map (·.serial)).eraseDups).foldl (fun t x => t.bindSerial l answers x) s

/-- ANSWER (R229, R232, R233) in a feed unit: one of a walk under way is collected. -/
def State.answer (s : State) (l : Nat) (p : Packet) : State :=
  let r := answerOf p
  let id := payField p 0 4
  if id = 0 then
    let mine := (s.holders r.serial).filter fun a => s.topoState a != 5
    match mine.head? with
    | some a =>
      if !s.needsAssign a r then s.confirmed a
      else if s.portWins l || decide (4095 ≤ r.addr) || r.domain != s.domain then s
      else s.tileFound l r.addr r
    | none => if s.portWins l || decide (4095 ≤ r.addr) || r.domain != s.domain then s else s.tileFound l r.addr r
  else
    let w := s.walkOf l
    if w.phase == .walk && w.id == id then s.setWalk { w with answers := w.answers ++ [r] } else s

/-! ### Route masks (R240) -/

/-- An address lies behind branch port `b` of tile `t`: its chain of parents reaches `t` through that port. -/
def State.behind (s : State) (t b : Nat) : Nat → Nat → Bool
  | 0, _ => false
  | n + 1, a =>
    let v := s.reg (R.dscTopo a)
    let parent := fieldGet v F.dscTopo_PARENT
    if parent = 0xFFF then false
    else if parent = t then fieldGet v F.dscTopo_PARENT_PORT == b + 2
    else s.behind t b n parent

/-- The word of a route mask: the addresses found behind a branch port. -/
def State.routeWord (s : State) (t b w : Nat) : Nat :=
  ((s.dsc.table.filter fun e => e.addr / 32 == w && (s.topoState e.addr == 2 || s.topoState e.addr == 3) &&
      s.behind t b 32 e.addr).map fun e => 2 ^ (e.addr % 32)).foldl (· + ·) 0

/-- The mask word that a tile has acknowledged. -/
def State.maskHeld (s : State) (t b w : Nat) : Option Nat :=
  match s.dsc.masks.find? fun m => m.tile == t && m.branch == b && m.word == w with
  | some m => if m.acked then some m.value else none
  | none => some 0

/-- A mask word that the tile has not acknowledged is written to it by a CTL WRITE (R240). -/
def State.sendMask (s : State) (l t b w : Nat) : State :=
  let v := s.routeWord t b w
  if s.maskHeld t b w = some v then s
  else
    let (n, s1) := s.nextSeq
    let m : MaskSent := { tile := t, branch := b, word := w, value := v, tag := n % 65536, acked := false }
    let s2 : State := { s1 with dsc := { s1.dsc with
      masks := (s1.dsc.masks.filter fun m => !(m.tile == t && m.branch == b && m.word == w)) ++ [m] } }
    s2.enqueue l (makePacket 3 2 t s2.domain 0xFFF s2.cur n s2.frameNow 0 (n % 65536) false false
      (leBytes 4 (R.dscRoute b w) ++ leBytes 4 v))

/-- The WR_ACK of a mask word: with STATUS OK the tile holds it, and a refused one is written again after the next walk (R240). -/
def State.maskAck (s : State) (tile tag status : Nat) : State :=
  if status = 0 then
    { s with dsc := { s.dsc with masks := s.dsc.masks.map fun m =>
      if m.tile = tile ∧ m.tag = tag then { m with acked := true } else m } }
  else s

/-- The words of DSC_ROUTE that some address of the table, or an earlier mask, uses. -/
def State.maskWords (s : State) : List Nat :=
  (List.range 128).filter fun w => s.dsc.table.any (fun e => e.addr / 32 == w) || s.dsc.masks.any (fun m => m.word == w)

/-- After a walk of a port, the masks of the tiles reached through it follow the table (R240). -/
def State.updateMasks (s : State) (l : Nat) : State :=
  if s.portWins l then
    let ts := (s.dsc.table.filter fun e => s.topoLane e.addr == l && (s.topoState e.addr == 2 || s.topoState e.addr == 3)).map (·.addr)
    ts.foldl (fun u t => (List.range 6).foldl (fun u b => u.maskWords.foldl (fun u w => u.sendMask l t b w) u) u) s
  else s

/-! ### COMPARE (R229) -/

/-- One WALK leaves with a WALK_ID not used before; on a port that is not ACTIVE there is nothing to collect. -/
def State.startWalk (s : State) (l : Nat) (again : Bool) : State :=
  let id := s.dsc.nextWalk
  let s1 : State := { s with dsc := { s.dsc with nextWalk := if id + 1 = 2 ^ 32 then 1 else id + 1 } }
  let s2 := s1.setWalk { port := l, phase := .walk, id := id, answers := [], trigger := false, again := again }
  s2.enqueue l (makePacket 5 1 0xFFF s2.domain 0xFFF s2.cur id s2.frameNow 0 0 false false (leBytes 4 id ++ [0, 0, 0, 0]))

/-- An entry of the port compared with the walk: missing, it is counted, and after two consecutive walks it is ABSENT (R229 and the table of a topology entry). -/
def State.compareEntry (s : State) (l : Nat) (ans : List AnswerRec) (a : Nat) : State :=
  let st := s.topoState a
  let e := s.tileEntry a
  let clear := ans.countP fun r => r.serial == e.serial && !r.cycle
  if s.topoLane a = l ∧ (st = 2 ∨ st = 3 ∨ st = 5) then
    if clear = 0 then
      let s1 := s.setTile { e with missed := e.missed + 1 }
      if st ≠ 5 ∧ 2 ≤ e.missed + 1 then (s1.setTopo a 4).raise .dsc 7 2 l [a] else s1
    else s
  else s

/-- COMPARE: the table takes the walk's result; an entry missing for the first time starts the one second WALK, and a trigger
that came after WALK began starts another HOLD (R229). -/
def State.walkCompare (s : State) (l : Nat) : State :=
  let w := s.walkOf l
  let addrs := s.dsc.table.map (·.addr)
  let s1 := addrs.foldl (fun t a => t.compareEntry l w.answers a) s
  let first := addrs.any fun a => (s1.tileEntry a).missed == 1 && (s.tileEntry a).missed == 0
  if first && !w.again then
    if s1.portActive l then s1.startWalk l true
    else
      let s2 := addrs.foldl (fun t a => t.compareEntry l [] a) s1
      (s2.updateMasks l).setWalk { w with phase := if w.trigger then .hold else .idle, answers := [], trigger := false }
  else
    (s1.updateMasks l).setWalk { w with phase := if w.trigger then .hold else .idle, answers := [], trigger := false,
                                        again := false }

/-- WALK_HOLD_EXPIRE (R229): HOLD_MS has passed. -/
def State.walkHoldExpire (s : State) (l : Nat) : State :=
  let w := s.walkOf l
  if w.phase == .hold then
    if s.portActive l then s.startWalk l false
    else (s.setWalk { w with phase := .walk, answers := [], again := false, trigger := false }).walkCompare l
  else s

/-- WALK_HOLD_EXPIRE (R229). -/
def execWalkHoldExpire (port : Fin 96) (s : State) : Out := .next (s.walkHoldExpire port.val)

/-- The end of WALK: binding, then COMPARE (R229, R232). -/
def State.walkEnd (s : State) (l : Nat) : State :=
  let w := s.walkOf l
  if w.phase == .walk then (s.bindWalk l w.answers).walkCompare l else s

/-- WALK_QUIET (R229): 2 ms without a new ANSWER. -/
def execWalkQuiet (port : Fin 96) (s : State) : Out := .next (s.walkEnd port.val)

/-- WALK_TIMEOUT (R229): 100 ms in WALK. -/
def execWalkTimeout (port : Fin 96) (s : State) : Out := .next (s.walkEnd port.val)

/-- A port that leaves ACTIVE during its WALK compares at once, with no answers (R229). -/
def State.walkPortLost (s : State) (l : Nat) : State :=
  let w := s.walkOf l
  if w.phase == .walk then (s.setWalk { w with answers := [] }).walkCompare l else s

/-! ### Commands of software -/

/-- RELEASE of a free address that is ABSENT and not admitted; any other is a programming error (R231, DSC_CMD). -/
def State.releaseAddr (s : State) (a value : Nat) (req : Requester) : State :=
  if a < 4095 ∧ (s.boundAt a).isNone ∧ s.topoState a = 4 ∧ !s.admitted a then
    ({ s with dsc := { s.dsc with table := s.dsc.table.filter fun e => e.addr != a } } : State).setReg (R.dscTopo a)
      (regReset (R.dscTopo a)) |>.showTile
  else s.progErrorIn .dsc R.dscCmd value req

/-- A write of DSC_CMD. -/
def State.dscCmdWrite (s : State) (value : Nat) (req : Requester) : State :=
  let l := fieldGet value F.dscCmd_LANE
  if s.isTile then s
  else match fieldGet value F.dscCmd_OP with
    | 1 => if s.isHalPort l then s.walkTrigger l else s
    | 2 => s.halPorts.foldl State.walkTrigger s
    | 3 => s.releaseAddr (fieldGet value F.dscCmd_ADDR) value req
    | _ => s

/-- DSC_WALK_PORT (R229). -/
def execDscWalkPort (req : Requester) (value : Word) (s : State) : Out := .next (s.byReq req (s.dscCmdWrite value.toNat req))

/-- DSC_WALK_ALL (R229). -/
def execDscWalkAll (req : Requester) (value : Word) (s : State) : Out := .next (s.byReq req (s.dscCmdWrite value.toNat req))

/-- DSC_RELEASE (R231). -/
def execDscRelease (req : Requester) (value : Word) (s : State) : Out := .next (s.byReq req (s.dscCmdWrite value.toNat req))

/-! ### The details of a tile (R234) -/

/-- TILE_DETAILS_READ: DSC_SELF gives width and height, LANE_PEER and LANE_PEER_INFO of the ingress lane the parent, and LANE_CFG of that lane
the rate and width of the hop, which both its ends share (R181, R213). -/
def State.tileDetails (s : State) (a self peer info cfg : Nat) : State :=
  if s.isFeed && (s.topoState a == 2 || s.topoState a == 3) then
    let e := s.tileEntry a
    let s1 := s.setTile { e with width := fieldGet self F.dscSelf_WIDTH, height := fieldGet self F.dscSelf_HEIGHT, hop := cfg }
    let (p, q) := match (s1.holders peer).head? with
      | some x => if peer = s1.serial then (0xFFF, 0) else (x, fieldGet info F.lanePeerInfo_PORT % 8)
      | none => (0xFFF, 0)
    ((s1.put (R.dscTopo a) F.dscTopo_PARENT p).put (R.dscTopo a) F.dscTopo_PARENT_PORT q).updateMasks (s1.topoLane a)
  else s

/-- TILE_DETAILS_READ (R234). -/
def execTileDetailsRead (address : BitVec 12) (self peer : BitVec 64) (peerInfo laneCfg : Word) (s : State) : Out :=
  .next (s.tileDetails address.toNat self.toNat peer.toNat peerInfo.toNat laneCfg.toNat)

/-! ### Admission at a commit (R234, R236) -/

/-- An address takes its admission at a commit: newly admitted, a FOUND entry becomes ADMITTED; withdrawn, it returns to
FOUND; the port winner sends the ADMIT. -/
def State.admitAt (s : State) (before : RegFile) (a : Nat) : State :=
  let was := admitBit before a
  let now := s.admitted a
  let st := s.topoState a
  let send := s.portWins (s.topoLane a)
  if now && !was && st == 2 then
    let s1 := s.setTopo a 3
    if send then s1.sendAdmit a 1 else s1
  else if was && !now && st == 3 then
    let s1 := s.setTopo a 2
    if send then s1.sendAdmit a 0 else s1
  else s

/-- A free address held by a tile whose origin differs between two register files gets its ASSIGN again (R234). -/
def State.reassignAt (s : State) (before after : RegFile) (a : Nat) : State :=
  if (s.boundAt a).isNone && (s.topoState a == 2 || s.topoState a == 3) && originOf before a != originOf after a &&
      s.portWins (s.topoLane a) then s.sendAssign after a
  else s

/-- The origins that a generation changes are sent (R234). -/
def State.sendOrigins (s : State) (before after : RegFile) (gen : Nat) : State :=
  let s1 := (s.dsc.table.map (·.addr)).foldl (fun t a => t.reassignAt before after a) s
  { s1 with dsc := { s1.dsc with originsFor := some gen } }

/-- The effect of a commit on the table: origins first, where no PIX of its frame has sent them, then admission (R234, R236). -/
def State.applyAdmission (s : State) (before : RegFile) : State :=
  if s.isFeed then
    let gen := s.get R.topCommitDetail F.topCommitDetail_ACTIVE_GEN
    let s1 := if s.dsc.originsFor = some gen then s else s.sendOrigins before s.active gen
    let s2 : State := { s1 with dsc := { s1.dsc with originsFor := none } }
    (s2.dsc.table.map (·.addr)).foldl (fun t a => t.admitAt before a) s2
  else s

/-! ### A tile's side (R230, R233) -/

/-- CAPS byte 0x03: build and personality (R181). -/
def State.buildByte (s : State) : Nat :=
  (if s.isF then 1 else 2) + (if s.isFeed then 4 else if s.isTile then 8 else 0)

/-- CAPS byte 0x04: the port (R181). -/
def State.portByte (s : State) (l : Nat) : Nat := if s.isTile then s.portName l else 0x80 + l

/-- The firmware measurement, index 2 (R225, R393). -/
def State.fwMeasure (s : State) : List Nat := (List.range 12).flatMap fun w => leBytes 4 (s.reg (R.secMeas 1 w))

/-- The firmware version that runs. -/
def State.fwVersion (s : State) : Nat := match s.boot.fw with | some f => f.version.toNat | none => 0

/-- The geometry identifier of the LAMPMAP. -/
def State.geomId (s : State) : Nat := match s.ldr.image with | some i => i.body.lampmap.geom.toNat | none => 0

/-- An ANSWER of this tile leaves on some of its ports (R225, R230). -/
def State.sendAnswer (s : State) (ls : List Nat) (id ingress depth : Nat) (cycle : Bool) : State :=
  let states := (List.range 8).map fun n => match s.portByName n with
    | some l => s.get (R.laneStatus l) F.laneStatus_STATE
    | none => 0
  let gen := match s.ldr.image with | some i => i.hdr.imageGen.toNat | none => 0
  let body := leBytes 4 id ++ leBytes 8 s.serial ++ [s.buildByte, s.portByte ingress] ++
    leBytes 2 (s.tileAddr + s.domain % 16 * 4096) ++ leBytes 4 s.geomId ++ leBytes 4 gen ++ leBytes 4 s.fwVersion ++
    states ++ [depth, cycle.toNat] ++ List.replicate 10 0 ++ s.fwMeasure
  s.enqueueAll ls (makePacket 5 2 0xFFF s.domain s.tileAddr 0 id s.frameNow 0 0 true false body)

/-- WALK in a tile (R230): the first copy is answered on its port; one further copy on another port within 100 ms is
answered with CYCLE. -/
def State.tileWalk (s : State) (l : Nat) (p : Packet) : State :=
  let id := payField p 0 4
  let claim := p.hdr.claim.toNat
  let hops := p.hdr.hops.toNat
  match s.dsc.seen.find? fun w => w.id == id && w.claim == claim with
  | none =>
    let s1 : State := { s with dsc := { s.dsc with seen := (s.dsc.seen.drop (s.dsc.seen.length - 15)) ++
      [{ id := id, claim := claim, port := l, time := s.clock.now, cycle := false }] } }
    s1.sendAnswer [l] id l hops false
  | some w =>
    if w.port ≠ l ∧ !w.cycle ∧ s.clock.now ≤ w.time + 100000000 then
      let s1 : State := { s with dsc := { s.dsc with seen := s.dsc.seen.map fun x =>
        if x = w then { x with cycle := true } else x } }
      s1.sendAnswer [l] id l hops true
    else s

/-- The chain ports of a tile. -/
def State.chainPorts (s : State) : List Nat := s.halPorts.filter fun l => s.portName l == 0 || s.portName l == 1

/-- ASSIGN in a tile (R233): from its claim winner and for its serial, it takes address, domain and origin and answers on both
chain ports; from another unit it is ignored. -/
def State.tileAssign (s : State) (l : Nat) (p : Packet) : State :=
  if payField p 0 8 ≠ s.serial then s
  else if s.fromWinner l p.hdr.claim.toNat then
    let x := payField p 0xA 2
    let y := payField p 0xC 2
    let s1 := (s.put R.dscSelf F.dscSelf_ADDR (payField p 8 2)).put R.dscSelf F.dscSelf_DOMAIN (payField p 8 2 / 4096)
    let s2 : State := { s1 with dsc := { s1.dsc with origin := if x = 0xFFFF ∧ y = 0xFFFF then none else some (x, y) } }
    s2.sendAnswer s2.chainPorts 0 l p.hdr.hops.toNat false
  else s.refuseClaim

/-- ADMIT in a tile (R237): 1 admits; 0 withdraws, and the sequencer is to return to REDUCED at the next frame boundary. -/
def State.tileAdmit (s : State) (l : Nat) (p : Packet) : State :=
  if s.fromWinner l p.hdr.claim.toNat then
    let v := payField p 0 1
    let s1 := s.put R.dscSelf F.dscSelf_ADMITTED (if v = 1 then 1 else 0)
    let s2 : State := { s1 with seq := { s1.seq with demote := v != 1 && s1.seq.state == .run } }
    s2.sendAnswer s2.chainPorts 0 l p.hdr.hops.toNat false
  else s.refuseClaim

end Sys2Proof.Machine
end

