-- ==== Sys2Proof/Machine/Drives.lean ====
section
/-! DEFINITION. The drives of the clip store and the states of their rings (R349, R354): what other chapters need of them. -/

namespace Sys2Proof.Machine

/-- The drive of an NVMe port; one that has never come up has nothing outstanding. -/
def State.drive (s : State) (p : Nat) : DriveSt :=
  (s.clp.drives.find? fun d => d.port == p).getD
    { port := p, cmds := [], nextCmd := 0, failed := 0, resetting := false, blocks := 0 }

/-- The state with a drive set. -/
def State.setDrive (s : State) (d : DriveSt) : State :=
  { s with clp := { s.clp with drives := (s.clp.drives.filter fun x => x.port != d.port) ++ [d] } }

/-- The rings of a drive. -/
def State.ringsOf (s : State) (p : Nat) : List ClipRing := s.clp.rings.filter fun r => r.drive == p

/-- The rings of a drive take a state of CLP_RING_CFG.STATE: 1 ONLINE, 2 OFFLINE. -/
def State.setRings (s : State) (p st : Nat) : State :=
  (s.ringsOf p).foldl (fun t r => t.put (R.clpRingCfg r.ring) F.clpRingCfg_STATE st) s

/-- An NVMe port leaves ACTIVE: its drive is gone, its rings are OFFLINE and its commands have failed (R354). -/
def State.driveDown (s : State) (p : Nat) : State :=
  let s1 := (s.setRings p 2).setDrive { s.drive p with cmds := [], resetting := false }
  s1.put (R.clpPortStatus p) F.clpPortStatus_STATE 0

end Sys2Proof.Machine
end

