-- ==== Sys2Proof/Machine/HalyardWire.lean ====
section
/-! DEFINITION. What stands on a Halyard lane: 64b/66b blocks, the groups between alignment markers and the dealing to lanes (R195), control
blocks (R196), the blocks of a packet (R197), the bytes of its header (R198), and its two CRCs (R198, R199). -/

namespace Sys2Proof.Machine

/-! ### Lanes of blocks (R195) -/

/-- The blocks of a group: its alignment marker first (R195). -/
def groupBlocks : Nat := 82240

/-- The FEC codewords of a group, each of 514 message symbols of 10 bits: a group of 66-bit blocks fills them exactly (R195). -/
def groupCodewords : Nat := 1056

/-- A codeword of RS(528,514) with a number of symbols in error: 0 as sent, 1 corrected, 2 not correctable (R195, R189). -/
def codewordFate (symbolsInError : Nat) : Nat := if symbolsInError = 0 then 0 else if symbolsInError ≤ 7 then 1 else 2

/-- Blocks taken from each of several lanes in turn (R195). -/
def roundRobin : Nat → List (List LineBlock) → List LineBlock
  | 0, _ => []
  | n + 1, ls => ls.filterMap List.head? ++ roundRobin n (ls.map List.tail)

/-- The blocks that a port of a width deals to the lane of a position (R195). -/
def dealt (width pos : Nat) (bs : List LineBlock) : List LineBlock :=
  (bs.zipIdx.filter fun x => x.2 % width == pos).map (·.1)

/-- A block is an alignment marker. -/
def isMarker (b : LineBlock) : Bool := b.control && b.word.toNat % 256 == 0x55

/-- The blocks of a port from those of its lanes in POS order, markers apart (R195). -/
def gathered (lanes : List (List LineBlock)) : List LineBlock :=
  let ls := lanes.map fun l => l.filter fun b => !isMarker b
  roundRobin (ls.foldl (fun n l => max n l.length) 0) ls

/-! ### Control blocks (R196) -/

/-- One bit step of the CRC-8 of polynomial 0x07. -/
def crc8Bit (c : Nat) : Nat := if 128 ≤ c then Nat.xor (c * 2 % 256) 7 else c * 2

/-- The CRC-8 of a CREDIT block (R196). -/
def crc8 (bytes : List Nat) : Nat :=
  bytes.foldl (fun c b => crc8Bit (crc8Bit (crc8Bit (crc8Bit (crc8Bit (crc8Bit (crc8Bit (crc8Bit (Nat.xor c b))))))))) 0

/-- The CREDIT block of a port: both counts of both pools, and the CRC-8 (R196). -/
def creditBytes (ctlSent ctlFreed blkSent blkFreed : Nat) : List Nat :=
  let w := leBytes 6 (ctlSent + ctlFreed * 2 ^ 12 + blkSent * 2 ^ 24 + blkFreed * 2 ^ 36)
  0x4B :: w ++ [crc8 w]

/-- The IDLE block (R196). -/
def idleBytes : List Nat := 0x1E :: List.replicate 7 0

/-- BIP-8 over blocks: even parity of each bit place over their bytes. -/
def bip8 (blocks : List (List Nat)) : Nat := (blocks.flatMap id).foldl Nat.xor 0

/-- The alignment marker that a lane of a port sends, over the blocks since its last one (R187, R196): bytes 2 and 3, the request for the
partner's transmit FFE and its status, have no layout in the spec and are open values. -/
def State.markerBytes (s : State) (l : Nat) (since : List (List Nat)) : List Nat :=
  let v := s.reg (R.laneCfg l)
  let x := (s.lan.lanes.find? fun x => x.lane == l).getD (LaneSt.fresh l)
  [0x55, fieldGet v F.laneCfg_POS + fieldGet v F.laneCfg_WIDTH * 4, (Config.ffeBytes x.ffeOut).1.toNat, (Config.ffeBytes x.ffeOut).2.toNat,
    0x3A, 0xC5, 0x96, bip8 since]

/-- An arriving marker matches: its fixed bytes, and the width code of this port (R182, R196). -/
def State.markerMatches (s : State) (l : Nat) (bs : List Nat) : Bool :=
  bs.getD 0 0 == 0x55 && bs.getD 1 0 / 4 == s.get (R.laneCfg l) F.laneCfg_WIDTH && (bs.drop 4).take 3 == [0x3A, 0xC5, 0x96]

/-! ### The bytes of a packet (R197 to R199) -/

/-- One bit step of the CRC-16 of polynomial 0x1021. -/
def crc16Bit (c : Nat) : Nat := if 32768 ≤ c then Nat.xor (c * 2 % 65536) 0x1021 else c * 2

/-- The CRC-16 of a header: initial value 0xFFFF, no reflection (R198). -/
def crc16 (bytes : List Nat) : Nat :=
  bytes.foldl (fun c b =>
    crc16Bit (crc16Bit (crc16Bit (crc16Bit (crc16Bit (crc16Bit (crc16Bit (crc16Bit (Nat.xor c (b * 256)))))))))) 0xFFFF

/-- Bytes 0x00 to 0x15 of a header (R198). -/
def headBytes (h : PktHeader) : List Nat :=
  [h.cls.toNat + h.version.toNat * 16, h.type.toNat] ++ leBytes 2 (h.dst.toNat + h.domain.toNat * 4096) ++ leBytes 2 h.src.toNat ++
    leBytes 2 h.claim.toNat ++ leBytes 4 h.seq.toNat ++ leBytes 2 h.frame.toNat ++
    [h.slot.toNat + h.hops.toNat * 4, h.up.toNat + h.last.toNat * 2] ++ leBytes 4 h.arg.toNat ++ leBytes 2 h.length.toNat

/-- The header that 24 bytes spell (R198). -/
def headOf (bs : List Nat) : PktHeader :=
  let f := fun o n => leVal ((bs.drop o).take n)
  { version := .ofNat 4 (f 0 1 / 16), cls := .ofNat 4 (f 0 1), type := .ofNat 8 (f 1 1), dst := .ofNat 12 (f 2 2),
    domain := .ofNat 4 (f 2 2 / 4096), src := .ofNat 12 (f 4 2), claim := .ofNat 16 (f 6 2), seq := .ofNat 32 (f 8 4),
    frame := .ofNat 16 (f 0xC 2), slot := .ofNat 2 (f 0xE 1), hops := .ofNat 6 (f 0xE 1 / 4), up := bitOf (f 0xF 1) 0,
    last := bitOf (f 0xF 1) 1, arg := .ofNat 32 (f 0x10 4), length := .ofNat 16 (f 0x14 2) }

/-- The header with its HDR_CRC (R198). -/
def headerBytes (h : PktHeader) : List Nat := headBytes h ++ leBytes 2 (crc16 (headBytes h))

/-- The bytes of a packet as a device sends it: header, padded payload, and the fresh CRC, inverted where the packet is stomped (R199). -/
def packetBytes (p : Packet) (stomped : Bool) : List Nat :=
  let body := headerBytes p.hdr ++ payloadBytes p
  body ++ leBytes 4 (if stomped then Nat.xor (crc32 body) 0xFFFFFFFF else crc32 body)

/-- The bytes of a packet that needs `n` of them, as far as they have come, the rest zero (R199). -/
def zeroFilled (n : Nat) (bs : List Nat) : List Nat := bs.take n ++ List.replicate (n - bs.length) 0

/-- The packet that received bytes spell; a payload cut short is completed with zeros (R199). -/
def packetOf (bs : List Nat) : Packet :=
  let h := headOf bs
  { hdr := h, payload := (zeroFilled h.length.toNat (bs.drop 24)).map (BitVec.ofNat 8) }

/-- Bytes in blocks of 8, the unused bytes of the last block zero (R197). -/
def blocks8 : Nat → List Nat → List (List Nat)
  | 0, _ => []
  | n + 1, bs => zeroFilled 8 bs :: blocks8 n (bs.drop 8)

/-- The blocks of a packet on its way out: a START block, whose type is the first byte, and data blocks (R196, R197). -/
def packetBlocks (p : Packet) (stomped : Bool) : List LineBlock :=
  let bs := packetBytes p stomped
  (blocks8 (ceilDiv bs.length 8) bs).zipIdx.map fun x =>
    { control := x.2 == 0, word := .ofNat 64 (leVal x.1), corrected := true }

/-- What the CRC of a packet says: 0 good, 1 stomped, 2 neither (R200). -/
def crcVerdict (bs : List Nat) : Nat :=
  let n := 24 + leVal ((bs.drop 0x14).take 2)
  let fresh := crc32 (bs.take n)
  let got := leVal ((bs.drop n).take 4)
  if got = fresh then 0 else if got = Nat.xor fresh 0xFFFFFFFF then 1 else 2

end Sys2Proof.Machine
end

