-- ==== Sys2Proof/Machine/HalyardRx.lean ====
section
/-! DEFINITION. Reception of Halyard packets: what a packet of each type must look like, the checks of R200, consumption and forwarding (R201,
R202, R204, R205), and the blocks of a port's stream (R196, R197). -/

namespace Sys2Proof.Machine

/-! ### What a packet must look like -/

/-- The tile's geometry: width and height of LAMPMAP. -/
def State.tileGeom (s : State) : Nat × Nat :=
  match s.ldr.image with | some i => (i.body.lampmap.width, i.body.lampmap.height) | none => (0, 0)

/-- The payload of a SLICE agrees with its ARG and the tile's geometry (R209). -/
def State.sliceOk (s : State) (p : Packet) : Bool :=
  let a := p.hdr.arg.toNat
  let n := fieldGet a ⟨18, 10⟩
  let (w, h) := s.tileGeom
  decide (1 ≤ n ∧ n ≤ 512) && p.hdr.length.toNat == 4 * ceilDiv (9 * n) 8 &&
    (!s.isTile || decide (fieldGet a ⟨0, 9⟩ < h ∧ fieldGet a ⟨9, 9⟩ + n ≤ w))

/-- The type of a packet is one of the classes table, and its payload is consistent with it (R200 step 5, R209 to R225):
none for an unknown type. -/
def State.typeCheck (s : State) (p : Packet) : Option Bool :=
  let n := p.hdr.length.toNat
  let a := p.hdr.arg.toNat
  match p.hdr.cls.toNat, p.hdr.type.toNat with
  | 1, 1 => some (s.sliceOk p)
  | 1, 2 => some (if a / 2 ^ 19 = 0 then decide (16 ≤ n) else p.hdr.last || n == 2048)
  | 1, 3 => some (decide (a % 16 ≤ 8) && n == 48 * (a % 16))
  | 1, 4 => some (n == 48)
  | 2, 1 => some (n == 64)
  | 2, 2 => some (n == 8)
  | 2, 3 => some (n == 16)
  | 3, 1 => some (n == 4)
  | 3, 2 => some (n == 8)
  | 3, 5 => some true
  | 3, 0x10 => some (n == 24 && decide (payField p 4 1 ≤ 2))
  | 3, 0x11 => some (n == 24 && decide (payField p 4 1 ≤ 2))
  | 3, 0x12 => some (n == 24 && decide (payField p 4 1 ≤ 2 ∧ payField p 8 2 ≤ 4096 ∧ 1 ≤ payField p 0xA 2))
  | 4, 1 => some (decide (16 ≤ n))
  | 5, 1 => some (n == 8)
  | 5, 2 => some (n == 96)
  | 5, 3 => some (n == 16)
  | 5, 4 => some (n == 4)
  | 6, 1 => some (n == 32)
  | 6, 2 => some (n == 12)
  | 6, 3 => some (n == 8)
  | 6, 4 => some (n == 8)
  | 6, 5 => some (n == 8 && decide (payField p 0 2 ≤ 4096))
  | 6, 6 => some true
  | _, _ => none

/-! ### Who takes a packet (R201, R205) -/

/-- A hop-local packet: the TIM delay exchange (R217). -/
def hopLocal (p : Packet) : Bool := pktIs p 2 2 || pktIs p 2 3

/-- A tile takes a broadcast of a class in the classes table: every class but UPE, and of PIX nothing that is a DIGEST. -/
def broadcastTaken (p : Packet) : Bool := p.hdr.cls.toNat != 6 && !pktIs p 1 4

/-- The packet is addressed to this tile's own address. -/
def State.isMine (s : State) (p : Packet) : Bool :=
  decide (p.hdr.dst.toNat = s.tileAddr ∧ s.tileAddr ≠ 0xFFF) && (p.hdr.domain.toNat == s.domain || p.hdr.cls.toNat == 5)

/-- The device consumes a packet (R201): a feed unit every one; a tile what is downstream and its own, or a broadcast of its
domain, DSC whatever the domain, and the delay exchange. -/
def State.consumes (s : State) (p : Packet) : Bool :=
  if s.isTile then
    hopLocal p || (!p.hdr.up && (s.isMine p ||
      (p.hdr.dst == 0xFFF#12 && broadcastTaken p && (p.hdr.cls.toNat == 5 || p.hdr.domain.toNat == s.domain))))
  else true

/-- A tile in core reset consumes only TIM (R205). -/
def State.consumesNow (s : State) (p : Packet) : Bool :=
  s.consumes p && !(s.isTile && s.rst.inReset && p.hdr.cls.toNat != 2)

/-- A packet of a type arrives for consumption: its port carries traffic, the device consumes it, and its payload is
consistent with its type. -/
def State.takes (s : State) (l : Nat) (p : Packet) (c t : Nat) : Bool :=
  s.isHalPort l && s.portActive l && pktIs p c t && s.consumesNow p && s.typeCheck p == some true

/-! ### Forwarding (R201, R202, R204) -/

/-- A branch port carries a downstream packet: a broadcast, or one for an address in its route mask (R201, R240). -/
def State.branchCarries (s : State) (l : Nat) (p : Packet) : Bool :=
  let d := p.hdr.dst.toNat
  d == 0xFFF || bitOf (s.reg (R.dscRoute (s.portName l - 2) (d / 32))) (d % 32)

/-- The ports on which a tile forwards a packet (R201). -/
def State.forwardPorts (s : State) (l : Nat) (p : Packet) : List Nat :=
  if !s.isTile || hopLocal p then []
  else if p.hdr.up then
    let outs := match s.portName l with
      | 0 => [1]
      | 1 => [0]
      | _ => [0, 1]
    (outs.filterMap s.portByName).filter s.portActive
  else if p.hdr.dst.toNat = s.tileAddr ∧ s.tileAddr ≠ 0xFFF then []
  else s.halPorts.filter fun x => x != l && s.portActive x && (decide (s.portName x < 2) || s.branchCarries x p)

/-- A forwarded Ensign takes its ingress link delay into CORRECTION, and INVALID where that delay is not valid (R74, R216); its residence
here is added as it leaves. -/
def State.correctEnsign (s : State) (l : Nat) (p : Packet) : Packet :=
  if pktIs p 2 1 then
    let st := payField p 0x0B 1
    patchPayload p 0x0B ([if s.linkValid l then st else setBit st 7 true] ++
      leBytes 8 (ofSigned 64 (toSigned 64 (payField p 0x0C 8) + s.linkDelay l)))
  else p

/-- One forwarded copy at an egress; the PIX FIFO of a busy egress holds 8 KiB, and a packet that finds it full is dropped
(R204). -/
def State.forwardOne (s : State) (l : Nat) (p : Packet) (stomped : Bool) (hold : Option Nat) (x : Nat) : State :=
  if packetLevel p = 1 ∧ s.egressBusy x ∧ 8192 < s.pixFifo x + wireLength p.hdr.length.toNat then
    (s.count (R.halPortErr x) F.halPortErr_DROPPED).raise .hal 2 3 x
  else s.enqueue x (s.correctEnsign l p) stomped (some l) hold

/-- A packet forwarded, and the part of a consumed WRITE_BLOCK held for its store: HOPS rises by one, the credits stay held on the ingress
until the last copy has started and the part is stored (R199, R202, R206, R223). A packet that reaches a tile with HOPS 32 is not forwarded
and counts as DROPPED (R201). -/
def State.forward (s : State) (l : Nat) (p : Packet) (stomped write : Bool) : State :=
  let far := s.isTile && !hopLocal p && p.hdr.hops == 32#6
  let s0 := if far then s.count (R.halPortErr l) F.halPortErr_DROPPED else s
  let outs := if far then [] else s0.forwardPorts l p
  let q : Packet := { p with hdr := { p.hdr with hops := p.hdr.hops + 1 } }
  if packetPool p = 0 then outs.foldl (fun t x => t.forwardOne l q stomped none x) s0
  else if outs.isEmpty && !write then s0
  else
    let h := s0.holdPacket l p (outs.length + write.toNat) write
    outs.foldl (fun t x => t.forwardOne l q stomped (some h.1) x) h.2

/-! ### The checks (R200) -/

/-- HAL_LINK_ERRORS, at most once per second for each port (R200). -/
def State.linkError (s : State) (l : Nat) : State := s.raiseLimited 1 .hal 1 1 l

/-- Checks 2 of R200 on the header. -/
def headerOk (p : Packet) : Bool :=
  let c := p.hdr.cls.toNat
  let n := p.hdr.length.toNat
  let h := p.hdr.hops.toNat
  p.hdr.version == 1#4 && decide (1 ≤ c ∧ c ≤ 6 ∧ n ≤ 2048 ∧ n % 4 = 0 ∧ 1 ≤ h ∧ h ≤ 32)

/-- A packet whose header has passed (R200 to R204): the count of what its CRC says (0 good, 1 stomped, 2 neither), step 5 where the device
consumes it, the claim it carries, and the forwarded copies. The consumption of a packet that passes is the command of its type. -/
def State.receive (s : State) (l : Nat) (p : Packet) (verdict : Nat) : State :=
  let s1 := s.count (R.halPortTraffic l) F.halPortTraffic_RX
  let good := verdict == 0
  let s2 := if good then s1
    else if verdict == 1 then s1.count (R.halPortErr l) F.halPortErr_STOMPED
    else (s1.count (R.halPortErr l) F.halPortErr_CRC).linkError l
  let s3 := if good && p.hdr.src == 0xFFF#12 && !p.hdr.up && !pktIs p 2 1 then s2.noteClaim p.hdr.claim.toNat none else s2
  let mine := good && s3.consumesNow p
  let s4 := if mine then
      match s3.typeCheck p with
      | some true => s3
      | some false => s3.count (R.halPortErr l) F.halPortErr_DROPPED
      | none => (s3.count (R.halPortErr l) F.halPortErr_DROPPED).raiseLimited 1 .hal 4 1 l
    else s3
  s4.forward l p (!good) (mine && s4.isTile && pktIs p 4 1 && s4.typeCheck p == some true)

/-! ### Blocks into packets (R196, R197, R200) -/

/-- The state with the packet that a port is receiving set. -/
def State.setRx (s : State) (l : Nat) (r : Option RxPacket) : State := s.setHalPort { s.halPort l with rx := r }

/-- A packet on its way in ends before its last byte (R197, R199): one whose header has passed is a CRC failure, and what is forwarded of it is
completed with zeros; of any other nothing is forwarded. -/
def State.cutShort (s : State) (l : Nat) : State :=
  match (s.halPort l).rx with
  | none => s
  | some r =>
    let s1 := s.setRx l none
    if 24 ≤ r.bytes.length then s1.receive l (packetOf r.bytes) 2
    else (s1.count (R.halPortErr l) F.halPortErr_CRC).linkError l

/-- Bytes join the packet on its way in: with the 24th the header is judged, with the last the packet (R200). -/
def State.rxData (s : State) (l : Nat) (r : RxPacket) : State :=
  let n := r.bytes.length
  let h := headOf r.bytes
  if n < 24 then s.setRx l (some r)
  else if n = 24 then
    if crc16 (r.bytes.take 22) = leVal (r.bytes.drop 22) ∧ headerOk (packetOf r.bytes) then s.setRx l (some r)
    else ((s.setRx l none).count (R.halPortErr l) F.halPortErr_HDR).linkError l
  else if n < 28 + h.length.toNat then s.setRx l (some r)
  else (s.setRx l none).receive l (packetOf r.bytes) (if r.clean then crcVerdict r.bytes else 2)

/-- A pool takes the partner's counts; a change of FREED is noted (R206, R207). -/
def PoolCredit.hear (c : PoolCredit) (now sent freed : Nat) : PoolCredit :=
  { c with partnerSent := sent, partnerFreed := freed, changed := if freed = c.partnerFreed then c.changed else now }

/-- CREDIT_BLOCK: a block with a good CRC-8 gives the partner's SENT and FREED of both pools; what waits may start (R206). -/
def State.creditBlock (s : State) (l counts crc : Nat) : State :=
  if s.isHalPort l && s.portActive l && crc8 (leBytes 6 counts) == crc then
    let p := s.halPort l
    let t := s.clock.now
    let g := fun i => counts / 2 ^ (12 * i) % 4096
    ((s.setHalPort { p with ctl := p.ctl.hear t (g 0) (g 1), blk := p.blk.hear t (g 2) (g 3) }).showCredits l).startNext l
  else s

/-- One block of a port's stream (R196, R197): a data block joins the packet on its way in and is discarded outside one; a control block ends
such a packet, and is a START, an IDLE, a CREDIT, or of an unknown type, which is counted in HDR. -/
def State.rxBlock (s : State) (l : Nat) (b : LineBlock) : State :=
  let bs := leBytes 8 b.word.toNat
  let t := b.word.toNat % 256
  if b.control then
    let s1 := s.cutShort l
    if 0x11 ≤ t ∧ t ≤ 0x16 then s1.setRx l (some { bytes := bs, clean := b.corrected })
    else if t = 0x1E then s1
    else if t = 0x4B then s1.creditBlock l (leVal ((bs.drop 1).take 6)) (bs.getD 7 0)
    else (s1.count (R.halPortErr l) F.halPortErr_HDR).linkError l
  else match (s.halPort l).rx with
    | some r => s.rxData l { bytes := r.bytes ++ bs, clean := r.clean && b.corrected }
    | none => s

end Sys2Proof.Machine
end

