-- ==== Sys2Proof/Machine/Lanes.lean ====
section
/-! DEFINITION. Flexible lanes: bring-up (R179 to R185), equalisation and the figure of merit (R186 to R189), and the lane
references (R194). -/

namespace Sys2Proof.Machine

/-! ### Lanes and their ports -/

/-- A lane beside its registers. -/
def State.lane (s : State) (l : Nat) : LaneSt := (s.lan.lanes.find? fun x => x.lane == l).getD (LaneSt.fresh l)

/-- The state with a lane set. -/
def State.setLane (s : State) (x : LaneSt) : State :=
  { s with lan := { s.lan with lanes := (s.lan.lanes.filter fun y => y.lane != x.lane) ++ [x] } }

/-- A change of each of several lanes. -/
def State.mapLanes (s : State) (ls : List Nat) (f : LaneSt → LaneSt) : State := ls.foldl (fun t l => t.setLane (f (t.lane l))) s

/-- LANE_STATUS.STATE of a lane. -/
def State.laneState (s : State) (l : Nat) : Nat := s.get (R.laneStatus l) F.laneStatus_STATE

/-- The role of a lane: 0 off, 1 Halyard, 2 Ethernet, 3 NVMe. -/
def State.laneRole (s : State) (l : Nat) : Nat := s.get (R.laneCfg l) F.laneCfg_ROLE

/-- The first lane of a lane's port. -/
def State.portFirst (s : State) (l : Nat) : Nat := l - s.get (R.laneCfg l) F.laneCfg_POS

/-- Lanes enter a state of R179; OFF, DISABLED and HOLDOFF are in electrical idle, and the consecutive expiries of LOCK end with any state
but TRAIN and LOCK. -/
def State.enterLanes (s : State) (ls : List Nat) (st : Nat) : State :=
  let s1 := ls.foldl (fun t l => (t.put (R.laneStatus l) F.laneStatus_STATE st).put (R.laneStatus l) F.laneStatus_TX_IDLE
    (if st = 0 ∨ st = 1 ∨ st = 7 then 1 else 0)) s
  if st = 3 ∨ st = 4 then s1 else s1.mapLanes ls fun x => { x with lockFails := 0 }

/-- LAST_CAUSE of each of several lanes. -/
def State.causeLanes (s : State) (ls : List Nat) (c : Nat) : State :=
  ls.foldl (fun t l => t.put (R.laneStatus l) F.laneStatus_LAST_CAUSE c) s

/-- A lane enters TRAIN: equalisation restarts from its reset values and the figure of merit is no longer valid (R179, R189). -/
def State.enterTrain (s : State) (ls : List Nat) : State :=
  let s1 := (s.enterLanes ls 3).mapLanes ls fun x => { x with taps := [], ffe := none, ffeOut := none }
  ls.foldl (fun t l => (t.setReg (R.laneEq l) (regReset (R.laneEq l))).put (R.laneFom l) F.laneFom_VALID 0) s1

/-- Any lane of the port has DISABLE set. -/
def State.portDisabled (s : State) (l : Nat) : Bool :=
  (s.portLanes l).any fun x => s.flag (R.laneCtrl x) F.laneCtrl_DISABLE

/-! ### Into and out of ACTIVE (R182, R183) -/

/-- A port enters ACTIVE: FAILS clears, the credits start at 0, LINK_UP is raised and a re-walk starts (R179, R183, R206). -/
def State.enterActive (s : State) (l : Nat) : State :=
  let ls := s.portLanes l
  let s1 := (s.enterLanes ls 6).mapLanes ls fun x => { x with holdSeen := false }
  let s2 := ls.foldl (fun t x => t.put (R.laneStatus x) F.laneStatus_FAILS 0) s1
  let s3 := if s2.laneRole l = 1 then
      ((s2.freshPort l).put (R.halPortCredit l) F.halPortCredit_STALLED 0).showCredits l
    else s2
  (s3.raise .lane 1 0 l [s3.get (R.laneStatus l) F.laneStatus_LAST_CAUSE]).linkTrigger l

/-- A port has left ACTIVE: LINK_DOWN is raised, a packet on its way in is cut short, the link delay is invalid, queued packets are discarded, a walk in progress
compares and a re-walk starts; an NVMe port's drive is gone (R183, R229, R354, R439). -/
def State.linkDown (s : State) (l cause : Nat) : State :=
  let ls := s.portLanes l
  let s1 := ls.foldl (fun t x => t.count (R.laneStatus x) F.laneStatus_LINK_DOWNS) s
  let s2 := if s1.laneRole l = 1 then ((((s1.cutShort l).freshPort l).flushPort l).dropLink l).walkPortLost l
    else if s1.laneRole l = 3 then s1.driveDown (s1.get (R.laneCfg l) F.laneCfg_PORT % 4) else s1
  (s2.raise .lane 2 1 l [cause]).linkTrigger l

/-- A port's lanes go to a state; leaving ACTIVE does what R183 says. -/
def State.movePort (s : State) (l st cause : Nat) : State :=
  let was := s.laneState l == 6
  let s1 := s.enterLanes (s.portLanes l) st
  if was then s1.linkDown l cause else s1

/-- One lane takes its port out of ACTIVE to DETECT: it records the cause, the others PEER_DOWN (R179, R182). -/
def State.laneFails (s : State) (l cause : Nat) : State :=
  if s.laneState l = 6 then
    let f := s.portFirst l
    let s1 := ((s.causeLanes (s.portLanes f) 0xC).causeLanes [l] cause)
    s1.movePort f 2 cause
  else s

/-- A port enters HOLDOFF; only the first entry since it last left ACTIVE raises its event (R179). -/
def State.enterHoldoff (s : State) (l : Nat) (cause : Nat) (details : List Nat) : State :=
  let ls := s.portLanes l
  let s1 := s.enterLanes ls 7
  if (s1.lane l).holdSeen then s1
  else (s1.mapLanes ls fun x => { x with holdSeen := true }).raise .lane cause 2 l details

/-- A failed attempt of a port: FAILS counts it, and the fourth and every later one goes to HOLDOFF (R179). -/
def State.portFails (s : State) (l cause : Nat) : State :=
  let ls := s.portLanes l
  let s1 := (ls.foldl (fun t x => t.count (R.laneStatus x) F.laneStatus_FAILS) s).causeLanes ls cause
  if 4 ≤ s1.get (R.laneStatus l) F.laneStatus_FAILS then s1.enterHoldoff l 3 [cause] else s1.enterLanes ls 2

/-! ### Bring-up (R179) -/

/-- A lane is the first lane of a port with a role. -/
def State.isPort (s : State) (l : Nat) : Bool := s.laneRole l != 0 && s.portFirst l == l

/-- The lane reference of a lane's quarter pair is lost (R29, R194). -/
def State.refLost (s : State) (l : Nat) : Bool := s.lan.refLost.contains (l / 48)

/-- DETECT_POLL: 1 ms with far-end termination and signal on every lane moves the port to TRAIN, unless its reference is lost
(R179, R194). -/
def State.detectPoll (s : State) (l : Nat) (present : Bool) : State :=
  if s.isPort l && s.laneState l == 2 then
    let ls := s.portLanes l
    let s1 := ls.foldl (fun t x => t.put (R.laneStatus x) F.laneStatus_SIGNAL present.toNat) s
    if present && !s1.refLost l then s1.enterTrain ls else s1
  else s

/-- DETECT_POLL (R179). -/
def execDetectPoll (port : Fin 96) (present : Bool) (s : State) : Out := .next (s.detectPoll port.val present)

/-- A figure of merit is written (R189). -/
def State.setFom (s : State) (l w h : Nat) : State := s.setReg (R.laneFom l) (w % 256 + h % 1024 * 2 ^ 8 + 2 ^ 18)

/-- The transmit FFE that training ends with, where it lies within the ranges (R179, R187); ADAPT_FREEZE holds the reset values (R188). -/
def State.trainFfe (s : State) (l pre main post : Nat) : State :=
  let k := R.laneEq l
  if pre ≤ 15 ∧ 32 ≤ main ∧ post ≤ 31 ∧ pre + main + post ≤ 63 ∧ !s.flag (R.laneCtrl l) F.laneCtrl_ADAPT_FREEZE then
    ((s.put k F.laneEq_PRE pre).put k F.laneEq_MAIN main).put k F.laneEq_POST post
  else s

/-- TRAIN_DONE: both ends report receiver ready on every lane; each lane measures its figure of merit once, and its transmit FFE stands as
the partner's requests left it, for good on an Ethernet or NVMe lane (R179, R187, R189). -/
def execTrainDone (port : Fin 96) (foms : List (BitVec 8 × BitVec 10)) (ffe : List (BitVec 4 × BitVec 6 × BitVec 5)) (s : State) : Out :=
  .next (let l := port.val
    if s.isPort l && s.laneState l == 3 then
      let ls := s.portLanes l
      let s0 := (ls.zip ffe).foldl (fun t x => t.trainFfe x.1 x.2.1.toNat x.2.2.1.toNat x.2.2.2.toNat) s
      let s1 := (ls.zip foms).foldl (fun t x => t.setFom x.1 x.2.1.toNat x.2.2.toNat) s0
      if s.laneRole l = 3 then s1 else s1.enterLanes ls 4
    else s)

/-- TRAIN_TIMEOUT: 500 ms in TRAIN (R179). -/
def execTrainTimeout (port : Fin 96) (s : State) : Out :=
  .next (if s.isHalPort port.val && s.laneState port.val == 3 then s.portFails port.val 1 else s)

/-- Positions that the alignment markers of a port's lanes carried, in the order of the lanes: each of the port's positions once (R178). -/
def anyOrder (width : Nat) (positions : List Nat) : Bool :=
  positions.length == width && (List.range width).all fun i => positions.contains i

/-- LOCK_DONE: bit, block and FEC lock and deskew on every lane of a Halyard port, its lanes ordered by the positions in their markers,
whichever lane of the port carries which (R178, R179). -/
def execLockDone (port : Fin 96) (positions : List (Fin 4)) (s : State) : Out :=
  .next (let l := port.val
    let ls := s.portLanes l
    let at_ := positions.map (·.val)
    if s.isHalPort l && s.laneState l == 4 && anyOrder ls.length at_ then
      let s1 := (s.enterLanes ls 5).mapLanes ls fun x => { x with record := none, acked := false }
      (ls.zip at_).foldl (fun t x => t.setLane { t.lane x.1 with rxPos := x.2 }) s1
    else s)

/-- The cause of a step of LOCK (lane causes). -/
def lockCause : LockStep → Nat
  | .bit => 2
  | .block => 3
  | .fec => 4
  | .deskew => 5

/-- LOCK_TIMEOUT: 10 ms in LOCK; the third consecutive expiry is a failed attempt (R179). -/
def execLockTimeout (port : Fin 96) (missing : LockStep) (s : State) : Out :=
  .next (let l := port.val
    if s.isHalPort l && s.laneState l == 4 then
      let ls := s.portLanes l
      let c := lockCause missing
      if 2 ≤ (s.lane l).lockFails then s.portFails l c
      else ((s.mapLanes ls fun x => { x with lockFails := x.lockFails + 1 }).causeLanes ls c).enterTrain ls
    else s)

/-! ### The capability record (R181) -/

/-- The CAPS record of a port. -/
def State.capsBytes (s : State) (l : Nat) : List Nat :=
  let v := s.reg (R.laneCfg l)
  let body := [1, fieldGet v F.laneCfg_RATE, fieldGet v F.laneCfg_WIDTH, s.buildByte, s.portByte l, s.domain % 16, 0, 0] ++
    leBytes 8 s.serial ++ leBytes 4 s.fwVersion ++ List.replicate 8 0
  body ++ leBytes 4 (crc32 body)

/-- CAPS_SEND: every 10 µs in CAPS the record goes out on every lane (R179). -/
def execCapsSend (port : Fin 96) (s : State) : Out :=
  .next (let l := port.val
    if s.isHalPort l && s.laneState l == 5 then s.mapLanes (s.portLanes l) fun x => { x with capsSent := s.capsBytes l } else s)

/-- A CAPS record with a good CRC (R181). -/
def capsGood (r : List Nat) : Bool := r.length == 32 && leVal (r.drop 28) == crc32 (r.take 28)

/-- The checks of R181 on the partner's record: VERSION, RATE, WIDTH and the permitted pairings. -/
def State.capsPass (s : State) (l : Nat) (r : List Nat) : Bool :=
  let v := s.reg (R.laneCfg l)
  let partnerTile := r.getD 3 0 / 4 % 4 == 2
  let branch := s.isTile && decide (2 ≤ s.portName l)
  r.getD 0 0 == 1 && r.getD 1 0 == fieldGet v F.laneCfg_RATE && r.getD 2 0 % 4 == fieldGet v F.laneCfg_WIDTH &&
    (!branch || !partnerTile || decide (r.getD 4 0 < 2))

/-- LANE_PEER and LANE_PEER_INFO keep the partner's serial and record (R181). -/
def State.notePeer (s : State) (ls : List Nat) (r : List Nat) : State :=
  ls.foldl (fun t x => (t.setReg (R.lanePeer x) (leVal ((r.drop 8).take 8))).setReg (R.lanePeerInfo x)
    (r.getD 3 0 + r.getD 4 0 * 2 ^ 8 + r.getD 5 0 % 16 * 2 ^ 16)) s

/-- CAPS_RECORD: a good record is acknowledged; with both acknowledged the checks lead to ACTIVE or HOLDOFF (R179, R181). -/
def State.capsRecord (s : State) (l : Nat) (r : List Nat) (acked : Bool) : State :=
  if s.isHalPort l && s.laneState l == 5 then
    let ls := s.portLanes l
    let good := capsGood r
    let s1 := s.mapLanes ls fun x => { x with record := if good then some r else x.record, acked := x.acked || acked }
    let s2 := if good then s1.notePeer ls r else s1
    match (s2.lane l).record with
    | some p =>
      if (s2.lane l).acked then
        if s2.capsPass l p then s2.enterActive l
        else (s2.causeLanes ls 7).enterHoldoff l 4 ((List.range 4).map fun i => leVal ((p.drop (4 * i)).take 4))
      else s2
    | none => s2
  else s

/-- CAPS_RECORD (R181). -/
def execCapsRecord (port : Fin 96) (record : List Byte) (acked : Bool) (s : State) : Out :=
  .next (s.capsRecord port.val (record.map (·.toNat)) acked)

/-- CAPS_TIMEOUT: 100 ms in CAPS (R179). -/
def execCapsTimeout (port : Fin 96) (s : State) : Out :=
  .next (if s.isHalPort port.val && s.laneState port.val == 5 then s.portFails port.val 6 else s)

/-- HOLDOFF_EXPIRE: 1,000 ms in HOLDOFF, FAILS kept (R179). -/
def execHoldoffExpire (port : Fin 96) (s : State) : Out :=
  .next (if s.isPort port.val && s.laneState port.val == 7 then s.enterLanes (s.portLanes port.val) 2 else s)

/-! ### Exits (R182, R194) -/

/-- An exit condition of R182 on a Halyard lane. -/
def State.halyardLost (s : State) (l cause : Nat) : State := if s.laneRole l = 1 then s.laneFails l cause else s

/-- SIGNAL_LOST (R182). -/
def execSignalLost (lane : Fin 96) (s : State) : Out :=
  .next ((if s.laneRole lane.val = 1 then s.put (R.laneStatus lane.val) F.laneStatus_SIGNAL 0 else s).halyardLost lane.val 8)

/-- BLOCK_LOCK_LOST (R182). -/
def execBlockLockLost (lane : Fin 96) (s : State) : Out := .next (s.halyardLost lane.val 9)

/-- FEC_LOCK_LOST (R182). -/
def execFecLockLost (lane : Fin 96) (s : State) : Out := .next (s.halyardLost lane.val 0xA)

/-- HIGH_SER (R182). -/
def execHighSer (lane : Fin 96) (s : State) : Out := .next (s.halyardLost lane.val 0xB)

/-- RETRAIN of a whole port from any state but OFF, DISABLED and TEST (R180). -/
def State.retrainPort (s : State) (l : Nat) : State :=
  let f := s.portFirst l
  let ls := s.portLanes f
  if ls.any fun x => s.laneState x == 0 || s.laneState x == 1 || s.laneState x == 8 then s
  else (s.causeLanes ls 0xD).movePort f 2 0xD

/-- REFCLK_LOST: every configured lane of the quarter pair leaves ACTIVE, and one in bring-up goes back to DETECT, where the lanes stay
(R194). -/
def State.refclkLost (s : State) (r : Nat) : State :=
  let s1 : State := { s with lan := { s.lan with refLost := if s.lan.refLost.contains r then s.lan.refLost else s.lan.refLost ++ [r] } }
  let ports := (List.range 96).filter fun l => l / 48 == r && s.isPort l && decide (3 ≤ s.laneState l) && decide (s.laneState l ≤ 6)
  let s2 := ports.foldl (fun t l => (t.causeLanes (t.portLanes l) 0xE).movePort l 2 0xE) s1
  s2.raise .lane 6 2 0 [r]

/-- REFCLK_LOST (R194). -/
def execRefclkLost (ref : Fin 2) (s : State) : Out := .next (s.refclkLost ref.val)

/-- REFCLK_VALID: after 10 ms of a valid reference the lanes may leave DETECT (R194). -/
def execRefclkValid (ref : Fin 2) (s : State) : Out :=
  .next { s with lan := { s.lan with refLost := s.lan.refLost.filter (· != ref.val) } }

/-! ### Equalisation and the figure of merit (R186 to R189) -/

/-- A value moved toward another by at most a step. -/
def stepTo (step old new : Int) : Int := clampInt (old - step) (old + step) new

/-- EQ_UPDATE: the receiver's values move in one step toward what the adaptation asks, each by at most its largest change, unless
ADAPT_FREEZE holds them: in TRAIN, in TEST, and in ACTIVE at a marker boundary, on an NVMe lane during SKP ordered sets (R179, R186 to
R188). `taps` are the DFE taps from the first on; the request for the partner's FFE goes out in the markers of a Halyard lane (R187). -/
def State.eqUpdate (s : State) (l ctle : Nat) (taps : List Int) (q : Option (Nat × Nat × Nat)) : State :=
  let st := s.laneState l
  if (st == 3 || st == 6 || st == 8) && !s.flag (R.laneCtrl l) F.laneCtrl_ADAPT_FREEZE then
    let k := R.laneEq l
    let n := if s.get (R.laneCfg l) F.laneCfg_RATE = 3 then 4 else 12
    let c := clampInt 0 15 (stepTo 1 (s.get k F.laneEq_CTLE) ctle)
    let d1 := clampInt (-63) 63 (stepTo 2 (toSigned 7 (s.get k F.laneEq_DFE1)) (taps.headD (toSigned 7 (s.get k F.laneEq_DFE1))))
    let old := (s.lane l).taps
    let rest := (List.range (n - 1)).map fun i =>
      clampInt (-31) 31 (stepTo 2 (old.getD i 0) ((taps.drop 1).getD i (old.getD i 0)))
    ((s.put k F.laneEq_CTLE c.toNat).put k F.laneEq_DFE1 (ofSigned 7 d1)).setLane { s.lane l with taps := rest, ffeOut := if s.laneRole l = 1 then q else none }
  else s

/-- EQ_UPDATE (R186). -/
def execEqUpdate (lane : Fin 96) (ctle : BitVec 4) (taps : List Int) (request : Option (BitVec 4 × BitVec 6 × BitVec 5))
    (s : State) : Out :=
  .next (if s.laneRole lane.val = 0 then s
    else s.eqUpdate lane.val ctle.toNat taps (request.map fun q => (q.1.toNat, q.2.1.toNat, q.2.2.toNat)))

/-- The transmit FFE takes a waiting request by one step for each tap, within the ranges (R187). -/
def State.applyFfe (s : State) (l : Nat) (q : Nat × Nat × Nat) : State :=
  let k := R.laneEq l
  let pre := clampInt 0 15 (stepTo 1 (s.get k F.laneEq_PRE) q.1)
  let main := clampInt 32 63 (stepTo 1 (s.get k F.laneEq_MAIN) q.2.1)
  let post := clampInt 0 31 (stepTo 1 (s.get k F.laneEq_POST) q.2.2)
  if pre + main + post ≤ 63 ∧ !s.flag (R.laneCtrl l) F.laneCtrl_ADAPT_FREEZE then
    ((s.put k F.laneEq_PRE pre.toNat).put k F.laneEq_MAIN main.toNat).put k F.laneEq_POST post.toNat
  else s

/-- AM_BLOCK: the codeword counts since the last marker are added, the request received before takes effect, and a marker
that matches has its own request wait for the next boundary (R187, R195, R196). -/
def State.amBlock (s : State) (l : Nat) (bs : List Nat) (corr unc : Nat) (q : Option (Nat × Nat × Nat)) : State :=
  if s.laneRole l = 1 ∧ s.laneState l = 6 then
    let s1 := (s.count (R.laneFec l) F.laneFec_CORRECTED corr).count (R.laneFec l) F.laneFec_UNCORRECTABLE unc
    let s2 := match (s1.lane l).ffe with | some x => s1.applyFfe l x | none => s1
    s2.setLane { s2.lane l with ffe := if s.markerMatches l bs then q else none }
  else s

/-- AM_BLOCK (R187). -/
def execAmBlock (lane : Fin 96) (block : BitVec 64) (corrected uncorrectable : Word)
    (request : Option (BitVec 4 × BitVec 6 × BitVec 5)) (s : State) : Out :=
  .next (s.amBlock lane.val (leBytes 8 block.toNat) corrected.toNat uncorrectable.toNat
    (request.map fun q => (q.1.toNat, q.2.1.toNat, q.2.2.toNat)))

/-- A value lies below a margin limit; a limit of 0 disables the test. -/
def belowLimit (v limit : Nat) : Bool := limit != 0 && decide (v < limit)

/-- A value stays at least 25 % above its limit. -/
def wellAbove (v limit : Nat) : Bool := decide (5 * limit ≤ 4 * v)

/-- LOW_MARGIN: after 100 consecutive low measurements, and again only after 1,000 consecutive good ones (R189). -/
def State.judgeFom (s : State) (l w h : Nat) : State :=
  let lw := s.get (R.laneFomLimit l) F.laneFomLimit_WARN_W
  let lh := s.get (R.laneFomLimit l) F.laneFomLimit_WARN_H
  let x := s.lane l
  let low := if belowLimit w lw || belowLimit h lh then min 100 (x.low + 1) else 0
  let good := if wellAbove w lw && wellAbove h lh then min 1000 (x.good + 1) else 0
  let stands := x.lowMargin && !decide (good = 1000)
  if low = 100 ∧ !stands then (s.setLane { x with low := low, good := 0, lowMargin := true }).raise .lane 5 2 l [w, h]
  else s.setLane { x with low := low, good := good, lowMargin := stands }

/-- The checker counts: in a PRBS test while CHK_LOCK is set, in a USER test while CHK is (R191, R192). -/
def State.addPrbs (s : State) (l bits errs : Nat) : State :=
  let q := l / 24
  let k := R.laneTest q
  let counts := if s.get k F.laneTest_PATTERN = 3 then s.flag k F.laneTest_CHK else s.flag k F.laneTest_CHK_LOCK
  if l % 24 = 0 ∧ s.laneState l = 8 ∧ counts then
    (s.count (R.lanePrbsBits q) F.lanePrbsBits_COUNT bits).count (R.lanePrbsErr q) F.lanePrbsErr_COUNT errs
  else s

/-- FOM_MEASURE: every 1 ms in ACTIVE and TEST; a checker's counts of the last 1 ms come with it (R189, R191). -/
def execFomMeasure (lane : Fin 96) (width : BitVec 8) (height : BitVec 10) (bits errors : BitVec 48) (s : State) : Out :=
  .next (let l := lane.val
    if s.laneState l = 6 ∨ s.laneState l = 8 then
      ((s.setFom l width.toNat height.toNat).judgeFom l width.toNat height.toNat).addPrbs l bits.toNat errors.toNat
    else s)

/-! ### Ethernet and NVMe lanes (R184) -/

/-- STANDARD_LINK_UP: the standard's bring-up is complete; an NVMe port reports rate and width, and its drive is identified
(R184, R354). -/
def State.standardUp (s : State) (l rate width : Nat) : State :=
  let f := s.portFirst l
  let st := s.laneState f
  if decide (2 ≤ s.laneRole f) && decide (2 ≤ st) && decide (st ≤ 4) && !s.refLost f then
    let s1 := s.enterActive f
    if s.laneRole f = 3 then
      let p := s.get (R.laneCfg f) F.laneCfg_PORT % 4
      let k := R.clpPortStatus p
      let s2 := ((s1.put k F.clpPortStatus_STATE 1).put k F.clpPortStatus_RATE rate).put k F.clpPortStatus_WIDTH width
      s2.setDrive { s2.drive p with cmds := [(0, .identify)], nextCmd := 1, failed := 0, resetting := false }
    else s1
  else s

/-- STANDARD_LINK_UP (R184). -/
def execStandardLinkUp (lane : Fin 96) (rate : BitVec 3) (width : BitVec 4) (s : State) : Out :=
  .next (s.standardUp lane.val rate.toNat width.toNat)

/-- STANDARD_LINK_FAIL: a port in ACTIVE leaves it; a pass of an NVMe port through Recovery only counts; during bring-up it is a
failed attempt (R184). -/
def State.standardFail (s : State) (l : Nat) (recovery : Bool) : State :=
  let f := s.portFirst l
  let st := s.laneState f
  if s.laneRole f < 2 then s
  else if recovery ∧ s.laneRole f = 3 ∧ st = 6 then
    (s.portLanes f).foldl (fun t x => t.count (R.laneStatus x) F.laneStatus_LINK_DOWNS) s
  else if st = 6 then (s.causeLanes (s.portLanes f) 0xF).movePort f 2 0xF
  else if st = 2 ∨ st = 3 ∨ st = 4 then s.portFails f 0xF
  else s

/-- STANDARD_LINK_FAIL (R184). -/
def execStandardLinkFail (lane : Fin 96) (recovery : Bool) (s : State) : Out := .next (s.standardFail lane.val recovery)

end Sys2Proof.Machine
end

