-- ==== Sys2Proof/Machine/LaneTest.lean ====
section
/-! DEFINITION. Lane control (R179, R180, R188) and the pattern test of L00, L24, L48 and L72 (R190 to R193). -/

namespace Sys2Proof.Machine

/-- A lane leaves TEST: the other lanes of its port leave DISABLED with it, and TEST_EXIT names the reason: 0 EN cleared, 1
TIMEOUT, 2 DISABLE (R193). -/
def State.exitTest (s : State) (l reason : Nat) : State :=
  if s.laneState l = 8 then
    let f := s.portFirst l
    let s1 := s.put (R.laneTest (l / 24)) F.laneTest_CHK_LOCK 0
    (s1.enterLanes (s1.portLanes f) (if s1.portDisabled f then 1 else 2)).raise .lane 8 1 l [reason]
  else s

/-- DISABLE holds the port in DISABLED, and releases it to DETECT once it is clear on every lane (R179). -/
def State.followDisable (s : State) (l : Nat) : State :=
  let f := s.portFirst l
  let ls := s.portLanes f
  if s.laneRole l = 0 ∨ s.laneState f = 0 then s
  else if s.portDisabled f then
    let s1 := ls.foldl (fun t x => t.exitTest x 2) s
    if s1.laneState f = 1 then s1 else s1.movePort f 1 0
  else if (ls.all fun x => s.laneState x == 1) then s.enterLanes ls 2
  else s

/-- A write of LANE_CTRL: RETRAIN, ADAPT_FREEZE and DISABLE (R179, R180, R188). -/
def State.laneCtrlWrite (s : State) (l value : Nat) : State :=
  let k := R.laneCtrl l
  let s1 := (s.put k F.laneCtrl_ADAPT_FREEZE (fieldGet value F.laneCtrl_ADAPT_FREEZE)).put k F.laneCtrl_DISABLE
    (fieldGet value F.laneCtrl_DISABLE)
  let s2 := s1.followDisable l
  if fieldGet value F.laneCtrl_RETRAIN = 1 ∧ s2.laneRole l ≠ 0 then s2.retrainPort l else s2

/-- LANE_RETRAIN (R180). -/
def execLaneRetrain (req : Requester) (lane : Fin 96) (value : Word) (s : State) : Out :=
  .next (s.byReq req (s.laneCtrlWrite lane.val value.toNat))

/-- LANE_DISABLE (R179). -/
def execLaneDisable (req : Requester) (lane : Fin 96) (value : Word) (s : State) : Out :=
  .next (s.byReq req (s.laneCtrlWrite lane.val value.toNat))

/-- ADAPT_FREEZE (R188). -/
def execAdaptFreeze (req : Requester) (lane : Fin 96) (value : Word) (s : State) : Out :=
  .next (s.byReq req (s.laneCtrlWrite lane.val value.toNat))

/-- The test fields of a write that EN 1 protects: PATTERN, GEN and CHK, bits 4 to 1 (R190). -/
def testFields : Fld := ⟨1, 4⟩

/-- The write-only bits of LANE_TEST: INJECT, SLIP and CLEAR act in a test (R191, R192). A CLEAR while the checker is locked counts on from 0;
one while it is not counts from the next lock. -/
def State.testPulses (s : State) (l value : Nat) (req : Requester) : State :=
  let q := l / 24
  let inTest := s.laneState l == 8
  let s1 := if fieldGet value F.laneTest_INJECT = 1 ∧ inTest then s.setLane { s.lane l with injected := (s.lane l).injected + 1 } else s
  let s2 := if fieldGet value F.laneTest_SLIP = 1 then
      if inTest && s1.get (R.laneTest q) F.laneTest_PATTERN == 3 then s1.setLane { s1.lane l with slips := (s1.lane l).slips + 1 }
      else s1.progErrorIn .lane (R.laneTest q) value req
    else s1
  if fieldGet value F.laneTest_CLEAR = 1 then
    ((s2.setReg (R.lanePrbsBits q) 0).setReg (R.lanePrbsErr q) 0).setLane { s2.lane l with startCount := !s2.flag (R.laneTest q) F.laneTest_CHK_LOCK }
  else s2

/-- A write of LANE_TEST (R190 to R193). -/
def State.laneTestWrite (s : State) (l value : Nat) (req : Requester) : State :=
  if l % 24 ≠ 0 then s
  else
    let k := R.laneTest (l / 24)
    let old := s.reg k
    let en := fieldGet value F.laneTest_EN == 1
    let sets := en && !((s.lane l).armed || s.laneState l == 8)
    if sets && (s.laneRole l == 0 || s.portDisabled (s.portFirst l)) then s.progErrorIn .lane k value req
    else
      let keep := fieldGet old F.laneTest_EN == 1 && fieldGet old testFields != fieldGet value testFields
      let s1 := if keep then s.progErrorIn .lane k value req else s
      let v0 := fieldSet (fieldSet old F.laneTest_EN en.toNat) F.laneTest_TIMEOUT (fieldGet value F.laneTest_TIMEOUT)
      let v := if keep then v0 else fieldSet v0 testFields (fieldGet value testFields)
      let s2 := s1.setReg k v
      let s3 := if sets then s2.setLane { s2.lane l with armed := true, startCount := true, slips := 0, injected := 0 } else s2
      let s4 := if en then s3 else (s3.setLane { s3.lane l with armed := false }).exitTest l 0
      s4.testPulses l value req

/-- LANE_TEST_ENABLE (R190). -/
def execLaneTestEnable (req : Requester) (lane : Fin 96) (value : Word) (s : State) : Out :=
  .next (s.byReq req (s.laneTestWrite lane.val value.toNat req))

/-- TEST_ENTRY: 100 µs after the write was accepted the lane enters TEST and the others of its port DISABLED (R190). -/
def State.testEntry (s : State) (l : Nat) : State :=
  if (s.lane l).armed && l % 24 == 0 && s.laneRole l != 0 then
    let s0 := s.setLane { s.lane l with armed := false }
    let f := s0.portFirst l
    if s0.portDisabled f then s0
    else
      let was := s0.laneState l == 6
      let others := (s0.portLanes f).filter (· != l)
      let s1 := if was then s0.causeLanes others 0xC else s0
      let s2 := ((s1.movePort f 1 0).enterLanes [l] 8).put (R.laneFom l) F.laneFom_VALID 0
      let s3 := if s2.get (R.laneTest (l / 24)) F.laneTest_PATTERN = 3 then
          (s2.setReg (R.lanePrbsBits (l / 24)) 0).setReg (R.lanePrbsErr (l / 24)) 0 else s2
      s3.raise .lane 7 1 l
  else s

/-- TEST_ENTRY (R190). -/
def execTestEntry (lane : Fin 96) (s : State) : Out := .next (s.testEntry lane.val)

/-- TEST_EXIT: EN is cleared (R193). -/
def execTestExit (req : Requester) (lane : Fin 96) (value : Word) (s : State) : Out :=
  .next (s.byReq req (s.laneTestWrite lane.val value.toNat req))

/-- TEST_TIMEOUT: a TIMEOUT other than 0 has run since EN took effect (R193). -/
def execTestTimeout (lane : Fin 96) (s : State) : Out :=
  .next (if lane.val % 24 = 0 ∧ s.get (R.laneTest (lane.val / 24)) F.laneTest_TIMEOUT ≠ 0 then s.exitTest lane.val 1 else s)

/-- INJECT (R191). -/
def execInject (req : Requester) (lane : Fin 96) (value : Word) (s : State) : Out :=
  .next (s.byReq req (s.laneTestWrite lane.val value.toNat req))

/-- SLIP (R192). -/
def execSlip (req : Requester) (lane : Fin 96) (value : Word) (s : State) : Out :=
  .next (s.byReq req (s.laneTestWrite lane.val value.toNat req))

/-- PRBS_CLEAR (R191). -/
def execPrbsClear (req : Requester) (lane : Fin 96) (value : Word) (s : State) : Out :=
  .next (s.byReq req (s.laneTestWrite lane.val value.toNat req))

/-- A PRBS test runs with its checker on. -/
def State.prbsChecks (s : State) (l : Nat) : Bool :=
  let k := R.laneTest (l / 24)
  l % 24 == 0 && s.laneState l == 8 && s.flag k F.laneTest_CHK && s.get k F.laneTest_PATTERN != 3

/-- CHECKER_LOCK: CHK_LOCK is set; the counters start from 0 at the first lock after EN or CLEAR (R191). -/
def execCheckerLock (lane : Fin 96) (s : State) : Out :=
  .next (let l := lane.val
    let q := l / 24
    if s.prbsChecks l then
      let s1 := s.put (R.laneTest q) F.laneTest_CHK_LOCK 1
      if (s1.lane l).startCount then
        ((s1.setReg (R.lanePrbsBits q) 0).setReg (R.lanePrbsErr q) 0).setLane { s1.lane l with startCount := false }
      else s1
    else s)

/-- CHECKER_LOCK_LOST: 16 errors in 64 consecutive bits (R191). -/
def execCheckerLockLost (lane : Fin 96) (s : State) : Out :=
  .next (if s.prbsChecks lane.val then s.put (R.laneTest (lane.val / 24)) F.laneTest_CHK_LOCK 0 else s)

end Sys2Proof.Machine
end

