-- ==== Sys2Proof/Machine/Halyard.lean ====
section
/-! DEFINITION. The commands of a Halyard port: arriving blocks (R195 to R200), CREDIT blocks (R206), the egress (R203), the stall (R207), and
the packets of discovery and events. -/

namespace Sys2Proof.Machine

/-! ### Arriving blocks (R195 to R200) -/

/-- The blocks that a port's lanes brought, in POS order by the positions in their markers (R178, R195). -/
def State.inPosOrder (s : State) (l : Nat) (lanes : List (List LineBlock)) : List (List LineBlock) :=
  let ls := (s.portLanes l).zip lanes
  (List.range ls.length).filterMap fun p => (ls.find? fun x => (s.lane x.1).rxPos == p).map (·.2)

/-- PACKET_RECEIVE: the blocks of an ACTIVE port's lanes, reassembled into its stream and taken one by one (R195 to R200). -/
def execPacketReceive (port : Fin 96) (lanes : List (List LineBlock)) (s : State) : Out :=
  .next (let l := port.val
    if s.isHalPort l && s.portActive l then (gathered (s.inPosOrder l lanes)).foldl (fun t b => t.rxBlock l b) s else s)

/-! ### Credits (R206, R207) -/

/-- CREDIT_BLOCK (R206). -/
def execCreditBlock (port : Fin 96) (counts : BitVec 48) (crc : BitVec 8) (s : State) : Out :=
  .next (s.creditBlock port.val counts.toNat crc.toNat)

/-- FREED of a pool: the partner's latest SENT minus the credits still held (R206). -/
def PoolCredit.freed (c : PoolCredit) : Nat := (c.partnerSent + 4096 - c.held % 4096) % 4096

/-- CREDIT_BLOCK_SEND: the four counts go out (R206). -/
def execCreditBlockSend (port : Fin 96) (s : State) : Out :=
  .next (let l := port.val
    if s.isHalPort l && s.portActive l then
      let p := s.halPort l
      s.setHalPort { p with block := creditBytes p.ctl.sent p.ctl.freed p.blk.sent p.blk.freed }
    else s)

/-- CREDIT_HELD_FORWARD: a held packet leaves once its egress holds its credits (R202). -/
def execCreditHeldForward (port : Fin 96) (s : State) : Out :=
  .next (if s.isHalPort port.val && s.portActive port.val then s.startNext port.val else s)

/-- EGRESS_NEXT: the packet in progress has left, and the next starts by priority (R203). -/
def execEgressNext (port : Fin 96) (s : State) : Out :=
  .next (if s.isHalPort port.val && s.portActive port.val then s.finishPacket port.val else s)

/-- CREDIT_STALL: 100 ms without a change of FREED while a packet waits: STALLED, the event, and a retrain (R180, R207). -/
def State.creditStall (s : State) (l : Nat) (blk : Bool) : State :=
  let pool := if blk then 2 else 1
  let waits := s.hal.queue.any fun q => q.port == l && !q.started && packetPool q.pkt == pool && !s.hasCredits l q.pkt
  if s.isHalPort l && s.portActive l && waits then
    ((s.put (R.halPortCredit l) F.halPortCredit_STALLED 1).raise .hal 3 2 l).retrainPort l
  else s

/-- CREDIT_STALL (R207). -/
def execCreditStall (port : Fin 96) (blk : Bool) (s : State) : Out := .next (s.creditStall port.val blk)

/-! ### Discovery packets -/

/-- WALK in a tile (R230). -/
def execWalk (port : Fin 96) (pkt : Packet) (s : State) : Out :=
  .next (if s.isTile && s.takes port.val pkt 5 1 then
    (s.noteClaim pkt.hdr.claim.toNat none).tileWalk port.val pkt else s)

/-- ANSWER in a feed unit (R232). -/
def execAnswer (port : Fin 96) (pkt : Packet) (s : State) : Out :=
  .next (if s.isFeed && s.takes port.val pkt 5 2 then s.answer port.val pkt else s)

/-- ASSIGN in a tile (R233). -/
def execAssign (port : Fin 96) (pkt : Packet) (s : State) : Out :=
  .next (if s.isTile && s.takes port.val pkt 5 3 then
    (s.noteClaim pkt.hdr.claim.toNat none).tileAssign port.val pkt else s)

/-- ADMIT in a tile (R237). -/
def execAdmitTile (port : Fin 96) (pkt : Packet) (s : State) : Out :=
  .next (if s.isTile && s.takes port.val pkt 5 4 && s.isMine pkt then
    (s.noteClaim pkt.hdr.claim.toNat none).tileAdmit port.val pkt else s)

/-! ### Tile events (R224, R415) -/

/-- The duplicate check of R224: the last 4,096 accepted from each tile. -/
def State.acceptUp (s : State) (p : Packet) : Bool × State :=
  let key := (p.hdr.src.toNat, p.hdr.type.toNat, p.hdr.seq.toNat)
  if s.hal.accepted.contains key then (false, s)
  else
    let mine := s.hal.accepted.countP fun x => x.1 == key.1
    let l := if mine < 4096 then s.hal.accepted else
      match s.hal.accepted.findIdx? fun x => x.1 == key.1 with
      | some i => s.hal.accepted.eraseIdx i
      | none => s.hal.accepted
    (true, { s with hal := { s.hal with accepted := l ++ [key] } })

/-- EVENT in a feed unit (R415): after the duplicate check it goes to the rings by EVT_ROUTE, and a LINK_UP or LINK_DOWN of a
tile re-walks the segment (R229). -/
def State.tileEvent (s : State) (l : Nat) (p : Packet) : State :=
  let (ok, s1) := s.acceptUp p
  if ok then
    let w := (List.range 8).map fun i => payField p (4 * i) 4
    let r : EventRec := { eventOfWords w with upstream := true, tile := p.hdr.src.toNat }
    let s2 := s1.routeRecord r
    if r.block = 0x13 ∧ (r.cause = 1 ∨ r.cause = 2) then s2.linkTrigger l else s2
  else s

/-- EVENT (R415). -/
def execEvent (port : Fin 96) (pkt : Packet) (s : State) : Out :=
  .next (if s.isFeed && s.takes port.val pkt 6 1 then s.tileEvent port.val pkt else s)

/-- UPSTREAM_EVENT_SEND: with an address and CTL credits on a chain port that is ACTIVE, the oldest record leaves on the chain
ports that are (R413, R439). -/
def State.upstreamSend (s : State) : State :=
  match s.evt.upstream with
  | [] => s
  | r :: rest =>
    let p := makePacket 6 1 0xFFF s.domain s.tileAddr 0 s.evt.count s.frameNow 0 0 true false r.bytes
    let outs := s.chainPorts.filter s.portActive
    if s.isTile && s.tileAddr != 0xFFF && outs.any (fun l => s.hasCredits l p) then
      let s1 : State := { s with evt := { s.evt with upstream := rest, count := (s.evt.count + 1) % 2 ^ 32 } }
      (s1.put R.evtUpStatus F.evtUpStatus_QUEUED rest.length).enqueueAll outs p
    else s

/-- UPSTREAM_EVENT_SEND (R413). -/
def execUpstreamEventSend (s : State) : Out := .next s.upstreamSend

/-! ### BLK_ACK (R223) -/

/-- BLK_ACK in a feed unit: progress or failure of a transfer, the newest report of each transfer kept (R223). -/
def execBlkAck (port : Fin 96) (pkt : Packet) (s : State) : Out :=
  .next (if s.isFeed && s.takes port.val pkt 6 4 then
    let t := payField pkt 0 2
    let rest := s.hal.blkAcks.filter fun x => x.1 != t
    { s with hal := { s.hal with blkAcks := rest ++ [(t, payField pkt 2 1, payField pkt 4 4)] } }
  else s)

end Sys2Proof.Machine
end

