-- ==== Sys2Proof/Machine/Digests.lean ====
section
/-! DEFINITION. Frame digests of a pair (R325 to R328): a unit's own digests, the comparison with the partner's, the frames that
match, and the return from RESYNC to STANDBY. -/

namespace Sys2Proof.Machine

/-- The generation in force (TOP_COMMIT_DETAIL.ACTIVE_GEN). -/
def State.activeGen (s : State) : Nat := s.get R.topCommitDetail F.topCommitDetail_ACTIVE_GEN

/-- The unit in RESYNC becomes STANDBY once generation, frame lock and MATCH_RUN allow it (R328). -/
def State.tryResync (s : State) : State :=
  if s.isFeed && s.role == 3 && s.activeGen == s.get R.redPartnerInfo F.redPartnerInfo_ACTIVE_GEN &&
      s.flag R.timeStatus F.timeStatus_FRAME_LOCKED &&
      decide (max 1 (s.get R.redCtrl F.redCtrl_RESYNC_N) ≤ s.get R.redStatus F.redStatus_MATCH_RUN) then
    ((s.put R.redStatus F.redStatus_SYNCED 1).updateRole).raise .red 5 1
  else s

/-- The judgement of a frame so far (R327). -/
def State.judge (s : State) (frame : Nat) : FrameJudge :=
  (s.red.judging.find? fun j => j.frame == frame).getD
    { frame := frame, done := [], compared := false, missed := false, mismatch := false }

/-- The state with a frame's judgement set; those of the last 16 frames stay. -/
def State.setJudge (s : State) (j : FrameJudge) : State :=
  let rest := s.red.judging.filter fun x => x.frame != j.frame
  { s with red := { s.red with judging := rest.drop (rest.length - 15) ++ [j] } }

/-- A frame whose ports are all judged (R327): MATCH_RUN and MATCHED count it when it matches, and MATCH_RUN returns to 0 when
a port missed it during RESYNC. -/
def State.closeFrame (s : State) (j : FrameJudge) : State :=
  if s.red.hearing.all (fun l => j.done.contains l) && !j.mismatch then
    if j.missed && s.role == 3 then s.put R.redStatus F.redStatus_MATCH_RUN 0
    else if j.compared then
      ((s.count R.redStatus F.redStatus_MATCH_RUN).count R.redDigestCounts F.redDigestCounts_MATCHED).tryResync
    else s
  else s

/-- A mismatch (R326, R328): counted, shown, MATCH_RUN 0, and SYNCED is lost. -/
def State.digestMismatch (s : State) (l frame fields : Nat) : State :=
  let s1 := (s.count R.redDigestCounts F.redDigestCounts_MISMATCHED).setReg R.redDigestLast
    (frame % 2 ^ 48 + l * 2 ^ 48 + fields * 2 ^ 55)
  let s2 := (s1.put (R.redPort l) F.redPort_LAST_MATCH 0).put R.redStatus F.redStatus_MATCH_RUN 0
  let s3 := s2.raiseLimited 1 .red 4 2 l [frame % 2 ^ 32, frame / 2 ^ 32, fields]
  if s3.flag R.redStatus F.redStatus_SYNCED then
    ((s3.put R.redStatus F.redStatus_SYNCED 0).updateRole).raise .red 6 2
  else s3

/-- A partner digest compared with the unit's own of the same port and frame (R326). -/
def State.compareDigest (s : State) (own d : DigestRec) : State :=
  let fields := (own.gen != d.gen).toNat + (own.packets != d.packets).toNat * 2 + (own.digest != d.digest).toNat * 4
  let j := s.judge d.frame
  let j1 : FrameJudge := { j with
    done := if j.done.contains d.port then j.done else j.done ++ [d.port], compared := true
    mismatch := j.mismatch || fields != 0 }
  let s1 := s.setJudge j1
  if fields = 0 then (s1.put (R.redPort d.port) F.redPort_LAST_MATCH 1).closeFrame j1
  else s1.digestMismatch d.port d.frame fields

/-- The unit's own digest of a port and frame is formed: the last 8 of the port stay, and a partner digest held for it is
compared (R326). -/
def State.ownDigest (s : State) (d : DigestRec) : State :=
  let mine := s.red.own.filter fun x => x.port == d.port
  let keep := (s.red.own.filter fun x => x.port != d.port) ++ mine.drop (mine.length - 7) ++ [d]
  let held := s.red.heldDigests.find? fun x => x.port == d.port && x.frame == d.frame
  let left := s.red.heldDigests.filter fun x => !(x.port == d.port && decide (x.frame ≤ d.frame))
  let s1 : State := { s with red := { s.red with own := keep, heldDigests := left } }
  match held with
  | some x => if s1.paired then s1.compareDigest d x else s1
  | none => s1

/-- A partner digest arrives: compared at once, held while the unit's own is not formed, discarded when too old (R326). -/
def State.takeDigest (s : State) (l : Nat) (p : Packet) : State :=
  let d : DigestRec := { port := l, frame := payField p 0 6, gen := payField p 6 2, packets := payField p 8 4,
                         digest := leVal (((payloadBytes p).drop 16).take 32).reverse }
  match s.red.own.find? fun x => x.port == l && x.frame == d.frame with
  | some own => s.compareDigest own d
  | none =>
    let newest := match (s.red.own.filter fun x => x.port == l).getLast? with | some x => x.frame | none => 0
    if d.frame ≤ newest ∧ newest < d.frame + 65536 then s
    else
      let near := s.red.heldDigests.filter fun x => x.port != l || decide (d.frame ≤ x.frame + 2)
      { s with red := { s.red with heldDigests := near ++ [d] } }

/-- DIGEST in a paired feed unit (R326). -/
def execDigest (port : Fin 96) (pkt : Packet) (s : State) : Out :=
  .next (if s.isFeed && s.paired && s.takes port.val pkt 1 4 then s.takeDigest port.val pkt else s)

/-- DIGEST_MISSING: 2 frames after the unit's own no partner digest has come on a port that hears the partner (R326). -/
def State.digestMissing (s : State) (l frame : Nat) : State :=
  let j := s.judge frame
  if s.isFeed && s.paired && s.red.hearing.contains l && !j.done.contains l &&
      s.red.own.any (fun x => x.port == l && x.frame == frame) then
    let j1 : FrameJudge := { j with done := j.done ++ [l], missed := true }
    ((s.count R.redDigestCounts F.redDigestCounts_MISSING).setJudge j1).closeFrame j1
  else s

/-- DIGEST_MISSING (R326). -/
def execDigestMissing (port : Fin 96) (frame : BitVec 48) (s : State) : Out := .next (s.digestMissing port.val frame.toNat)

end Sys2Proof.Machine
end

