-- ==== Sys2Proof/Machine/FrameHold.lean ====
section
/-! DEFINITION. Pictures on their way into a tile: slices, fragments and lists with the selection among copies (R209 to R211,
R324), and the slice arrival deadline (R24, R153, R215). -/

namespace Sys2Proof.Machine

/-! ### The tile's lamps -/

/-- The parts into which a row of a tile of a width is cut (R20). -/
def rowParts (w : Nat) : Nat := ceilDiv w 455

/-- The lamps of each part of a row (R20). A width that the number of parts does not divide, 457 with 2, has no equal parts: the first
parts then take one lamp more, and the last what is left (DESIGN CHOICE, log entry 149). -/
def partLamps (w : Nat) : Nat := if w = 0 then 0 else ceilDiv w (rowParts w)

/-- The row, first column and lamps of a slice index (R20). -/
def slicePlace (w i : Nat) : Nat × Nat × Nat :=
  let c := i % rowParts w * partLamps w
  (i / rowParts w, c, min (partLamps w) (w - c))

/-- The quarters that own the lamps of a stretch of a row: those of the lamps' channels (R22, R23). -/
def stretchQuarters (m : LampMap) (row col n : Nat) : List Nat :=
  (List.range 4).filter fun q => (List.range n).any fun i =>
    match m.lamps[row * m.width + col + i]? with
    | some e => !e.absent && e.channel.toNat / 128 == q
    | none => false

/-! ### Slices -/

/-- The instant b(N, k) − 200 µs of a slot (R215), as far as a pattern is in force. -/
def State.sliceDeadlineAt (s : State) (frame slot : Nat) : Int :=
  match s.pattern with
  | some p => slotStart s.origin p frame slot - 200000
  | none => 0

/-- The frame that a packet names: the frame number nearest this device's own with its low 16 bits (R209). Where a mode switch is
pending, a number whose slot under the old pattern lies at or after T, or is past its deadline, counts by the new pattern
(DEDUCED from R86, log entry 52); the state answered has the sequencer of that pattern. -/
def State.pktView (s : State) (p : Packet) : State × Nat :=
  let low := p.hdr.frame.toNat
  let old := ofSigned 48 (s.frameNear low)
  match s.seq.pendingMode with
  | some m =>
    let d := s.sliceDeadlineAt old p.hdr.slot.toNat
    if (m.time : Int) ≤ d + 200000 ∨ d ≤ s.clock.now then
      let v := s.modeTo m
      (v, ofSigned 48 (v.frameNear low))
    else (s, old)
  | none => (s, old)

/-- A frame number lies shortly before another one. -/
def frameBefore (a b : Nat) : Bool := decide (a < b ∧ b < a + 65536)

/-- A PIX packet has arrived in the frame (R83). -/
def State.sawPix (s : State) : State := { s with seq := { s.seq with pixSeen := true } }

/-- A copy that is not written: a duplicate (R324). -/
def State.dupDropped (s : State) : State := s.count R.redTileCounts F.redTileCounts_DUP_DROPPED

/-- A packet that comes after its deadline is dropped (R215). -/
def State.lateDropped (s : State) (l : Nat) : State := s.count (R.halPortErr l) F.halPortErr_DROPPED

/-- SLICE: the copy enters the frame hold, replaces a provisional one, is a duplicate, or comes late (R209, R215, R324). -/
def State.takeSlice (s : State) (l : Nat) (p : Packet) : State :=
  let (v, f) := s.pktView p
  let k := p.hdr.slot.toNat
  if v.sliceDeadlineAt f k ≤ s.clock.now then s.lateDropped l
  else
    let a := p.hdr.arg.toNat
    let n := fieldGet a ⟨18, 10⟩
    let rec_ : SliceRec :=
      { frame := f, slot := k, index := p.hdr.seq.toNat % 1024, row := fieldGet a ⟨0, 9⟩, col := fieldGet a ⟨9, 9⟩,
        lamps := (codesRgb (unpack12 (payloadBytes p))).take n, preferred := s.fromWinner l p.hdr.claim.toNat }
    let same := fun (x : SliceRec) => x.frame == f && x.slot == k && x.index == rec_.index
    match s.hold.slices.find? same with
    | none => { s with hold := { s.hold with slices := s.hold.slices ++ [rec_] } }
    | some x =>
      if rec_.preferred && !x.preferred then
        { s with hold := { s.hold with slices := s.hold.slices.map fun y => if same y then rec_ else y } }
      else s.dupDropped

/-- SLICE (R209). -/
def execSlice (port : Fin 96) (pkt : Packet) (s : State) : Out :=
  .next (if s.isTile && s.takes port.val pkt 1 1 then
    ((s.noteClaim pkt.hdr.claim.toNat none).sawPix).takeSlice port.val pkt else s)

/-! ### Fragments -/

/-- The bytes of a fragment's parts in order, without the prefix of part 0. -/
def partsData (ps : List PartRec) (n : Nat) : List Nat :=
  (List.range (n + 1)).flatMap fun i =>
    match ps.find? fun x => x.part == i with
    | some x => if i = 0 then x.data.drop 16 else x.data
    | none => []

/-- A fragment is complete when every part up to the LAST part has been received and the data bytes sum to TOTAL (R210). The
padding of the last part is no data. -/
def assembled (ps : List PartRec) : Option Fragment :=
  match ps.find? (·.last), ps.find? (fun x => x.part == 0) with
  | some z, some x =>
    let total := leVal ((x.data.drop 8).take 4)
    let data := partsData ps z.part
    if ((List.range (z.part + 1)).all fun i => ps.any fun y => y.part == i) && decide (total ≤ data.length ∧ data.length < total + 4) then
      some { layer := x.layer, gen := x.gen, width := leVal (x.data.take 2), height := leVal ((x.data.drop 2).take 2),
             alpha := bitOf (x.data.getD 4 0) 0, pixels := data.take total }
    else none
  | _, _ => none

/-- A newly complete fragment joins the store: of each layer the two newest complete ones stay, and the parts of older
generations go. -/
def State.keepFragment (s : State) (f : Fragment) : State :=
  if s.hold.frags.any fun x => x.layer == f.layer && x.gen == f.gen then s
  else
    let mine := s.hold.frags.filter fun x => x.layer == f.layer
    let others := s.hold.frags.filter fun x => x.layer != f.layer
    let keep := (mine.drop (mine.length - 1)) ++ [f]
    let parts := s.hold.parts.filter fun x => x.layer != f.layer || keep.any (fun y => y.gen == x.gen) ||
      decide ((x.gen + 65536 - f.gen) % 65536 < 32768)
    { s with hold := { s.hold with frags := others ++ keep, parts := parts } }

/-- FRAGMENT: a part enters the fragment store under copy selection, and a complete fragment is kept (R210, R324). -/
def State.takePart (s : State) (l : Nat) (p : Packet) : State :=
  let a := p.hdr.arg.toNat
  let rec_ : PartRec :=
    { layer := fieldGet a ⟨16, 3⟩, gen := fieldGet a ⟨0, 16⟩, part := fieldGet a ⟨19, 13⟩, last := p.hdr.last,
      preferred := s.fromWinner l p.hdr.claim.toNat, data := payloadBytes p }
  let same := fun (x : PartRec) => x.layer == rec_.layer && x.gen == rec_.gen && x.part == rec_.part
  let done := fun (t : State) =>
    match assembled (t.hold.parts.filter fun x => x.layer == rec_.layer && x.gen == rec_.gen) with
    | some f => t.keepFragment f
    | none => t
  match s.hold.parts.find? same with
  | none => done { s with hold := { s.hold with parts := s.hold.parts ++ [rec_] } }
  | some x =>
    if rec_.preferred && !x.preferred then
      done { s with hold := { s.hold with parts := s.hold.parts.map fun y => if same y then rec_ else y } }
    else s.dupDropped

/-- FRAGMENT (R210). -/
def execFragment (port : Fin 96) (pkt : Packet) (s : State) : Out :=
  .next (if s.isTile && s.takes port.val pkt 1 2 then
    ((s.noteClaim pkt.hdr.claim.toNat none).sawPix).takePart port.val pkt else s)

/-! ### Lists -/

/-- The 48-byte entries of a list. -/
def listEntries : Nat → List Nat → List (List Nat)
  | 0, _ => []
  | n + 1, bs => bs.take 48 :: listEntries n (bs.drop 48)

/-- LIST: the composition list of a slot (R211, R324). -/
def State.takeList (s : State) (l : Nat) (p : Packet) : State :=
  let (v, f) := s.pktView p
  let k := p.hdr.slot.toNat
  if v.sliceDeadlineAt f k ≤ s.clock.now then s.lateDropped l
  else
    let rec_ : ListRec := { frame := f, slot := k, preferred := s.fromWinner l p.hdr.claim.toNat,
                            entries := listEntries (p.hdr.arg.toNat % 16) (payloadBytes p) }
    let same := fun (x : ListRec) => x.frame == f && x.slot == k
    match s.hold.lists.find? same with
    | none => { s with hold := { s.hold with lists := s.hold.lists ++ [rec_] } }
    | some x =>
      if rec_.preferred && !x.preferred then
        { s with hold := { s.hold with lists := s.hold.lists.map fun y => if same y then rec_ else y } }
      else s.dupDropped

/-- LIST (R211). -/
def execList (port : Fin 96) (pkt : Packet) (s : State) : Out :=
  .next (if s.isTile && s.takes port.val pkt 1 3 then
    ((s.noteClaim pkt.hdr.claim.toNat none).sawPix).takeList port.val pkt else s)

/-! ### The deadline (R215) -/

/-- The frame and slot whose slice arrival deadline is now: those of the instant 200 µs ahead. -/
def State.deadlineSlot (s : State) : Option (State × Nat × Nat) :=
  let t : Int := s.clock.now + 200000
  let v := s.planned t
  match v.pattern with
  | some p =>
    let n := frameAt v.origin p t
    some (v, ofSigned 48 n, slotAt v.origin p n t)
  | none => none

/-- A SLICE_LATE event of a quarter (R405). -/
def State.sliceLate (s : State) (due : Int) (q frame slot missing : Nat) : State :=
  if missing = 0 then s
  else s.raiseDeadline .hal 5 q [frame, slot, ofSigned 32 due, missing]

/-- Provisional copies still held at the deadline are used as if preferred, and LOSER_USED counts them (R324). -/
def State.adoptProvisional (s : State) (frame slot : Nat) : State :=
  let sl := s.hold.slices.countP fun x => x.frame == frame && x.slot == slot && !x.preferred
  let li := s.hold.lists.countP fun x => x.frame == frame && x.slot == slot && !x.preferred
  let pa := s.hold.parts.countP fun x => !x.preferred
  let s1 : State := { s with hold := { s.hold with
    slices := s.hold.slices.map fun x => if x.frame = frame ∧ x.slot = slot then { x with preferred := true } else x,
    lists := s.hold.lists.map fun x => if x.frame = frame ∧ x.slot = slot then { x with preferred := true } else x,
    parts := s.hold.parts.map fun x => { x with preferred := true } } }
  s1.count R.redTileCounts F.redTileCounts_LOSER_USED (sl + li + pa)

/-- The lamp of a picture under reception. -/
def lampFrom (sl : List SliceRec) (x y : Nat) : Rgb :=
  match sl.find? fun r => r.row == y && decide (r.col ≤ x ∧ x < r.col + r.lamps.length) with
  | some r => r.lamps.getD (x - r.col) ⟨0, 0, 0⟩
  | none => ⟨0, 0, 0⟩

/-- A slot picture replaces the one shown for its slot. -/
def State.setPic (s : State) (p : SlotPic) : State :=
  { s with hold := { s.hold with pics := (s.hold.pics.filter fun x => x.slot != p.slot) ++ [p] } }

/-- The deadline in canvas mode: a complete slot picture becomes the one shown for its slot; an incomplete one is discarded, the
last complete picture stays, and where it was to be latched each quarter that misses slices raises its event (R24, R215). -/
def State.canvasDeadline (s : State) (wanted : Bool) (due : Int) (frame slot : Nat) : State :=
  match s.lampMap with
  | none => s
  | some m =>
    let sl := s.hold.slices.filter fun x => x.frame == frame && x.slot == slot
    let all_ := List.range (m.height * rowParts m.width)
    let missing := all_.filter fun i => !sl.any fun x => x.index == i
    let later := s.hold.slices.filter fun x =>
      !(frameBefore x.frame frame || (x.frame == frame && decide (x.slot ≤ slot)))
    let s1 : State := { s with hold := { s.hold with slices := later } }
    if missing.isEmpty then
      s1.setPic { slot := slot, frame := frame,
                  lamps := (List.range m.height).flatMap fun y => (List.range m.width).map fun x => lampFrom sl x y }
    else if wanted then
      (List.range 4).foldl (fun t q =>
        t.sliceLate due q frame slot (missing.countP fun i =>
          let (r, c, n) := slicePlace m.width i
          (stretchQuarters m r c n).contains q)) s1
    else s1

/-- The list that a tile uses for a slot of a frame: that slot's own, else its newest earlier one (R24, R153). -/
def State.listFor (s : State) (frame slot : Nat) : Option ListRec :=
  match s.hold.lists.find? fun x => x.frame == frame && x.slot == slot with
  | some x => some x
  | none => (s.hold.lists.filter fun x => x.slot == slot && frameBefore x.frame frame).foldl
      (fun a x => match a with
        | some b => if b.frame < x.frame then some x else a
        | none => some x) none

/-- The fragment generation that a list entry names is complete; a SOLID or disabled entry needs none (R152, R153). -/
def State.entryReady (s : State) (e : List Nat) : Bool :=
  let en := bitOf (e.getD 0 0) 7
  let solid := bitOf (e.getD 1 0) 2
  !en || solid || s.hold.frags.any fun f => f.layer == e.getD 0 0 % 8 && f.gen == leVal ((e.drop 6).take 2)

/-- The deadline in layer mode: a list not arrived, or a fragment not complete, raises the event (R153, R215). -/
def State.layerDeadline (s : State) (wanted : Bool) (due : Int) (frame slot : Nat) : State :=
  let own := s.hold.lists.any fun x => x.frame == frame && x.slot == slot
  let late := match s.listFor frame slot with
    | some x => x.entries.countP fun e => !s.entryReady e
    | none => 0
  let missing := late + (!own).toNat
  let kept := s.hold.lists.filter fun x => x.slot != slot || !frameBefore x.frame frame || some x == s.listFor frame slot
  let s1 : State := { s with hold := { s.hold with lists := kept } }
  if wanted then (List.range 4).foldl (fun t q => t.sliceLate due q frame slot missing) s1 else s1

/-- SLICE_DEADLINE (R215): a missed deadline is reported for each slot picture that is to be latched, in REDUCED of an admitted tile too, which
the feed unit sends those (R82, R236). -/
def State.sliceDeadline (s : State) : State :=
  match s.deadlineSlot with
  | none => s
  | some (v, frame, slot) =>
    let s1 := s.adoptProvisional frame slot
    let wanted := v.latches (toSigned 48 frame) slot && (v.seq.state == .run || s.flag R.dscSelf F.dscSelf_ADMITTED)
    let due := v.sliceDeadlineAt frame slot
    if s1.layerMode then s1.layerDeadline wanted due frame slot else s1.canvasDeadline wanted due frame slot

/-- SLICE_DEADLINE (R215). -/
def execSliceDeadline (s : State) : Out := .next (if s.isTile && !s.rst.inReset then s.sliceDeadline else s)

end Sys2Proof.Machine
end

