-- ==== Sys2Proof/Machine/PixSend.lean ====
section
/-! DEFINITION. The PIX that a feed unit sends: slices of the canvas in the order of R213 (R20, R209), fragments and lists in
layer mode (R151, R152, R214), and the DIGEST of each port and frame (R212, R325). -/

namespace Sys2Proof.Machine

/-! ### Tiles and their regions -/

/-- The first lane of the port that serves an address: that of its entry, or of its binding while it has not been found. -/
def State.servedBy (s : State) (a : Nat) : Nat :=
  if s.topoState a ≤ 1 then match s.boundAt a with | some b => b.lane | none => s.topoLane a else s.topoLane a

/-- Width and height of an address: from DSC_SELF, or from another tile of the expected geometry while it has not answered
(R239). -/
def State.tileSize (s : State) (a : Nat) : Nat × Nat :=
  let e := s.tileEntry a
  if e.width ≠ 0 then (e.width, e.height)
  else
    let g := if s.topoState a ≤ 1 then match s.boundAt a with | some b => b.geom.toNat | none => e.geom else e.geom
    match s.dsc.table.find? fun x => x.geom == g && x.width != 0 with
    | some x => (x.width, x.height)
    | none => (0, 0)

/-- A tile's region on the canvas (R239). -/
structure Region where
  addr : Nat
  x : Nat
  y : Nat
  w : Nat
  h : Nat
  deriving DecidableEq, Repr

/-- The region of an address in a register file, none while it has no origin. -/
def State.region (s : State) (rf : RegFile) (a : Nat) : Option Region :=
  (originOf rf a).map fun o => { addr := a, x := o.1, y := o.2, w := (s.tileSize a).1, h := (s.tileSize a).2 }

/-- The regions of the admitted addresses that a port serves, in ascending address. -/
def State.portRegions (s : State) (rf : RegFile) (l : Nat) : List Region :=
  ((admittedAddrs rf).filter fun a => s.servedBy a == l).filterMap (s.region rf)

/-! ### The slices of a slot (R20, R213) -/

/-- A slice to send: when its packet is ready in ns from the start of composition, its index, its tile, row, column and
lamps. -/
structure SliceSpec where
  ready : Nat
  index : Nat
  region : Region
  row : Nat
  col : Nat
  count : Nat
  deriving DecidableEq, Repr

/-- The lamps that band b's quarter has composed in a slot when a canvas row of the band is complete (R129). -/
def lampsUpTo (c : CanvasCfg) (b row : Nat) : Nat :=
  ((bandsOf c (b % 4)).filter (· < b)).foldl (fun n x => n + (bandCols c x).2 * c.h) 0 + (row + 1) * (bandCols c b).2

/-- The ready instant of a stretch of a canvas row: the latest of the bands it lies in (R213). -/
def readyAt (c : CanvasCfg) (x n row : Nat) : Nat :=
  let first := x / max 1 c.band
  let last := (x + n - 1) / max 1 c.band
  (List.range (last + 1 - first)).foldl (fun m i => max m (ceilDiv (25 * lampsUpTo c (first + i) row) 108)) 0

/-- Put a slice in its place by ready instant and then slice index. -/
def insertSlice (a : SliceSpec) : List SliceSpec → List SliceSpec
  | [] => [a]
  | b :: r => if a.ready < b.ready ∨ (a.ready = b.ready ∧ a.index < b.index) then a :: b :: r else b :: insertSlice a r

/-- The slices of a tile (R20). -/
def regionSlices (c : CanvasCfg) (g : Region) : List SliceSpec :=
  (List.range (g.h * rowParts g.w)).map fun i =>
    let (r, col, n) := slicePlace g.w i
    { ready := readyAt c (g.x + col) n (g.y + r), index := i, region := g, row := r, col := col, count := n }

/-- The slices of a slot on a port in the order of R213. -/
def State.slotSlices (s : State) (rf : RegFile) (l : Nat) : List SliceSpec :=
  let c := canvasCfg rf
  ((s.portRegions rf l).flatMap (regionSlices c)).foldl (fun acc a => insertSlice a acc) []

/-- The lamps of a slice: outer none while a band has not been started, inner none where one was abandoned (R130). -/
def State.sliceLamps (s : State) (c : CanvasCfg) (frame slot : Nat) (a : SliceSpec) : Option (Option (List Rgb)) :=
  let ls := (List.range a.count).map fun i => s.composedLamp c frame slot (a.region.x + a.col + i) (a.region.y + a.row)
  if ls.any (·.isNone) then none else some ((ls.map fun o => (o.getD none)).mapM id)

/-- The packet of a slice (R198, R209). -/
def State.slicePacket (s : State) (frame slot : Nat) (a : SliceSpec) (lamps : List Rgb) : Packet :=
  let seq := frame % 2 ^ 20 * 2 ^ 12 + slot * 2 ^ 10 + a.index % 1024
  makePacket 1 1 a.region.addr s.domain 0xFFF s.cur seq frame slot (a.row + a.col * 2 ^ 9 + a.count * 2 ^ 18) false false
    (pack12 (rgbCodes lamps))

/-! ### Cursors and digests -/

/-- What a port has sent of a frame. -/
def State.cursor (s : State) (l frame : Nat) : PixCursor :=
  (s.pix.cursors.find? fun c => c.port == l && c.frame == frame).getD
    { port := l, frame := frame, passed := [], packets := 0, sum := 0, done := false }

/-- The state with a cursor set; of each port those of the last 4 frames stay. -/
def State.setCursor (s : State) (c : PixCursor) : State :=
  let rest := s.pix.cursors.filter fun x => !(x.port == c.port && x.frame == c.frame)
  let mine := rest.filter fun x => x.port == c.port
  let keep := (rest.filter fun x => x.port != c.port) ++ mine.drop (mine.length - 3) ++ [c]
  { s with pix := { s.pix with cursors := keep } }

/-- The slices of a slot already passed. -/
def PixCursor.passedOf (c : PixCursor) (slot : Nat) : Nat := (sLookup c.passed slot).getD 0

/-- The hash of one packet in a digest (R325). -/
def packetHash (p : Packet) : Nat :=
  (Config.sha256 (leBytes 4 p.hdr.seq.toNat ++ [p.hdr.type.toNat] ++ leBytes 2 p.hdr.dst.toNat ++ leBytes 2 p.hdr.frame.toNat ++
    leBytes 4 p.hdr.arg.toNat ++ leBytes 2 p.hdr.length.toNat ++ payloadBytes p)).toNat

/-- A PIX packet leaves on a port and enters its frame's digest (R213, R325). -/
def State.sendPix (s : State) (l frame : Nat) (p : Packet) : State :=
  let c := s.cursor l frame
  (s.setCursor { c with packets := c.packets + 1, sum := (c.sum + packetHash p) % 2 ^ 256 }).enqueue l p

/-- The generation in force for a frame. -/
def State.genFor (s : State) (frame : Nat) : Nat :=
  match s.cmp.pend with
  | some p => if p.frame ≤ frame then p.gen else s.activeGen
  | none => s.activeGen

/-- The DIGEST of a port and frame leaves, and the unit's own is formed (R212, R325). -/
def State.sendDigest (s : State) (l frame : Nat) : State :=
  let c := s.cursor l frame
  if c.done then s
  else
    let g := s.genFor frame
    let body := leBytes 6 frame ++ leBytes 2 g ++ leBytes 4 c.packets ++ [0, 0, 0, 0] ++ (leBytes 32 c.sum).reverse
    let s1 := s.setCursor { c with done := true }
    let s2 := s1.enqueue l (makePacket 1 4 0xFFF s1.domain 0xFFF s1.cur (frame % 2 ^ 20 * 2 ^ 12) frame 0 l false false body)
    s2.ownDigest { port := l, frame := frame, gen := g, packets := c.packets, digest := c.sum }

/-! ### Canvas mode -/

/-- The band of a frame composed first. -/
def State.firstBand (s : State) (frame : Nat) : Option BandPic := s.cmp.bands.find? fun b => b.frame == frame

/-- The slots of a frame that are composed (R82). -/
def State.sentSlots (s : State) (frame : Nat) : List Nat := match s.firstBand frame with | some b => b.slots | none => []

/-- The instant at which the composition of a slot starts, b(N, k) − LEAD (R129). -/
def State.composeStart (s : State) (frame slot : Nat) : Int :=
  match s.cmp.bands.find? fun b => b.frame == frame && b.slot == slot with | some b => b.start | none => 0

/-- The elements of a list, each at its first place. -/
def firstPlaces : List Nat → List Nat → List Nat
  | _, [] => []
  | seen, a :: r => if seen.contains a then firstPlaces seen r else a :: firstPlaces (a :: seen) r

/-- The frames that have composed bands, in the order of their composition. -/
def State.composedFrames (s : State) : List Nat := firstPlaces [] (s.cmp.bands.map (·.frame))

/-- Slices whose band was abandoned are not sent: the cursor passes them (R130). `fuel` bounds the slices of the slot. -/
def State.passAbandoned (s : State) (c : CanvasCfg) (l frame slot : Nat) (specs : List SliceSpec) : Nat → State
  | 0 => s
  | fuel + 1 =>
    let cur := s.cursor l frame
    match specs[cur.passedOf slot]? with
    | some a =>
      match s.sliceLamps c frame slot a with
      | some none => (s.setCursor { cur with passed := aSet cur.passed slot (cur.passedOf slot + 1) }).passAbandoned c l frame slot specs fuel
      | _ => s
    | none => s

/-- The next slice of a slot leaves once it is composed and ready (R213). -/
def State.sendSlice (s : State) (c : CanvasCfg) (l frame slot : Nat) (specs : List SliceSpec) : State :=
  let cur := s.cursor l frame
  match specs[cur.passedOf slot]? with
  | some a =>
    match s.sliceLamps c frame slot a with
    | some (some lamps) =>
      if s.composeStart frame slot + a.ready ≤ s.clock.now then
        (s.setCursor { cur with passed := aSet cur.passed slot (cur.passedOf slot + 1) }).sendPix l frame
          (s.slicePacket frame slot a lamps)
      else s
    | _ => s
  | none => s

/-- The first slot of a list that still has a slice to pass. -/
def State.openSlot (s : State) (l frame n : Nat) (ks : List Nat) : Option Nat :=
  ks.find? fun k => decide ((s.cursor l frame).passedOf k < n)

/-- PIX_SEND in canvas mode: the oldest composed frame with something to send; after its last slice the DIGEST follows. -/
def State.pixSendCanvas (s : State) (l : Nat) : State :=
  match s.composedFrames.find? fun f => !(s.cursor l f).done with
  | none => s
  | some f =>
    let rf := s.cfgFor f
    let c := canvasCfg rf
    let specs := s.slotSlices rf l
    let ks := s.sentSlots f
    let s1 := ks.foldl (fun t k => t.passAbandoned c l f k specs specs.length) s
    let s2 := match s1.openSlot l f specs.length ks with
      | some k => (s1.sendSlice c l f k specs).passAbandoned c l f k specs specs.length
      | none => s1
    if (s2.openSlot l f specs.length ks).isNone && ks.all (fun k => s2.cmp.bands.any fun b => b.frame == f && b.slot == k) then
      s2.sendDigest l f
    else s2

/-! ### Layer mode (R151, R152, R214) -/

/-- The layers that a tile's list holds: the enabled layers that cover the tile, of the quarter whose band holds its first
lamp. -/
def tileLayers (rf : RegFile) (g : Region) : List LayerCfg :=
  let q := g.x / max 1 (canvasCfg rf).band % 4
  (enabledLayers rf q).filter fun l =>
    decide (l.x < g.x + g.w ∧ (g.x : Int) < l.x + l.outW ∧ l.y < g.y + g.h ∧ (g.y : Int) < l.y + l.outH)

/-- The span of crop pixels that a stretch of lamps reads in one direction: first and count. -/
def readSpan (d : Dir) (lo n : Nat) : Nat × Nat :=
  let rs := (List.range n).flatMap fun i => d.reads (lo + i)
  match rs with
  | [] => (0, 0)
  | a :: r =>
    let mn := r.foldl min a
    let mx := r.foldl max a
    (mn, mx + 1 - mn)

/-- The lamps of a layer, by index, that a stretch of the canvas holds: first and count. -/
def layerSpan (lx : Int) (outN x n : Nat) : Nat × Nat :=
  let lo := (max 0 ((x : Int) - lx)).toNat
  let hi := (min (outN : Int) ((x : Int) + n - lx)).toNat
  (lo, hi - lo)

/-- The direction in which a tile scales a fragment's picture to lamps: from the pre-scaled size to the output size (R173). -/
def tileDir (pre : Dir) (outN phase taps : Nat) : Dir := ⟨0, pre.nOut, outN, phase, taps⟩

/-- The rectangle of the pre-scaled picture that a tile's lamps sample (R151): first column, columns, first row, rows. -/
def State.fragRect (s : State) (rf : RegFile) (l : LayerCfg) (g : Region) : (Nat × Nat) × (Nat × Nat) :=
  let v := s.layerTaps rf l
  let hs := layerSpan l.x l.outW g.x g.w
  let vs := layerSpan l.y l.outH g.y g.h
  (readSpan (tileDir l.hdir.pre l.outW l.px l.hTaps) hs.1 hs.2, readSpan (tileDir (l.vdir v).pre l.outH l.py l.vTaps) vs.1 vs.2)

/-- The alpha code of a fragment (R151). -/
def alphaCode (a : Int) : Nat := if 4096 ≤ a then 4095 else a.toNat

/-- The pixel bytes of a fragment (R151). -/
def State.fragBytes (s : State) (rf : RegFile) (l : LayerCfg) (p : PicRef) (alpha : Bool) (r : (Nat × Nat) × (Nat × Nat)) : List Nat :=
  let px := srcPixel s.rd p l
  let v := s.layerTaps rf l
  let codes := (List.range r.2.2).flatMap fun y => (List.range r.1.2).flatMap fun x =>
    let c := s.fragPixel l.quarter l v px (r.1.1 + x) (r.2.1 + y)
    [c.r.toNat, c.g.toNat, c.b.toNat] ++ (if alpha then [alphaCode c.a] else [])
  pack12 codes

/-- A fragment cut into the payloads of its parts (R210): `first` is the room of the next part. -/
def partPayloads (first : Bool) (header : List Nat) : Nat → List Nat → List (List Nat)
  | 0, _ => []
  | n + 1, bs =>
    let room := if first then 2032 else 2048
    let head := if first then header ++ bs.take room else bs.take room
    if bs.length ≤ room then [head] else head :: partPayloads false header n (bs.drop room)

/-- The packets of a fragment (R210). -/
def State.fragPackets (s : State) (frame : Nat) (addr layer gen w h : Nat) (alpha : Bool) (bs : List Nat) : List Packet :=
  let header := leBytes 2 w ++ leBytes 2 h ++ [alpha.toNat, 0, 0, 0] ++ leBytes 4 bs.length ++ [0, 0, 0, 0]
  let parts := partPayloads true header (bs.length / 2032 + 1) bs
  parts.zipIdx.map fun x =>
    makePacket 1 2 addr s.domain 0xFFF s.cur (layer * 2 ^ 29 + gen * 2 ^ 13 + x.2) frame 0
      (gen + layer * 2 ^ 16 + x.2 * 2 ^ 19) false (x.2 + 1 == parts.length) x.1

/-- The generation of a tile's fragment of a layer. -/
def State.fragGen (s : State) (a layer : Nat) : Option FragGen := s.pix.gens.find? fun g => g.addr == a && g.layer == layer

/-- The picture that a layer shows by a fragment: none for a colour fallback or nothing (R148, R152). -/
def State.layerPic (s : State) (l : LayerCfg) : Option PicRef :=
  if s.layerState l.quarter l.layer = 2 ∧ l.fbKind = 1 then none else (s.layerSt l.quarter l.layer).shown

/-- A tile's fragment of a layer for a frame: a new generation once per source frame, its packets behind those made so far
(R151). -/
def State.makeFragment (s : State) (rf : RegFile) (frame p : Nat) (g : Region) (l : LayerCfg) : State :=
  match s.layerPic l with
  | none => s
  | some pic =>
    let old := s.fragGen g.addr l.layer
    let new_ : Bool := match old with
      | some x => x.pic != pic
      | none => true
    if new_ then
      let gen := match old with | some x => (x.gen + 1) % 65536 | none => 1
      let alpha := l.pa && formatAlpha pic.format
      let r := s.fragRect rf l g
      let bs := s.fragBytes rf l pic alpha r
      let pk := s.fragPackets frame g.addr l.layer gen r.1.2 r.2.2 alpha bs
      let rest := s.pix.gens.filter fun x => !(x.addr == g.addr && x.layer == l.layer)
      let gens := rest ++ [({ addr := g.addr, layer := l.layer, gen := gen, pic := pic } : FragGen)]
      { s with pix := { s.pix with gens := gens, out := s.pix.out ++ pk.map fun x =>
          ({ port := p, frame := frame, pkt := x, cut := some (pic.source, pic.slot) } : PixOut) } }
    else s

/-- The composition list entry of a layer for a tile (R152). -/
def State.listEntry (s : State) (rf : RegFile) (frame : Nat) (g : Region) (l : LayerCfg) : List Nat :=
  let fb := s.layerState l.quarter l.layer == 2 && l.fbKind == 1
  let pic := s.layerPic l
  let alpha : Bool := match pic with | some p => l.pa && formatAlpha p.format | none => false
  let r := s.fragRect rf l g
  let gen := match s.fragGen g.addr l.layer with | some x => x.gen | none => 0
  let neg := fun (n : Nat) => leBytes 2 (ofSigned 16 (-(n : Int)))
  let en := fb || pic.isSome
  [l.layer + en.toNat * 128, l.linear.toNat + l.cspace % 2 * 2 + fb.toNat * 4 + alpha.toNat * 8] ++
    leBytes 2 l.ga ++ leBytes 2 (s.layerFade l.quarter l.layer frame) ++ leBytes 2 gen ++
    leBytes 2 (ofSigned 16 (l.x - g.x)) ++ leBytes 2 (ofSigned 16 (l.y - g.y)) ++ [l.px, l.py, 0, 0] ++
    leBytes 2 l.outW ++ leBytes 2 l.outH ++ neg r.1.1 ++ neg r.2.1 ++
    leBytes 2 l.hdir.pre.nOut ++ leBytes 2 (l.vdir (s.layerTaps rf l)).pre.nOut ++
    leBytes 8 (sRead regReset rf (R.cmpLayerFbcol l.quarter l.layer)) ++ List.replicate 12 0

/-- The LIST packet of a slot for a tile (R211). -/
def State.listPacket (s : State) (rf : RegFile) (frame slot : Nat) (g : Region) : Packet :=
  let ls := ((tileLayers rf g).filter fun l => bitOf l.slots slot).take 8
  makePacket 1 3 g.addr s.domain 0xFFF s.cur (frame % 2 ^ 20 * 2 ^ 12 + slot * 2 ^ 10) frame slot ls.length false false
    (ls.flatMap (s.listEntry rf frame g))

/-- The packets of a frame in layer mode for every port: the fragment generations are fixed first, every list goes ahead of the
first fragment (R214). -/
def State.makeLayerFrame (s : State) (frame : Nat) (ks : List Nat) : State :=
  let rf := s.cfgFor frame
  let ports := s.halPorts
  let before := s.pix.out
  let s0 : State := { s with pix := { s.pix with out := [], made := some frame } }
  let s1 := ports.foldl (fun t p => (t.portRegions rf p).foldl (fun t g =>
    (tileLayers rf g).foldl (fun t l => t.makeFragment rf frame p g l) t) t) s0
  let frags := s1.pix.out
  let lists := ports.flatMap fun p => ks.flatMap fun k =>
    (s1.portRegions rf p).map fun g => ({ port := p, frame := frame, pkt := s1.listPacket rf frame k g, cut := none } : PixOut)
  { s1 with pix := { s1.pix with out := before ++ lists ++ frags } }

/-- The frame whose composition is under way, with its slots: the one in progress LEAD from now (R129, R214). -/
def State.layerFrame (s : State) : Option (Nat × List Nat) :=
  let t : Int := s.clock.now + s.leadAhead 0
  let v := s.planned t
  match v.pattern with
  | some p =>
    let n := frameAt v.origin p t
    let ks := v.usedSlots n
    if ks.isEmpty then none else some (ofSigned 48 n, ks)
  | none => none

/-- PIX_SEND in layer mode: the packets of the frame are made at its first send; each send passes the next of the port, and the
DIGEST follows the last (R212, R214). -/
def State.pixSendLayer (s : State) (l : Nat) : State :=
  let s1 := match s.layerFrame with
    | some (f, ks) => if s.pix.made = some f then s else s.makeLayerFrame f ks
    | none => s
  match s1.pix.out.find? fun x => x.port == l with
  | some x =>
    let i := (s1.pix.out.findIdx? fun y => y.port == l).getD 0
    let s2 := ((({ s1 with pix := { s1.pix with out := s1.pix.out.eraseIdx i } } : State)).sendPix l x.frame x.pkt).endHolds
    if s2.pix.out.any fun y => y.port == l && y.frame == x.frame then s2 else s2.sendDigest l x.frame
  | none =>
    match s1.pix.made with
    | some f => s1.sendDigest l f
    | none => s1

/-- The frame whose PIX a port sends next. -/
def State.pixFrame (s : State) (l : Nat) : Option Nat :=
  if s.layerMode then s.layerFrame.map (·.1) else s.composedFrames.find? fun f => !(s.cursor l f).done

/-- The origins that a pending commit changes go out before the first PIX of its frame (R234). -/
def State.originsFirst (s : State) (l : Nat) : State :=
  match s.cmp.pend, s.pixFrame l with
  | some p, some f =>
    if p.frame ≤ f ∧ s.dsc.originsFor ≠ some p.gen then s.sendOrigins s.active (s.cfgFor f) p.gen else s
  | _, _ => s

/-- An ASSIGN that may go waits at a port's egress. -/
def State.assignWaits (s : State) (l : Nat) : Bool :=
  s.hal.queue.any fun q => q.port == l && !q.started && pktIs q.pkt 5 3 && s.hasCredits l q.pkt

/-- PIX_SEND (R213, R214): the origins of the frame's commit ahead of its packets (R234). -/
def State.pixSend (s : State) (l : Nat) : State :=
  if s.isFeed && s.isHalPort l && !s.rst.inReset then
    let s1 := s.originsFirst l
    if s1.assignWaits l then s1 else if s1.layerMode then s1.pixSendLayer l else s1.pixSendCanvas l
  else s

/-- PIX_SEND (R213). -/
def execPixSend (port : Fin 96) (s : State) : Out := .next (s.pixSend port.val)

end Sys2Proof.Machine
end

