-- ==== Sys2Proof/Machine/Checks.lean ====
section
/-! DEFINITION. The commit checks of R440, steps 4 to 9, over a register file: the shadows for a commit, the values in force for a
mode switch (R88). -/

namespace Sys2Proof.Machine

/-- A commit check that failed: its reason code, and what TOP_COMMIT_DETAIL names where the step says so. -/
structure CheckFail where
  reason : Nat
  quarter : Option Nat
  layer : Option Nat
  lane : Option Nat
  deriving DecidableEq, Repr

/-- NOT_READY without a unit. -/
def failPlain : CheckFail := ⟨7, none, none, none⟩

/-- NOT_READY of a layer. -/
def failLayer (q n : Nat) : CheckFail := ⟨7, some q, some n, none⟩

/-! ### Step 4: values and validity of the shadows -/

/-- The canvas (R131, CMP_CANVAS_SIZE, CMP_CANVAS_CFG). -/
def canvasOk (c : CanvasCfg) : Bool :=
  decide (c.w ≤ 32768 ∧ c.h ≤ 16384 ∧ c.w * c.h ≤ 67108864 ∧ 256 ≤ c.band ∧ c.band ≤ 4096 ∧ 500000 ≤ c.lead)

/-- The write-back (R26, R154, CMP_WB_CTRL). -/
def wbOk (c : CanvasCfg) (w : WbCfg) : Bool :=
  decide (w.decim ≠ 3 ∧ w.ringLog2 ≠ 0) &&
    (!w.en || decide (w.w % 2 = 0 ∧ 2 ≤ w.w ∧ w.w ≤ 8192 ∧ 1 ≤ w.h ∧ w.h ≤ 4352 ∧ w.x + w.w * w.f ≤ c.w ∧ w.y + w.h * w.f ≤ c.h))

/-- An enabled source descriptor (R89, R104, R134). -/
def srcOk (c : SrcCfg) : Bool :=
  decide (1 ≤ c.ringLog2 ∧ c.kind < 4) && decide (c.wire < 9) &&
    (c.kind < 2 || formatKnown c.format) &&
    decide (2 ≤ c.width ∧ c.width ≤ 16384 ∧ 2 ≤ c.height ∧ c.height ≤ 16384 ∧ c.width % formatPixels c.format = 0) &&
    (c.format != 6 || decide (c.height % 2 = 0)) &&
    decide (c.lineBytes * c.height * (if c.format = 6 then 3 else 2) ≤ 2 * c.slotBytes ∧ lineBytesOf c.format c.width ≤ c.lineBytes) &&
    decide (0 < c.den ∧ c.den ≤ 240 * c.num ∧ 10 * c.num ≤ c.den)

/-- A trigger line bound to an earlier DMA-fed source (R97). -/
def trigTaken (rf : RegFile) (i : Nat) : Bool :=
  let c := srcCfg rf i
  c.kind == 2 && (List.range i).any fun j => let d := srcCfg rf j; d.en && d.kind == 2 && d.trig == c.trig

/-- The first source, in ascending number, that fails. -/
def badSource (rf : RegFile) : Option Nat :=
  (List.range 64).find? fun i => let c := srcCfg rf i; c.en && (!srcOk c || trigTaken rf i)

/-- What a failing source names: the first enabled layer bound to it, else 0 and 0 (R89). -/
def sourceFail (rf : RegFile) (i : Nat) : CheckFail :=
  match (allLayers rf).find? fun l => l.src == i with
  | some l => failLayer l.quarter l.layer
  | none => failLayer 0 0

/-- A table of 4,096 entries is non-decreasing. -/
def nonDecreasing (f : Nat → Int) : Bool := (List.range 4095).all fun i => decide (f i ≤ f (i + 1))

/-- The scale checks of one direction (R165). -/
def scaleOk (d : Dir) (maxTaps : Nat) : Bool :=
  decide (0 < d.nIn ∧ d.nIn ≤ 8 * d.nOut ∧ d.nOut ≤ 64 * d.nIn ∧ d.taps % 2 = 0 ∧ 2 ≤ d.taps ∧ d.taps ≤ maxTaps)

/-- The layers of a quarter in the image (QUARTERS). -/
def State.layerCount (s : State) (q : Nat) : Nat :=
  match s.ldr.image with | some i => i.body.quarters.layers.getD q 0 | none => 0

/-- An enabled layer (R144, R147, R165, CMP_LAYER_CTRL). -/
def State.layerOk (s : State) (rf : RegFile) (l : LayerCfg) : Bool :=
  let c := srcCfg rf l.src
  let fb := srcCfg rf l.fbSrc
  let lowest : Bool := match (enabledLayers rf l.quarter).find? (·.linear) with
    | some x => x.layer == l.layer
    | none => false
  decide (l.layer < s.layerCount l.quarter ∧ l.fbKind ≠ 3) &&
    (!l.linear || (nonDecreasing (s.lutE l.quarter l.layer) && (!lowest || nonDecreasing (s.lutW l.quarter)))) &&
    decide (l.cx + l.cw ≤ c.width ∧ l.cy + l.ch ≤ c.height) &&
    (l.fbKind != 2 || decide (l.fbSrc ≠ l.src ∧ fb.width = c.width ∧ fb.height = c.height)) &&
    c.en && scaleOk l.hdir 12 && scaleOk (l.vdir l.vTaps) 8

/-- The first enabled layer that fails. -/
def State.badLayer (s : State) (rf : RegFile) : Option LayerCfg := (allLayers rf).find? fun l => !s.layerOk rf l

/-! ### The codec streams (R332, R342) -/

/-- The settings of an encode stream. -/
structure EncCfg where
  en : Bool
  mode : Nat
  profile : Nat
  cspace : Nat
  trig : Nat
  src : Nat
  ringEn : Bool
  ring : Nat
  quality : Nat
  qpMax : Nat
  window : Nat
  idrPeriod : Nat
  maxBits : Nat
  log2 : Nat
  base : Nat
  queue : Nat
  deriving DecidableEq, Repr

/-- The settings of encode stream `e` in a register file. -/
def encCfg (rf : RegFile) (e : Nat) : EncCfg :=
  let c := R.cdcEncCtrl e
  let r := R.cdcEncRc e
  let o := R.cdcEncOut e
  { en := rfFlag rf c F.cdcEncCtrl_EN, mode := rfGet rf c F.cdcEncCtrl_MODE, profile := rfGet rf c F.cdcEncCtrl_PROFILE,
    cspace := rfGet rf c F.cdcEncCtrl_CSPACE, trig := rfGet rf c F.cdcEncCtrl_TRIG, src := rfGet rf c F.cdcEncCtrl_SRC,
    ringEn := rfFlag rf c F.cdcEncCtrl_RING_EN, ring := rfGet rf c F.cdcEncCtrl_RING,
    quality := rfGet rf r F.cdcEncRc_QUALITY, qpMax := rfGet rf r F.cdcEncRc_QP_MAX,
    window := max 1 (rfGet rf r F.cdcEncRc_WINDOW), idrPeriod := rfGet rf r F.cdcEncRc_IDR_PERIOD,
    maxBits := 1024 * rfGet rf (R.cdcEncMaxbits e) F.cdcEncMaxbits_MAX_BITS, log2 := rfGet rf o F.cdcEncOut_LOG2,
    base := 4096 * rfGet rf o F.cdcEncOut_BASE, queue := rfGet rf o F.cdcEncOut_QUEUE }

/-- The source that a decode stream feeds: the enabled HEVC source that names it. -/
def decodeSource (rf : RegFile) (d : Nat) : Option Nat :=
  (List.range 64).find? fun i => let c := srcCfg rf i; c.en && c.kind == 1 && c.stream == d

/-- A fraction of whole numbers. -/
structure Frac where
  num : Nat
  den : Nat
  deriving DecidableEq, Repr

/-- The sum of two fractions. -/
def Frac.plus (a b : Frac) : Frac := ⟨a.num * b.den + b.num * a.den, a.den * b.den⟩

/-- The picture size and rate of an encode stream: of the write-back at the pattern's frame rate, or of its source (R332). -/
def encShape (rf : RegFile) (p : PatternRec) (e : EncCfg) : Nat × Nat × Frac :=
  if e.mode = 2 then
    let c := srcCfg rf e.src
    (c.width, c.height, ⟨c.den, c.num⟩)
  else
    let w := wbCfg rf
    (w.w, w.h, ⟨p.fpDen, p.fpNum⟩)

/-- The factor f of a profile (R332). -/
def profileFactor (pr : Nat) : Frac := if pr = 1 then ⟨4, 3⟩ else if pr = 2 then ⟨2, 1⟩ else ⟨1, 1⟩

/-- The luma-equivalent load of an encode stream (R332). -/
def encLoad (rf : RegFile) (p : PatternRec) (e : EncCfg) : Frac :=
  let (w, h, r) := encShape rf p e
  let f := profileFactor e.profile
  ⟨w * h * r.num * f.num, r.den * f.den⟩

/-- The luma-equivalent load of a decode stream; the sampling of a stream is not known to the check, and f is taken as 1. -/
def decLoad (rf : RegFile) (i : Nat) : Frac :=
  let c := srcCfg rf i
  ⟨c.width * c.height * c.den, c.num⟩

/-- The enabled streams with their loads, decode 0 to 15 and then encode 16 to 23. -/
def streamLoads (rf : RegFile) (p : PatternRec) : List (Nat × Frac) :=
  ((List.range 16).filterMap fun d => (decodeSource rf d).map fun i => (d, decLoad rf i)) ++
    ((List.range 8).filterMap fun e => let c := encCfg rf e; if c.en then some (16 + e, encLoad rf p c) else none)

/-- The load of the streams up to each of them. -/
def runningLoads : Frac → List (Nat × Frac) → List (Nat × Frac)
  | _, [] => []
  | t, (i, f) :: r => (i, t.plus f) :: runningLoads (t.plus f) r

/-- The fields of an encode stream are allowed and its cap is within 1,600 Mb/s (R342). -/
def encOk (rf : RegFile) (p : PatternRec) (e : EncCfg) : Bool :=
  let (_, _, r) := encShape rf p e
  decide (e.mode ≠ 3 ∧ e.profile ≠ 3 ∧ e.quality ≤ e.qpMax ∧ 24 ≤ e.log2 ∧ e.log2 ≤ 32 ∧
    e.maxBits * r.num ≤ 1600000000 * e.window * r.den)

/-- The streams of a T build: one of each at most, no larger than 1,920 by 1,080, no clip ring (R333). -/
def tStreamOk (rf : RegFile) (p : PatternRec) (i : Nat) : Bool :=
  if i < 16 then
    match decodeSource rf i with
    | some x =>
      let c := srcCfg rf x
      decide (c.width ≤ 1920 ∧ c.height ≤ 1080) && (List.range i).all fun j => (decodeSource rf j).isNone
    | none => true
  else
    let e := encCfg rf (i - 16)
    let (w, h, _) := encShape rf p e
    decide (w ≤ 1920 ∧ h ≤ 1080) && !e.ringEn && (List.range (i - 16)).all fun j => !(encCfg rf j).en

/-- The first stream that fails, decode streams before encode streams. -/
def State.badStream (s : State) (rf : RegFile) (p : PatternRec) : Option Nat :=
  ((runningLoads ⟨0, 1⟩ (streamLoads rf p)).find? fun x =>
    (16 ≤ x.1 && !encOk rf p (encCfg rf (x.1 - 16))) || (!s.isF && !tStreamOk rf p x.1) ||
      decide (4200000000 * x.2.den < x.2.num)).map (·.1)

/-- CDC_STATUS follows the check: LOAD, and the stream refused. -/
def State.showCodec (s : State) (rf : RegFile) (p : PatternRec) : State :=
  let t := (streamLoads rf p).foldl (fun a x => a.plus x.2) (⟨0, 1⟩ : Frac)
  let load := if t.den = 0 then 0 else t.num * 1000 / (4200000000 * t.den)
  let s1 := (s.put R.cdcStatus F.cdcStatus_LOAD (min 2047 load)).put R.cdcStatus F.cdcStatus_SHED
    (s.get R.thmStatus F.thmStatus_SHED)
  match s.badStream rf p with
  | some i => s1.put R.cdcStatus F.cdcStatus_REFUSED i
  | none => s1

/-! ### The whole of step 4 -/

/-- Step 4 of R440; the codec's result shows in CDC_STATUS. -/
def State.checkValues (s : State) (rf : RegFile) (p : PatternRec) : Option CheckFail × State :=
  let c := canvasCfg rf
  if !canvasOk c || !wbOk c (wbCfg rf) then (some failPlain, s)
  else match badSource rf with
    | some i => (some (sourceFail rf i), s)
    | none =>
      match s.badLayer rf with
      | some l => (some (failLayer l.quarter l.layer), s)
      | none =>
        let s1 := s.showCodec rf p
        if (s.badStream rf p).isSome || !markedFieldsOk rf then (some failPlain, s1) else (none, s1)

/-! ### Step 5: composition load and schedule (R19, R131) -/

/-- T_C of a quarter's lamps, in ns (R131). -/
def composeTime (lamps : Nat) : Nat := ceilDiv (25 * lamps) 108

/-- A quarter's load and schedule are within the limits. -/
def loadOk (c : CanvasCfg) (p : PatternRec) (q : Nat) : Bool :=
  let n := quarterLamps c q
  let t := composeTime n
  decide (n * p.slots * p.fpDen ≤ 4320000000 * p.fpNum ∧ t + 300000 ≤ c.lead ∧
    (t + 100000) * p.slots * p.fpDen ≤ p.fpNum * 1000000000 ∧ c.lead * p.fpDen ≤ p.fpNum * 1000000000)

/-- The first quarter that fails. -/
def badQuarter (c : CanvasCfg) (p : PatternRec) : Option Nat := (List.range 4).find? fun q => !loadOk c p q

/-! ### Step 6: the Peck (R168 to R171) -/

/-- G of a layer at its V_TAPS (R169). -/
def State.layerNeed (s : State) (c : CanvasCfg) (l : LayerCfg) : Nat := granules (s.peckLayer c l) l.vTaps

/-- LST_NEED of every layer: of the enabled ones the computed need, of the others 0. -/
def State.showNeeds (s : State) (rf : RegFile) : State :=
  let c := canvasCfg rf
  (List.range 4).foldl (fun t q => (List.range 8).foldl (fun t n =>
    let l := layerCfg rf q n
    let v := if l.en then fieldSet (fieldSet 0 F.lstNeed_NEED (s.layerNeed c l)) F.lstNeed_WB (s.peckLayer c l).wb else 0
    t.setReg (R.lstNeed q n) v) t) s

/-- The runs of two layers share a granule. -/
def runsMeet (a b : LayerCfg) : Bool :=
  decide (0 < a.count ∧ 0 < b.count ∧ a.first < b.first + b.count ∧ b.first < a.first + a.count)

/-- The first layer whose run meets that of an earlier one. -/
def overlapLayer : List LayerCfg → List LayerCfg → Option LayerCfg
  | _, [] => none
  | before, l :: r => if before.any (runsMeet l) then some l else overlapLayer (before ++ [l]) r

/-- The Peck check in its three passes: cause 3 RANGE, 2 OVERLAP, 1 SHORT, with the layer named (R170, R171). -/
def State.peckFail (s : State) (rf : RegFile) : Option (Nat × LayerCfg) :=
  let c := canvasCfg rf
  let ls := allLayers rf
  match ls.find? fun l => decide (256 < l.first + l.count) with
  | some l => some (3, l)
  | none =>
    match overlapLayer [] ls with
    | some l => some (2, l)
    | none =>
      (ls.find? fun l => decide (l.count < s.layerNeed c l) && !(l.tapfit && (fitTaps l (s.peckLayer c l)).isSome)).map fun l => (1, l)

/-- Step 6: LST_NEED and LST_CHECK are written. -/
def State.checkPeck (s : State) (rf : RegFile) : Option CheckFail × State :=
  let s1 := s.showNeeds rf
  match s.peckFail rf with
  | none => (none, s1.setReg R.lstCheck 0)
  | some (cause, l) =>
    let v0 := fieldSet (fieldSet (fieldSet 0 F.lstCheck_CAUSE cause) F.lstCheck_QUARTER l.quarter) F.lstCheck_LAYER l.layer
    let v := fieldSet (fieldSet v0 F.lstCheck_NEED (s.layerNeed (canvasCfg rf) l)) F.lstCheck_COUNT l.count
    (some ⟨4, some l.quarter, some l.layer, none⟩, s1.setReg R.lstCheck v)

/-! ### Step 7: layer-mode limits (R21) -/

/-- The bytes of a tile's fragment of a layer (R151). -/
def State.fragSize (s : State) (rf : RegFile) (g : Region) (l : LayerCfg) : Nat :=
  let r := s.fragRect rf l g
  let codes := if l.pa && formatAlpha (srcCfg rf l.src).format then 4 else 3
  ceilDiv (r.1.2 * r.2.2 * codes * 3) 2

/-- A tile is within the limits: at most 8 layers, and 12 MiB of fragments for the current and the next source frame. -/
def State.tileLimitOk (s : State) (rf : RegFile) (g : Region) : Bool :=
  let ls := tileLayers rf g
  decide (ls.length ≤ 8 ∧ 2 * ls.foldl (fun n l => n + s.fragSize rf g l) 0 ≤ 12582912)

/-- Step 7. -/
def State.limitsOk (s : State) (rf : RegFile) : Bool :=
  !s.layerMode || ((admittedAddrs rf).filterMap (s.region rf)).all (s.tileLimitOk rf)

/-! ### Step 8: the admission set (R239) -/

/-- Two regions overlap. -/
def regionsMeet (a b : Region) : Bool :=
  decide (0 < a.w ∧ 0 < a.h ∧ 0 < b.w ∧ 0 < b.h ∧ a.x < b.x + b.w ∧ b.x < a.x + a.w ∧ a.y < b.y + b.h ∧ b.y < a.y + a.h)

/-- The cause of an address by itself: 1 NOT_FOUND, 2 NO_ORIGIN, 3 OUTSIDE. -/
def State.addrCause (s : State) (rf : RegFile) (c : CanvasCfg) (a : Nat) : Nat :=
  if s.topoState a = 0 then 1
  else match s.region rf a with
    | none => 2
    | some g => if c.w < g.x + g.w ∨ c.h < g.y + g.h then 3 else 0

/-- The first pair of regions that overlap. -/
def overlapPair : List Region → Option (Region × Region)
  | [] => none
  | a :: r => match r.find? (regionsMeet a) with
    | some b => some (a, b)
    | none => overlapPair r

/-- The admission set: cause and addresses of the first failure, in ascending address, overlaps last. -/
def State.admissionFail (s : State) (rf : RegFile) : Option (Nat × Nat × Nat) :=
  let c := canvasCfg rf
  let as_ := admittedAddrs rf
  match as_.find? fun a => s.addrCause rf c a != 0 with
  | some a => some (s.addrCause rf c a, a, 0)
  | none => (overlapPair (as_.filterMap (s.region rf))).map fun p => (4, p.1.addr, p.2.addr)

/-- Step 8: DSC_CHECK is written. -/
def State.checkAdmission (s : State) (rf : RegFile) : Option CheckFail × State :=
  match s.admissionFail rf with
  | none => (none, s.setReg R.dscCheck 0)
  | some (cause, a, b) =>
    (some failPlain, s.setReg R.dscCheck (fieldSet (fieldSet (fieldSet 0 F.dscCheck_CAUSE cause) F.dscCheck_ADDR_A a) F.dscCheck_ADDR_B b))

/-! ### Step 9: Halyard admission (R213, R214) -/

/-- The payload rate that a LANE_CFG gives its port in 1/528 bit per ns: 6,425 a lane at Halyard-12, twice that at Halyard-25 (R175). -/
def cfgRate (v : Nat) : Nat :=
  6425 * 2 ^ fieldGet v F.laneCfg_WIDTH * (if fieldGet v F.laneCfg_RATE = 1 then 2 else 1)

/-- The hops behind a port on the way to an address, as the LANE_CFG of each tile's ingress lane; a hop not read yet is taken as the port's
own (R213, R234; log entry 76). -/
def State.pathHops (s : State) (own : Nat) : Nat → Nat → List Nat
  | 0, _ => []
  | n + 1, a =>
    let v := (s.tileEntry a).hop
    let parent := s.get (R.dscTopo a) F.dscTopo_PARENT
    (if v = 0 then own else v) :: (if parent = 0xFFF ∨ s.topoState a ≤ 1 then [] else s.pathHops own n parent)

/-- The ports of every path behind a feed port: its own and those to the addresses that it serves (R213). -/
def State.portPaths (s : State) (rf : RegFile) (l : Nat) : List Nat :=
  let own := s.reg (R.laneCfg l)
  own :: ((admittedAddrs rf).filter fun a => s.servedBy a == l).flatMap (s.pathHops own 32)

/-- Of two hops the slower; of two of one rate the one with the longer cut-through. -/
def slowerHop (a b : Nat) : Nat :=
  if cfgRate b < cfgRate a ∨ (cfgRate b = cfgRate a ∧ fieldGet b F.laneCfg_RATE = 2) then b else a

/-- The slowest port on any path behind a feed port, as its LANE_CFG (R213). -/
def State.slowestHop (s : State) (rf : RegFile) (l : Nat) : Nat := (s.portPaths rf l).foldl slowerHop (s.reg (R.laneCfg l))

/-- The model of R213 for one port: the finish time in units of 1/(9 rate) ns, the wire bytes, and the largest backlog. -/
structure PortModel where
  finish : Nat
  wire : Nat
  backlog : Nat
  deriving DecidableEq, Repr

/-- The model walked over the packets, each a ready time and its wire bytes; `waiting` holds the packets with done above the last
ready time. -/
def walkModel (u : Nat) : PortModel → List (Nat × Nat) → List (Nat × Nat) → PortModel
  | m, _, [] => m
  | m, waiting, (ready, wire) :: r =>
    let t := ready * (9 * u)
    let f := max m.finish t + 42240 * wire
    let w := (waiting.filter fun x => decide (t < x.1)) ++ [(f, wire)]
    walkModel u { finish := f, wire := m.wire + wire, backlog := max m.backlog (w.foldl (fun n x => n + x.2) 0) } w r

/-- The wire bytes of a slice of a count of lamps (R209). -/
def sliceWire (n : Nat) : Nat := wireLength (4 * ceilDiv (9 * n) 8)

/-- The wire bytes of the parts of a fragment of a size (R210). -/
def fragWires : Nat → Nat → Bool → List Nat
  | 0, _, _ => []
  | fuel + 1, n, first =>
    let room := if first then 2032 else 2048
    let head := if first then 16 else 0
    if n ≤ room then [wireLength (4 * ceilDiv (head + n) 4)] else wireLength 2048 :: fragWires fuel (n - room) false

/-- The packets of a port's slot in canvas mode, the DIGEST after the last (R213, R212). -/
def State.canvasLoad (s : State) (rf : RegFile) (l : Nat) : List (Nat × Nat) :=
  let ps := (s.slotSlices rf l).map fun a => (a.ready, sliceWire a.count)
  match ps.getLast? with
  | some z => ps ++ [(z.1, wireLength 48)]
  | none => []

/-- The packets of a port's frame in layer mode (R214). -/
def State.layerLoad (s : State) (rf : RegFile) (p : PatternRec) (l : Nat) : List (Nat × Nat) :=
  let gs := s.portRegions rf l
  let lists := (List.range p.slots).flatMap fun k => gs.map fun g =>
    wireLength (48 * ((tileLayers rf g).filter fun x => bitOf x.slots k).length)
  let frags := gs.flatMap fun g => (tileLayers rf g).flatMap fun x =>
    let n := s.fragSize rf g x
    fragWires (n / 2032 + 1) n true
  if gs.isEmpty then [] else (lists ++ frags ++ [wireLength 48]).map fun w => (0, w)

/-- The largest HOPS of a tile that a port serves; a tile not yet found counts as one hop. -/
def State.portHops (s : State) (rf : RegFile) (l : Nat) : Nat :=
  (s.portRegions rf l).foldl (fun h g => max h (max 1 (s.get (R.dscTopo g.addr) F.dscTopo_HOPS))) 0

/-- The admission result of a port: passed, LOAD, SPARE_US, the backlog. -/
structure PortResult where
  lane : Nat
  ok : Bool
  load : Nat
  spare : Nat
  backlog : Nat
  deriving DecidableEq, Repr

/-- A port under R213 or R214: the path rate, the per-hop allowance and the 90 % rule are those of its slowest path, LOAD is against the
port's own rate. -/
def State.portAdmission (s : State) (rf : RegFile) (p : PatternRec) (l : Nat) : PortResult :=
  let slow := s.slowestHop rf l
  let u := cfgRate slow
  let ps := if s.layerMode then s.layerLoad rf p l else s.canvasLoad rf l
  let m := walkModel u ⟨0, 0, 0⟩ [] ps
  let cut := if fieldGet slow F.laneCfg_RATE = 2 then 610 else 400
  let finish := m.finish + s.portHops rf l * (cut * (9 * u) + 79073280)
  let limit := ((canvasCfg rf).lead - 200000) * (9 * u)
  let bits := m.wire * 8 * p.slots * p.fpDen * 528
  let cap := p.fpNum * u * 1000000000
  let own := p.fpNum * cfgRate (s.reg (R.laneCfg l)) * 1000000000
  let ok := decide (finish ≤ limit ∧ bits * 10 ≤ 9 * cap)
  { lane := l, ok := ok, load := if own = 0 then 0 else min 1023 (bits * 1000 / own),
    spare := if ok then min 65535 ((limit - finish) / (9 * u * 1000)) else 0, backlog := m.backlog }

/-- The transmit staging of a quarter (R213, R32). -/
def State.staging (s : State) (q : Nat) : Nat :=
  if s.isF then 2097152
  else 1048576 - 262144 * ((List.range 24).countP fun i =>
    let l := 24 * q + i
    s.get (R.laneCfg l) F.laneCfg_ROLE == 2 && s.get (R.laneCfg l) F.laneCfg_POS == 0)

/-- The first port at which the summed backlog of its quarter exceeds the staging. -/
def State.stagingFail (s : State) (rs : List PortResult) : Option Nat :=
  (rs.find? fun r =>
    decide (s.staging (r.lane / 24) <
      (rs.filter fun x => x.lane / 24 == r.lane / 24 && decide (x.lane ≤ r.lane)).foldl (fun n x => n + x.backlog) 0)).map (·.lane)

/-- Step 9: HAL_PORT_LOAD of every port is written. -/
def State.checkPorts (s : State) (rf : RegFile) (p : PatternRec) : Option CheckFail × State :=
  let rs := s.halPorts.map (s.portAdmission rf p)
  let s1 := rs.foldl (fun t r => t.setReg (R.halPortLoad r.lane) (r.load + r.spare * 65536)) s
  let bad := match rs.find? fun r => !r.ok with
    | some r => some r.lane
    | none => if s.layerMode then none else s.stagingFail rs
  (bad.map fun l => ⟨6, none, none, some l⟩, s1)

/-! ### Steps 4 to 9 -/

/-- A check and then, where it passes, the next. -/
def andThen (r : Option CheckFail × State) (k : State → Option CheckFail × State) : Option CheckFail × State :=
  match r with
  | (none, s) => k s
  | x => x

/-- Steps 4 to 9 of R440 over a register file and a pattern. -/
def State.checks (s : State) (rf : RegFile) (p : PatternRec) : Option CheckFail × State :=
  andThen (s.checkValues rf p) fun s1 =>
    match badQuarter (canvasCfg rf) p with
    | some q => (some ⟨3, some q, none, none⟩, s1)
    | none =>
      andThen (s1.checkPeck rf) fun s2 =>
        if !s2.limitsOk rf then (some ⟨5, none, none, none⟩, s2)
        else andThen (s2.checkAdmission rf) fun s3 => s3.checkPorts rf p

/-- TOP_COMMIT_DETAIL names the unit of a failed check. -/
def State.showFail (s : State) (f : CheckFail) : State :=
  let k := R.topCommitDetail
  let s1 := match f.quarter with | some q => s.put k F.topCommitDetail_QUARTER q | none => s
  let s2 := match f.layer with | some n => s1.put k F.topCommitDetail_LAYER n | none => s1
  match f.lane with | some l => s2.put k F.topCommitDetail_LANE l | none => s2

end Sys2Proof.Machine
end

