-- ==== Sys2Proof/Machine/Measure.lean ====
section
/-! DEFINITION. The measurement registers of SEC (R393). -/

namespace Sys2Proof.Machine

/-- The 48 bytes of a digest, the most significant first. -/
def digestBytes (d : Digest) : List Nat := (leBytes 48 d.toNat).reverse

/-- The digest that 48 bytes spell. -/
def digestOf (bs : List Nat) : Digest := BitVec.ofNat 384 (leVal (bs.take 48).reverse)

/-- The bytes that a measurement register holds (SEC_MEAS), index 1 to 5. -/
def State.measBytes (s : State) (i : Nat) : List Nat :=
  (List.range 12).flatMap fun w => leBytes 4 (s.reg (R.secMeas (i - 1) w))

/-- A measurement register set to 48 bytes. -/
def State.setMeas (s : State) (i : Nat) (bs : List Nat) : State :=
  (List.range 12).foldl (fun t w => t.setReg (R.secMeas (i - 1) w) (leVal ((bs.drop (4 * w)).take 4))) s

/-- A measurement of an object by its digest (R393): M becomes SHA-384 of M and the inner digest. -/
def State.extend (s : State) (i : Nat) (inner : Digest) : State :=
  let m := Config.sha384 (s.measBytes i ++ digestBytes inner)
  let s1 := s.setMeas i (digestBytes m)
  { s1 with boot := { s1.boot with inner := s1.boot.inner.set (i - 1) inner } }

end Sys2Proof.Machine
end

