-- ==== Sys2Proof/Machine/Queues.lean ====
section
/-! DEFINITION. The queue manager (R114 to R118): the QM registers, enable and disable, doorbells and QM_CONSUME; and the HBM
power states (R111 to R113). -/

namespace Sys2Proof.Machine

/-- The queues of the build (Hardware queues). -/
def State.queueTotal (s : State) : Nat := if s.isF then 262144 else 2048

/-- The queue that QM_SEL names. -/
def State.selQueue (s : State) : Nat := s.get R.qmSel F.qmSel_QUEUE

/-- What QM_CTX_CFG reads of a queue. -/
def State.ctxCfg (s : State) (q : Nat) : Nat :=
  let x := s.queue q
  x.enabled.toNat + x.sizeLog2 * 2 + x.esize * 2 ^ 6 + (s.queueClass q).getD 0 * 2 ^ 8 + x.hostSpace.toNat * 2 ^ 11 +
    x.vector * 2 ^ 12 + x.pin.toNat * 2 ^ 23

/-- A write of QM_CTX_CFG or QM_CTX_BASE: ignored and reported while the selected queue is enabled (R118). -/
def State.ctxWrite (s : State) (key value : Nat) (req : Requester) : State :=
  let q := s.selQueue
  let x := s.queue q
  if x.enabled then s.progError key value req
  else if key = R.qmCtxCfg then
    s.setQueue q { x with sizeLog2 := fieldGet value F.qmCtxCfg_SIZE_LOG2, esize := fieldGet value F.qmCtxCfg_ESIZE,
                          hostSpace := fieldGet value F.qmCtxCfg_SPACE == 1, vector := fieldGet value F.qmCtxCfg_VECTOR,
                          pin := fieldGet value F.qmCtxCfg_PIN == 1 }
  else s.setQueue q { x with base := value / 4096 % 2 ^ 52 * 4096 }

/-- The entry size that a class fixes for a queue, in bytes (the queue classes table). -/
def classEntry (cls q : Nat) : Nat :=
  match cls with
  | 0 => 32 | 1 => 32 | 2 => 64 | 3 => if q % 2 = 0 then 64 else 16 | _ => 32

/-- The queues that are pinned: every enabled event queue, and the enabled ones with PIN (R117). -/
def State.pinned (s : State) : Nat :=
  s.queues.countP fun e => e.2.enabled && (e.2.pin || s.queueClass e.1 == some 1)

/-- Why an enable is refused: the REASON code of QM_CMD, 0 for none. -/
def State.enableReason (s : State) (q : Nat) : Nat :=
  let x := s.queue q
  match s.pool q with
  | none => 1
  | some p =>
    if s.queueTotal ≤ q then 1
    else if x.sizeLog2 < 6 ∨ 24 < x.sizeLog2 then 2
    else if decide ((if x.hostSpace then 2 ^ 64 else s.sharedSize) < x.base + x.size * x.entryBytes) then 2
    else if x.esize = 3 ∨ !p.sizes.contains x.entryBytes ∨ classEntry p.cls q ≠ x.entryBytes then 3
    else if x.base % 4096 ≠ 0 then 4
    else if x.enabled then 5
    else if (x.pin || p.cls == 1) && decide (1024 ≤ s.pinned) then 6
    else 0

/-- RESULT and REASON of QM_CMD. -/
def State.qmResult (s : State) (result reason : Nat) : State :=
  (s.put R.qmCmd F.qmCmd_RESULT result).put R.qmCmd F.qmCmd_REASON reason

/-- A write of QM_CMD (R118). -/
def State.qmCmdWrite (s : State) (value : Nat) : State :=
  let q := s.selQueue
  let op := fieldGet value F.qmCmd_OP
  if op = 1 then
    let r := s.enableReason q
    if r = 0 then (s.setQueue q { s.queue q with enabled := true, p := 0, c := 0, disabling := false }).qmResult 1 0
    else s.qmResult 2 r
  else if op = 2 then
    let x := s.queue q
    if x.enabled then (s.setQueue q { x with disabling := true }).qmResult 0 0 else s.qmResult 1 0
  else s

/-- QUEUE_ENABLE (R118): a write of QM_CMD. -/
def execQueueEnable (req : Requester) (value : Word) (s : State) : Out :=
  .next (s.byReq req (if s.live .qm then s.qmCmdWrite value.toNat else s))

/-- QUEUE_DISABLE (R118): a write of QM_CMD. -/
def execQueueDisable (req : Requester) (value : Word) (s : State) : Out :=
  .next (s.byReq req (if s.live .qm then s.qmCmdWrite value.toNat else s))

/-- QUEUE_DISABLE_DONE: the consumer has finished its entry and the queue is disabled (R118). -/
def State.disableDone (s : State) (q : Nat) : State :=
  let x := s.queue q
  if x.disabling then
    let s1 := s.setQueue q { x with enabled := false, disabling := false }
    if s1.selQueue = q then s1.qmResult 1 0 else s1
  else s

/-- QUEUE_DISABLE_DONE (R118). -/
def execQueueDisableDone (queue : BitVec 18) (s : State) : Out := .next (s.disableDone queue.toNat)

/-- C of a queue takes an index (R115); one that passes P is dropped and reported. -/
def State.qmConsume (s : State) (value : Nat) (req : Requester) : State :=
  let q := fieldGet value F.qmConsume_QUEUE
  let i := fieldGet value F.qmConsume_INDEX
  let x := s.queue q
  let cls := s.queueClass q
  let ok := (cls == some 1 || cls == some 4) && x.enabled && decide (i < x.size) &&
    decide ((i + x.size - x.c) % x.size ≤ (x.p + x.size - x.c) % x.size)
  if ok then s.setQueue q { x with c := i } else s.progError R.qmConsume (value % 2 ^ 32) req

/-- QM_CONSUME (R115). -/
def execQmConsume (req : Requester) (value : BitVec 64) (s : State) : Out :=
  .next (s.byReq req (if s.live .qm then s.qmConsume value.toNat req else s))

/-- A hardware producer puts an entry into its ring, or keeps it while the ring is full (R116). -/
def State.produce (s : State) (q : Nat) (bytes : List Nat) : State :=
  let x := s.queue q
  if x.enabled && !x.isFull && !(s.qmWait.any fun e => e.1 == q) then s.pushEntry q bytes
  else { s with qmWait := s.qmWait ++ [(q, bytes)] }

/-- PRODUCER_RETRY: the oldest entry kept for a queue is tried again (R116). -/
def State.retry (s : State) (q : Nat) : State :=
  match findIdxFrom (fun e => e.1 == q) 0 s.qmWait with
  | some (i, e) =>
    let x := s.queue q
    if x.enabled && !x.isFull then ({ s with qmWait := s.qmWait.eraseIdx i } : State).pushEntry q e.2 else s
  | none => s

/-- PRODUCER_RETRY (R116). -/
def execProducerRetry (queue : BitVec 18) (s : State) : Out := .next (s.retry queue.toNat)

/-- A doorbell (R53, R115): P of a class 0 or 4 queue takes an index inside the ring; any other is dropped and reported. A queue that is not
enabled ignores it (R118). An index behind P passes every check of R53 and is taken: R114 forbids it to the producer and gives it no
effect of its own (DEDUCED, log entry 134). -/
def State.doorbell (s : State) (q index off : Nat) (req : Requester) : State :=
  let x := s.queue q
  let cls := s.queueClass q
  if !(cls == some 0 || cls == some 4) || decide (x.size ≤ index) then s.progErrorIn .qm off index req
  else if x.enabled then s.setQueue q { x with p := index } else s

/-! ### HBM power states (R111 to R113) -/

/-- A real-time DMA channel runs. -/
def State.realTimeRuns (s : State) : Bool :=
  (List.range 128).any fun c => s.flag (R.dmaChCfg c) F.dmaChCfg_PRIO && s.flag (R.dmaChCtrl c) F.dmaChCtrl_RUN

/-- The tolerance of the receive burst buffers from a standing start, in ns: 262,144 B at the rate of the fastest configured Ethernet port
(R111, R113); none without one. -/
def State.ingTolerance (s : State) : Option Nat :=
  match s.ldr.image with
  | some i =>
    match (portsOf i.body.lanes .ethernet).map fun l => ethRate (laneOf i.body.lanes l) with
    | [] => none
    | r :: rs => some (262144 * 8 / rs.foldl max r)
  | none => none

/-- The tolerance that a consumer publishes (R111, the HBM consumers table): the value its buffers and deadlines give, never below 1,000 ns;
0xFFFF for the compositors while the sequencer is IDLE and for the DMA with no real-time channel running; for ING no more than that
of a standing start while a port is configured. -/
def State.tolerance (s : State) (c : Nat) : Nat :=
  let v := max 1000 (s.get (R.hbmTol c) F.hbmTol_TOL)
  if c ≤ 3 then (if s.seq.state = .idle then 0xFFFF else v)
  else if c = 6 then (match s.ingTolerance with | some t => min t v | none => 0xFFFF)
  else if c = 7 then (if s.realTimeRuns then v else 0xFFFF)
  else if c ≤ 10 then v
  else 0xFFFF

/-- The effective tolerance in ns, and the consumer that has it; 0xF when SW_TOL governs (R112). -/
def State.hbmTolerance (s : State) : Nat × Nat :=
  let all := (List.range 16).map fun c => (s.tolerance c, c)
  let m := all.foldl (fun a e => if e.1 < a.1 then e else a) (0xFFFF, 0)
  let sw := s.get R.hbmPowerCfg F.hbmPowerCfg_SW_TOL
  if sw ≠ 0 ∧ sw < m.1 then (sw, 0xF) else m

/-- LTR reports the effective tolerance over a link that is up (R48, R112). -/
def State.reportLtr (s : State) : State :=
  if s.hif.linkUp then { s with hif := { s.hif with ltr := s.hbmTolerance.1 } } else s

/-- HBM_POWER_DOWN (R112). -/
def execHbmPowerDown (s : State) : Out :=
  .next (if s.hbmServes && s.hbmState == 1 && s.flag R.hbmPowerCfg F.hbmPowerCfg_PD_EN && decide (600 ≤ s.hbmTolerance.1) then
    (s.hbmTo 2).count R.hbmSleepCount F.hbmSleepCount_PD
  else s)

/-- HBM_SELF_REFRESH (R112). -/
def execHbmSelfRefresh (s : State) : Out :=
  .next (if s.hbmServes && (s.hbmState == 1 || s.hbmState == 2) && s.flag R.hbmPowerCfg F.hbmPowerCfg_SR_EN &&
      decide (6000 ≤ s.hbmTolerance.1) then (s.hbmTo 3).count R.hbmSleepCount F.hbmSleepCount_SR
  else s)

/-- The state follows the effective tolerance: a fall below the entry level of the state in force ends it (R112), where the HBM is not held
(R113); the host hears of it (R48). -/
def State.hbmJudge (s : State) : State :=
  let t := s.hbmTolerance.1
  let low := (s.hbmState == 2 && decide (t < 600)) || (s.hbmState == 3 && decide (t < 6000))
  (if low && s.hbmServes then s.hbmTo 1 else s).reportLtr

/-- A write of HBM_POWER_CFG: SW_TOL is one more consumer (R112). -/
def State.hbmPowerWrite (s : State) (value : Nat) : State :=
  let k := R.hbmPowerCfg
  (((s.put k F.hbmPowerCfg_PD_EN (fieldGet value F.hbmPowerCfg_PD_EN)).put k F.hbmPowerCfg_SR_EN
    (fieldGet value F.hbmPowerCfg_SR_EN)).put k F.hbmPowerCfg_SW_TOL (fieldGet value F.hbmPowerCfg_SW_TOL)).hbmJudge

/-- HBM_WAKE (R112): an access, or the tolerance that the buffers and deadlines of a consumer now give (R111). -/
def execHbmWake (fall : Option (Fin 11 × BitVec 16)) (s : State) : Out :=
  .next (if s.hbmServes then
    match fall with
    | some (c, v) => (s.put (R.hbmTol c.val) F.hbmTol_TOL (max 1000 v.toNat)).hbmJudge
    | none => s.hbmTouch
  else s)

end Sys2Proof.Machine
end

