-- ==== Sys2Proof/Machine/Codec.lean ====
section
/-! DEFINITION. The HEVC engines (R331 to R347, R355, R356): decoding into a source ring, encoding under a cap, the access-unit
entries, and the shed steps that stop streams. -/

namespace Sys2Proof

/-- An SPS that the decoder accepts (R331): Main, Main 10, Main 4:2:2 10 or Main 4:4:4 12, up to level 6.2, progressive. The codes of
profile, level and sampling are those of H.265 (PRESUMED, log entry 155). -/
def AccessUnit.spsOk (au : AccessUnit) : Bool :=
  let c := au.chroma.toNat
  let d := au.depth.toNat
  !au.fieldSeq && decide (au.level.toNat ≤ 186) && decide (8 ≤ d) &&
    match au.profile.toNat with
    | 1 => c == 1 && d == 8
    | 2 => c == 1 && decide (d ≤ 10)
    | 4 => decide (1 ≤ c) && decide (d ≤ 12)
    | _ => false

/-- The parameter sets of an access unit are there, and its SPS is refused (R331, R334). -/
def AccessUnit.spsRefused (au : AccessUnit) : Bool := au.setsOk && !au.spsOk

end Sys2Proof

namespace Sys2Proof.Machine

/-! ### Streams -/

/-- A decode stream beside its registers. -/
def State.dec (s : State) (d : Nat) : DecSt :=
  (s.cdc.decs.find? fun x => x.stream == d).getD
    { stream := d, marks := [], conceal := false, mismatch := false, waiting := [], stopped := false, first := false }

/-- The state with a decode stream set. -/
def State.setDec (s : State) (x : DecSt) : State :=
  { s with cdc := { s.cdc with decs := (s.cdc.decs.filter fun y => y.stream != x.stream) ++ [x] } }

/-- An encode stream before its first picture. -/
def encFresh (e : Nat) : EncSt :=
  { stream := e, run := none, idrReq := false, sinceIdr := none, bits := [], skipNext := false, skipped := false,
    exhausted := false, chain := 0, last := none, wpos := 0, starts := [], doneFrame := none, stopped := false }

/-- An encode stream beside its registers. -/
def State.enc (s : State) (e : Nat) : EncSt := (s.cdc.encs.find? fun x => x.stream == e).getD (encFresh e)

/-- The state with an encode stream set. -/
def State.setEnc (s : State) (x : EncSt) : State :=
  { s with cdc := { s.cdc with encs := (s.cdc.encs.filter fun y => y.stream != x.stream) ++ [x] } }

/-- The shed step in force (R365); CDC_STATUS.SHED shows it, anew at each commit check. -/
def State.shed (s : State) : Nat := s.get R.thmStatus F.thmStatus_SHED

/-- The settings of an encode stream in force. -/
def State.encNow (s : State) (e : Nat) : EncCfg := encCfg s.active e

/-- The state code of a decode stream: 0 OFF, 1 WAIT_IRAP, 2 DECODING, 3 ERROR. -/
def State.decState (s : State) (d : Nat) : Nat := s.get (R.cdcDecStatus d) F.cdcDecStatus_STATE

/-- A decode stream takes a state. -/
def State.decTo (s : State) (d st : Nat) : State := s.put (R.cdcDecStatus d) F.cdcDecStatus_STATE st

/-- The codec after a commit took effect (R334): a stream newly enabled starts anew, stopped where codec throughput is shed (R356), a
decode stream no longer enabled is off; a picture being coded is never abandoned (R345). -/
def State.codecCommitted (s : State) (old : RegFile) : State :=
  let s1 := (List.range 16).foldl (fun t d =>
    match decodeSource old d, decodeSource t.active d with
    | none, some _ =>
      let shed := decide (4 ≤ t.shed)
      let t1 := (t.setDec { stream := d, marks := [], conceal := false, mismatch := false, waiting := [], stopped := shed,
                            first := false }).decTo d 1
      if shed then t1.raise .cdc 7 1 d else t1
    | some _, none => t.decTo d 0
    | _, _ => t) s
  (List.range 8).foldl (fun t e =>
    if (t.encNow e).en && !(encCfg old e).en then t.setEnc { encFresh e with run := (t.enc e).run } else t) s1

/-! ### Decoding (R334 to R337) -/

/-- A decoded sample at 10 bits (R335); for other depths than 8, 10 and 12 the spec gives none (log entry 3). -/
def toTen (depth v : Nat) : Nat :=
  if depth = 8 then v * 4 % 1024
  else if depth = 10 then v % 1024
  else if depth = 12 then min 1023 ((v + 2) / 4)
  else Config.openSample depth v % 1024

/-- A row decimated horizontally (R335). -/
def decimateRow (row : List Nat) : List Nat :=
  let n := row.length
  let c := fun (i : Nat) => row.getD (min i (n - 1)) 0
  (List.range (n / 2)).map fun i => (c (2 * i - 1) + 2 * c (2 * i) + c (2 * i + 1) + 2) / 4

/-- Rows decimated vertically in pairs (R335). -/
def decimateRows : List (List Nat) → List (List Nat)
  | a :: b :: r => (a.zip b).map (fun x => (x.1 + x.2 + 1) / 2) :: decimateRows r
  | [a] => [a]
  | [] => []

/-- A plane cut into rows of a width. -/
def rowsOf (w h : Nat) (plane : List Nat) : List (List Nat) := (List.range h).map fun j => (plane.drop (j * w)).take w

/-- The width and height of a chroma plane of a sampling: 0 4:2:0, 1 4:2:2, 2 4:4:4. -/
def chromaSize (sampling w h : Nat) : Nat × Nat := (if sampling = 2 then w else w / 2, if sampling = 0 then h / 2 else h)

/-- Chroma rows brought from a sampling to a coarser one (R335). -/
def decimate (from_ to_ : Nat) (rows : List (List Nat)) : List (List Nat) :=
  let h := if from_ = 2 ∧ to_ < 2 then rows.map decimateRow else rows
  if from_ ≠ 0 ∧ to_ = 0 then decimateRows h else h

/-- Samples of 16 bits as bytes. -/
def samples16 (l : List Nat) : List Byte := (l.flatMap (leBytes 2)).map (BitVec.ofNat 8)

/-- An output picture written into a slot of a source ring in format 0x06 (R335). -/
def State.writeDecoded (s : State) (c : SrcCfg) (slot : Nat) (p : DecPic) : State :=
  let at_ := c.base + slot * c.slotBytes
  let (cw, ch) := chromaSize p.chroma.val p.width p.height
  let plane := fun (x : List Nat) => decimate p.chroma.val 0 (rowsOf cw ch (x.map (toTen p.depth)))
  let luma := rowsOf p.width p.height (p.luma.map (toTen p.depth))
  let s1 := (luma.zipIdx).foldl (fun t r => t.memWrite (at_ + r.2 * c.lineBytes) (samples16 r.1)) s
  let pairs := ((plane p.cb).zip (plane p.cr)).zipIdx
  pairs.foldl (fun t r => t.memWrite (at_ + c.lineBytes * c.height + r.2 * c.lineBytes)
    (samples16 ((r.1.1.zip r.1.2).flatMap fun x => [x.1, x.2]))) s1

/-- A picture is output (R334): discarded where its size is not the source's, or where slot W is held (R90). -/
def State.outputPic (s : State) (d i : Nat) (p : DecPic) : State :=
  let x := s.dec d
  match sLookup x.marks p.unit with
  | none => s
  | some bad =>
    let s1 := s.setDec { x with marks := x.marks.filter fun m => m.1 != p.unit }
    let c := s1.srcNow i
    if p.width ≠ c.width ∨ p.height ≠ c.height then
      let s2 := s1.srcDrop i
      if x.mismatch then s2 else (s2.setDec { s2.dec d with mismatch := true }).raise .cdc 2 2 d
    else
      let w := s1.writeSlot i
      if s1.slotHeld i w then s1.srcDrop i else (s1.writeDecoded c w p).completeFrame i w bad

/-- An access unit is decoded in DECODING (R334, R336, R337); a RASL picture of the IRAP at which decoding started is not output. -/
def State.decodeUnit (s : State) (d i : Nat) (au : AccessUnit) : State :=
  let x0 := s.dec d
  let x := if au.irap then { x0 with conceal := false, mismatch := false, first := false } else x0
  let conceal := x.conceal || au.refMissing || decide (0 < au.badSlices)
  let shown := au.outputFlag && !(au.rasl && x.first)
  let s1 := s.setDec { x with conceal := conceal, marks := if shown then x.marks ++ [(au.unit, conceal)] else x.marks }
  let s2 := s1.put (R.cdcDecStatus d) F.cdcDecStatus_CONCEALING conceal.toNat
  let s3 := if au.refMissing then s2.raise .cdc 3 2 d else s2
  let s4 := s3.count (R.cdcDecStatus d) F.cdcDecStatus_ERRORS au.badSlices
  let s5 := if conceal && shown then s4.count (R.cdcDecStatus d) F.cdcDecStatus_CONCEALED else s4
  au.outputs.foldl (fun t p => t.outputPic d i p) s5

/-- The oldest access unit that waits for a decode stream is taken from its input (R334); none if none waits. -/
def State.takeUnit (s : State) (d i : Nat) : Option State :=
  if s.actGet (R.cdcDecCtrl d) F.cdcDecCtrl_INPUT = 0 then
    let x := s.src i
    match x.hevc.done with
    | _ :: r => some (s.setSrc i { x with hevc := { x.hevc with done := r } })
    | [] => none
  else
    let x := s.dec d
    match x.waiting with
    | _ :: r => some (s.setDec { x with waiting := r })
    | [] => none

/-- A stream starts to decode at an IRAP access unit whose parameter sets are there (R334). -/
def State.startDecoding (s : State) (d i : Nat) (au : AccessUnit) : State :=
  let s1 := s.setDec { s.dec d with conceal := false, mismatch := false, marks := [] }
  let k := R.cdcDecStatus d
  let s2 := ((s1.decTo d 2).put k F.cdcDecStatus_PROFILE au.profile.toNat).put k F.cdcDecStatus_LEVEL au.level.toNat
  let s3 := s2.decodeUnit d i au
  s3.setDec { s3.dec d with first := true }

/-- ACCESS_UNIT of a stream whose source is `i` (R334). -/
def State.accessUnit (s : State) (d i : Nat) (au : AccessUnit) : State :=
  match s.takeUnit d i with
  | none => s
  | some s1 =>
    let st := s1.decState d
    if st = 0 ∨ (s1.dec d).stopped then s1
    else if au.spsRefused && (au.irap || st == 2) then (s1.decTo d 3).raise .cdc 1 3 d
    else if st = 2 then (if au.setsOk then s1.decodeUnit d i au else s1.decTo d 1)
    else if au.irap && au.setsOk then s1.startDecoding d i au
    else s1

/-- ACCESS_UNIT (R334). -/
def execAccessUnit (stream : Fin 16) (au : AccessUnit) (s : State) : Out :=
  .next (if s.live .cdc && !s.rst.inReset then
    match decodeSource s.active stream.val with
    | some i => s.accessUnit stream.val i au
    | none => s
  else s)

/-! ### Encoder input (R338, R339) -/

/-- RGB to YCbCr coefficients: rows Y, Cb, Cr (R339). -/
def rgbCoef (cspace : Nat) : List (List Int) :=
  if cspace = 0 then [[745, 2507, 253], [-411, -1382, 1793], [1793, -1628, -165]]
  else [[921, 2376, 208], [-501, -1292, 1793], [1793, -1648, -145]]

/-- One component of R339 from 12-bit RGB, at 10 or at 12 bits. -/
def rgbToYuv (cspace row : Nat) (twelve : Bool) (p : Pix) : Nat :=
  let k := (rgbCoef cspace).getD row []
  let v := k.getD 0 0 * p.r + k.getD 1 0 * p.g + k.getD 2 0 * p.b
  let off : Int := if twelve then (if row = 0 then 256 else 2048) else (if row = 0 then 64 else 512)
  if twelve then (clampInt 0 4095 ((v + off * 4096 + 2048) / 4096)).toNat
  else (clampInt 0 1023 ((v + off * 16384 + 8192) / 16384)).toNat

/-- A 12-bit YCbCr sample at the depth of a profile. -/
def toDepth (twelve : Bool) (v : Nat) : Nat := if twelve then v else min 1023 ((v + 2) / 4)

/-- Rows of a plane from a function of place. -/
def planeOf (w h : Nat) (f : Nat → Nat → Nat) : List (List Nat) := (List.range h).map fun y => (List.range w).map fun x => f x y

/-- The chroma sampling of a layer format. -/
def formatSampling (f : Nat) : Nat := if f = 6 then 0 else if f = 4 ∨ f = 5 then 1 else 2

/-- The input of an encoder as planes in the sampling and depth of its profile (R339): RGB by the matrix, YCbCr as it stands,
decimated as in R335; towards a finer sampling it is interpolated as in R137. The remaining formats have no conversion in the spec,
so their samples are free (log entry 3). -/
def encodePlanes (rd : Nat → Nat) (p : PicRef) (profile cspace free : Nat) : Planes :=
  let twelve := profile == 2
  let to_ := min 2 profile
  let w := p.width
  let h := p.height
  let rgb := fun (x y : Nat) => srcPixel rd p (layerCfg [] 0 0) x y
  let out := fun (luma cb cr : List (List Nat)) =>
    ({ width := w, height := h, sampling := to_, luma := luma.flatten, cb := cb.flatten, cr := cr.flatten } : Planes)
  if 1 ≤ p.format ∧ p.format ≤ 3 then
    let comp := fun (r : Nat) => planeOf w h fun x y => rgbToYuv cspace r twelve (rgb x y)
    out (comp 0) (decimate 2 to_ (comp 1)) (decimate 2 to_ (comp 2))
  else if p.format = 4 ∨ p.format = 5 ∨ p.format = 6 ∨ p.format = 0xA then
    let from_ := formatSampling p.format
    let (cw, ch) := chromaSize (max from_ to_) w h
    let chroma := fun (second : Bool) =>
      if from_ ≥ to_ then decimate from_ to_ (planeOf cw ch fun i j => toDepth twelve (chromaAt rd p second i j))
      else if to_ = 2 then planeOf cw ch fun x y => toDepth twelve (chromaPixel rd p second x y)
      else planeOf cw ch fun i y => toDepth twelve (chromaRow rd p second i y)
    out (planeOf w h fun x y => toDepth twelve (lumaAt rd p x y)) (chroma false) (chroma true)
  else
    let (cw, ch) := chromaSize to_ w h
    let open_ := fun (n o : Nat) => (List.range n).map fun i => Config.openInput free (o + i) % (if twelve then 4096 else 1024)
    { width := w, height := h, sampling := to_, luma := open_ (w * h) 0, cb := open_ (cw * ch) (w * h),
      cr := open_ (cw * ch) (w * h + cw * ch) }

/-- What an encode stream takes at a picture start (R338): the picture, its frame, whether it is incomplete. -/
structure EncInput where
  pic : PicRef
  frame : Nat
  incomplete : Bool
  deriving DecidableEq, Repr

/-- The newest slot of the write-back ring (R155, R338). -/
def State.wbInput (s : State) : EncInput :=
  let w := wbCfg s.active
  { pic := { source := 0, base := w.base, slotBytes := w.slotBytes, lineBytes := w.lineBytes, format := 3, width := w.w,
             height := w.h, slot := s.get R.cmpWbStatus F.cmpWbStatus_NEWEST, concealed := false, serial := 0 },
    frame := s.reg R.cmpWbFrame, incomplete := s.flag R.cmpWbStatus F.cmpWbStatus_INCOMPLETE }

/-- The input of an encode stream now: for CAPTURE the bound picture that has not been encoded (R338). -/
def State.encInput (s : State) (e : Nat) : Option EncInput :=
  let c := s.encNow e
  if c.mode = 2 then
    let x := s.src c.src
    match x.bound, s.bindFrame with
    | some p, some n =>
      if x.boundAt.isSome ∧ x.boundAt = (s.enc e).doneFrame then none
      else some { pic := p, frame := ofSigned 48 n, incomplete := false }
    | _, _ => none
  else some s.wbInput

/-! ### Rate control and space (R342, R343, R346) -/

/-- B of the next picture of a stream (R342). -/
def encBudget (c : EncCfg) (bits : List Nat) : Int :=
  (c.maxBits : Int) - (((bits.drop (bits.length - (c.window - 1))).foldl (· + ·) 0 : Nat) : Int)

/-- The entries of a stream's queue that are not consumed, those kept for it among them. -/
def State.unconsumed (s : State) (q : Nat) : Nat :=
  let x := s.queue q
  (x.p + x.size - x.c) % x.size + s.qmWait.countP fun e => e.1 == q

/-- The bytes of an output buffer that the unconsumed access units hold, and their starts (R346). -/
def State.encUsed (s : State) (c : EncCfg) (x : EncSt) : Nat × List Nat :=
  let n := s.unconsumed c.queue
  let live := x.starts.drop (x.starts.length - n)
  let size := 2 ^ c.log2
  match live with
  | [] => (0, [])
  | a :: _ =>
    let d := (x.wpos % size + size - a % size) % size
    (if d = 0 then size else d, live)

/-- The space that R346 requires at a picture start is there. -/
def State.encSpace (s : State) (c : EncCfg) (x : EncSt) (budget : Int) : Bool :=
  let used := (s.encUsed c x).1
  let q := s.queue c.queue
  decide (budget / 8 + 4096 + used ≤ ((2 ^ c.log2 : Nat) : Int)) && q.enabled && !q.isFull &&
    !(s.qmWait.any fun e => e.1 == c.queue)

/-! ### The shed steps (R356) -/

/-- A shed step stops the streams of an encode mode: 1 CAPTURE, 2 RECORD, 4 RETURN. -/
def shedStops (shed mode : Nat) : Bool :=
  (mode == 2 && decide (1 ≤ shed)) || (mode == 0 && decide (2 ≤ shed)) || (mode == 1 && decide (4 ≤ shed))

/-- The shed step in force changes (R356, R365): at 3 the motion search of every enabled encode stream is reduced, at 4 the RETURN
streams and then the decode streams stop in descending number; a withdrawn step lets them start again. -/
def State.shedTo (s : State) (n : Nat) : State :=
  let was := s.shed
  let s1 := (s.put R.cdcStatus F.cdcStatus_SHED n).put R.thmStatus F.thmStatus_SHED n
  let s2 := if n = 3 ∧ was < 3 then
      (List.range 8).foldl (fun t e => if (t.encNow e).en then t.raise .cdc 7 1 (16 + e) else t) s1
    else s1
  if 4 ≤ n ∧ was < 4 then
    let s3 := (List.range 8).reverse.foldl (fun t e =>
      if (t.encNow e).en && (t.encNow e).mode == 1 && !(t.enc e).stopped then
        (t.setEnc { t.enc e with stopped := true }).raise .cdc 7 1 (16 + e)
      else t) s2
    (List.range 16).reverse.foldl (fun t d =>
      if t.decState d = 0 then t
      else
        let t1 := if t.decState d = 2 then t.decTo d 1 else t
        (t1.setDec { t1.dec d with stopped := true, conceal := false, marks := [] }).raise .cdc 7 1 d) s3
  else if n < 4 ∧ 4 ≤ was then
    (List.range 16).foldl (fun t d => if (t.dec d).stopped then t.setDec { t.dec d with stopped := false } else t) s2
  else s2

/-! ### A picture start -/

/-- The running pictures that hold a partition of the motion-search cache (R341). -/
def State.searching (s : State) : Nat :=
  s.cdc.encs.countP fun x => match x.run with | some r => r.search | none => false

/-- The reach of motion search to each side, across and down, of the shed step in force (R341, R356). -/
def State.motionReach (s : State) : Nat × Nat := if 3 ≤ s.shed then (64, 32) else (256, 128)

/-- A picture is coded: its input is read and the run begins (R338 to R344). -/
def State.encBegin (s : State) (e : Nat) (inp : EncInput) (budget : Int) : State :=
  let c := s.encNow e
  let x := s.enc e
  let idr : Bool := x.idrReq || (match x.sinceIdr with
    | none => true
    | some n => c.idrPeriod != 0 && n + 1 == c.idrPeriod)
  let search := !idr && decide (s.searching < 4)
  let (_, s1) := s.fresh 1
  let run : EncRun :=
    { start := s.clock.now, frame := inp.frame, slot := inp.pic.slot, idr := idr, budget := budget, search := search,
      reach := s.motionReach, incomplete := inp.incomplete, gen := s.genFor inp.frame, late := false, skippedBefore := x.skipped,
      input := encodePlanes s.rd inp.pic c.profile c.cspace s.freeCount }
  let s2 := s1.setEnc { x with
    run := some run, idrReq := false, sinceIdr := some (if idr then 0 else x.sinceIdr.getD 0 + 1), skipped := false,
    starts := (s.encUsed c x).2,
    doneFrame := if c.mode = 2 then (s.src c.src).boundAt else x.doneFrame }
  let s3 := if !idr && !search then s2.count (R.cdcEncStatus e) F.cdcEncStatus_NO_MS else s2
  if c.mode = 2 then s3.showHeld c.src else s3

/-- A picture start of an enabled stream (R338, R345, R346, R356). -/
def State.encodeStart (s : State) (e : Nat) : State :=
  let c := s.encNow e
  let x := s.enc e
  if shedStops s.shed c.mode then
    if x.stopped then s else (s.setEnc { x with stopped := true }).raise .cdc 7 1 (16 + e)
  else
    let x1 := if x.stopped then { x with stopped := false, idrReq := true } else x
    let s1 := s.setEnc x1
    match s1.encInput e with
    | none => s1
    | some inp =>
      if x1.run.isSome ∨ x1.skipNext then s1.setEnc { x1 with skipped := true, skipNext := false }
      else
        let b := encBudget c x1.bits
        if s1.encSpace c x1 b then s1.encBegin e inp b
        else (s1.count (R.cdcEncStatus e) F.cdcEncStatus_FULL).raiseLimited 1 .cdc 5 2 (16 + e)

/-- ENCODE_START: a stream takes its picture of the trigger pulse or the binding instant that has come (R338). -/
def execEncodeStart (stream : Fin 8) (s : State) : Out :=
  .next (if s.cdc.due.contains stream.val then
    let s1 : State := { s with cdc := { s.cdc with due := s.cdc.due.erase stream.val } }
    if s.live .cdc && !s.rst.inReset && (s.encNow stream.val).en then s1.encodeStart stream.val else s1
  else s)

/-- IDR_REQUEST (R344): a write of CDC_ENC_CMD. -/
def State.encCmdWrite (s : State) (e value : Nat) : State :=
  if s.live .cdc && fieldGet value F.cdcEncCmd_IDR == 1 then s.setEnc { s.enc e with idrReq := true } else s

/-- IDR_REQUEST (R344). -/
def execIdrRequest (req : Requester) (stream : Fin 8) (value : Word) (s : State) : Out :=
  .next (s.byReq req (if s.live .cdc then s.encCmdWrite stream.val value.toNat else s))

/-! ### The deadline (R345) -/

/-- The deadline of the picture being coded: its start plus one frame or one source period. -/
def State.encDue (s : State) (e : Nat) (r : EncRun) : Nat :=
  let c := s.encNow e
  if c.mode = 2 then
    let f := s.srcNow c.src
    r.start + ceilDiv (f.num * 1000000000) f.den
  else match s.pattern with
    | some p => r.start + periodCeil p
    | none => r.start

/-- ENCODE_DEADLINE: the picture being coded has missed its deadline (R345, R405). -/
def execEncodeDeadline (stream : Fin 8) (s : State) : Out :=
  .next (let e := stream.val
    let x := s.enc e
    match x.run with
    | some r =>
      if s.live .cdc && !r.late then
        let s1 := s.setEnc { x with run := some { r with late := true }, skipNext := true }
        (s1.count (R.cdcEncStatus e) F.cdcEncStatus_LATE).raiseDeadline .cdc 4 (16 + e)
          [r.frame % 2 ^ 32, (wbCfg s.active).slot, s.encDue e r % 2 ^ 32, 16 + e]
      else s
    | none => s)

/-! ### The end of a picture (R343, R346, R347) -/

/-- The budget of a picture is exhausted (R343): at the start of some row after the first the bits of the rows before it and a reserve
of 32 bits for every CTU of the rows left exceed it. -/
def rowsExhausted (rowBits : List Nat) (perRow : Nat) (budget : Int) : Bool :=
  (List.range rowBits.length).any fun r => r != 0 &&
    decide (budget < (((rowBits.take r).foldl (· + ·) 0 + 32 * perRow * (rowBits.length - r) : Nat) : Int))

/-- Emulation prevention of H.265: a byte of 3 goes before a byte of at most 3 that follows two zero bytes. -/
def emulate : Nat → List Nat → List Nat
  | _, [] => []
  | z, b :: r =>
    if 2 ≤ z ∧ b ≤ 3 then 3 :: b :: emulate (if b = 0 then 1 else 0) r
    else b :: emulate (if b = 0 then z + 1 else 0) r

/-- The UUID of the record's SEI (R347). -/
def seiUuid : List Nat :=
  [0x3f, 0x1c, 0x9a, 0x2e, 0x7b, 0x44, 0x4d, 0x0a, 0x9c, 0x61, 0x2e, 0x8b, 0x5d, 0x07, 0xa6, 0xf3]

/-- Big-endian bytes of a number. -/
def beOf (n v : Nat) : List Nat := (leBytes n v).reverse

/-- CHAIN of the next access unit of a stream (R347). -/
def nextChain (x : EncSt) : Digest :=
  match x.last with
  | none => 0
  | some h => Config.sha384 (digestBytes x.chain ++ digestBytes h)

/-- The latch time of the captured slot of a frame, in ns. -/
def State.latchOf (s : State) (frame slot : Nat) : Nat :=
  match s.pattern with
  | some p => (slotStart s.origin p frame slot).toNat
  | none => 0

/-- The SEI NAL unit of an access unit in RECORD mode (R347). -/
def State.seiUnit (s : State) (r : EncRun) (chain : Digest) : List Nat :=
  let slot := (wbCfg s.active).slot
  let t := s.latchOf r.frame slot
  let head := beOf 8 s.serial ++ beOf 6 r.frame
  let sig := if r.idr then beOf 96 (Config.sign s.fuses.serial (Config.sha384 (head ++ digestBytes chain))).toNat else []
  let pay := seiUuid ++ head ++ beOf 1 slot ++ beOf 2 r.gen ++ beOf 6 (t / 1000000000) ++ beOf 4 (t % 1000000000) ++
    digestBytes chain ++ sig
  [0, 0, 0, 1, 0x4E, 0x01] ++ emulate 0 ([5, pay.length] ++ pay ++ [0x80])

/-- Bytes written into an output buffer from a place on, wrapping at its end (R346). -/
def State.bufWrite (s : State) (base size at_ : Nat) (bytes : List Nat) : State :=
  let bs := bytes.map (BitVec.ofNat 8)
  let first := size - at_ % size
  (s.memWrite (base + at_ % size) (bs.take first)).memWrite base (bs.drop first)

/-- The 32 bytes of an access-unit entry (R346). -/
def auEntry (addr len : Nat) (r : EncRun) (e : Nat) (exhausted inputLate signed : Bool) (qp : Nat) : List Nat :=
  let flags := r.idr.toNat + 2 * exhausted.toNat + 4 * r.skippedBefore.toNat + 8 * inputLate.toNat + 16 * r.incomplete.toNat +
    32 * signed.toNat
  leBytes 8 addr ++ leBytes 4 len ++ leBytes 4 r.start ++ leBytes 6 r.frame ++ [flags, e] ++ leBytes 2 r.gen ++ [qp, 0, 0, 0, 0, 0]

/-- The highest QP of a picture (R342, R343): never below QUALITY nor above QP_MAX, which exhaustion takes. -/
def qpTop (c : EncCfg) (exhausted : Bool) (qp : Nat) : Nat := if exhausted then c.qpMax else min c.qpMax (max c.quality qp)

/-- A picture is coded (R343, R346, R347): the access unit lands, its entry follows. -/
def State.encodeDone (s : State) (e : Nat) (r : EncRun) (pic : CodedPic) : State :=
  let c := s.encNow e
  let x := s.enc e
  let record := c.mode == 0
  let chain := nextChain x
  let num := fun (l : List Byte) => l.map (·.toNat)
  let au := num pic.head ++ (if record then s.seiUnit r chain else []) ++ num pic.body
  let bits := 8 * au.length
  let full := rowsExhausted pic.rowBits (ceilDiv r.input.width 64) r.budget
  let size := 2 ^ c.log2
  let at_ := x.wpos % size
  let k := R.cdcEncStatus e
  let s1 := if full then s.count k F.cdcEncStatus_EXHAUSTED else s
  let s2 := if full && decide (r.budget < bits) then s1.setReg (R.cdcEncOvershoot e) ((bits - r.budget).toNat % 2 ^ 32) else s1
  let s3 := if full && x.exhausted then s2.raise .cdc 6 0 (16 + e) else s2
  let s4 := s3.bufWrite c.base size at_ au
  let s5 := s4.setEnc { x with
    run := none, bits := (x.bits ++ [bits]).drop (x.bits.length + 1 - min (x.bits.length + 1) 4095), exhausted := full,
    chain := if record then chain else x.chain, last := if record then some (Config.sha384 au) else x.last,
    wpos := ceilDiv (at_ + au.length) 64 * 64 % size, starts := x.starts ++ [at_] }
  let late := pic.inputLate && c.mode != 2
  let s6 := s5.produce c.queue (auEntry (c.base + at_) au.length r e full late (record && r.idr) (qpTop c full pic.qpTop.toNat))
  if c.mode = 2 then s6.showHeld c.src else s6

/-- ENCODE_DONE (R346): the picture being coded is finished by both engines. -/
def execEncodeDone (stream : Fin 8) (pic : CodedPic) (s : State) : Out :=
  .next (match (s.enc stream.val).run with
    | some r => if s.live .cdc && !s.rst.inReset then s.encodeDone stream.val r pic else s
    | none => s)

end Sys2Proof.Machine
end

