-- ==== Sys2Proof/Machine/ClipStore.lean ====
section
/-! DEFINITION. The clip store (R348 to R355): drives and their commands, rings and labels, the as-shown record, the play queues. -/

namespace Sys2Proof.Machine

/-! ### Drives (R349, R350, R354) -/

/-- The state code of a drive: 0 ABSENT, 1 INIT, 2 READY, 3 FOREIGN, 4 FAILED. -/
def State.drvState (s : State) (p : Nat) : Nat := s.get (R.clpPortStatus p) F.clpPortStatus_STATE

/-- A command to a drive is outstanding under the next number. -/
def DriveSt.issue (d : DriveSt) (c : DriveCmd) : DriveSt :=
  { d with cmds := d.cmds ++ [(d.nextCmd, c)], nextCmd := d.nextCmd + 1 }

/-- The four Asynchronous Event Requests that are kept outstanding (R349). -/
def DriveSt.listen (d : DriveSt) : DriveSt := (((d.issue .asyncEvent).issue .asyncEvent).issue .asyncEvent).issue .asyncEvent

/-- A command issued to a drive. -/
def State.issue (s : State) (p : Nat) (c : DriveCmd) : State := s.setDrive ((s.drive p).issue c)

/-- The blocks that the store manages of each drive in port order: 32 TiB in all (R350). -/
def managed : Nat → List Nat → List Nat
  | _, [] => []
  | left, b :: r => min left b :: managed (left - min left b) r

/-- The blocks of the four drives. -/
def State.driveBlocks (s : State) : List Nat := (List.range 4).map fun p => if s.drvState p = 0 then 0 else (s.drive p).blocks

/-- CLP_PORT_BLOCKS follows the drives; CAPACITY_LIMIT names each drive that newly has blocks beyond the limit (R350). -/
def State.showBlocks (s : State) : State :=
  let raw := s.driveBlocks
  (((managed (2 ^ 33) raw).zip raw).zipIdx).foldl (fun t x =>
    let p := x.2
    let k := R.clpPortBlocks p
    let fewer := decide (x.1.1 < x.1.2) && t.reg k != x.1.1
    let t1 := t.setReg k x.1.1
    if fewer then t1.raise .clp 3 1 p else t1) s

/-- A ring's registers follow its label entry. -/
def State.showRing (s : State) (r : ClipRing) (st : Nat) : State :=
  let k := R.clpRingCfg r.ring
  let s1 := (s.put k F.clpRingCfg_PORT r.drive).put k F.clpRingCfg_STATE st
  ((s1.setReg (R.clpRingBase r.ring) r.base).setReg (R.clpRingLen r.ring) r.len).setReg (R.clpRingWpos r.ring) r.wpos

/-- A ring of a label. -/
def ringOfLabel (p : Nat) (l : LabelRing) : ClipRing :=
  { ring := l.ring.val, drive := p, base := l.base, len := l.len, wpos := l.wpos, wrap := l.wrap, savedPos := l.wpos,
    savedWrap := l.wrap, seq := l.seq }

/-- NVME_DRIVE_INIT: the drive of a port that has come up is identified and its label read (R349, R350, R354). -/
def State.driveInit (s : State) (p : Nat) (d : DriveInfo) : State :=
  let s1 := s.setDrive
    (({ s.drive p with cmds := [], blocks := d.blocks, failed := 0, resetting := false } : DriveSt).issue .createQueues).listen
  let s2 := (s1.put (R.clpPortStatus p) F.clpPortStatus_LBA4K d.lba4k.toNat).showBlocks
  let s3 := if 1 < d.namespaces then s2.raise .clp 6 1 p else s2
  let foreign := s3.put (R.clpPortStatus p) F.clpPortStatus_STATE 3
  match d.label with
  | none => foreign
  | some l =>
    if s3.clp.store = none ∨ s3.clp.store = some l.store.toNat then
      let rs := l.rings.map (ringOfLabel p)
      let keep := s3.clp.rings.filter fun r => r.drive != p && !(rs.any fun x => x.ring == r.ring)
      let gone := s3.clp.rings.filter fun r => r.drive == p && !(rs.any fun x => x.ring == r.ring)
      let s4 := gone.foldl (fun t r => t.put (R.clpRingCfg r.ring) F.clpRingCfg_STATE 0) s3
      let s5 : State := { s4 with clp := { s4.clp with rings := keep ++ rs, store := some l.store.toNat } }
      (rs.foldl (fun t r => t.showRing r 1) s5).put (R.clpPortStatus p) F.clpPortStatus_STATE 2
    else foreign

/-- NVME_DRIVE_INIT (R354). -/
def execNvmeDriveInit (port : Fin 4) (drive : DriveInfo) (s : State) : Out :=
  .next (if s.live .clp && s.drvState port.val == 1 then s.driveInit port.val drive else s)

/-- NVME_COMPLETION: a command completes; an error fetches the error log, a critical warning raises DRIVE_WARNING, an event request
is put again (R349). -/
def State.driveDone (s : State) (p n : Nat) (ok warning : Bool) : State :=
  let d := s.drive p
  match sLookup d.cmds n with
  | none => s
  | some c =>
    let d1 : DriveSt := { d with cmds := d.cmds.filter fun x => x.1 != n }
    let d2 := if c = .asyncEvent then d1.issue .asyncEvent else d1
    let d3 := if !ok && c != .errorLog then d2.issue .errorLog else d2
    let s1 := s.setDrive d3
    if warning && (c == .smart || c == .asyncEvent) then s1.raise .clp 2 2 p else s1

/-- NVME_COMPLETION (R349). -/
def execNvmeCompletion (port : Fin 4) (command : Nat) (ok warning : Bool) (s : State) : Out :=
  .next (if s.live .clp then s.driveDone port.val command ok warning else s)

/-- DRIVE_TIMEOUT: a command has had no completion for 5 s; the controller is reset (R349). -/
def execDriveTimeout (port : Fin 4) (s : State) : Out :=
  .next (let p := port.val
    let d := s.drive p
    if s.live .clp && !d.resetting && (d.cmds.any fun c => c.2 != .asyncEvent) then
      (s.setDrive { d with cmds := [], resetting := true }).raise .clp 1 3 p
    else s)

/-- CONTROLLER_RESET_DONE: a controller reset completes or fails; after three failures the drive is FAILED (R349). -/
def State.controllerDone (s : State) (p : Nat) (ok : Bool) : State :=
  let d := s.drive p
  if !d.resetting then s
  else if ok then
    let d1 : DriveSt := { d with resetting := false, failed := 0, cmds := [] }
    s.setDrive (if s.drvState p = 1 then d1.issue .identify else (d1.issue .createQueues).listen)
  else if d.failed + 1 < 3 then s.setDrive { d with failed := d.failed + 1 }
  else
    ((s.setRings p 2).setDrive { d with failed := 3, resetting := false, cmds := [] }).put
      (R.clpPortStatus p) F.clpPortStatus_STATE 4

/-- CONTROLLER_RESET_DONE (R349). -/
def execControllerResetDone (port : Fin 4) (ok : Bool) (s : State) : Out :=
  .next (if s.live .clp then s.controllerDone port.val ok else s)

/-- A drive takes commands: it is READY, and no controller reset runs. -/
def State.driveReady (s : State) (p : Nat) : Bool := s.live .clp && s.drvState p == 2 && !(s.drive p).resetting

/-- NVME_FLUSH (R349). -/
def execNvmeFlush (port : Fin 4) (s : State) : Out := .next (if s.driveReady port.val then s.issue port.val .flush else s)

/-- SMART_POLL (R349): on a foreign drive nothing is read. -/
def execSmartPoll (port : Fin 4) (s : State) : Out := .next (if s.driveReady port.val then s.issue port.val .smart else s)

/-- A ring as the store holds it. -/
def State.ring (s : State) (n : Nat) : Option ClipRing := s.clp.rings.find? fun r => r.ring == n

/-- The state with a ring set. -/
def State.setRing (s : State) (r : ClipRing) : State :=
  { s with clp := { s.clp with rings := s.clp.rings.map fun x => if x.ring = r.ring then r else x } }

/-- LABEL_SAVE: the write positions of a drive's rings are stored in its label (R351). -/
def execLabelSave (port : Fin 4) (s : State) : Out :=
  .next (if s.driveReady port.val then
    let s1 : State := { s with clp := { s.clp with rings := s.clp.rings.map fun r =>
      if r.drive = port.val then { r with savedPos := r.wpos, savedWrap := r.wrap } else r } }
    s1.issue port.val .labelWrite
  else s)

/-! ### Store commands (R350, R354) -/

/-- An encode stream in force records to a ring. -/
def State.ringInUse (s : State) (n : Nat) : Bool :=
  (List.range 8).any fun e => let c := s.encNow e; c.en && c.ringEn && c.ring == n

/-- RESULT of CLP_CMD: 1 done, 2 refused. -/
def State.clpResult (s : State) (ok : Bool) : State := s.put R.clpCmd F.clpCmd_RESULT (if ok then 1 else 2)

/-- Two stretches of blocks meet. -/
def stretchMeets (a la b lb : Nat) : Bool := decide (a < b + lb ∧ b < a + la)

/-- CREATE of a ring: its registers give drive, base and length (R350). -/
def State.ringCreate (s : State) (n : Nat) : State :=
  let p := s.get (R.clpRingCfg n) F.clpRingCfg_PORT
  let base := s.get (R.clpRingBase n) F.clpRingBase_BLOCK
  let len := s.get (R.clpRingLen n) F.clpRingLen_BLOCKS
  let ok := s.driveReady p && (s.ring n).isNone && decide (256 ≤ base ∧ 0 < len ∧ base + len ≤ s.reg (R.clpPortBlocks p)) &&
    !((s.ringsOf p).any fun r => stretchMeets base len r.base r.len)
  if ok then
    let r : ClipRing := { ring := n, drive := p, base := base, len := len, wpos := 0, wrap := 0, savedPos := 0, savedWrap := 0, seq := 0 }
    let s1 : State := { s with clp := { s.clp with rings := s.clp.rings ++ [r], written := s.clp.written.filter fun x => x.ring != n } }
    (((s1.issue p .labelWrite).issue p (.deallocate n)).showRing r 1).clpResult true
  else s.clpResult false

/-- DELETE of a ring (R350). -/
def State.ringDelete (s : State) (n : Nat) : State :=
  let p := s.get (R.clpRingCfg n) F.clpRingCfg_PORT
  if s.driveReady p && !s.ringInUse n then
    match s.ring n with
    | some _ =>
      let s1 : State := { s with clp := { s.clp with rings := s.clp.rings.filter fun r => r.ring != n,
                                                     written := s.clp.written.filter fun x => x.ring != n } }
      (((s1.issue p .labelWrite).put (R.clpRingCfg n) F.clpRingCfg_STATE 0).setReg (R.clpRingWpos n) 0).clpResult true
    | none => s.clpResult true
  else s.clpResult false

/-- The store identifier for a new label: that of the store, or a new one, whose value the spec leaves open (log entry 3). -/
def State.storeId (s : State) : Nat × State :=
  match s.clp.store with
  | some x => (x, s)
  | none => s.fresh 128

/-- FORMAT of a drive: a new, empty label (R354). -/
def State.driveFormat (s : State) (p : Nat) : State :=
  let ok := (s.drvState p == 2 || s.drvState p == 3) && !(s.drive p).resetting && !((s.ringsOf p).any fun r => s.ringInUse r.ring)
  if ok then
    let s1 := (s.ringsOf p).foldl (fun t r => (t.put (R.clpRingCfg r.ring) F.clpRingCfg_STATE 0).setReg (R.clpRingWpos r.ring) 0) s
    let (id, s2) := s1.storeId
    let s3 : State := { s2 with clp := { s2.clp with
      rings := s2.clp.rings.filter fun r => r.drive != p,
      written := s2.clp.written.filter fun x => !((s.ringsOf p).any fun r => r.ring == x.ring), store := some id } }
    ((s3.issue p .labelWrite).put (R.clpPortStatus p) F.clpPortStatus_STATE 2).clpResult true
  else s.clpResult false

/-- A write of CLP_CMD (R350). -/
def State.clpCmdWrite (s : State) (value : Nat) : State :=
  if s.live .clp then
    match fieldGet value F.clpCmd_OP with
    | 1 => s.ringCreate (fieldGet value F.clpCmd_RING)
    | 2 => s.ringDelete (fieldGet value F.clpCmd_RING)
    | 3 => s.driveFormat (fieldGet value F.clpCmd_PORT)
    | _ => s
  else s

/-- CLP_CREATE (R350): a write of CLP_CMD. -/
def execClpCreate (req : Requester) (value : Word) (s : State) : Out := .next (s.byReq req (if s.live .clp then s.clpCmdWrite value.toNat else s))

/-- CLP_DELETE (R350): a write of CLP_CMD. -/
def execClpDelete (req : Requester) (value : Word) (s : State) : Out := .next (s.byReq req (if s.live .clp then s.clpCmdWrite value.toNat else s))

/-- CLP_FORMAT (R354): a write of CLP_CMD. -/
def execClpFormat (req : Requester) (value : Word) (s : State) : Out := .next (s.byReq req (if s.live .clp then s.clpCmdWrite value.toNat else s))

/-! ### The as-shown record (R351, R352) -/

/-- The bytes of the entry at C of a queue, from the ring's space. -/
def State.headEntry (s : State) (q : Nat) : List Nat :=
  let x := s.queue q
  let a := x.base + x.c * x.entryBytes
  if x.hostSpace then
    match (s.hif.hostWrites.filter fun w => w.1 == a).getLast? with
    | some w => w.2
    | none => []
  else (s.readBytes a x.entryBytes).map (·.toNat)

/-- C of a queue advances by one entry. -/
def State.advanceC (s : State) (q : Nat) : State :=
  let x := s.queue q
  s.setQueue q { x with c := (x.c + 1) % x.size }

/-- The bytes of an access unit in an output buffer, which wraps at its end (R346). -/
def State.auBytes (s : State) (c : EncCfg) (addr len : Nat) : List Nat :=
  let size := 2 ^ c.log2
  (List.range len).map fun i => s.rd (c.base + (addr - c.base + i) % size)

/-- An entry leaves without a record (R352). -/
def State.recordLost (s : State) (n : Nat) : State :=
  (s.count (R.clpRingCfg n) F.clpRingCfg_LOST).raiseLimited 1 .clp 4 2 n

/-- A record written to a ring: at the write position, or at block 0 where it would pass the end (R351). -/
def State.recordPut (s : State) (r : ClipRing) (entry bytes : List Nat) : State :=
  let n := ceilDiv (64 + bytes.length) 4096
  if r.len < n then s.recordLost r.ring
  else
    let wraps := decide (r.len < r.wpos + n)
    let at_ := if wraps then 0 else r.wpos
    let live := s.clp.written.filter fun x => x.ring != r.ring || !stretchMeets at_ n x.block (ceilDiv (64 + x.bytes.length) 4096)
    let rec_ : ClipRecord := { ring := r.ring, block := at_, seq := r.seq, entry := entry, bytes := bytes }
    let s1 : State := { s with clp := { s.clp with written := live ++ [rec_] } }
    (s1.setRing { r with wpos := at_ + n, wrap := if wraps then r.wrap + 1 else r.wrap, seq := r.seq + 1 }).setReg
      (R.clpRingWpos r.ring) (at_ + n)

/-- RECORD_APPEND: the oldest access unit of a stream's queue is appended to its ring, or lost (R352). -/
def State.recordAppend (s : State) (e : Nat) (writeOk : Bool) : State :=
  let c := s.encNow e
  let x := s.queue c.queue
  if c.ringEn && x.enabled && !x.isEmpty then
    let entry := s.headEntry c.queue
    let online := s.get (R.clpRingCfg c.ring) F.clpRingCfg_STATE == 1
    let s1 := match s.ring c.ring with
      | some r =>
        if online && writeOk then
          s.recordPut r entry (s.auBytes c (leVal (entry.take 8)) (leVal ((entry.drop 8).take 4)))
        else s.recordLost c.ring
      | none => s.recordLost c.ring
    s1.advanceC c.queue
  else s

/-- RECORD_APPEND (R352). -/
def execRecordAppend (stream : Fin 8) (writeOk : Bool) (s : State) : Out :=
  .next (if s.live .clp && s.live .qm then s.recordAppend stream.val writeOk else s)

/-! ### Play queues (R353) -/

/-- The access units of a decode stream that were read and not delivered. -/
def State.playOf (s : State) (d : Nat) : List (List Nat) := (sLookup s.clp.play d).getD []

/-- The access units of a stretch of a ring's blocks (R353): a record that CLP wrote and that no later one has overwritten is read as
written; for every other place where a header is expected the drive tells in `found` what stands there, none where no header is valid.
A record that passes the stretch is not read. -/
def playRead (written : List ClipRecord) (ring : Nat) : Nat → Nat → Nat → List (Option (List Byte)) → List (Option (List Nat))
  | 0, _, _, _ => []
  | fuel + 1, left, block, found =>
    match left, written.find? (fun x => x.ring == ring && x.block == block), found with
    | 0, _, _ => []
    | _, some r, _ =>
      let n := ceilDiv (64 + r.bytes.length) 4096
      if n ≤ left then some r.bytes :: playRead written ring fuel (left - n) (block + n) found else []
    | _, none, [] => []
    | _, none, none :: rest => none :: playRead written ring fuel (left - 1) (block + 1) rest
    | _, none, some b :: rest =>
      let n := ceilDiv (64 + b.length) 4096
      if n ≤ left then some (b.map (·.toNat)) :: playRead written ring fuel (left - n) (block + n) rest else []

/-- PLAY_ENTRY: the entry at C of a play queue is taken and its blocks are read (R353). -/
def State.playEntry (s : State) (q : Nat) (found : List (Option (List Byte))) : State :=
  let x := s.queue q
  if s.queueClass q == some 4 && x.enabled && !x.isEmpty then
    let entry := s.headEntry q
    let ring := entry.getD 1 0
    let d := entry.getD 2 0
    let online := entry.getD 0 0 == 1 && s.get (R.clpRingCfg ring) F.clpRingCfg_STATE == 1
    let blocks := leVal ((entry.drop 4).take 4)
    let offset := leVal ((entry.drop 8).take 8)
    let s1 := if online then
        (playRead s.clp.written ring (s.clp.written.length + found.length + 1) blocks offset found).foldl (fun t r => match r with
          | some b =>
            if d < 16 then
              { t with clp := { t.clp with play := aSet t.clp.play d (t.playOf d ++ [b]) } }
            else t
          | none => t.raise .clp 5 1 ring) s
      else s
    s1.advanceC q
  else s

/-- PLAY_ENTRY (R353). -/
def execPlayEntry (queue : BitVec 18) (found : List (Option (List Byte))) (s : State) : Out :=
  .next (if s.live .clp && s.live .qm then s.playEntry queue.toNat found else s)

/-- PLAY_DELIVER: one access unit passes to a decode stream whose INPUT is the play queue (R334, R353). -/
def State.playDeliver (s : State) (d : Nat) : State :=
  match s.playOf d with
  | [] => s
  | a :: r =>
    if s.actGet (R.cdcDecCtrl d) F.cdcDecCtrl_INPUT = 1 ∧ (decodeSource s.active d).isSome then
      let s1 : State := { s with clp := { s.clp with play := aSet s.clp.play d r } }
      s1.setDec { s1.dec d with waiting := (s1.dec d).waiting ++ [a] }
    else s

/-- PLAY_DELIVER (R353). -/
def execPlayDeliver (stream : Fin 16) (s : State) : Out :=
  .next (if s.live .clp && s.live .cdc && !s.rst.inReset then s.playDeliver stream.val else s)

/-! ### The ports (R348, R355) -/

/-- The first lane of an NVMe port. -/
def State.nvmeLane (s : State) (p : Nat) : Option Nat :=
  (List.range 96).find? fun l => s.isPort l && s.laneRole l == 3 && s.get (R.laneCfg l) F.laneCfg_PORT % 4 == p

/-- A write of CLP_PORT_CFG: the port retrains (R348). -/
def State.refmodeWrite (s : State) (p value : Nat) : State :=
  if s.live .clp then
    let s1 := s.put (R.clpPortCfg p) F.clpPortCfg_REFMODE (value % 2)
    match s1.nvmeLane p with
    | some l => s1.retrainPort l
    | none => s1
  else s

/-- REFMODE_WRITE (R348). -/
def execRefmodeWrite (req : Requester) (port : Fin 4) (value : Word) (s : State) : Out :=
  .next (s.byReq req (if s.live .clp then s.refmodeWrite port.val value.toNat else s))

/-- A core reset of the codec and the clip store (R355): pictures in progress are abandoned, the controllers are reset and their drives
identified anew, the rings are OFFLINE. -/
def State.clipCoreReset (s : State) : State :=
  let s1 := (List.range 4).foldl (fun t p =>
    if t.drvState p = 0 ∨ t.drvState p = 4 then t
    else
      let t1 := (t.setRings p 2).setDrive { t.drive p with cmds := [(0, .identify)], nextCmd := 1, failed := 0, resetting := false }
      t1.put (R.clpPortStatus p) F.clpPortStatus_STATE 1) s
  { s1 with clp := { s1.clp with play := [] }, cdc := CdcSt.reset }

end Sys2Proof.Machine
end

