-- ==== Sys2Proof/Machine/Pennant.lean ====
section
/-! DEFINITION. Pennants (R84 to R87, R220), the switches and commits that a tile learns from them or from an Ensign, and the commit
frames that a standby unit follows (R329). -/

namespace Sys2Proof.Machine

/-! ### Sending (R84) -/

/-- A new Pennant: its body follows PENNANT_ID, COPY and the reserved bytes (R220). -/
def State.newPennant (s : State) (type dst : Nat) (body : List Nat) : State :=
  let p : PennantOut := { id := s.pen.nextId, type := type, dst := dst, body := body, copies := 0 }
  { s with pen := { s.pen with out := s.pen.out ++ [p], nextId := (s.pen.nextId + 1) % 2 ^ 32 } }

/-- The packet of a Pennant copy (R220). -/
def State.pennantPacket (s : State) (p : PennantOut) (copy : Nat) : Packet :=
  makePacket 3 p.type p.dst s.domain 0xFFF s.cur p.id s.frameNow 0 0 false false (leBytes 4 p.id ++ [copy, 0, 0, 0] ++ p.body)

/-- One copy of a Pennant on every chain port. -/
def State.sendPennant (s : State) (p : PennantOut) : State :=
  s.enqueueAll s.halPorts (s.pennantPacket p (min 2 p.copies))

/-- PENNANT_COPY: the next copy of every Pennant that has not had its three (R84). A cap Pennant is done after them; a commit or
a mode switch stays until it takes effect, for R318. -/
def State.pennantCopy (s : State) : State :=
  let due := s.pen.out.filter fun p => decide (p.copies < 3)
  let s1 := due.foldl (fun t p => t.sendPennant p) s
  let next := s.pen.out.map fun p => { p with copies := min 3 (p.copies + 1) }
  { s1 with pen := { s1.pen with out := next.filter fun p => p.type != 0x12 || decide (p.copies < 3) } }

/-- PENNANT_COPY (R84); during a core reset a feed unit originates none (R205), nor in a tie that it is about to give up (R320). -/
def execPennantCopy (s : State) : Out := .next (if s.isFeed && !s.rst.inReset && !s.tieMuted then s.pennantCopy else s)

/-- PENNANT_CAP_REPEAT: every cap Pennant in force goes out again with its PENNANT_ID (R261). -/
def execPennantCapRepeat (s : State) : Out :=
  .next (if s.isFeed && !s.rst.inReset && !s.tieMuted then
      s.pen.caps.foldl (fun t p => t.sendPennant { p with copies := 0 }) s else s)

/-! ### Receiving in a tile (R220) -/

/-- A tile acts on a Pennant: the first copy with a new PENNANT_ID from its claim winner. -/
def State.pennantNew (s : State) (l : Nat) (p : Packet) : Bool :=
  s.fromWinner l p.hdr.claim.toNat && !s.pen.acted.contains (p.hdr.claim.toNat * 2 ^ 32 + payField p 0 4)

/-- The Pennant is noted as acted on; the last 64 stay. -/
def State.pennantActed (s : State) (p : Packet) : State :=
  { s with pen := { s.pen with
      acted := s.pen.acted.drop (s.pen.acted.length - 63) ++ [p.hdr.claim.toNat * 2 ^ 32 + payField p 0 4] } }

/-! ### What a tile learns -/

/-- The instant s(N) − 200 µs from which a tile corrects or composes frame N (R85, R153). -/
def State.frameBegun (s : State) (n : Int) : Bool :=
  match s.pattern with
  | some p => decide (frameStart s.origin p n - 200000 ≤ s.clock.now)
  | none => false

/-- The first frame that the tile has not begun. -/
def State.nextFrame (s : State) : Int :=
  match s.pattern with
  | some p => frameAt s.origin p ((s.clock.now : Int) + 200000) + 1
  | none => 0

/-- A tile refuses a commit of the wall: the values in force stay. -/
def State.tileRefuses (s : State) (gen reason : Nat) : State :=
  ((s.put R.topCommitStatus F.topCommitStatus_STATE 4).put R.topCommitStatus F.topCommitStatus_REASON reason).put
    R.topCommitStatus F.topCommitStatus_GEN gen

/-- The checks that a tile makes of a commit of the wall: the values that their registers refuse (COR_CFG), and in layer mode the Peck
(R170; log entry 151). -/
def State.tileChecks (s : State) : Option CheckFail × State :=
  if !markedFieldsOk s.regs then (some failPlain, s)
  else if s.layerMode then s.checkPeck s.regs
  else (none, s)

/-- A tile learns of a commit of the wall (R85): it applies from frame N, or, learnt after it has begun N, from the next frame, with
a FAULT. One that fails the tile's checks is refused. -/
def State.learnCommit (s : State) (gen frame : Nat) : State :=
  let known : Bool := match s.cmp.pend with
    | some p => p.gen == gen
    | none => s.get R.topCommitDetail F.topCommitDetail_ACTIVE_GEN == gen
  if known then s
  else match s.tileChecks with
    | (some f, s0) => (s0.showFail f).tileRefuses gen f.reason
    | (none, s0) =>
      let late := s0.frameBegun frame
      let n := if late then ofSigned 48 s0.nextFrame else frame
      let s1 : State := { s0 with cmp := { s0.cmp with
        pend := some { gen := gen, frame := n, wall := true, followed := false, skewed := false } } }
      let s2 := (s1.put R.topCommitStatus F.topCommitStatus_STATE 2).put R.topCommitStatus F.topCommitStatus_REASON 0
      let s3 := (s2.put R.topCommitStatus F.topCommitStatus_GEN gen).setReg R.topCommitFrame n
      if late then s3.raise .top 1 3 0 [frame % 2 ^ 32, frame / 2 ^ 32, gen] else s3

/-- A tile's switch to a pattern that its SLOTS section lacks: IDLE, dark, with a FAULT (R87). -/
def State.modeUnknown (s : State) (pattern : Nat) (act : SeqState) : State :=
  ({ s with seq := { s.seq with pattern := pattern, domainAction := act, state := .idle, target := none,
                                interrupted := none, whole := false, since := s.clock.now, dark := true } } : State).raise .top 3 3 0 [pattern]

/-- A tile takes a pattern and a domain action from the first boundary of the pattern after now (R87); `hold` says that it holds
as in IDLE until then. -/
def State.adoptMode (s : State) (pattern : Nat) (act : SeqState) (hold : Bool) : State :=
  if (s.patternRec pattern).isNone then s.modeUnknown pattern act
  else
    let now := s.clock.now
    let changed := pattern != s.seq.pattern || s.seq.dark
    { s with seq := { (s.seq.aim (if hold || changed || act == .idle then .idle else s.seq.state) act now) with
        pattern := pattern, domainAction := act, since := if changed then now else s.seq.since, dark := false } }

/-- A mode switch is shown as accepted (TIME_MODE_STATUS). -/
def State.showMode (s : State) (st pattern action : Nat) : State :=
  ((s.put R.timeModeStatus F.timeModeStatus_STATE st).put R.timeModeStatus F.timeModeStatus_PATTERN pattern).put
    R.timeModeStatus F.timeModeStatus_ACTION action

/-- A tile learns of a mode switch (R87): before T it pends; after T it comes late, with a FAULT. -/
def State.learnMode (s : State) (m : ModeSwitch) : State :=
  if s.clock.now < m.time then
    ({ s with seq := { s.seq with pendingMode := some m } } : State).showMode 2 m.pattern m.action
  else if s.seq.pattern = m.pattern ∧ s.seq.domainAction = seqOfAction m.action then s
  else ((s.raise .top 2 3 0 [m.pattern, m.action]).adoptMode m.pattern (seqOfAction m.action) true).showMode 3 m.pattern m.action

/-! ### In a feed unit (R329) -/

/-- σ(F), the sampling instant of a frame (R132). -/
def State.samplingInstant (s : State) (n : Int) : Int :=
  match s.pattern with
  | some p => frameStart s.origin p n - s.lead - 100000
  | none => 0

/-- COMMIT_SKEW, once for a commit (R329). -/
def State.commitSkew (s : State) (gen frame : Nat) : State :=
  s.raise .red 7 2 0 [gen, frame % 2 ^ 32, frame / 2 ^ 32]

/-- The partner's PENNANT_COMMIT at a claim loser that follows (R329). -/
def State.followPennant (s : State) (gen frame : Nat) : State :=
  let s1 : State := { s with red := { s.red with named := s.red.named.drop (s.red.named.length - 7) ++ [(gen, frame)] } }
  match s1.cmp.pend with
  | some p =>
    if p.gen ≠ gen then s1
    else if (s1.clock.now : Int) < s1.samplingInstant frame then
      ({ s1 with cmp := { s1.cmp with pend := some { p with frame := frame, followed := true } } } : State).setReg R.topCommitFrame frame
    else if p.frame ≠ frame ∧ !p.skewed then
      ({ s1 with cmp := { s1.cmp with pend := some { p with skewed := true } } } : State).commitSkew gen frame
    else s1
  | none =>
    if s1.get R.topCommitDetail F.topCommitDetail_ACTIVE_GEN = gen ∧ s1.get R.topCommitFrame F.topCommitFrame_FRAME ≠ frame then
      s1.commitSkew gen frame
    else s1

/-- A claim loser follows its partner's commit frames (RED_CTRL.FOLLOW). -/
def State.follows (s : State) : Bool := s.isFeed && s.paired && s.hears && !s.unitWins && s.flag R.redCtrl F.redCtrl_FOLLOW

/-! ### The commands -/

/-- PENNANT_COMMIT (R85, R220, R329). -/
def execPennantCommit (port : Fin 96) (pkt : Packet) (s : State) : Out :=
  .next (if s.takes port.val pkt 3 0x10 then
    let gen := payField pkt 8 2
    let frame := payField pkt 0xA 6
    if s.isTile then
      let s1 := s.noteClaim pkt.hdr.claim.toNat none
      if s1.pennantNew port.val pkt then (s1.pennantActed pkt).learnCommit gen frame
      else if s1.fromWinner port.val pkt.hdr.claim.toNat then s1 else s1.refuseClaim
    else if s.follows && pkt.hdr.claim.toNat == s.partnerClaim && !s.red.named.contains (gen, frame) then s.followPennant gen frame
    else s
  else s)

/-- PENNANT_MODE (R86, R87, R220) in a tile. -/
def execPennantMode (port : Fin 96) (pkt : Packet) (s : State) : Out :=
  .next (if s.isTile && s.takes port.val pkt 3 0x11 then
    let s1 := s.noteClaim pkt.hdr.claim.toNat none
    let b := payField pkt 0x12 1
    if s1.pennantNew port.val pkt then
      (s1.pennantActed pkt).learnMode
        { time := payField pkt 8 4 + payField pkt 0xC 6 * 1000000000, pattern := b % 8, action := b / 8 % 4, wall := true }
    else if s1.fromWinner port.val pkt.hdr.claim.toNat then s1 else s1.refuseClaim
  else s)

end Sys2Proof.Machine
end

