-- ==== Sys2Proof/Machine/Commit.lean ====
section
/-! DEFINITION. TOP_COMMIT and TIME_MODE_COMMIT: acceptance for checking (R56, R86, R88), the checks (R440), and what an accepted
commit or mode switch starts (R84, R158, R329). -/

namespace Sys2Proof.Machine

/-- A TOP_COMMIT or MODE_COMMIT is CHECKING or PENDING. -/
def State.switching (s : State) : Bool := s.committing || s.seq.checking.isSome || s.seq.pendingMode.isSome

/-! ### TOP_COMMIT -/

/-- A write of TOP_COMMIT (R56); a tile takes its commits from Pennants and Ensigns, and its own register does nothing. -/
def State.topCommitWrite (s : State) (value : Nat) : State :=
  if s.isTile then s
  else if s.switching then s.put R.topCommitStatus F.topCommitStatus_REASON 1
  else
    let gen := fieldGet value F.topCommit_GEN
    let s1 : State := { s with cmp := { s.cmp with checking := some (gen, fieldGet value F.topCommit_WALL == 1) } }
    ((s1.put R.topCommitStatus F.topCommitStatus_STATE 1).put R.topCommitStatus F.topCommitStatus_REASON 0).put
      R.topCommitStatus F.topCommitStatus_GEN gen

/-- TOP_COMMIT (R56). -/
def execTopCommit (req : Requester) (value : Word) (s : State) : Out := .next (s.byReq req (s.topCommitWrite value.toNat))

/-- A commit is refused (R56): REASON shows the failing check, also where a write made while it was checked has set it to BUSY, which R56
keeps until the next write accepted for checking (DESIGN CHOICE, log entry 150). -/
def State.commitRefused (s : State) (reason : Nat) : State :=
  let s1 : State := { s with cmp := { s.cmp with checking := none } }
  (s1.put R.topCommitStatus F.topCommitStatus_STATE 4).put R.topCommitStatus F.topCommitStatus_REASON reason

/-- The first frame whose sampling instant lies after now (R132, R158). -/
def State.nextSampled (s : State) : Nat :=
  match s.pattern with
  | some p => ofSigned 48 (frameAt s.origin p ((s.clock.now + s.lead + 100000 : Nat) : Int) + 1)
  | none => 0

/-- The frame that the partner has named for a generation, while its sampling instant lies ahead (R329). -/
def State.namedFrame (s : State) (gen : Nat) : Option Nat :=
  match s.red.named.reverse.find? fun x => x.1 == gen with
  | some (_, f) => if s.follows && decide ((s.clock.now : Int) < s.samplingInstant f) then some f else none
  | none => none

/-- A commit that has passed its checks becomes PENDING (R84, R158, R329). -/
def State.commitAccepted (s : State) (gen : Nat) (wall : Bool) : State :=
  let named := s.namedFrame gen
  let frame := named.getD s.nextSampled
  let s1 : State := { s with cmp := { s.cmp with
    checking := none, pend := some { gen := gen, frame := frame, wall := wall, followed := named.isSome, skewed := false } } }
  let s2 := (s1.put R.topCommitStatus F.topCommitStatus_STATE 2).setReg R.topCommitFrame frame
  if wall && s2.isFeed then s2.newPennant 0x10 0xFFF (leBytes 2 gen ++ leBytes 6 frame ++ List.replicate 8 0) else s2

/-- COMMIT_CHECKS_DONE: the checks of R440 from step 2 on. -/
def State.commitChecksDone (s : State) : State :=
  match s.cmp.checking with
  | none => s
  | some (gen, wall) =>
    match s.pattern with
    | none => s.commitRefused 7
    | some p =>
      if s.ldr.phase ≠ .ready ∨ s.frameLocked = false then s.commitRefused 7
      else if gen = s.activeGen then s.commitRefused 2
      else match s.checks s.regs p with
        | (some f, s1) => (s1.showFail f).commitRefused f.reason
        | (none, s1) => s1.commitAccepted gen wall

/-- COMMIT_CHECKS_DONE (R440). -/
def execCommitChecksDone (s : State) : Out := .next s.commitChecksDone

/-! ### TIME_MODE_COMMIT -/

/-- A write of TIME_MODE_COMMIT (R86, R88). -/
def State.modeCommitWrite (s : State) (value : Nat) (req : Requester) : State :=
  let act := fieldGet value F.timeModeCommit_ACTION
  if s.isTile then s.progError R.timeModeCommit value req
  else if s.switching || (s.flag R.timeStatus F.timeStatus_REARM_PENDING && act != 1) then
    s.put R.timeModeStatus F.timeModeStatus_REASON 1
  else
    let m : ModeSwitch :=
      { time := nsOf (s.reg R.timeModeTime), pattern := fieldGet value F.timeModeCommit_PATTERN, action := act,
        wall := fieldGet value F.timeModeCommit_WALL == 1 }
    (({ s with seq := { s.seq with checking := some m } } : State).put R.timeModeStatus F.timeModeStatus_STATE 1).put
      R.timeModeStatus F.timeModeStatus_REASON 0

/-- TIME_MODE_COMMIT (R86). -/
def execTimeModeCommit (req : Requester) (value : Word) (s : State) : Out := .next (s.byReq req (s.modeCommitWrite value.toNat req))

/-- A mode switch is refused. -/
def State.modeRefused (s : State) (reason : Nat) : State :=
  (({ s with seq := { s.seq with checking := none } } : State).put R.timeModeStatus F.timeModeStatus_STATE 4).put
    R.timeModeStatus F.timeModeStatus_REASON reason

/-- The reason of a mode switch for a commit check's reason (mode switch refusal reasons). -/
def modeReason (r : Nat) : Nat := match r with | 3 => 6 | 6 => 7 | 4 => 8 | 5 => 9 | _ => 0xA

/-- A mode switch that has passed its checks becomes PENDING, and a Pennant carries it to the wall (R84, R87). -/
def State.modeAccepted (s : State) (m : ModeSwitch) : State :=
  let s1 := ({ s with seq := { s.seq with checking := none, pendingMode := some m } } : State).showMode 2 m.pattern m.action
  if m.wall && s1.isFeed then
    s1.newPennant 0x11 0xFFF (leBytes 4 (m.time % 1000000000) ++ leBytes 6 (m.time / 1000000000) ++
      [m.pattern + m.action * 8] ++ List.replicate 5 0)
  else s1

/-- The checks of a mode switch before those of R440, in order: TOO_SOON, TOO_FAR, NO_PATTERN, NOT_LOCKED; 0 where they pass. -/
def State.modeReasonNow (s : State) (m : ModeSwitch) : Nat :=
  let lead := match s.pattern with | some p => 3 * periodCeil p | none => 0
  if m.time < s.clock.now + lead then 2
  else if s.clock.now + 60000000000 < m.time then 3
  else if m.action = 3 ∨ (s.patternRec m.pattern).isNone then 4
  else if m.action ≠ 1 ∧ s.frameLocked = false then 5
  else 0

/-- MODE_CHECKS_DONE (R86, R88). -/
def State.modeChecksDone (s : State) : State :=
  match s.seq.checking with
  | none => s
  | some m =>
    let r := s.modeReasonNow m
    if r ≠ 0 then s.modeRefused r
    else if m.action = 1 then s.modeAccepted m
    else match s.patternRec m.pattern with
      | none => s.modeRefused 4
      | some p =>
        match s.checks s.active p with
        | (some f, s1) => (s1.showFail f).modeRefused (modeReason f.reason)
        | (none, s1) => s1.modeAccepted m

/-- MODE_CHECKS_DONE (R88). -/
def execModeChecksDone (s : State) : Out := .next s.modeChecksDone

end Sys2Proof.Machine
end

