-- ==== Sys2Proof/Machine/Calibration.lean ====
section
/-! DEFINITION. Calibration copies and per-lamp records: the layout of R243 and R266, the checks of R267, nominal calibration (R268),
the coefficient store window (R244), and APPLY (R269). -/

namespace Sys2Proof.Machine

/-! ### Per-lamp records (R243) -/

/-- A signed field of a record: byte offset and width in bits. -/
def recS (r off w : Nat) : Int := toSigned w (r / 2 ^ (8 * off))

/-- A coefficient M[c][j]. -/
def recM (r c j : Nat) : Int := recS r (2 * (3 * c + j)) 16

/-- An offset O[c]. -/
def recO (r c : Nat) : Int := recS r (18 + 2 * c) 16

/-- BIN. -/
def recBin (r : Nat) : Nat := r / 2 ^ 192 % 256

/-- DEAD. -/
def recDead (r : Nat) : Bool := bitOf r 200

/-- DISABLED. -/
def recDisabled (r : Nat) : Bool := bitOf r 201

/-- SPARE. -/
def recSpare (r : Nat) : Bool := bitOf r 202

/-- TRIM. -/
def recTrim (r : Nat) : Nat := r / 2 ^ 208 % 65536

/-- The record of nominal calibration (R268). -/
def nominalRecord : Nat := 8192 + 8192 * 2 ^ 64 + 8192 * 2 ^ 128 + 4 * 2 ^ 200 + 32768 * 2 ^ 208

/-- The record in force of a lamp; a store word that nothing has written reads 0. -/
def State.lampRec (s : State) (key : Nat) : Nat := sRead (fun _ => 0) s.cor.recs key

/-- The state with a record replaced. -/
def State.setRec (s : State) (key v : Nat) : State :=
  { s with cor := { s.cor with recs := sWrite (fun _ => 0) s.cor.recs key v } }

/-- The bin record that a lamp's BIN names (R248, R249). -/
def State.binOf (s : State) (bin : Nat) : Option BinRec :=
  match s.ldr.image with
  | some i => if bin < 64 then i.body.bins.find? fun b => b.bin == bin else none
  | none => none

/-- A write through the coefficient store window (R244): word `w` of record `rec` of a quarter. -/
def State.recordWrite (s : State) (q rec w value off : Nat) (req : Requester) : State :=
  let rest := s.cor.bufs.filter fun b => b.quarter != q
  let put := fun (t : State) (bs : List RecBuf) => ({ t with cor := { t.cor with bufs := bs } } : State)
  let cur := s.cor.bufs.find? fun b => b.quarter == q
  let other : Bool := match cur with
    | some b => b.record != rec
    | none => false
  let s1 := if other then s.progErrorIn .cor off value req else s
  let old := s.lampRec (q * 65536 + rec)
  let words : List (Nat × Nat) := match cur with
    | some b => if b.record = rec then aSet b.words w value else [(w, value)]
    | none => [(w, value)]
  if w = 7 then
    let v := words.foldl (fun r x => fieldSet r ⟨32 * x.1, 32⟩ x.2) old
    (put s1 rest).setRec (q * 65536 + rec) v
  else put s1 (rest ++ [{ quarter := q, record := rec, words := words }])

/-- LAMP_RECORD_WRITE (R244). -/
def execLampRecordWrite (req : Requester) (quarter : Fin 4) (word : Fin 524288) (value : Word) (s : State) : Out :=
  .next (s.byReq req (if s.live .cor then
    s.recordWrite quarter.val (word.val / 8) (word.val % 8) value.toNat (0x1200000 + quarter.val * 0x400000 + word.val * 4) req
  else s))

/-! ### The transfer function (R246) -/

/-- A write of COR_EOTF: not to the bank in force, nor to that of a commit that is being checked or is pending. -/
def State.eotfWrite (s : State) (b c i value : Nat) (req : Requester) : State :=
  let k := R.corEotf b c i
  let busy := s.actGet R.corCfg F.corCfg_EOTF_BANK == b || (s.committing && s.get R.corCfg F.corCfg_EOTF_BANK == b)
  if busy then s.progError k value req else s.setReg k (value % 2 ^ 20)

/-- COR_EOTF_WRITE (R246). -/
def execCorEotfWrite (req : Requester) (bank : Fin 2) (colour : Fin 3) (entry : Fin 4096) (value : Word) (s : State) : Out :=
  .next (s.byReq req (if s.live .cor then s.eotfWrite bank.val colour.val entry.val value.toNat req else s))

/-! ### Calibration copies (R266, R267) -/

/-- A field of a copy. -/
def calField (c : List Nat) (off n : Nat) : Nat := leVal ((c.drop off).take n)

/-- The CRC-32 of a stretch of a copy. -/
def calCrc (c : List Nat) (off n : Nat) : Nat := crc32 ((c.drop off).take n)

/-- The pairs of a grid node. -/
def calNode (c : List Nat) (n : Nat) : List (Nat × Nat) :=
  (List.range 4).map fun k => (c.getD (0x1100 + 8 * n + 2 * k) 0, c.getD (0x1101 + 8 * n + 2 * k) 0)

/-- A node's weights sum to 256, its indices below 32. -/
def nodeOk (l : List (Nat × Nat)) : Bool :=
  l.foldl (fun t x => t + x.2) 0 == 256 && l.all fun x => decide (x.1 < 32)

/-- The first step of R267 that a copy fails, 8 where it is erased, 0 where it passes. -/
def calCause (serial : Nat) (m : LampMap) : Option (List Nat) → Nat
  | none => 8
  | some c =>
    if c.take 4 ≠ [0x57, 0x43, 0x41, 0x4C] ∨ calField c 0x30 4 ≠ calCrc c 0 0x30 then 1
    else if c.getD 5 0 ≠ 1 then 2
    else if calField c 8 8 ≠ serial then 3
    else if calField c 0x10 4 ≠ m.geom.toNat ∨ calField c 0x14 2 ≠ m.width ∨ calField c 0x16 2 ≠ m.height then 4
    else if calField c 0x24 4 ≠ calCrc c 0x1000 0x900 ∨ !((List.range 256).all fun n => nodeOk (calNode c n)) then 5
    else if calField c 0x28 4 ≠ calCrc c 0x2000 0x100 then 6
    else if calField c 0x2C 4 ≠ calCrc c 0x3000 (m.width * m.height * 32) then 7
    else 0

/-- A colour sensor of a copy. -/
def calLight (c : List Nat) (k : Nat) : CalLight :=
  let o := 0x2000 + 64 * k
  { addr := c.getD o 0, ptr := c.getD (o + 1) 0, big := c.getD (o + 2) 0 == 1, x0 := calField c (o + 4) 2,
    y0 := calField c (o + 6) 2, x1 := calField c (o + 8) 2, y1 := calField c (o + 10) 2,
    dark := (List.range 3).map fun j => calField c (o + 12 + 2 * j) 2,
    sinv := (List.range 9).map fun j => toSigned 32 (calField c (o + 20 + 4 * j) 4) }

/-- The calibration of a copy beside its records. -/
def calSet (c : List Nat) : CalSet :=
  { boards := (List.range 32).map fun k => (c.getD (0x1000 + 8 * k) 0 % 128, c.getD (0x1001 + 8 * k) 0),
    nodes := (List.range 256).map (calNode c), lights := (List.range 4).map (calLight c) }

/-- A copy of the flash. -/
def State.calCopy (s : State) (i : Nat) : Option (List Nat) := if i = 0 then s.flash.cal0 else s.flash.cal1

/-- COR_CAL_STATUS.NOBIN counts the lamps whose BIN names no record; the first raises NO_BIN (R249). -/
def State.countNoBin (s : State) : State :=
  let n := s.lamps.countP fun l => (s.binOf (recBin (s.lampRec l.key))).isNone
  let s1 := s.put R.corCalStatus F.corCalStatus_NOBIN (min 65535 n)
  if n = 0 then s1 else s1.raise .cor 1 1

/-- SENSOR_FALLBACK (R258): in SENSOR mode while every configured sensor is FAILED; nominal calibration has none. It is judged
whenever one of these changes. -/
def State.fallback (s : State) : State :=
  let all_ := s.cor.lights.all fun a => s.get (R.corLsensStatus a.idx) F.corLsensStatus_STATE == 3
  let on := s.actGet R.corCfg F.corCfg_MODE == 1 && all_
  let was := s.flag R.corStatus F.corStatus_SENSOR_FALLBACK
  let s1 := s.put R.corStatus F.corStatus_SENSOR_FALLBACK on.toNat
  if on && !was then s1.raise .cor 5 2 else s1

/-- Board sensors and colour sensors as a calibration configures them (R250, R256). -/
def State.setSensors (s : State) : State :=
  let c := s.cor.cal
  let bs := (List.range 32).filter fun k => (c.boards.getD k (0, 0)).1 != 0
  let ls := (List.range 4).filter fun k => match c.lights[k]? with | some l => l.addr != 0 | none => false
  let s1 := (List.range 32).foldl (fun t k => t.setReg (R.corBsens k) (if bs.contains k then 2 ^ 16 else 0)) s
  let s2 := (List.range 4).foldl (fun t k => t.setReg (R.corLsensStatus k) (if ls.contains k then 1 else 0)) s1
  ({ s2 with cor := { s2.cor with
      boards := bs.map fun k => { idx := k, nack := 0, range := 0, good := 0 },
      lights := ls.map fun k => { idx := k, n := 0, acc := [0, 0, 0], good := 0 } } } : State).fallback

/-- The measurement of the active calibration copy (R393, index 5). -/
def State.measureCal (s : State) (c : List Nat) : State := s.extend 5 (Config.sha384 (c.take 48))

/-- A copy comes into force: its records go to the coefficient stores (R267, R269). -/
def State.loadCal (s : State) (i : Nat) (c : List Nat) : State :=
  let recs := s.lamps.foldl (fun r l =>
    sWrite (fun _ => 0) r l.key (calField c (0x3000 + 32 * l.index) 32)) ([] : List (Nat × Nat))
  let s1 : State := { s with cor := { s.cor with recs := recs, cal := calSet c, bufs := [] } }
  let s2 := ((s1.put R.corCalStatus F.corCalStatus_STATE 1).put R.corCalStatus F.corCalStatus_COPY i).setReg R.corCalSeq (calField c 0x18 4)
  (s2.setSensors.countNoBin).measureCal c

/-- Nominal calibration (R268). -/
def State.loadNominal (s : State) : State :=
  let recs := s.lamps.foldl (fun r l => sWrite (fun _ => 0) r l.key nominalRecord) ([] : List (Nat × Nat))
  let s1 : State := { s with cor := { s.cor with recs := recs, cal := CalSet.none, bufs := [] } }
  ((s1.put R.corCalStatus F.corCalStatus_STATE 3).setSensors.countNoBin).raise .cor 6 2

/-- The causes of both copies are shown. -/
def State.showCauses (s : State) (c0 c1 : Nat) : State :=
  (s.put R.corCalStatus F.corCalStatus_CAUSE0 c0).put R.corCalStatus F.corCalStatus_CAUSE1 c1

/-- The calibration check after image build (R267). -/
def State.calibrationCheck (s : State) : State :=
  match s.lampMap with
  | none => s
  | some m =>
    let c0 := calCause s.serial m s.flash.cal0
    let c1 := calCause s.serial m s.flash.cal1
    let s1 := s.showCauses c0 c1
    let seq := fun i => calField ((s.calCopy i).getD []) 0x18 4
    if c0 = 0 ∧ (c1 ≠ 0 ∨ seq 1 ≤ seq 0) then s1.loadCal 0 ((s.calCopy 0).getD [])
    else if c1 = 0 then s1.loadCal 1 ((s.calCopy 1).getD [])
    else s1.loadNominal

/-! ### Unlock and APPLY (R269) -/

/-- The sequencer stands where calibration may change: IDLE or REDUCED. -/
def State.calOpen (s : State) : Bool := s.seq.state == .idle || s.seq.state == .reduced

/-- The copy that is not active. -/
def State.spareCopy (s : State) : Nat := 1 - s.get R.corCalStatus F.corCalStatus_COPY

/-- A write of COR_CAL_CTRL: UNLOCK, and APPLY, which starts only in IDLE or REDUCED. -/
def State.calCtrlWrite (s : State) (value : Nat) (req : Requester) : State :=
  let u := fieldGet value F.corCalCtrl_UNLOCK
  let s1 := if u = 1 ∧ s.calOpen = false then s.progError R.corCalCtrl value req else s.put R.corCalCtrl F.corCalCtrl_UNLOCK u
  if fieldGet value F.corCalCtrl_APPLY = 1 ∧ s1.calOpen ∧ s1.cor.applying.isNone then
    ({ s1 with cor := { s1.cor with applying := some s1.spareCopy } } : State).put R.corCalStatus F.corCalStatus_STATE 2
  else s1

/-- CAL_APPLY (R269). -/
def execCalApply (req : Requester) (value : Word) (s : State) : Out :=
  .next (s.byReq req (if s.live .cor then s.calCtrlWrite value.toNat req else s))

/-- CAL_APPLY_DONE: the inactive copy comes into force where it passes with a higher CAL_SEQ; else the active copy stays. A delayed
RUN is entered at the next frame boundary. -/
def State.calApplyDone (s : State) : State :=
  match s.cor.applying, s.lampMap with
  | some i, some m =>
    let cause := calCause s.serial m (s.calCopy i)
    let nominal := s.get R.corCalStatus F.corCalStatus_COPY != i && s.reg R.corCalSeq == 0 && s.cor.cal == CalSet.none
    let c := (s.calCopy i).getD []
    let s0 : State := { s with cor := { s.cor with applying := none } }
    let s1 : State := if s0.seq.delayed then
        { s0 with seq := { s0.seq with delayed := false, target := some { state := .run, from_ := s0.clock.now } } }
      else s0
    let s2 := s1.put R.corCalStatus (if i = 0 then F.corCalStatus_CAUSE0 else F.corCalStatus_CAUSE1) cause
    if cause = 0 ∧ (nominal ∨ s.reg R.corCalSeq < calField c 0x18 4) then s2.loadCal i c
    else s2.put R.corCalStatus F.corCalStatus_STATE (if nominal then 3 else 1)
  | _, _ => s

/-- CAL_APPLY_DONE (R269). -/
def execCalApplyDone (s : State) : Out := .next (if s.isTile && !s.rst.inReset then s.calApplyDone else s)

end Sys2Proof.Machine
end

