-- ==== Sys2Proof/Machine/Heat.lean ====
section
/-! DEFINITION. Heat requests of a tile (R263, R367, R368), the local cap (R262), and the brightness cap of a Pennant (R260, R261). -/

namespace Sys2Proof.Machine

/-- The frames of one second, rounded up (R262). -/
def State.secondFrames (s : State) : Nat :=
  match s.pattern with
  | some p => max 1 (ceilDiv p.fpDen (max 1 p.fpNum))
  | none => 1

/-- LOCAL_CAP moves to a value, its ramp starting at a frame (R262). -/
def State.moveLocal (s : State) (cap frame : Int) : State :=
  if s.cor.locCap.cap = cap then s
  else { s with cor := { s.cor with locCap := s.cor.locCap.next cap frame s.secondFrames } }

/-- The die heat request is active. -/
def State.dieReq (s : State) : Bool := s.flag R.thmCap F.thmCap_REQ

/-- The lamp heat request is active. -/
def State.lampReq (s : State) : Bool := s.flag R.corStatus F.corStatus_LAMP_REQ

/-- What a new heat request asks for: CAP_EFF × 15 / 16 (R263, R367). -/
def State.capWanted (s : State) : Nat := s.capEff s.frameInt * 15 / 16

/-- The CAP_WANTED that a HEAT_REQ carries and whether it is the lamp request's (R263): of two requests the smaller, of none 4,096. -/
def State.heatChoice (s : State) (lamp : Bool) : Nat × Bool :=
  if s.dieReq && s.lampReq then
    if s.thm.lampCap < s.thm.dieCap then (s.thm.lampCap, true) else (s.thm.dieCap, false)
  else if s.dieReq then (s.thm.dieCap, false)
  else if s.lampReq then (s.thm.lampCap, true)
  else (4096, lamp)

/-- A HEAT_REQ leaves on both chain ports (R224); a tile without an address originates none (R230). -/
def State.heatPacket (s : State) (cap hot : Nat) : State :=
  let p := makePacket 6 5 0xFFF s.domain s.tileAddr 0 s.evt.count s.frameNow 0 0 true false (leBytes 2 cap ++ [0, 0] ++ leBytes 2 hot ++ [0, 0])
  if s.tileAddr = 0xFFF then s
  else ({ s with evt := { s.evt with count := (s.evt.count + 1) % 2 ^ 32 } } : State).enqueueAll s.chainPorts p

/-- A HEAT_REQ is sent, THM_CAP shows its value, and an enforced LOCAL_CAP follows it; the last request released returns LOCAL_CAP to
4,096 (R262, R368). -/
def State.sendHeat (s : State) (lamp : Bool) : State :=
  let (cap, byLamp) := s.heatChoice lamp
  let hot := if byLamp then s.get R.corStatus F.corStatus_HOTTEST else s.get R.thmStatus F.thmStatus_HOTTEST
  let s1 := (s.heatPacket cap hot).put R.thmCap F.thmCap_CAP_WANTED cap
  if s1.dieReq || s1.lampReq then
    if s1.flag R.thmCap F.thmCap_LOCAL then s1.moveLocal cap (s1.frameInt + 1) else s1
  else ((s1.put R.thmCap F.thmCap_ANSWERED 0).put R.thmCap F.thmCap_LOCAL 0).moveLocal 4096 (s1.frameInt + 1)

/-- A request becomes active: where none was, it is unanswered. -/
def State.startRequest (s : State) : State :=
  if s.dieReq || s.lampReq then s else (s.put R.thmCap F.thmCap_ANSWERED 0).put R.thmCap F.thmCap_LOCAL 0

/-- LAMP_HEAT_REQ (R263): while HOTTEST exceeds the limit a request goes out; after 10 s at 2 °C or more below it the request ends. -/
def State.lampHeat (s : State) : State :=
  let hot := toSigned 16 (s.get R.corStatus F.corStatus_HOTTEST)
  if toSigned 16 (s.get R.corLampLimit F.corLampLimit_LIMIT) < hot then
    let s1 : State := { s.startRequest with thm := { s.thm with lampCap := s.capWanted } }
    (s1.put R.corStatus F.corStatus_LAMP_REQ 1).sendHeat true
  else
    let cool : Bool := match s.cor.coolFrom with
      | some t => decide (t + 10000000000 ≤ s.clock.now)
      | none => false
    if s.lampReq && cool then
      (({ s with thm := { s.thm with lampCap := 4096 } } : State).put R.corStatus F.corStatus_LAMP_REQ 0).sendHeat true
    else s

/-- LAMP_HEAT_REQ (R263). -/
def execLampHeatReq (s : State) : Out := .next (if s.isTile then s.lampHeat else s)

/-- HEAT_GRACE_EXPIRE (R368): a request unanswered for the tile grace time moves LOCAL_CAP to the latest CAP_WANTED (R262). -/
def execHeatGraceExpire (s : State) : Out :=
  .next (if s.isTile && (s.dieReq || s.lampReq) && !s.flag R.thmCap F.thmCap_ANSWERED && !s.flag R.thmCap F.thmCap_LOCAL then
    (s.put R.thmCap F.thmCap_LOCAL 1).moveLocal (s.get R.thmCap F.thmCap_CAP_WANTED) (s.frameInt + 1)
  else s)

/-- A tile acts on a cap (R260), which answers an active heat request that wanted no less (R368). -/
def State.takeCap (s : State) (cap fade frame : Nat) : State :=
  let s1 : State := { s with cor := { s.cor with wall := s.cor.wall.next cap frame fade } }
  if (s1.dieReq || s1.lampReq) && decide (cap ≤ s1.get R.thmCap F.thmCap_CAP_WANTED) then
    ((s1.put R.thmCap F.thmCap_ANSWERED 1).put R.thmCap F.thmCap_LOCAL 0).moveLocal 4096 (frame + max 1 fade : Nat)
  else s1

/-- PENNANT_CAP in a tile (R220, R260): a copy not yet acted on, from the claim winner, addressed to the tile or to all. -/
def execPennantCap (port : Fin 96) (pkt : Packet) (s : State) : Out :=
  .next (if s.isTile && s.takes port.val pkt 3 0x12 && (s.isMine pkt || pkt.hdr.dst.toNat == 0xFFF) then
    let s1 := s.noteClaim pkt.hdr.claim.toNat none
    if s1.pennantNew port.val pkt then
      (s1.pennantActed pkt).takeCap (min 4096 (payField pkt 8 2)) (payField pkt 0xA 2) (payField pkt 0xC 6)
    else if s1.fromWinner port.val pkt.hdr.claim.toNat then s1 else s1.refuseClaim
  else s)

end Sys2Proof.Machine
end

