-- ==== Sys2Proof/Machine/Correction.lean ====
section
/-! DEFINITION. The correction pipeline (R241 to R265), the board sensors and the thermal grid (R250 to R252), self-heating (R253), the
light-sensor loop (R255 to R258), and the raw board bus. -/

namespace Sys2Proof.Machine

/-! ### Stages 1 and 2 -/

/-- The EOTF entry of a colour in a bank (R246). -/
def State.eotf (s : State) (bank c q : Nat) : Int := s.get (R.corEotf bank c q) F.corEotf_L

/-- L2 of a colour (R247): matrix row, offset, trim. -/
def stage2 (r c : Nat) (l1 : List Int) : Int :=
  let sum := recM r c 0 * l1.getD 0 0 + recM r c 1 * l1.getD 1 0 + recM r c 2 * l1.getD 2 0
  let m1 := clampInt 0 1048575 ((sum + 4096) / 8192 + recO r c)
  min 1048575 ((m1 * recTrim r + 16384) / 32768)

/-! ### Temperatures (R252 to R254) -/

/-- A node of the thermal grid, s11.4. -/
def State.gridNode (s : State) (n : Nat) : Int := toSigned 16 (s.reg (R.corGrid (n / 2)) / 2 ^ (16 * (n % 2)))

/-- Cell and fraction along one direction of the grid (R252). -/
def gridPlace (x w : Nat) : Nat × Nat :=
  let u := if w ≤ 1 then 0 else x * 61440 / (w - 1)
  if u / 4096 = 15 then (14, 4096) else (u / 4096, u % 4096)

/-- The board temperature at a lamp (R252). -/
def State.boardTemp (s : State) (w h x y : Nat) : Int :=
  let (i, fx) := gridPlace x w
  let (j, fy) := gridPlace y h
  let n := fun a b => s.gridNode (16 * a + b)
  let row := fun a => n a i * (4096 - fx : Nat) + n a (i + 1) * (fx : Nat)
  (row j * (4096 - fy : Nat) + row (j + 1) * (fy : Nat) + 8388608) / 16777216

/-- The self-heating state H of a lamp (R253). -/
def State.heatOf (s : State) (key : Nat) : Nat := sRead (fun _ => 0) s.cor.heat key

/-- The self-heating rise of a lamp of a bin (R253). -/
def selfRise (b : BinRec) (h : Nat) : Int := ((b.heatK * h + 524288) / 1048576 : Nat)

/-- H of a lamp: 0 whenever TAU_MS of its bin is 0 (R253). -/
def State.lampH (s : State) (l : LampAt) : Nat :=
  match s.binOf (recBin (s.lampRec l.key)) with
  | some b => if b.tauMs = 0 then 0 else s.heatOf l.key
  | none => s.heatOf l.key

/-- The estimated temperature of a lamp (R253). -/
def State.lampTemp (s : State) (m : LampMap) (l : LampAt) : Int :=
  let t := s.boardTemp m.width m.height l.x l.y
  match s.binOf (recBin (s.lampRec l.key)) with
  | some b => t + selfRise b (s.lampH l)
  | none => t

/-- K of a colour (R254). -/
def gainK (b : BinRec) (c : Nat) (t : Int) : Int :=
  let d := clampInt (-32768) 32767 (t - b.tref)
  clampInt 0 67108863 (16777216 + (b.a1.getD c 0 * d + 128) / 256 + (b.a2.getD c 0 * (d * d) + 32768) / 65536)

/-! ### The pipeline of one lamp -/

/-- What the correction of a slot uses for every lamp: EOTF bank, depth, dither, whether stage 3 uses the model, G4, CAP_EFF, TF,
frame and slot. -/
structure CorrSet where
  bank : Nat
  depth : Nat
  dith : Bool
  model : Bool
  g4 : List Nat
  cap : Nat
  tf : Nat
  frame : Nat
  slot : Nat
  deriving DecidableEq, Repr

/-- Stages 3 to 6 of a colour (R254, R255, R259, R264). -/
def stages3to6 (cs : CorrSet) (k : Int) (c : Nat) (l2 : Int) : Nat :=
  let l3 := min 1048575 ((l2 * k + 8388608) / 16777216)
  let l4 := min 1048575 ((l3 * (cs.g4.getD c 16384 : Nat) + 8192) / 16384)
  let l5 := (l4 * (cs.cap : Nat) + 2048) / 4096
  ((l5 * (cs.tf : Nat) + 2048) / 4096).toNat

/-- The grey word of a colour (R265). -/
def greyWord (cs : CorrSet) (x y c l6 : Nat) : Nat :=
  let v := l6 * (2 ^ cs.depth - 1)
  let g := if cs.dith then (v + dither x y c cs.frame cs.slot * 16) / 1048576 else (v + 524288) / 1048576
  g * 2 ^ (16 - cs.depth)

/-- The fault state byte of a lamp (R300). -/
def State.faultByte (s : State) (key : Nat) : Nat :=
  s.reg (R.lmpFaultMap (key / 65536) (key % 65536 / 4)) / 2 ^ (8 * (key % 4)) % 256

/-- A lamp is driven dark: DEAD, DISABLED or ACTED (R245, R303). -/
def State.lampOff (s : State) (key : Nat) : Bool :=
  recDead (s.lampRec key) || recDisabled (s.lampRec key) || bitOf (s.faultByte key) 5

/-- What the pipeline answers for a lamp: L2 of the three colours, L6, the grey words and the estimated temperature. -/
structure LampOut where
  l2 : List Int
  l6 : Rgb
  grey : Rgb
  temp : Int
  deriving DecidableEq, Repr

/-- The canvas coordinates that a lamp dithers with (R265): its position, beyond the tile's origin once that is valid. -/
def State.ditherAt (s : State) (l : LampAt) : Nat × Nat :=
  match s.dsc.origin with
  | some o => (o.1 + l.x, o.2 + l.y)
  | none => (l.x, l.y)

/-- A lamp through stages 1 to 7; `off` forces its grey words to 0. -/
def State.correctLamp (s : State) (cs : CorrSet) (m : LampMap) (l : LampAt) (q : Rgb) (off : Bool) : LampOut :=
  let r := s.lampRec l.key
  let l1 := [s.eotf cs.bank 0 q.r, s.eotf cs.bank 1 q.g, s.eotf cs.bank 2 q.b]
  let l2 := [stage2 r 0 l1, stage2 r 1 l1, stage2 r 2 l1]
  let t := s.lampTemp m l
  let k := fun c => match s.binOf (recBin r) with
    | some b => if cs.model then gainK b c t else 16777216
    | none => 16777216
  let v := fun c => stages3to6 cs (k c) c (l2.getD c 0)
  let xy := s.ditherAt l
  let g := fun c => if off then 0 else greyWord cs xy.1 xy.2 (4 + c) (v c)
  { l2 := l2, l6 := ⟨v 0, v 1, v 2⟩, grey := ⟨g 0, g 1, g 2⟩, temp := t }

/-! ### Which picture a slot corrects (R82, R83, R242) -/

/-- The sequencer state that governs a frame. -/
def State.seqStateAt (s : State) (n : Int) : SeqState :=
  match s.seq.target, s.pattern with
  | some t, some p => if (t.from_ : Int) ≤ frameStart s.origin p n then t.state else s.seq.state
  | _, _ => s.seq.state

/-- The frame hold holds a complete picture of slot 0. -/
def State.hasSlot0 (s : State) : Bool := s.hold.pics.any fun p => p.slot == 0

/-- The state that governs the correction of a slot: that of the sequencer where the slot latches, and after a core reset the one to be
returned to. -/
def State.corrState (s : State) (n : Int) (k : Nat) : Option SeqState :=
  if s.latches n k then some (s.seqStateAt n)
  else match s.seq.interrupted with
    | some st => if s.hasSlot0 && s.latchRule st n k then some st else none
    | none => none

/-- The built-in test picture: eight bars at 50 % level (R83). -/
def testBar (w x : Nat) : Rgb :=
  let v := fun b : Bool => if b then 2048 else 0
  match x * 8 / max 1 w with
  | 0 => ⟨v true, v true, v true⟩ | 1 => ⟨v true, v true, v false⟩ | 2 => ⟨v false, v true, v true⟩ | 3 => ⟨v false, v true, v false⟩
  | 4 => ⟨v true, v false, v true⟩ | 5 => ⟨v true, v false, v false⟩ | 6 => ⟨v false, v false, v true⟩ | _ => ⟨0, 0, 0⟩

/-- REDUCE_CONTENT for a frame (TIME_SEQ_CFG). -/
def State.contentFor (s : State) (n : Int) : Nat :=
  if s.frameInt < n then s.get R.timeSeqCfg F.timeSeqCfg_REDUCE_CONTENT else s.seq.content

/-- The canvas value of a lamp in a slot picture. -/
def picLamp (m : LampMap) (p : SlotPic) (l : LampAt) : Rgb := p.lamps.getD (l.y * m.width + l.x) ⟨0, 0, 0⟩

/-- What a slot corrects, by lamp, and for a picture held in canvas mode the frame that its PIX named; none where no complete picture of the
slot has come, so that its grey words stay (R24, R82, R85). -/
def State.corrPicture (s : State) (st : SeqState) (m : LampMap) (n : Int) (k : Nat) : Option (Int × (LampAt → Rgb)) :=
  let held := fun j => (s.hold.pics.find? fun p => p.slot == j).map fun p =>
    (if s.layerMode then n else toSigned 48 p.frame, picLamp m p)
  match st with
  | .reduced =>
    match s.contentFor n with
    | 1 => some (n, fun l => testBar m.width l.x)
    | 2 => held 0
    | _ => some (n, fun _ => ⟨0, 0, 0⟩)
  | _ => held k

/-! ### The correction of a quarter (R242) -/

/-- Stage 3 uses the model: TEMP, TRIM, and SENSOR while every colour sensor has failed (R255, R258). -/
def State.usesModel (s : State) (rf : RegFile) : Bool :=
  rfGet rf R.corCfg F.corCfg_MODE != 1 || s.flag R.corStatus F.corStatus_SENSOR_FALLBACK

/-- G4 of a frame is fixed as its first correction starts, or at its boundary: every slot and quarter of the frame uses one value (R255). -/
def State.takeGain (s : State) (n : Int) : State :=
  if s.cor.gainFrame = some n then s
  else { s with cor := { s.cor with gainFrame := some n, gain := (List.range 3).map fun c => s.get (R.corGain c) F.corGain_G4 } }

/-- The settings of a slot's correction, those of the generation of a frame (R85). -/
def State.corrSet (s : State) (n : Int) (k : Nat) (genFrame : Int) : CorrSet :=
  let rf := s.cfgFor genFrame
  { bank := rfGet rf R.corCfg F.corCfg_EOTF_BANK, depth := rfGet rf R.corCfg F.corCfg_DEPTH,
    dith := rfFlag rf R.corCfg F.corCfg_DITHER, model := s.usesModel rf, g4 := s.cor.gain, cap := s.capEff n, tf := s.tf n,
    frame := ofSigned 48 n, slot := k }

/-- A lamp in the view of a colour sensor. -/
def inView (v : CalLight) (l : LampAt) : Bool := decide (v.x0 ≤ l.x ∧ l.x ≤ v.x1 ∧ v.y0 ≤ l.y ∧ l.y ≤ v.y1)

/-- A colour sensor takes a lamp-slot into its accumulators (R256). -/
def LightSens.take (a : LightSens) (cs : CorrSet) (l2 : List Int) : LightSens :=
  let d := fun c => ((l2.getD c 0 * (cs.cap : Nat) * (cs.tf : Nat) + 8388608) / 16777216).toNat
  { a with n := a.n + 1, acc := (List.range 3).map fun c => (a.acc.getD c 0 + d c) % 2 ^ 48 }

/-- One lamp is corrected: grey words, stage-6 values, and the colour sensors that see it. -/
def State.corrOne (s : State) (cs : CorrSet) (m : LampMap) (pic : LampAt → Rgb) (ecc : List (Nat × Nat)) (l : LampAt) : State :=
  let bad := ecc.contains (l.channel, l.pos)
  let off := bad || s.lampOff l.key
  let o := s.correctLamp cs m l (pic l) off
  let s1 := if bad then s.count (R.corQstat (l.channel / 128)) F.corQstat_ECC_DISABLED else s
  let lights := if off then s1.cor.lights else s1.cor.lights.map fun a =>
    match s1.cor.cal.lights[a.idx]? with
    | some v => if inView v l then a.take cs o.l2 else a
    | none => a
  { s1 with cor := { s1.cor with
      greys := sWrite (fun _ => ⟨0, 0, 0⟩) s1.cor.greys l.key o.grey,
      l6New := sWrite (fun _ => ⟨0, 0, 0⟩) s1.cor.l6New l.key (if bad then ⟨0, 0, 0⟩ else o.l6), lights := lights } }

/-- The lamps of a quarter in the order of R242: channel by channel, in shift order. -/
def State.quarterOrder (s : State) (q : Nat) : List LampAt :=
  sortBy (fun a b => decide (a.key ≤ b.key)) (s.lamps.filter fun l => l.channel / 128 == q)

/-- CORRECTION_START (R242): at b − 200 µs a quarter's lamps of the slot ahead go through the pipeline; `ecc` names the channels and
positions of records with an uncorrected error. -/
def State.correction (s : State) (q : Nat) (ecc : List (Nat × Nat)) : State :=
  match s.lampMap, s.deadlineSlot with
  | some m, some (v, _, k) =>
    let n := match v.pattern with
      | some p => frameAt v.origin p ((s.clock.now : Int) + 200000)
      | none => 0
    match v.corrState n k with
    | some st =>
      match v.corrPicture st m n k with
      | some (f, pic) =>
        let s1 := s.takeGain n
        let cs := ({ v with cor := s1.cor } : State).corrSet n k f
        (s1.quarterOrder q).foldl (fun t l => t.corrOne cs m pic ecc l) s1
      | none => s
    | none => s
  | _, _ => s

/-- CORRECTION_START (R242); a core reset stops the pipeline (R270). `errors` are uncorrected memory errors outside the per-lamp records
(R404; log entry 139). -/
def execCorrectionStart (quarter : Fin 4) (ecc : List (Fin 512 × Fin 512)) (errors : List MemError) (s : State) : Out :=
  .next (if s.isTile && !s.rst.inReset then
    (s.memErrors errors).correction quarter.val (ecc.map fun e => (e.1.val, e.2.val))
  else s)

/-! ### Self-heating (R253) -/

/-- The drive level of a lamp (R253); 0 where it is DEAD, DISABLED or ACTED. -/
def driveLevel (b : BinRec) (off : Bool) (v : Rgb) : Nat :=
  if off then 0 else min 65535 ((b.wr * v.r + b.wg * v.g + b.wb * v.b) / 4096)

/-- alpha of a bin for a slot period in µs (R253). -/
def heatAlpha (b : BinRec) (ts : Nat) : Nat := 65536 * ts / (b.tauMs * 1000 + ts)

/-- The slot period in whole µs (R253). -/
def slotMicros (p : PatternRec) : Nat := p.fpNum * 1000000 / max 1 p.fpDen / max 1 p.slots

/-- H of one lamp over a slot: updated from the stage-6 values sent where it shows light, and 0 where TAU_MS is 0 (R253). -/
def State.heatStep (s : State) (p : PatternRec) (shines : Bool) (l : LampAt) : State :=
  let set := fun h => ({ s with cor := { s.cor with heat := sWrite (fun _ => 0) s.cor.heat l.key h } } : State)
  match s.binOf (recBin (s.lampRec l.key)) with
  | some b =>
    if b.tauMs = 0 then set 0
    else if shines then
      let h := s.heatOf l.key
      let d := driveLevel b (s.lampOff l.key) (sRead (fun _ => ⟨0, 0, 0⟩) s.cor.l6 l.key)
      set ((h : Int) + ((heatAlpha b (slotMicros p) : Int) * ((d : Int) - h) + 32768) / 65536).toNat
    else s
  | none => s

/-! ### Board sensors and the grid (R250, R251) -/

/-- The lower median of a sorted list of integers. -/
def lowerMedian (l : List Int) : Int := (sortBy (fun a b => decide (a ≤ b)) l).getD ((l.length - 1) / 2) 0

/-- The temperature of a board sensor, s11.4. -/
def State.boardVal (s : State) (k : Nat) : Int := toSigned 16 (s.get (R.corBsens k) F.corBsens_TEMP)

/-- The VALID board sensors. -/
def State.validBoards (s : State) : List Nat := (List.range 32).filter fun k => s.get (R.corBsens k) F.corBsens_STATE == 1

/-- The mean of values, rounded (R251). -/
def roundedMean (l : List Int) : Int :=
  let n : Int := max 1 l.length
  (l.foldl (· + ·) 0 + n / 2) / n

/-- The median of the die's VALID sensors (R251, R358). -/
def State.dieMedian (s : State) : Int :=
  lowerMedian (((List.range 64).filter fun n => s.get (R.thmSensor n) F.thmSensor_STATE == 0).map fun n =>
    toSigned 16 (s.get (R.thmSensor n) F.thmSensor_RAW))

/-- A node of the grid from the VALID sensors (R251). -/
def State.nodeValue (s : State) (pairs : List (Nat × Nat)) : Int :=
  let ok := s.validBoards
  if ok.isEmpty then s.dieMedian
  else
    let use := pairs.filter fun p => ok.contains p.1
    let w := use.foldl (fun a p => a + p.2) 0
    if w = 0 then roundedMean (ok.map s.boardVal)
    else (use.foldl (fun a p => a + (p.2 : Int) * s.boardVal p.1) 0 + (w / 2 : Nat)) / (w : Int)

/-- The grid recomputed after a poll; it takes effect at the next slot boundary (R251). -/
def State.gridUpdate (s : State) : State :=
  let g := (List.range 256).map fun n => s.nodeValue (s.cor.cal.nodes.getD n [])
  ({ s with cor := { s.cor with gridNext := some g } } : State).put R.corStatus F.corStatus_NO_BOARD s.validBoards.isEmpty.toNat

/-- The grid that waits comes into force (R251). -/
def State.gridTake (s : State) : State :=
  match s.cor.gridNext with
  | some g =>
    let s1 := (List.range 128).foldl (fun t w =>
      t.setReg (R.corGrid w) (ofSigned 16 (g.getD (2 * w) 0) + 65536 * ofSigned 16 (g.getD (2 * w + 1) 0))) s
    { s1 with cor := { s1.cor with gridNext := none } }
  | none => s

/-- One poll of a board sensor (R250): its two bytes, none where it does not acknowledge. -/
def State.pollBoard (s : State) (b : BoardSens) (answer : Option Nat) : State :=
  let key := R.corBsens b.idx
  let v := match answer with
    | some x => toSigned 16 x / 16
    | none => 0
  let out := decide (v < -640 ∨ 2400 < v)
  let b1 : BoardSens := match answer with
    | none => { b with nack := b.nack + 1, range := 0, good := 0 }
    | some _ => if out then { b with nack := 0, range := b.range + 1, good := 0 } else { b with nack := 0, range := 0, good := b.good + 1 }
  let s1 : State := { s with cor := { s.cor with boards := s.cor.boards.map fun x => if x.idx = b.idx then b1 else x } }
  let s2 := if answer.isSome && !out then s1.put key F.corBsens_TEMP (ofSigned 16 v) else s1
  if s2.get key F.corBsens_STATE = 1 then
    if 3 ≤ b1.nack ∨ 3 ≤ b1.range then (s2.put key F.corBsens_STATE 2).raise .cor 2 2 0 [b.idx] else s2
  else if 10 ≤ b1.good then s2.put key F.corBsens_STATE 1 else s2

/-- BOARD_SENSOR_POLL (R250): every configured sensor is polled; one that the command does not name does not acknowledge. -/
def State.boardPoll (s : State) (readings : List (Nat × Option Nat)) : State :=
  (s.cor.boards.foldl (fun t b => t.pollBoard b ((sLookup readings b.idx).getD none)) s).gridUpdate

/-- BOARD_SENSOR_POLL (R250); a core reset restarts the management processor and keeps the grid (R270). -/
def execBoardSensorPoll (readings : List (Fin 32 × Option (BitVec 16))) (s : State) : Out :=
  .next (if s.isTile && !s.rst.inReset then s.boardPoll (readings.map fun r => (r.1.val, r.2.map (·.toNat))) else s)

/-! ### The light-sensor loop (R256 to R258) -/

/-- The three channels of a reading, in the sensor's byte order. -/
def lightChannels (big : Bool) (v : Nat) : List Nat :=
  (List.range 3).map fun j =>
    let x := v / 2 ^ (16 * j) % 65536
    if big then x % 256 * 256 + x / 256 else x

/-- The value of COR_LSENS_READ for three channels. -/
def lightWord (l : List Nat) : Nat := l.getD 0 0 + l.getD 1 0 * 2 ^ 16 + l.getD 2 0 * 2 ^ 32

/-- One period of a colour sensor (R258): the channels read, none where it is skipped. -/
def State.lightPeriod (s : State) (a : LightSens) (ch : Option (List Nat)) : State :=
  let key := R.corLsensStatus a.idx
  let failed := s.get key F.corLsensStatus_STATE = 3
  match ch with
  | some v =>
    let good := a.good + 1
    let s1 : State := { s with cor := { s.cor with lights := s.cor.lights.map fun x => if x.idx = a.idx then { x with good := good } else x } }
    let s2 := (s1.setReg (R.corLsensRead a.idx) (lightWord v)).put key F.corLsensStatus_SKIPS 0
    if failed then (if 10 ≤ good then s2.put key F.corLsensStatus_STATE 1 else s2) else s2.put key F.corLsensStatus_STATE 1
  | none =>
    let s1 : State := { s with cor := { s.cor with lights := s.cor.lights.map fun x => if x.idx = a.idx then { x with good := 0 } else x } }
    let s2 := s1.count key F.corLsensStatus_SKIPS
    if failed then s2
    else if 10 ≤ s2.get key F.corLsensStatus_SKIPS then (s2.put key F.corLsensStatus_STATE 3).raise .cor 4 2 0 [a.idx]
    else s2.put key F.corLsensStatus_STATE 2

/-- t and e of a sensor for the three colours (R257). -/
def lightTE (v : CalLight) (a : LightSens) (m : List Nat) : List (Int × Int) :=
  (List.range 3).map fun c =>
    let t : Int := if a.n = 0 then 0 else (a.acc.getD c 0 / a.n : Nat)
    let e := ((List.range 3).foldl (fun x j =>
      x + v.sinv.getD (3 * c + j) 0 * ((m.getD j 0 : Int) - v.dark.getD j 0)) 0) / 16777216
    (t, e)

/-- The mean ratio r of a colour (R257) over the sensors in use; none where the set is empty. -/
def gainRatio (te : List (Int × Int)) : Option Int :=
  let use := te.filter fun x => decide (16384 ≤ x.1 ∧ 0 < x.2)
  if use.isEmpty then none else some (use.foldl (fun a x => a + x.2 * 65536 / x.1) 0 / (use.length : Int))

/-- A gain moves towards the one wanted by at most 0.5 %, within its limits (R257). -/
def gainToward (g want lo hi : Int) : Int :=
  let step := g * 5 / 1000
  clampInt lo hi (clampInt (g - step) (g + step) want)

/-- A colour's gain takes its new value; reaching a limit raises GAIN_LIMIT once per approach (R257). -/
def State.setGain (s : State) (c : Nat) (g lo hi : Int) : State :=
  let at_ := decide (g = lo ∨ g = hi)
  let was := s.cor.atLimit.getD c false
  let s1 : State := { s.setReg (R.corGain c) g.toNat with cor := { s.cor with atLimit := s.cor.atLimit.set c at_ } }
  if at_ && !was then s1.raise .cor 3 1 0 [c, g.toNat] else s1

/-- A colour's gain steps (R257). Where r is 0 the spec states no quotient: the value wanted is free (log entry 3). -/
def State.stepGain (s : State) (te : List (List (Int × Int))) (c : Nat) : State :=
  let lo : Int := s.get R.corGainLimit F.corGainLimit_GMIN
  let hi : Int := s.get R.corGainLimit F.corGainLimit_GMAX
  let g : Int := s.get (R.corGain c) F.corGain_G4
  match gainRatio (te.map fun l => l.getD c (0, 0)) with
  | none => s
  | some r =>
    if r = 0 then
      let x := s.fresh 32
      x.2.setGain c (gainToward g x.1 lo hi) lo hi
    else s.setGain c (gainToward g (g * 65536 / r) lo hi) lo hi

/-- LIGHT_SENSOR_LOOP (R257, R258): each sensor is read, the gains step in SENSOR and TRIM, and the accumulators start again. -/
def State.lightLoop (s : State) (readings : List (Nat × Option Nat)) : State :=
  let read := fun (a : LightSens) => match (sLookup readings a.idx).getD none, s.cor.cal.lights[a.idx]? with
    | some v, some c =>
      let ch := lightChannels c.big v
      if ch.any (· == 65535) then none else some ch
    | _, _ => none
  let s1 := s.cor.lights.foldl (fun t a => t.lightPeriod a (read a)) s
  let te := s.cor.lights.filterMap fun a =>
    match read a, s.cor.cal.lights[a.idx]? with
    | some m, some v => if s1.get (R.corLsensStatus a.idx) F.corLsensStatus_STATE = 1 then some (lightTE v a m) else none
    | _, _ => none
  let s2 : State := { s1 with cor := { s1.cor with lights := s1.cor.lights.map fun a => { a with n := 0, acc := [0, 0, 0] } } }
  let s3 := s2.fallback
  let mode := s3.actGet R.corCfg F.corCfg_MODE
  if mode = 1 ∨ mode = 2 then (List.range 3).foldl (fun t c => t.stepGain te c) s3 else s3

/-- LIGHT_SENSOR_LOOP (R257). -/
def execLightSensorLoop (readings : List (Fin 4 × Option (BitVec 48))) (s : State) : Out :=
  .next (if s.isTile && !s.rst.inReset then s.lightLoop (readings.map fun r => (r.1.val, r.2.map (·.toNat))) else s)

/-! ### Register writes of COR -/

/-- A write of COR_GAIN: taken in TEMP, ignored otherwise (R255). -/
def State.gainWrite (s : State) (c value : Nat) : State :=
  if s.actGet R.corCfg F.corCfg_MODE = 0 then s.setReg (R.corGain c) (value % 65536) else s

/-- A write of COR_GAIN_LIMIT: GMAX below GMIN is a programming error. -/
def State.gainLimitWrite (s : State) (value : Nat) (req : Requester) : State :=
  if fieldGet value F.corGainLimit_GMAX < fieldGet value F.corGainLimit_GMIN then s.progError R.corGainLimit value req
  else s.setReg R.corGainLimit value

/-- A write of COR_I2C: GO starts a transaction. -/
def State.i2cWrite (s : State) (value : Nat) : State :=
  let keep := s.reg R.corI2c / 2 ^ 25 % 4 * 2 ^ 25
  let busy := if fieldGet value F.corI2c_GO = 1 then 2 ^ 25 else 0
  if s.flag R.corI2c F.corI2c_BUSY then s else s.setReg R.corI2c (value % 2 ^ 24 + (if busy = 0 then keep else busy + keep / 2 ^ 26 * 2 ^ 26))

/-- I2C_TRANSACTION (COR_I2C): the raw access that waits runs between two polls; `answer` is the byte the device returns, for a write
any byte that says it acknowledged. -/
def execI2cTransaction (answer : Option (BitVec 8)) (s : State) : Out :=
  .next (if s.isTile && !s.rst.inReset && s.flag R.corI2c F.corI2c_BUSY then
    let s1 := (s.put R.corI2c F.corI2c_BUSY 0).put R.corI2c F.corI2c_NACK answer.isNone.toNat
    match answer with
    | some v => if s1.flag R.corI2c F.corI2c_READ then s1.put R.corI2c F.corI2c_DATA v.toNat else s1
    | none => s1
  else s)

end Sys2Proof.Machine
end

