-- ==== Sys2Proof/Machine/LervisCfg.lean ====
section
/-! DEFINITION. The strobe commands of the Lervis bus (R276, R277) and the configuration words of a driver with their CRC (R280). -/

namespace Sys2Proof.Machine

/-! ### Strobes (R276, R277) -/

/-- The commands that a strobe selects by its count (R277); a driver sets STROBE_ERR at any other count. -/
inductive StrobeCmd where
  | sync | latch | rdStatus | wrGray | wrCfg | nop | unknown
  deriving DecidableEq, Repr

/-- The command of a strobe of `c` rising edges of LCK with LLE high (R277). -/
def strobeCmd (c : Nat) : StrobeCmd :=
  match c with
  | 1 => .sync | 2 => .latch | 3 => .rdStatus | 4 => .wrGray | 6 => .wrCfg | 7 => .nop | _ => .unknown

/-! ### Configuration words (R280) -/

/-- The CRC-16 of configuration words (R280), each word most significant byte first. -/
def cfgCrc (ws : List Nat) : Nat := crc16 (ws.flatMap fun w => [w / 256 % 256, w % 256])

/-- ENABLE of a driver (R280): bit o is set where a lamp entry names output o. -/
def enableWord (m : LampMap) (channel driver : Nat) : Nat :=
  (lampsOf m).foldl (fun w l => if l.channel = channel ∧ l.pos / 16 = driver then setBit w (l.pos % 16) true else w) 0

/-- The 48 configuration words of a driver (R280). -/
def configWords (c : DrvCfg) (r : ChannelRec) (enable : Nat) : List Nat :=
  let head := [(c.depth - 12) % 8 + c.seg % 8 * 8 + c.repeats % 256 * 256, r.gainR.toNat + r.gainG.toNat * 256, r.gainB.toNat, enable % 65536]
    ++ List.replicate 43 0
  head ++ [cfgCrc head]

/-- What a driver makes of 48 shifted words at WR_CFG (R277, R280): none where its check of them fails. -/
def configOf (ws : List Nat) : Option DrvCfg :=
  let w0 := ws.getD 0 0
  if ws.length = 48 ∧ ws.getD 47 0 = cfgCrc (ws.take 47) ∧ w0 % 8 ≤ 4 ∧ w0 / 256 ≠ 0 then
    some { depth := w0 % 8 + 12, seg := w0 / 8 % 8, repeats := w0 / 256 }
  else none

end Sys2Proof.Machine
end

