-- ==== Sys2Proof/Machine/Lervis.lean ====
section
/-! DEFINITION. The Lervis lamp bus (R271 to R293, R296, R423): groups, bank supplies, transfers, configuration, status scans, PWM fit. -/

namespace Sys2Proof.Machine

/-! ### Groups -/

/-- The register of a group's state. -/
def groupKey (g : Nat) : Nat := R.lmpGroupStatus (g / 16) (g % 16)

/-- The state of a group: 0 UNUSED, 1 HELD, 2 CONFIG, 3 SHOW, 4 BLANKED (R291). -/
def State.groupState (s : State) (g : Nat) : Nat := s.get (groupKey g) F.lmpGroupStatus_STATE

/-- The state with a group's state set. -/
def State.setGroupState (s : State) (g v : Nat) : State := s.put (groupKey g) F.lmpGroupStatus_STATE v

/-- A group beside its registers. -/
def State.groupSt (s : State) (g : Nat) : GroupSt := (s.lmp.groups.find? fun x => x.group == g).getD (GroupSt.fresh g)

/-- The state with a group's own state set. -/
def State.setGroup (s : State) (x : GroupSt) : State :=
  { s with lmp := { s.lmp with groups := (s.lmp.groups.filter fun y => y.group != x.group) ++ [x] } }

/-- A group sends a strobe, by its count (R277). -/
def State.strobe (s : State) (g c : Nat) : State := s.setGroup { s.groupSt g with strobes := (s.groupSt g).strobes ++ [c] }

/-- The drivers of a channel (R286). -/
def chDrivers (m : LampMap) (c : Nat) : Nat := match m.channels[c]? with | some r => r.drivers | none => 0

/-- The channels of a group (R271). -/
def groupChannels (g : Nat) : List Nat := (List.range 8).map fun j => 8 * g + j

/-- A group is used: one of its channels has a driver (R271). -/
def groupUsed (m : LampMap) (g : Nat) : Bool := (groupChannels g).any fun c => chDrivers m c != 0

/-- The used groups of the tile. -/
def State.usedGroups (s : State) : List Nat :=
  match s.lampMap with
  | some m => (List.range 64).filter (groupUsed m)
  | none => []

/-- The lamps of a group. -/
def State.groupLamps (s : State) (g : Nat) : List LampAt := s.lamps.filter fun l => l.channel / 8 == g

/-- The drivers of a group in the order of the status chain (R275, R282): channel and place in the chain. -/
def groupDrivers (m : LampMap) (g : Nat) : List (Nat × Nat) :=
  (groupChannels g).flatMap fun c => (List.range (chDrivers m c)).map fun i => (c, i)

/-- The bits of a transfer of a group, L = 768 × Dmax (R279). -/
def transferBits (m : LampMap) (g : Nat) : Nat := 768 * (groupChannels g).foldl (fun a c => max a (chDrivers m c)) 0

/-! ### PWM fit (R285) -/

/-- The frequency of a clock setting in MHz (LMP_CLK). -/
def clkMHz (d : Nat) : Nat := match d with | 0 => 150 | 1 => 100 | 2 => 75 | _ => 50

/-- T_PWM in ns (R285). -/
def State.pwmLength (s : State) (rep depth : Nat) : Nat :=
  ceilDiv (rep * 2 ^ depth * 1000) (clkMHz (s.get R.lmpClk F.lmpClk_LGC_DIV))

/-- The slack of a slot of a pattern for a repeat count (R285). -/
def State.slackAt (s : State) (p : PatternRec) (depth rep k : Nat) : Int :=
  let w := p.windows.getD k (0, 0)
  (w.2 : Int) - w.1 - s.pwmLength rep depth - 200

/-- The smallest slack over the used slots of a pattern. -/
def State.minSlack (s : State) (p : PatternRec) (depth rep : Nat) : Int :=
  (List.range p.slots).foldl (fun a k => min a (s.slackAt p depth rep k)) (s.slackAt p depth rep 0)

/-- REPEAT of a register file; 0 acts as 1. -/
def rfRepeat (rf : RegFile) : Nat := max 1 (rfGet rf R.lmpPwm F.lmpPwm_REPEAT)

/-- DEPTH of a register file. -/
def rfDepth (rf : RegFile) : Nat := rfGet rf R.corCfg F.corCfg_DEPTH

/-- The largest repeat count that fits every used slot; none where even 1 does not (R285). -/
def State.repeatFit (s : State) (rf : RegFile) (p : PatternRec) : Option Nat :=
  (((List.range (rfRepeat rf)).map (· + 1)).filter fun r => decide (0 ≤ s.minSlack p (rfDepth rf) r)).getLast?

/-- A group leaves SHOW for BLANKED, or BLANKED for SHOW (R291): LBLANK_N is asserted at once and deasserted at a LATCH. -/
def State.blankGroup (s : State) (blank : Bool) (g : Nat) : State :=
  if blank then
    if s.groupState g = 3 then (s.setGroupState g 4).setGroup { s.groupSt g with lit := false } else s
  else if s.groupState g = 4 then s.setGroupState g 3 else s

/-- A group blanks while FORCE_BLANK is set or no repeat count fits (R291). -/
def State.mustBlank (s : State) : Bool := s.flag R.lmpCtrl F.lmpCtrl_FORCE_BLANK || s.flag R.lmpStatus F.lmpStatus_PWM_FIT

/-- Every used group follows the two conditions of BLANKED (R291). -/
def State.followBlank (s : State) : State := s.usedGroups.foldl (fun t g => t.blankGroup t.mustBlank g) s

/-- SLACK_US of a slack. -/
def slackMicros (x : Int) : Nat := min 65535 (x.toNat / 1000)

/-- REPEAT_USED is evaluated for the settings and the pattern in force (R285). Where no count fits, the spec states no value of
REPEAT_USED: it is free (log entry 3). -/
def State.pwmFit (s : State) : State :=
  match s.pattern with
  | none => s
  | some p =>
    if !s.isTile then s
    else
      let rf := s.active
      match s.repeatFit rf p with
      | some r =>
        let s1 := (s.put R.lmpStatus F.lmpStatus_REPEAT_USED r).put R.lmpStatus F.lmpStatus_PWM_FIT 0
        let s2 := s1.put R.lmpStatus F.lmpStatus_SLACK_US (slackMicros (s.minSlack p (rfDepth rf) r))
        (if r < rfRepeat rf then s2.raise .lmp 3 1 0 [r, rfRepeat rf] else s2).followBlank
      | none =>
        let x := s.fresh 8
        let s1 := (x.2.put R.lmpStatus F.lmpStatus_REPEAT_USED x.1).put R.lmpStatus F.lmpStatus_PWM_FIT 1
        let s2 := s1.put R.lmpStatus F.lmpStatus_SLACK_US (slackMicros (s.minSlack p (rfDepth rf) 1))
        (s2.raise .lmp 4 3 0 [s.seq.pattern]).followBlank

/-! ### Bank supplies (R273, R423) -/

/-- A bank's supply is valid. -/
def State.bankValid (s : State) (q : Nat) : Bool := s.lmp.volts.getD q 0 == 1 || s.lmp.volts.getD q 0 == 2

/-- The used groups of a quarter. -/
def State.bankGroups (s : State) (q : Nat) : List Nat := s.usedGroups.filter fun g => g / 16 == q

/-- A group enters CONFIG (R291), where LMP first sends NOP (R277). -/
def State.enterConfig (s : State) (g : Nat) : State :=
  ((s.setGroupState g 2).setGroup { s.groupSt g with
    scans := 0, failed := false, lit := false, scanning := false, sent := false, strobes := [] }).strobe g 7

/-- A group enters HELD (R291). -/
def State.enterHeld (s : State) (g : Nat) : State :=
  (s.setGroupState g 1).setGroup { s.groupSt g with lit := false, scanning := false, sent := false, strobes := [] }

/-- The groups at the end of image build (R273, R291): CONFIG where the bank is valid, else HELD with BANK_SUPPLY. -/
def State.lervisBuild (s : State) : State :=
  (List.range 4).foldl (fun t q =>
    let gs := t.bankGroups q
    let t0 := t.setReg (R.lmpBank q) (t.lmp.volts.getD q 0)
    if gs.isEmpty then t0
    else if t0.bankValid q then gs.foldl State.enterConfig t0
    else (gs.foldl State.enterHeld t0).raise .lmp 1 3 q [t.lmp.volts.getD q 0]) s

/-- BANK_SUPPLY_CHANGE: the detector of a bank sees another level; a supply that leaves its range holds the bank's groups (R423). -/
def State.bankChange (s : State) (q v : Nat) : State :=
  let was := s.bankValid q
  let s1 : State := { s with lmp := { s.lmp with volts := s.lmp.volts.set q v } }
  if s1.isTile then
    let s2 := s1.setReg (R.lmpBank q) v
    let gs := s2.bankGroups q
    if was && !s2.bankValid q && !gs.isEmpty then (gs.foldl State.enterHeld s2).raise .lmp 1 3 q [v] else s2
  else s1

/-- BANK_SUPPLY_CHANGE (R423). -/
def execBankSupplyChange (quarter : Fin 4) (volts : BitVec 2) (s : State) : Out := .next (s.bankChange quarter.val volts.toNat)

/-- BANK_SUPPLY_VALID: valid for 10 ms, the bank's held groups return through CONFIG (R423). -/
def execBankSupplyValid (quarter : Fin 4) (s : State) : Out :=
  .next (if s.isTile && s.bankValid quarter.val then
    ((s.bankGroups quarter.val).filter fun g => s.groupState g == 1).foldl State.enterConfig s
  else s)

/-! ### The slot sequence (R288 to R290) -/

/-- The grey words that a store holds for a lamp. -/
def greyOf (m : List (Nat × Rgb)) (key : Nat) : Rgb := sRead (fun _ => ⟨0, 0, 0⟩) m key

/-- A store of grey words with a lamp's set. -/
def greySet (m : List (Nat × Rgb)) (key : Nat) (v : Rgb) : List (Nat × Rgb) := sWrite (fun _ => ⟨0, 0, 0⟩) m key v

/-- The slot whose transfer starts now: that of the instant 130 µs ahead, with the sequencer that governs it (R288). -/
def State.transferSlot (s : State) : Option (State × Int × Nat) :=
  let t : Int := s.clock.now + 130000
  let v := s.planned t
  match v.pattern with
  | some p =>
    let n := frameAt v.origin p t
    some (v, n, slotAt v.origin p n t)
  | none => none

/-- A lamp's words go into the shift register (R279, R289): zeros in CONFIG, the words last sent on a late channel, else those that
correction delivered. -/
def State.shiftLamp (s : State) (config : Bool) (late : List Nat) (l : LampAt) : State :=
  if config then { s with lmp := { s.lmp with shift := greySet s.lmp.shift l.key ⟨0, 0, 0⟩ } }
  else if late.contains l.channel then
    { s with lmp := { s.lmp with shift := greySet s.lmp.shift l.key (greyOf s.lmp.wbank l.key) } }
  else
    { s with lmp := { s.lmp with shift := greySet s.lmp.shift l.key (greyOf s.cor.greys l.key) },
             cor := { s.cor with l6 := greySet s.cor.l6 l.key (greyOf s.cor.l6New l.key) } }

/-- The transfer of a group: blocked, it is counted and nothing is sent (R289). -/
def State.transferGroup (s : State) (late blocked : List Nat) (g : Nat) : State :=
  if s.groupState g < 2 then s
  else if blocked.contains g then
    (s.count (R.lmpQstat (g / 16)) F.lmpQstat_SKIPPED).setGroup { s.groupSt g with sent := false }
  else
    let s1 := (s.groupLamps g).foldl (fun t l => t.shiftLamp (s.groupState g == 2) late l) s
    s1.setGroup { s1.groupSt g with sent := true }

/-- TRANSFER_START (R288, R289, R291): the groups of a quarter for a slot that latches, and the groups in CONFIG for any slot; `late` names
channels whose words are not complete, `blocked` groups whose transfer cannot start. -/
def State.transferStart (s : State) (q : Nat) (late blocked : List Nat) : State :=
  match s.transferSlot with
  | none => s
  | some (v, n, k) =>
    if (v.corrState n k).isNone then
      ((s.bankGroups q).filter fun g => s.groupState g == 2).foldl (fun t g => t.transferGroup [] blocked g) s
    else
      let mine := late.filter fun c => c / 128 == q
      let s1 := (s.bankGroups q).foldl (fun t g => t.transferGroup mine blocked g) s
      match mine with
      | [] => s1
      | c :: r =>
        let due : Int := match v.pattern with
          | some p => slotStart v.origin p n k - 130000
          | none => 0
        (s1.count (R.corQstat q) F.corQstat_LATE mine.length).raiseDeadline .lmp 9 q
          [ofSigned 32 n, k, ofSigned 32 due, r.foldl min c]

/-- TRANSFER_START (R288); during a core reset no transfer runs. -/
def execTransferStart (quarter : Fin 4) (late : List (Fin 512)) (blocked : List (Fin 64)) (s : State) : Out :=
  .next (if s.isTile && !s.rst.inReset then
    s.transferStart quarter.val (late.map (·.val)) (blocked.map (·.val)) else s)

/-- WR_GRAY (R277, R289): after a transfer the shift registers go to the write banks; a status scan starts where none runs
(RD_STATUS, R281). -/
def State.writeGrey (s : State) (g : Nat) : State :=
  if (s.groupSt g).sent then
    let s1 := (s.groupLamps g).foldl (fun t l =>
      ({ t with lmp := { t.lmp with wbank := greySet t.lmp.wbank l.key (greyOf t.lmp.shift l.key) } } : State)) s
    let x := s1.groupSt g
    s1.setGroup { x with sent := false, scanning := true, strobes := x.strobes ++ (if x.scanning then [4] else [4, 3]) }
  else s

/-- WR_GRAY (R277, R289). -/
def execWrGray (group : Fin 64) (s : State) : Out :=
  .next (if s.isTile && !s.rst.inReset && decide (2 ≤ s.groupState group.val) then s.writeGrey group.val else s)

/-- The frame and the sequencer of the next slot boundary. -/
def State.comingSlot (s : State) : Option (State × Int) :=
  match s.pattern with
  | none => none
  | some p =>
    let n := s.frameInt
    let k := s.slotNow
    let n1 := if k + 1 < p.slots then n else n + 1
    let t := if k + 1 < p.slots then slotStart s.origin p n (k + 1) else frameStart s.origin p (n + 1)
    let v := s.planned t
    match v.pattern with
    | some p2 => some (v, if v.seq.pattern = s.seq.pattern then n1 else frameAt v.origin p2 t)
    | none => none

/-- The configuration that a WR_CFG sends now (R280, R285, R290): that of the frame of the next LATCH. -/
def State.cfgWords (s : State) : DrvCfg :=
  match s.comingSlot with
  | some (v, n) =>
    let rf := v.cfgFor n
    let rep := match v.pattern with
      | some p => (v.repeatFit rf p).getD (s.get R.lmpStatus F.lmpStatus_REPEAT_USED)
      | none => s.get R.lmpStatus F.lmpStatus_REPEAT_USED
    { depth := rfDepth rf, seg := rfGet rf R.lmpPwm F.lmpPwm_SEG_LOG2, repeats := rep }
  | none =>
    { depth := rfDepth s.active, seg := rfGet s.active R.lmpPwm F.lmpPwm_SEG_LOG2, repeats := s.get R.lmpStatus F.lmpStatus_REPEAT_USED }

/-- What the drivers of a group make of the configuration words sent to them (R280): the words of its drivers differ in gains and ENABLE
alone, which their check passes over, so the first driver stands for all. -/
def State.cfgTaken (s : State) (g : Nat) (c : DrvCfg) : Option DrvCfg :=
  match s.lampMap with
  | none => none
  | some m =>
    match groupDrivers m g with
    | [] => none
    | d :: _ =>
      match m.channels[d.1]? with
      | some r => configOf (configWords c r (enableWord m d.1 d.2))
      | none => none

/-- WR_CFG (R277, R280, R290): every driver of the group takes the configuration as its pending one where it is good. -/
def State.writeCfg (s : State) (g : Nat) : State :=
  let s1 := (s.count (R.lmpQstat (g / 16)) F.lmpQstat_CFG_SENT).strobe g 6
  match s1.cfgTaken g s.cfgWords with
  | some c => s1.setGroup { s1.groupSt g with pendCfg := some c }
  | none => s1

/-- WR_CFG (R290). -/
def execWrCfg (group : Fin 64) (s : State) : Out :=
  .next (if s.isTile && decide (2 ≤ s.groupState group.val) then s.writeCfg group.val else s)

/-- LATCH in one group (R277, R284): PWM stops; write bank to display bank, pending configuration to configuration; a group in SHOW
deasserts LBLANK_N (R291). -/
def State.latchGroup (s : State) (g : Nat) : State :=
  if s.groupState g < 2 then s
  else
    let s1 := (s.groupLamps g).foldl (fun t l =>
      ({ t with lmp := { t.lmp with disp := greySet t.lmp.disp l.key (greyOf t.lmp.wbank l.key) } } : State)) s
    let x := s1.groupSt g
    s1.setGroup { x with
      cfg := if x.pendCfg.isSome then x.pendCfg else x.cfg, pendCfg := none, lit := s.groupState g == 3, strobes := [2], pwm := none }

/-- LATCH in every used group (R82, R288). -/
def State.latchAll (s : State) : State :=
  let s1 := s.usedGroups.foldl State.latchGroup s
  { s1 with seq := { s1.seq with latched := true } }

/-- LATCH at a slot boundary that latches no picture: in the groups in CONFIG that have had their transfer (R291). -/
def State.latchConfig (s : State) : State :=
  (s.usedGroups.filter fun g => s.groupState g == 2 && (s.groupSt g).strobes.contains 4).foldl State.latchGroup s

/-! ### Status scans (R281, R282, R291) -/

/-- A status record is good: 25 words, the marker in the first (R281). -/
def recordGood (r : List Nat) : Bool := r.length == 25 && r.getD 0 0 / 4096 == 0xA

/-- A driver reports a valid configuration. -/
def recordValid (r : List Nat) : Bool := bitOf (r.getD 0 0) 4

/-- The records of a scan in LMP_DRV_STATUS (R282). -/
def State.storeRecords (s : State) (ds : List ((Nat × Nat) × List Nat)) : State :=
  ds.foldl (fun t d =>
    (List.range 13).foldl (fun t v =>
      t.setReg (R.lmpDrvStatus (d.1.1 / 128) (d.1.1 % 128) d.1.2 v) (d.2.getD (2 * v) 0 + 65536 * d.2.getD (2 * v + 1) 0)) t) s

/-- A discarded scan (R282): the lock is lost, with an event; a NOP and a new scan follow. -/
def State.scanLost (s : State) (g : Nat) : State :=
  (((s.put (groupKey g) F.lmpGroupStatus_LFB_LOCK 0).setGroup { s.groupSt g with scanning := false }).strobe g 7).raise .lmp 2 2 g

/-- A good scan is stored (R282); in CONFIG it lets a group whose drivers are all VALID show (R291). -/
def State.scanGood (s : State) (g delay : Nat) (ds : List ((Nat × Nat) × List Nat)) : State :=
  let k := groupKey g
  let s1 := ((s.storeRecords ds).put k F.lmpGroupStatus_LFB_LOCK 1).put k F.lmpGroupStatus_FB_DELAY delay
  let s2 := s1.put k F.lmpGroupStatus_SCANS (s1.get k F.lmpGroupStatus_SCANS + 1)
  let s3 := s2.setGroup { s2.groupSt g with scanning := false }
  if s3.groupState g = 2 ∧ ds.all (fun d => recordValid d.2) then (s3.setGroupState g 3).blankGroup s3.mustBlank g else s3

/-- A scan in CONFIG counts towards the ten of CFG_FAILED (R291). -/
def State.countScan (s : State) (g : Nat) : State :=
  if s.groupState g = 2 then s.setGroup { s.groupSt g with scans := (s.groupSt g).scans + 1 } else s

/-- CFG_FAILED: a group that has stayed in CONFIG for 10 scans raises its FAULT, once for the stay (R291). -/
def execCfgFailed (group : Fin 64) (s : State) : Out :=
  let x := s.groupSt group.val
  .next (if s.isTile && s.groupState group.val == 2 && decide (10 ≤ x.scans) && !x.failed then
    (s.setGroup { x with failed := true }).raise .lmp 5 3 group.val
  else s)

/-! ### Register writes -/

/-- A write of LMP_CTRL (R282, R291): FORCE_BLANK, and RESCAN, which discards the scans in progress and sends NOP. -/
def State.lmpCtrlWrite (s : State) (value : Nat) : State :=
  let s1 := (s.put R.lmpCtrl F.lmpCtrl_FORCE_BLANK (fieldGet value F.lmpCtrl_FORCE_BLANK)).followBlank
  if fieldGet value F.lmpCtrl_RESCAN = 1 then
    (s1.usedGroups.filter fun g => decide (2 ≤ s1.groupState g)).foldl (fun t g =>
      (t.setGroup { t.groupSt g with scanning := false }).strobe g 7) s1
  else s1

/-- FORCE_BLANK (R291). -/
def execForceBlank (req : Requester) (value : Word) (s : State) : Out :=
  .next (s.byReq req (if s.live .lmp then s.lmpCtrlWrite value.toNat else s))

/-- RESCAN (R282). -/
def execRescan (req : Requester) (value : Word) (s : State) : Out :=
  .next (s.byReq req (if s.live .lmp then s.lmpCtrlWrite value.toNat else s))

/-- Every transfer of the tile fits at a shift clock (R289). -/
def State.transfersFit (s : State) (lckDiv : Nat) : Bool :=
  match s.lampMap with
  | some m => s.usedGroups.all fun g => decide (transferBits m g * 1000 ≤ 119000 * 2 * clkMHz lckDiv)
  | none => true

/-- A write of LMP_CLK: accepted only in IDLE and where every transfer fits (R289). -/
def State.lmpClkStore (s : State) (value : Nat) (req : Requester) : State :=
  if s.seq.state = .idle ∧ s.transfersFit (fieldGet value F.lmpClk_LCK_DIV) then s.setReg R.lmpClk (value % 16)
  else s.progError R.lmpClk value req

/-- LMP_CLK_WRITE (R289). -/
def execLmpClkWrite (req : Requester) (value : Word) (s : State) : Out :=
  .next (s.byReq req (if s.live .lmp then s.lmpClkStore value.toNat req else s))

end Sys2Proof.Machine
end

