-- ==== Sys2Proof/Machine/LampFaults.lean ====
section
/-! DEFINITION. Lamp faults: the judgement of a good scan (R297 to R299), confirmation (R300, R301), the policies (R302 to R304), and
clearing (R305). -/

namespace Sys2Proof.Machine

/-! ### Settings (LMP_FAULT_CFG) -/

/-- CONFIRM; 0 acts as 1. -/
def State.confirmScans (s : State) : Nat := max 1 (s.actGet R.lmpFaultCfg F.lmpFaultCfg_CONFIRM)

/-- K; below 4 acts as 4. -/
def State.outlierK (s : State) : Nat := max 4 (s.actGet R.lmpFaultCfg F.lmpFaultCfg_K)

/-- SPREAD_MIN; 0 acts as 1. -/
def State.spreadMin (s : State) : Nat := max 1 (s.actGet R.lmpFaultCfg F.lmpFaultCfg_SPREAD_MIN)

/-- POP_MIN; below 4 acts as 4. -/
def State.popMin (s : State) : Nat := max 4 (s.actGet R.lmpFaultCfg F.lmpFaultCfg_POP_MIN)

/-! ### Fault state bytes (R300) -/

/-- The state with a lamp's fault state byte set. -/
def State.setFault (s : State) (key v : Nat) : State :=
  s.put (R.lmpFaultMap (key / 65536) (key % 65536 / 4)) ⟨8 * (key % 4), 8⟩ v

/-- CONFIRMED of a fault state byte. -/
def fbConfirmed (b : Nat) : Bool := bitOf b 4

/-- LMP_FAULT_STATUS.CONFIRMED counts the lamps confirmed. -/
def State.showConfirmed (s : State) : State :=
  s.put R.lmpFaultStatus F.lmpFaultStatus_CONFIRMED (min 65535 (s.lamps.countP fun l => fbConfirmed (s.faultByte l.key)))

/-! ### One scan -/

/-- A scan: the drivers of the group with their records. -/
abbrev Scan := List ((Nat × Nat) × List Nat)

/-- The output byte of a colour of a lamp (R274, R281): VF, OPEN, SHORT. -/
def outByte (sc : Scan) (l : LampAt) (c : Nat) : Nat :=
  let w := 3 * (l.pos % 16) + c
  match sc.find? fun d => d.1.1 == l.channel && d.1.2 == l.pos / 16 with
  | some d => d.2.getD (1 + w / 2) 0 / 2 ^ (8 * (w % 2)) % 256
  | none => 63

/-- An output is measured in a scan: its VF code is below 63. -/
def measured (b : Nat) : Bool := decide (b % 64 < 63)

/-- A lamp counts in the population (R298). -/
def State.inPopulation (s : State) (l : LampAt) : Bool :=
  let r := s.lampRec l.key
  !recDead r && !recSpare r && !recDisabled r && !fbConfirmed (s.faultByte l.key)

/-- The VF codes of the outputs of a colour on some lamps that count (R298). -/
def State.codesOf (s : State) (sc : Scan) (ls : List LampAt) (c : Nat) : List Nat :=
  (ls.filter fun l => s.inPopulation l).filterMap fun l =>
    let b := outByte sc l c
    if measured b && b / 64 == 0 then some (b % 64) else none

/-- The lower median of a list of numbers (R299). -/
def medianNat (l : List Nat) : Nat := (sortBy (fun a b => decide (a ≤ b)) l).getD ((l.length - 1) / 2) 0

/-- Median and spread of a population (R299). -/
def State.statsOf (s : State) (codes : List Nat) : Nat × Nat :=
  let m := medianNat codes
  (m, max s.spreadMin (medianNat (codes.map fun v => if v < m then m - v else v - m)))

/-- Median and spread for a channel and colour; none where even the pooled population is too small (R298). -/
def State.channelStats (s : State) (sc : Scan) (ls : List LampAt) (ch c : Nat) : Option (Nat × Nat) :=
  let own := s.codesOf sc (ls.filter fun l => l.channel == ch) c
  if s.popMin ≤ own.length then some (s.statsOf own)
  else
    let all_ := s.codesOf sc ls c
    if s.popMin ≤ all_.length then some (s.statsOf all_) else none

/-- The kinds of an output (R297): bit 0 OPEN, 1 SHORT, 2 VF_HIGH, 3 VF_LOW. -/
def outKinds (k : Nat) (b : Nat) (st : Option (Nat × Nat)) : Nat :=
  if !measured b then 0
  else if b / 64 ≠ 0 then b / 64
  else match st with
    | some (m, sp) =>
      let v := b % 64
      if k * sp < 4 * (v - m) then 4 else if k * sp < 4 * (m - v) then 8 else 0
    | none => 0

/-- The union of two sets of kinds. -/
def orKinds (a b : Nat) : Nat :=
  (List.range 4).foldl (fun r i => if bitOf a i || bitOf b i then r + 2 ^ i else r) 0

/-- What a scan finds of a lamp: whether it is measured, its kinds, and its first faulty output with that colour's statistics. -/
structure Verdict where
  lamp : LampAt
  meas : Bool
  kinds : Nat
  colour : Nat
  vf : Nat
  stats : Option (Nat × Nat)
  deriving DecidableEq, Repr

/-- The verdict on a lamp (R297). -/
def State.verdictOf (s : State) (sc : Scan) (ls : List LampAt) (l : LampAt) : Verdict :=
  let bs := (List.range 3).map (outByte sc l)
  let sts := (List.range 3).map (s.channelStats sc ls l.channel)
  let ks := (List.range 3).map fun c => outKinds s.outlierK (bs.getD c 63) (sts.getD c none)
  let first := if ks.getD 0 0 ≠ 0 then 0 else if ks.getD 1 0 ≠ 0 then 1 else 2
  { lamp := l, meas := bs.any measured, kinds := ks.foldl orKinds 0, colour := first, vf := bs.getD first 63 % 64,
    stats := sts.getD first none }

/-- The fault state after a scan, before confirmation (R300). -/
def nextFault (b : Nat) (v : Verdict) : Nat :=
  let keep := b / 16 % 4 * 16
  if !v.meas then b
  else if v.kinds = 0 then keep
  else if v.kinds = b % 16 then b % 64 + min 3 (b / 64 + 1) * 64
  else v.kinds + keep + 64

/-! ### Confirmation and policy (R301 to R304) -/

/-- The Strike of R304: TSTRIKE starts its fade to 0 at the next frame boundary. -/
def State.strike (s : State) (v : Verdict) : State :=
  if s.flag R.lmpFaultStatus F.lmpFaultStatus_STRIKE then s
  else
    let n := s.frameInt + 1
    let f : Fade := { a := s.cor.tstrike.value (n - 1), b := 0, f0 := n,
                      frames := max 1 (s.actGet R.lmpStrikeCfg F.lmpStrikeCfg_STRIKE_FRAMES),
                      curve := s.actGet R.lmpStrikeCfg F.lmpStrikeCfg_STRIKE_CURVE }
    let s1 : State := { s with cor := { s.cor with tstrike := f, releasing := false } }
    (s1.put R.lmpFaultStatus F.lmpFaultStatus_STRIKE 1).raise .lmp 7 3 v.lamp.channel [v.lamp.channel, v.lamp.pos]

/-- A lamp is taken dark: ACTED is set (R302, R303). -/
def State.actOn (s : State) (key : Nat) : State := s.setFault key (setBit (s.faultByte key) 5 true)

/-- The policy acts on a confirmed lamp (R302). -/
def State.policyAct (s : State) (v : Verdict) : State :=
  let counts := v.kinds % 4 != 0 || s.actGet R.lmpFaultCfg F.lmpFaultCfg_VF_ACT == 1
  if !counts then s
  else match s.actGet R.lmpFaultCfg F.lmpFaultCfg_POLICY with
    | 1 => s.actOn v.lamp.key
    | 2 => (s.lamps.filter fun l => l.channel == v.lamp.channel).foldl (fun t l => t.actOn l.key) s
    | 3 => (s.actOn v.lamp.key).strike v
    | _ => s

/-- The low and the high word of LMP_FAULT_LAST for a confirmation. -/
def lastWords (v : Verdict) (m sp : Nat) : Nat × Nat :=
  (v.lamp.channel + v.lamp.pos * 2 ^ 9 + v.colour * 2 ^ 18 + v.kinds * 2 ^ 20 + v.vf * 2 ^ 24, m % 64 + sp % 64 * 64)

/-- LAMP_FAULT, at most 64 a second over the tile; beyond that SUPPRESSED counts (R301, R438). -/
def State.raiseLampFault (s : State) (v : Verdict) (w : Nat × Nat) : State :=
  let code := 0x1606
  if s.limitCount code 0 < 64 then
    let keep := s.evt.limits.filter fun e => decide (s.clock.now < e.2.2 + 1000000000)
    ({ s with evt := { s.evt with limits := keep ++ [(code, 0, s.clock.now)] } } : State).raise .lmp 6 2 v.lamp.channel [w.1, w.2]
  else s.count R.lmpFaultCounts F.lmpFaultCounts_SUPPRESSED

/-- A lamp is confirmed (R300 to R302). Where no population gave statistics, MEDIAN and SPREAD have no stated value: they are free
(log entry 3). -/
def State.confirm (s : State) (v : Verdict) (byte : Nat) : State :=
  let s1 := (s.setFault v.lamp.key (setBit byte 4 true)).count R.lmpFaultCounts F.lmpFaultCounts_NEW
  let (m, sp, s2) : Nat × Nat × State := match v.stats with
    | some x => (x.1, x.2, s1)
    | none =>
      let a := s1.fresh 6
      let b := a.2.fresh 6
      (a.1, b.1, b.2)
  let w := lastWords v m sp
  ((s2.setReg R.lmpFaultLast (w.1 + w.2 * 2 ^ 32)).raiseLampFault v w).policyAct v

/-- The fault state of a lamp after a scan (R300): a lamp that is CONFIRMED, DEAD or DISABLED is not judged. -/
def State.judgeLamp (s : State) (v : Verdict) : State :=
  let r := s.lampRec v.lamp.key
  let b := s.faultByte v.lamp.key
  if fbConfirmed b || recDead r || recDisabled r then s
  else
    let n := nextFault b v
    if v.meas ∧ v.kinds ≠ 0 ∧ s.confirmScans ≤ n / 64 then s.confirm v n else s.setFault v.lamp.key n

/-- A good scan judges every lamp of its group, in ascending channel and position (R297, R303); the populations are those of the
fault states before the scan. -/
def State.judgeScan (s : State) (g : Nat) (sc : Scan) : State :=
  let ls := sortBy (fun a b => decide (a.key ≤ b.key)) (s.groupLamps g)
  let vs := ls.map (s.verdictOf sc ls)
  (vs.foldl State.judgeLamp s).showConfirmed

/-- STATUS_SCAN_DONE (R282): the records in chain order, and the delay at which the first marker was found. -/
def State.scanDone (s : State) (g : Nat) (delay : Option Nat) (records : List (List Nat)) : State :=
  match s.lampMap with
  | none => s
  | some m =>
    if s.groupState g < 2 ∨ !(s.groupSt g).scanning then s
    else
      let s0 := s.countScan g
      let ds := groupDrivers m g
      match delay with
      | some d =>
        if records.length = ds.length ∧ records.all recordGood then (s0.scanGood g d (ds.zip records)).judgeScan g (ds.zip records)
        else s0.scanLost g
      | none => s0.scanLost g

/-- STATUS_SCAN_DONE (R282). -/
def execStatusScanDone (group : Fin 64) (delay : Option (Fin 32)) (records : List (List (BitVec 16))) (s : State) : Out :=
  .next (if s.isTile then
    s.scanDone group.val (delay.map (·.val)) (records.map fun r => r.map (·.toNat)) else s)

/-! ### Clearing (R305) -/

/-- STRIKE_CLEAR: TSTRIKE fades back to 4,096 from the next frame boundary; ignored while STRIKE is clear. -/
def State.strikeRelease (s : State) : State :=
  if s.flag R.lmpFaultStatus F.lmpFaultStatus_STRIKE then
    let n := s.frameInt + 1
    let f : Fade := { a := s.cor.tstrike.value (n - 1), b := 4096, f0 := n,
                      frames := max 1 (s.actGet R.lmpStrikeCfg F.lmpStrikeCfg_STRIKE_FRAMES),
                      curve := s.actGet R.lmpStrikeCfg F.lmpStrikeCfg_STRIKE_CURVE }
    { s with cor := { s.cor with tstrike := f, releasing := true } }
  else s

/-- An offset lies in a quarter's LMP_FAULT_MAP. -/
def inFaultMap (k : Nat) : Bool :=
  (List.range 4).any fun q => decide (R.lmpFaultMap q 0 ≤ k ∧ k < R.lmpFaultMap q 0 + 65536)

/-- CLEAR_ALL: every fault state of the tile becomes 0. -/
def State.clearFaults (s : State) : State :=
  ({ s with regs := s.regs.filter fun e => !inFaultMap e.1 } : State).showConfirmed

/-- CLEAR_ONE: the fault state of one lamp becomes 0. -/
def State.clearFault (s : State) (ch pos : Nat) : State := (s.setFault (ch * 512 + pos) 0).showConfirmed

/-- A write of LMP_FAULT_CTRL (R305). -/
def State.faultCtrlWrite (s : State) (value : Nat) : State :=
  let s1 := if fieldGet value F.lmpFaultCtrl_STRIKE_CLEAR = 1 then s.strikeRelease else s
  let s2 := if fieldGet value F.lmpFaultCtrl_CLEAR_ALL = 1 then s1.clearFaults else s1
  if fieldGet value F.lmpFaultCtrl_CLEAR_ONE = 1 then
    s2.clearFault (fieldGet value F.lmpFaultCtrl_CHANNEL) (fieldGet value F.lmpFaultCtrl_POSITION)
  else s2

/-- STRIKE_CLEAR (R305). -/
def execStrikeClear (req : Requester) (value : Word) (s : State) : Out :=
  .next (s.byReq req (if s.live .lmp then s.faultCtrlWrite value.toNat else s))

/-- CLEAR_ALL (R305). -/
def execClearAll (req : Requester) (value : Word) (s : State) : Out :=
  .next (s.byReq req (if s.live .lmp then s.faultCtrlWrite value.toNat else s))

/-- CLEAR_ONE (R305). -/
def execClearOne (req : Requester) (value : Word) (s : State) : Out :=
  .next (s.byReq req (if s.live .lmp then s.faultCtrlWrite value.toNat else s))

end Sys2Proof.Machine
end

