-- ==== Sys2Proof/Machine/Placement.lean ====
section
/-! DEFINITION. Current placement (R310 to R312) and the SYNC of each group (R296). -/

namespace Sys2Proof.Machine

/-- The register of a group's supply and place. -/
def sagKey (g : Nat) : Nat := R.lmpSagMap (g / 16) (g % 16)

/-- Current placement is enabled. -/
def State.sagOn (s : State) : Bool := s.flag R.lmpSagCfg F.lmpSagCfg_EN

/-- The mapped groups of a supply, ascending. -/
def State.supplyGroups (s : State) (sup : Nat) : List Nat :=
  (List.range 64).filter fun g => s.flag (sagKey g) F.lmpSagMap_MAPPED && s.get (sagKey g) F.lmpSagMap_SUPPLY == sup

/-- OFS of a group in a slot (R310): its place's share of the slack; 0 while placement is disabled. -/
def State.syncOffset (s : State) (p : PatternRec) (g k : Nat) : Nat :=
  if s.sagOn && s.flag (sagKey g) F.lmpSagMap_MAPPED then
    let slack := s.slackAt p (rfDepth s.active) (s.get R.lmpStatus F.lmpStatus_REPEAT_USED) k
    (s.get (sagKey g) F.lmpSagMap_PLACE * slack.toNat) / 8
  else 0

/-- The load of a group in the slot just ended (R311), before the LATCH of the next. -/
def State.groupLoad (s : State) (g : Nat) : Nat :=
  ((s.groupLamps g).foldl (fun a l =>
    let v := greyOf s.lmp.disp l.key
    a + v.r + v.g + v.b) 0) / 256

/-- The loads of the slot just ended are shown. -/
def State.showLoads (s : State) : State :=
  s.usedGroups.foldl (fun t g => t.put (sagKey g) F.lmpSagMap_LOAD (min (2 ^ 24 - 1) (t.groupLoad g))) s

/-- The load of a place of a supply. -/
def State.placeLoad (s : State) (gs : List Nat) (p : Nat) : Nat :=
  (gs.filter fun g => s.get (sagKey g) F.lmpSagMap_PLACE == p).foldl (fun a g => a + s.get (sagKey g) F.lmpSagMap_LOAD) 0

/-- The first element that no other beats. -/
def bestBy (f : Nat → Nat) (better : Nat → Nat → Bool) : List Nat → Option Nat
  | [] => none
  | a :: r => some (r.foldl (fun b x => if better (f x) (f b) then x else b) a)

/-- The slots since the last move of a supply: none where it has not moved. -/
def State.sinceMove (s : State) (sup : Nat) : Option Nat := sLookup s.lmp.since sup

/-- One supply at a slot boundary (R311). -/
def State.placeSupply (s : State) (sup : Nat) : State :=
  let gs := s.supplyGroups sup
  let sag := s.get (R.lmpSagStatus sup) F.lmpSagStatus_SAG_US
  let trig := max 1 (s.get R.lmpSagCfg F.lmpSagCfg_SAG_TRIG)
  let gap := max 1 (s.get R.lmpSagCfg F.lmpSagCfg_GAP)
  let rested : Bool := match s.sinceMove sup with
    | some n => decide (gap ≤ n)
    | none => true
  if gs.isEmpty || decide (sag < trig) || !rested then s
  else
    let pl := s.placeLoad gs
    let hi := (bestBy pl (fun a b => decide (b < a)) (List.range 8)).getD 0
    let lo := (bestBy pl (fun a b => decide (a < b)) (List.range 8)).getD 0
    let load := fun g => s.get (sagKey g) F.lmpSagMap_LOAD
    match bestBy load (fun a b => decide (b < a)) (gs.filter fun g => s.get (sagKey g) F.lmpSagMap_PLACE == hi) with
    | some g =>
      if pl lo + load g < pl hi then
        let s1 := (s.put (sagKey g) F.lmpSagMap_PLACE lo).count (R.lmpSagStatus sup) F.lmpSagStatus_MOVES
        ({ s1 with lmp := { s1.lmp with since := aSet s1.lmp.since sup 0 } } : State).raise .lmp 8 0 g [g, hi, lo, sag]
      else s
    | none => s

/-- The placement update of a slot boundary (R311): the sag times of the slot just ended, its loads, and the loop. -/
def State.placement (s : State) (sag : List (Nat × Nat)) : State :=
  let s1 := (List.range 8).foldl (fun t i =>
    t.put (R.lmpSagStatus i) F.lmpSagStatus_SAG_US ((sLookup sag i).getD 0)) s
  let s2 := s1.showLoads
  let s3 : State := { s2 with lmp := { s2.lmp with since := s2.lmp.since.map fun e => (e.1, e.2 + 1) } }
  if s3.sagOn then (List.range 8).foldl State.placeSupply s3 else s3

/-- Every mapped group takes its initial place (R312): 0, or its rank in its supply modulo 8. -/
def State.initPlaces (s : State) (spread : Bool) : State :=
  (List.range 8).foldl (fun t sup =>
    (t.supplyGroups sup).zipIdx.foldl (fun t e => t.put (sagKey e.1) F.lmpSagMap_PLACE (if spread then e.2 % 8 else 0)) t) s

/-- A write of LMP_SAG_CFG (R312). -/
def State.sagCfgWrite (s : State) (value : Nat) : State :=
  let was := s.sagOn
  let s1 := s.setReg R.lmpSagCfg (fieldGet value ⟨0, 2⟩ + fieldGet value ⟨8, 16⟩ * 256)
  if !was && s1.sagOn then s1.initPlaces (s1.flag R.lmpSagCfg F.lmpSagCfg_SPREAD_INIT) else s1

/-- SAG_LOOP_ENABLE (R312). -/
def execSagLoopEnable (req : Requester) (value : Word) (s : State) : Out :=
  .next (s.byReq req (if s.live .lmp then s.sagCfgWrite value.toNat else s))

/-- A write of LMP_SAG_MAP: ignored while the loop is enabled (R312). -/
def State.sagMapWrite (s : State) (g value : Nat) (req : Requester) : State :=
  if s.sagOn then s.progError (sagKey g) value req
  else
    (s.put (sagKey g) F.lmpSagMap_SUPPLY (fieldGet value F.lmpSagMap_SUPPLY)).put (sagKey g) F.lmpSagMap_MAPPED
      (fieldGet value F.lmpSagMap_MAPPED)

/-! ### SYNC (R82, R296) -/

/-- The slot in progress belongs to the pattern in force (R86): it began at or after the instant from which that pattern is used. -/
def State.slotUsed (s : State) (k : Nat) : Bool := decide ((s.seq.since : Int) ≤ s.slotTime k)

/-- WINDOW_START (R82, R283, R296): SYNC, which starts PWM in drivers with a configuration, for every group that shows or is blanked, at its offset, in RUN and REDUCED, and in IDLE once a
picture has been latched; never in the dark of MODE_UNKNOWN (R87). -/
def State.windowStart (s : State) : State :=
  match s.pattern with
  | none => s
  | some p =>
    let k := s.slotNow
    if s.seq.dark || !s.slotUsed k || (s.seq.state == .idle && !s.seq.latched) then s
    else
      (s.usedGroups.filter fun g => decide (3 ≤ s.groupState g)).foldl (fun t g =>
        let ofs := t.syncOffset p g k
        let x := t.groupSt g
        let from_ : Int := s.slotTime k + (p.windows.getD k (0, 0)).1 + ofs
        (t.put (R.lmpSyncOfs (g / 16) (g % 16)) F.lmpSyncOfs_OFS ofs).setGroup { x with
          strobes := x.strobes ++ [1], pwm := if x.cfg.isSome then some from_ else none }) s

/-- WINDOW_START (R296). -/
def execWindowStart (s : State) : Out := .next (if s.isTile then s.windowStart else s)

end Sys2Proof.Machine
end

