-- ==== Sys2Proof/Machine/Sequencer.lean ====
section
/-! DEFINITION. What happens at a frame and slot boundary: a commit takes effect (R156, R158), a mode switch takes effect (R86, R87), and
the sequencer latches and advances (R82, R83, R237). -/

namespace Sys2Proof.Machine

/-! ### A commit takes effect -/

/-- A register holds shadowed fields. -/
def shadowedKey (key : Nat) : Bool :=
  match regAt key with
  | some h => h.spec.fields.any fun f => f.acc == .sh
  | none => false

/-- The layer fades after a commit of frame `n` (R306): each one requested since the last commit starts. -/
def State.startFades (s : State) (n : Int) : State :=
  let fs := (List.range 4).flatMap fun q => (List.range 8).filterMap fun i =>
    let key := R.cmpLayerFade q i
    if s.shWritten.contains key then some (q * 8 + i, s.fadeFor key (s.layerFadeSt q i) n) else none
  { s with cmp := { s.cmp with fades := fs.foldl (fun m e => aSet m e.1 e.2) s.cmp.fades },
           cor := { s.cor with tfade := s.fadeFor R.corFade s.cor.tfade n } }

/-- SCL_LAYER_STATUS of a layer as its commit applies (R164, R171), in a feed unit and in a layer-mode tile. -/
def State.showTaps (s : State) (l : LayerCfg) : State :=
  let c := canvasCfg s.active
  let t := tapsUsed l (s.peckLayer c l)
  let reduced := t != 0 && t != l.vTaps
  let v := t + reduced.toNat * 2 ^ 4 + l.hdir.bypass.toNat * 2 ^ 5 + (l.vdir l.vTaps).bypass.toNat * 2 ^ 6
  let s1 := s.setReg (R.sclLayerStatus l.quarter l.layer) v
  if reduced then s1.raise .scl 1 1 (l.quarter * 8 + l.layer) [l.quarter, l.layer, l.vTaps, t] else s1

/-- LST_USE as a commit applies (R172). -/
def State.showUse (s : State) : State :=
  let ls := allLayers s.active
  let c := canvasCfg s.active
  let alloc := ls.foldl (fun n l => n + l.count) 0
  let used := ls.foldl (fun n l => n + granules (s.peckLayer c l) (tapsUsed l (s.peckLayer c l))) 0
  s.setReg R.lstUse (alloc % 512 + used % 512 * 2 ^ 9)

/-- The taps and the granules in force as a commit applies (R171, R172). -/
def State.showScaling (s : State) : State := ((allLayers s.active).foldl State.showTaps s).showUse

/-- What a commit changes in a feed unit beside the values in force: sources, admission, codec, taps (R94, R171, R234, R236). -/
def State.feedCommitted (s : State) (old : RegFile) : State :=
  let s1 := ((s.srcsCommitted old).applyAdmission old).codecCommitted old
  let s2 := s1.showScaling
  { s2 with pen := { s2.pen with out := s2.pen.out.filter fun p => p.type != 0x10 } }

/-- COMMIT_APPLY: every shadowed field takes effect together at the effective frame (R156, R158, R159). -/
def State.commitApply (s : State) : State :=
  match s.cmp.pend with
  | none => s
  | some p =>
    if s.frameInt < p.frame then s
    else
      let old := s.active
      let skew := s.follows && !p.followed && !p.skewed
      let s1 := s.startFades p.frame
      let s2 : State := { s1 with active := s1.regs.filter fun e => shadowedKey e.1, shWritten := [],
                                  cmp := { s1.cmp with pend := none, prev := some (p.frame, old) } }
      let s3 := (s2.put R.topCommitStatus F.topCommitStatus_STATE 3).put R.topCommitDetail F.topCommitDetail_ACTIVE_GEN p.gen
      let s4 := if s3.isFeed then s3.feedCommitted old
        else (if s3.layerMode then s3.showScaling else s3).pwmFit.fallback
      if skew then s4.commitSkew p.gen p.frame else s4

/-- COMMIT_APPLY (R158). -/
def execCommitApply (s : State) : Out := .next (if s.rst.inReset then s else s.commitApply)

/-! ### A mode switch takes effect -/

/-- The sequencer enters a state at a boundary: RUN clears COR_CAL_CTRL.UNLOCK (R269), and a unit that has left IDLE no longer joins a
running wall (R317). -/
def State.enterSeq (s : State) (st : SeqState) : State :=
  let s1 : State := { s with seq := { s.seq with state := st, left := s.seq.left || st != .idle } }
  let s2 : State := if st = .idle then s1 else { s1 with red := { s1.red with joining := false } }
  if st = .run then s2.put R.corCalCtrl F.corCalCtrl_UNLOCK 0 else s2

/-- What the frame hold keeps across a switch: pictures, and what is received for frames near the new numbers. -/
def State.purgeHold (s : State) : State :=
  let near := fun (f : Nat) => decide ((s.frameInt - 64 : Int) ≤ f ∧ (f : Int) ≤ s.frameInt + 65536)
  { s with hold := { s.hold with slices := s.hold.slices.filter fun x => near x.frame,
                                 lists := s.hold.lists.filter fun x => near x.frame } }

/-- MODE_SWITCH at T (R86, R87, R269). -/
def State.modeSwitch (s : State) : State :=
  match s.seq.pendingMode with
  | none => s
  | some m =>
    if s.clock.now < m.time then s
    else
      let act := seqOfAction m.action
      let s1 := if s.isTile && (s.patternRec m.pattern).isNone then
          ({ s with seq := { s.seq with pendingMode := none } } : State).modeUnknown m.pattern act
        else if s.isTile && s.cor.applying.isSome && m.action == 0 then
          let t := s.modeTo m
          ({ t with seq := { t.seq with state := .idle, target := none, delayed := true } } : State).raise .top 2 3 0 [m.pattern, m.action]
        else
          let t := s.modeTo m
          { t with seq := { t.seq with delayed := false } }
      let s2 : State := { s1 with pen := { s1.pen with out := s1.pen.out.filter fun p => p.type != 0x11 } }
      let s3 := s2.put R.timeModeStatus F.timeModeStatus_STATE 3
      let s4 := if act = .idle then s3 else s3.enterSeq s3.seq.state
      if s4.isTile then s4.purgeHold.pwmFit else s4

/-- MODE_SWITCH (R86). -/
def execModeSwitch (s : State) : Out := .next (if s.rst.inReset && s.rst.reach != 1 then s else s.modeSwitch)

/-! ### A slot boundary -/

/-- NO_PIX: the first frame without PIX that was in RUN from its start raises its event (R83). -/
def State.judgePix (s : State) : State :=
  let none_ := s.seq.whole && s.seq.state == .run && !s.seq.pixSeen
  let s1 : State := { s with seq := { s.seq with pixSeen := false, noPixRaised := none_ } }
  if none_ && !s.seq.noPixRaised then s1.raise .time 7 1 else s1

/-- The states that a frame boundary enters in a tile: REDUCED after ADMIT 0, RUN once admitted and LOCKED, and the state that a core
reset interrupted (R82, R237). -/
def State.tileBoundary (s : State) : State :=
  let s1 := if s.seq.demote && s.seq.state == .run then s.enterSeq .reduced else s
  let s2 : State := { s1 with seq := { s1.seq with demote := false } }
  let s3 := match s2.seq.interrupted with
    | some st =>
      if !s2.rst.inReset && s2.hasSlot0 then
        ({ s2 with seq := { s2.seq with interrupted := none } } : State).enterSeq (s2.allowed st)
      else s2
    | none => s2
  if s3.seq.state == .reduced && s3.seq.domainAction == .run && s3.mayRun && !s3.cor.applying.isSome then s3.enterSeq .run else s3

/-- The end of a Strike's release: STRIKE clears with its last frame (R305). -/
def State.strikeStatus (s : State) (n : Int) : State :=
  let v := s.cor.tstrike.value n
  let s1 := s.put R.lmpFaultStatus F.lmpFaultStatus_STRIKE_DARK (decide (v = 0)).toNat
  if s.cor.releasing && decide (v = 4096) then
    ({ s1 with cor := { s1.cor with releasing := false } } : State).put R.lmpFaultStatus F.lmpFaultStatus_STRIKE 0
  else s1

/-- The factors of the frame that starts (R255, R260, R307): caps, fades, Strike, gains. -/
def State.tileFrame (s : State) (n : Int) : State :=
  let s1 := s.takeGain n
  let s2 := (s1.put R.corCap F.corCap_WALL (s1.cor.wall.value n).toNat).put R.corCap F.corCap_LOCAL (s1.cor.locCap.value n).toNat
  let k := R.corFadeStatus
  let running := s2.cor.tfade.running n || s2.cor.tstrike.running n
  let s3 := ((s2.put k F.corFadeStatus_FACTOR (s2.tf n)).put k F.corFadeStatus_RUNNING running.toNat).put
    k F.corFadeStatus_TSTRIKE (s2.cor.tstrike.value n).toNat
  s3.strikeStatus n

/-- The layer factors of the frame that starts, in a feed unit (R307). -/
def State.feedFrame (s : State) (n : Int) : State :=
  if s.live .cmp then
    (List.range 4).foldl (fun t q => (List.range 8).foldl (fun t i =>
      let f := t.layerFadeSt q i
      t.setReg (R.cmpLayerFadeStatus q i) ((f.value n).toNat % 2 ^ 13 + (f.running n).toNat * 2 ^ 13)) t) s
  else s

/-- A frame boundary: the state to be entered there, then what each personality takes over (R82, R86). -/
def State.frameBoundary (s : State) (p : PatternRec) (n : Int) : State :=
  let s0 := if s.isTile then s.judgePix else s
  let s1 := match s0.seq.target with
    | some t =>
      if (t.from_ : Int) ≤ frameStart s0.origin p n ∧ !(s0.isTile && s0.rst.inReset) then
        ({ s0 with seq := { s0.seq with target := none } } : State).enterSeq (s0.allowed t.state)
      else s0
    | none => s0
  let s2 := if s1.isTile then s1.tileBoundary else s1
  let s3 : State := { s2 with seq := { s2.seq with
    whole := s2.seq.state == .run && s2.seq.target.isNone,
    div := s2.get R.timeSeqCfg F.timeSeqCfg_REDUCE_DIV, content := s2.get R.timeSeqCfg F.timeSeqCfg_REDUCE_CONTENT } }
  if s3.isTile then s3.tileFrame n else s3.feedFrame n

/-- HOTTEST shows the hottest estimated temperature of the tile's lamps in the slot that ends, and since when it has been 2 °C or more below the
limit (R254, R263); a core reset stops it with the pipeline (R270). -/
def State.showHottest (s : State) : State :=
  match s.lampMap, s.lamps with
  | some m, l :: r =>
    if s.rst.inReset then s
    else
      let h := r.foldl (fun h x => max h (s.lampTemp m x)) (s.lampTemp m l)
      let cool := decide (h ≤ toSigned 16 (s.get R.corLampLimit F.corLampLimit_LIMIT) - 32)
      let from_ := if cool then (if s.cor.coolFrom.isSome then s.cor.coolFrom else some s.clock.now) else none
      ({ s with cor := { s.cor with coolFrom := from_ } } : State).put R.corStatus F.corStatus_HOTTEST (ofSigned 16 h)
  | _, _ => s

/-- COR_PROBE follows the lamp that COR_PROBE_SEL names. -/
def State.showProbe (s : State) : State :=
  match s.lampMap with
  | none => s
  | some m =>
    let x := s.get R.corProbeSel F.corProbeSel_X
    let y := s.get R.corProbeSel F.corProbeSel_Y
    match s.lamps.find? fun l => l.x == x && l.y == y with
    | some l =>
      s.setReg R.corProbe (ofSigned 16 (s.lampTemp m l) + s.lampH l * 2 ^ 16 + ofSigned 16 (s.boardTemp m.width m.height x y) * 2 ^ 32)
    | none => s.setReg R.corProbe 0

/-- The lamps that show light: of lit groups in SHOW. -/
def State.shining (s : State) : List LampAt :=
  s.lamps.filter fun l => s.groupState (l.channel / 8) == 3 && (s.groupSt (l.channel / 8)).lit

/-- Self-heating over a slot (R253). -/
def State.heatSlot (s : State) (p : PatternRec) : State :=
  let on := s.seq.latched && !s.seq.dark && !s.rst.inReset
  let lit := if on then s.shining.map (·.key) else []
  s.lamps.foldl (fun t l => t.heatStep p (lit.contains l.key) l) s

/-- The slot boundary of a tile (R79, R82, R251, R253, R311): the loads and sag times are those of the slot just ended. -/
def State.tileSlot (s : State) (p : PatternRec) (n : Int) (k : Nat) (sag : List (Nat × Nat)) : State :=
  let s0 := s.placement sag
  let s1 := if s0.rst.inReset then s0 else if s0.latches n k then s0.latchAll else s0.latchConfig
  ((s1.showHottest.heatSlot p).gridTake.showProbe)

/-- SLOT_BOUNDARY: slot k of frame n begins; none of the old pattern follows a switch (R82, R86). -/
def State.slotBoundary (s : State) (sag : List (Nat × Nat)) : State :=
  match s.pattern with
  | none => s
  | some p =>
    let k := s.slotNow
    let n := s.frameInt
    let old : Bool := match s.seq.pendingMode with
      | some m => decide ((m.time : Int) ≤ s.slotTime k)
      | none => false
    if !s.slotUsed k || old then s
    else
      let s1 := if k = 0 then s.frameBoundary p n else s
      if s1.isTile then s1.tileSlot p n k sag else s1

/-- SLOT_BOUNDARY (R82). -/
def execSlotBoundary (sag : List (Fin 8 × BitVec 16)) (s : State) : Out :=
  .next (if s.rst.inReset && s.rst.reach != 1 then s else s.slotBoundary (sag.map fun e => (e.1.val, e.2.toNat)))

end Sys2Proof.Machine
end

