-- ==== Sys2Proof/Machine/Reset.lean ====
section
/-! DEFINITION. Resets (R376 to R384): sources and their reaches, what each reach clears, episodes, RESET_N, and the commands that assert
a source. What follows the end of a reset stands with the boot ROM. -/

namespace Sys2Proof.Machine

/-! ### Fuses and what survives -/

/-- The registers whose reset value comes from the fuses (TOP_ID, SEC_FW_INFO.FLOOR, PWR_AVS_LIMITS, ING_PORT_MAC) and from the grade (R361), as a
register file. -/
def fusedRegs (fu : Fuses) : RegFile :=
  let id := 0x7700 + fu.minor % 16 * 2 ^ 16 + fu.major % 16 * 2 ^ 20 + (if fu.build = .f then 1 else 2) * 2 ^ 24 +
    (if fu.grade = .c then 0 else 1) * 2 ^ 26
  let limits := if fu.grade = .c then 95 + 105 * 2 ^ 8 else 105 + 115 * 2 ^ 8
  let w := sWrite regReset
  let r0 := w (w (w [] R.topId id) R.thmLimits limits) R.pwrAvsLimits (fu.vmin % 2 ^ 10 + 800 * 2 ^ 10 + 850 * 2 ^ 20)
  let r1 := w r0 R.secFwInfo (fu.svnFloor % 2 ^ 6 * 2 ^ 40)
  (List.range 8).foldl (fun r i => w r (R.ingPortMac i) ((fu.macBase + i) % 2 ^ 48)) r1

/-- A register lies in the power-on reset domain and keeps its value at a system reset. -/
def powerKept (h : RegHit) : Bool := h.spec.domain == .power

/-- STATE, ACCEPTED and CAUSE of an operation's status after a system reset (R44): an operation in progress shows ABORTED, and
the boot causes clear. -/
def opStatusKept (v : Nat) : Nat := (if v % 4 = 1 then v + 2 else v) % 2 ^ 16

/-- The register file after a system reset (R44, R375, R376): the power-on domain keeps its values; PWR_AVS_STATUS.LOST ends
(R374). -/
def State.systemRegs (s : State) : RegFile :=
  let kept := s.regs.filter fun e => match regAt e.1 with | some h => powerKept h | none => false
  let base := kept.foldl (fun r e => sWrite regReset r e.1 e.2) (fusedRegs s.fuses)
  let w := sWrite regReset
  let r1 := w (w base R.topImageStatus (opStatusKept (s.reg R.topImageStatus))) R.secFwStatus (opStatusKept (s.reg R.secFwStatus))
  let r2 := w r1 R.thmStatus (fieldSet 0 F.thmStatus_SHUTDOWN_SEEN (s.get R.thmStatus F.thmStatus_SHUTDOWN_SEEN))
  w r2 R.pwrAvsStatus (fieldSet (s.reg R.pwrAvsStatus) F.pwrAvsStatus_LOST 0)

/-- The lamp bus as a system reset leaves it (R293): every group HELD and dark; the drivers and their bank supplies are outside. -/
def LmpSt.systemReset (l : LmpSt) : LmpSt :=
  { l with groups := l.groups.map fun g => { g with scans := 0, failed := false, lit := false, scanning := false, sent := false, strobes := [] },
           since := [] }

/-- The reset control when the device starts to drive RESET_N (R379). -/
def RstSt.drive (r : RstSt) : RstSt := { r with driving := true, follows := false, tileCmd := false, wdtRunning := false, fatals := [] }

/-- What system reach clears (R376): everything but the debug logic and the power-on domain. -/
def State.systemClear (s : State) : State :=
  { State.reset with
    pending := s.pending, freeCount := s.freeCount, fuses := s.fuses, flash := s.flash, rst := s.rst.drive, regs := s.systemRegs,
    hif := { HifSt.reset with perst := s.hif.perst }, lmp := s.lmp.systemReset,
    dsc := { DscSt.reset with nextWalk := s.dsc.nextWalk }, thm := { ThmSt.reset with sens := s.thm.sens }, pwr := { PwrSt.reset with ackedTarget := s.pwr.ackedTarget } }

/-- What power-on reach clears (R376): everything. -/
def State.powerClear (s : State) : State :=
  { State.reset with
    pending := s.pending, freeCount := s.freeCount, fuses := s.fuses, flash := s.flash, rst := s.rst.drive, regs := fusedRegs s.fuses,
    hif := { HifSt.reset with perst := s.hif.perst }, dsc := { DscSt.reset with nextWalk := s.dsc.nextWalk },
    lmp := { LmpSt.reset with volts := s.lmp.volts } }

/-! ### Core reach (R376) -/

/-- A register that core reach returns to its reset value: of a block that the table marks as reset, LUTs and coefficient sets
excepted. -/
def coreCleared (h : RegHit) : Bool := h.spec.domain == .core && h.spec.block != .clp

/-- The PECK section in LST_ALLOC, and the default band width of QUARTERS, in a register file (R18, R170). -/
def imageShadows (b : ForjoBody) (rf : RegFile) : RegFile :=
  let r0 := b.peck.foldl (fun r p => sWrite regReset r (R.lstAlloc p.quarter p.layer) (p.first % 256 + p.count % 512 * 2 ^ 8)) rf
  let k := R.cmpCanvasCfg
  sWrite regReset r0 k (fieldSet (sRead regReset r0 k) F.cmpCanvasCfg_BAND b.quarters.bandWidth)

/-- Both register files with the core domain cleared. -/
def State.coreRegs (s : State) : State :=
  let clear := fun (rf : RegFile) =>
    let r := dropRegs coreCleared rf
    match s.ldr.image with | some i => imageShadows i.body r | none => r
  { s with regs := clear s.regs, active := clear s.active,
           shWritten := s.shWritten.filter fun k => match regAt k with | some h => !coreCleared h | none => false }

/-- A commit under way in a feed unit is discarded (R160). -/
def State.dropCommit (s : State) : State :=
  if s.isFeed && (s.cmp.checking.isSome || s.cmp.pend.isSome) then
    let s1 := (s.put R.topCommitStatus F.topCommitStatus_STATE 4).put R.topCommitStatus F.topCommitStatus_REASON 7
    { s1 with pen := { s1.pen with out := s1.pen.out.filter fun p => p.type != 0x10 } }
  else s

/-- The sequencer of a tile enters IDLE and keeps the state to return to, that which it was about to enter or was in (R82). -/
def State.interruptSeq (s : State) : State :=
  if s.isTile then
    let st := match s.seq.target with | some t => t.state | none => s.seq.state
    { s with seq := { s.seq with interrupted := if st = .idle then s.seq.interrupted else some st, state := .idle, target := none,
                                 whole := false } }
  else s

/-- A loader or firmware operation under way shows ABORTED (R44). -/
def State.abortOps (s : State) : State :=
  let ab := fun (t : State) (k : Nat) => if t.reg k % 4 = 1 then t.setReg k (t.reg k + 2) else t
  let s1 := ab (ab s R.topImageStatus) R.secFwStatus
  { s1 with ldr := { s1.ldr with writing := none, loadNow := false }, boot := { s1.boot with op := none } }

/-- HBM enters self-refresh for the length of a core reset; in the tile personality it stays in power-down (R113: both sentences speak of a
core reset there, and the second is taken; DESIGN CHOICE, log entry 133). -/
def State.hbmHold (s : State) : State :=
  if s.isF && s.isFeed && s.hbmState != 0 then (s.hbmTo 3).count R.hbmSleepCount F.hbmSleepCount_SR else s

/-- What core reach clears (R376). A unit that is claim winner hands over first (R319). -/
def State.coreClear (s : State) : State :=
  let s1 := s.coreHandover.dropCommit.interruptSeq.abortOps
  let s2 := (s1.clipCoreReset.coreRegs).hbmHold
  let keepPend := if s2.isFeed then { CmpSt.reset with fades := [] } else { CmpSt.reset with pend := s2.cmp.pend, prev := s2.cmp.prev }
  let s3 : State := { s2 with
    cmp := keepPend, pix := PixSt.reset, queues := [], qmWait := [], dma := { DmaSt.reset with drq := s2.dma.drq },
    mbx := List.replicate 64 .free, spdm := SpdmSt.reset, time := { s2.time with used := none },
    red := { s2.red with joining := true },
    seq := { s2.seq with
      left := false, delayed := false,
      target := if s2.seq.delayed then some { state := .run, from_ := s2.clock.now } else s2.seq.target }, cor := { s2.cor with applying := none },
    hif := { s2.hif with doeBusy := false }, boot := { s2.boot with phase := .held, tried := [] },
    ldr := { s2.ldr with phase := .build, rebuild := true }, rst := { s2.rst with wdtRunning := false } }
  s3.put R.topStatus F.topStatus_STATE 2

/-! ### Widening a core reset (R382, R394, R400) -/

/-- The firmware of the booted slot still measures what index 2 holds (R394). -/
def State.firmwareSame (s : State) : Bool :=
  let slot := s.get R.secFwSlot F.secFwSlot_BOOTED
  match slotFw (if slot = 0 then s.flash.fw0 else s.flash.fw1) with
  | some f => f.digest == s.boot.inner.getD 1 0 && fwCause s.fuses (.image f) == 0
  | none => false

/-- Both stacks of the HBM trained (R109). -/
def State.hbmOk (s : State) : Bool := s.flag R.hbmStatus F.hbmStatus_STACK0_OK && s.flag R.hbmStatus F.hbmStatus_STACK1_OK

/-- The retained copy of the Forjo image (R40): the flash slot it came from, or the copy in HBM. -/
def State.retainedImage (s : State) : Option ForjoImage :=
  match s.ldr.source with
  | .slot0 => slotForjo s.flash.fj0
  | .slot1 => slotForjo s.flash.fj1
  | .pcie => s.ldr.retained

/-- The retained copy passes the checks of R37 and measures what index 3 took at the last system reset (R40). -/
def State.imageSame (s : State) : Bool :=
  match s.retainedImage with
  | some c =>
    headerStageCause s.fuses (s.get R.secFwInfo F.secFwInfo_VERSION) none c == 0 && verifyCause s.fuses.build s.hbmOk c == 0 &&
      c.digest == s.boot.inner.getD 2 0
  | none => false

/-! ### Episodes (R377, R380, R381) -/

/-- RSTCAUSE.SEEN takes a source. -/
def State.seen (s : State) (code : Nat) : State := s.put R.rstcause F.rstcause_SEEN (setBit (s.get R.rstcause F.rstcause_SEEN) code true)

/-- The reset widens to a reach: RSTCAUSE.REACH holds the deepest of the episode, and what the reach clears is cleared (R381). -/
def State.widen (s : State) (reach : Nat) : State :=
  let deep := max reach s.rst.deepest
  let s1 : State := { s with rst := { s.rst with reach := reach, deepest := deep } }
  let s2 := s1.put R.rstcause F.rstcause_REACH deep
  if reach = 1 then s2.coreClear
  else if reach = 2 then s2.systemClear
  else
    let s3 := s2.powerClear
    (s3.put R.rstcause F.rstcause_FIRST (s.get R.rstcause F.rstcause_FIRST)).put R.rstcause F.rstcause_REACH deep

/-- A core reset that R382 widens: the loader is not READY, or a copy fails its check. MEASURE_MISMATCH is shown, and the event follows
the clearing (R394). -/
def State.startCore (s : State) : State :=
  let ready := s.ldr.phase == .ready
  if ready && s.firmwareSame && s.imageSame then s.widen 1
  else
    let s1 := (s.put R.rstcause F.rstcause_WIDENED 1).widen 2
    if ready then (s1.put R.secFwStatus F.secFwStatus_CAUSE 0x0D).raise .sec 4 3 else s1

/-- A core reset that has ended comes back as a system reset: its rebuild does not end in time (R3, R40; log entry 31). -/
def State.widenRebuild (s : State) : State :=
  let s1 : State := { s with rst := { s.rst with inReset := true } }
  ((s1.put R.rstcause F.rstcause_WIDENED 1).widen 2)

/-- A reset source asserts (R377, R381): a new episode starts, or the one under way widens. -/
def State.assertSource (s : State) (code reach : Nat) (level : Bool) : State :=
  let fresh := !s.rst.inReset
  let s1 := if fresh then
      let t := (s.put R.rstcause F.rstcause_FIRST code).put R.rstcause F.rstcause_WIDENED 0
      { t with rst := { t.rst with inReset := true, reach := 0, deepest := 0, fatal := false } }
    else s
  let s2 : State := if level && !s1.rst.asserted.contains code then
      { s1 with rst := { s1.rst with asserted := s1.rst.asserted ++ [code] } }
    else s1
  let s3 := if s2.rst.reach < reach then (if reach = 1 then s2.startCore else s2.widen reach) else s2
  s3.seen code

/-- The reach of a level source: PWR and SUPPLY power-on, RESET_N and THERM system. -/
def levelReach (code : Nat) : Nat := if code ≤ 1 then 3 else 2

/-- A level source releases: the reset stays at the deepest reach still asserted (R381). -/
def State.releaseSource (s : State) (code : Nat) : State :=
  let left := s.rst.asserted.filter (· != code)
  let reach := if left.isEmpty then s.rst.reach else left.foldl (fun r c => max r (levelReach c)) 0
  { s with rst := { s.rst with asserted := left, reach := reach } }

/-! ### The sources -/

/-- POWER_ON_RESET (R377). -/
def execPowerOnReset (s : State) : Out := .next (s.assertSource 0 3 true)

/-- PWR_RELEASE (R377): the supplies are valid. -/
def execPwrRelease (s : State) : Out := .next (s.releaseSource 0)

/-- A rail of the HBM. -/
def hbmRail (r : Rail) : Bool := r == .vddHbm || r == .vddqHbm || r == .vppHbm

/-- SUPPLY_LOW (R377, R425): a monitored rail stays low; a T build has no HBM rails. -/
def execSupplyLow (rail : Rail) (s : State) : Out :=
  .next (if hbmRail rail && !s.isF then s
  else
    let low := if s.rst.lowRails.contains rail then s.rst.lowRails else s.rst.lowRails ++ [rail]
    ({ s with rst := { s.rst with lowRails := low } } : State).assertSource 1 3 true)

/-- SUPPLY_RELEASE (R425): the rail is back; SUPPLY releases with the last one. -/
def execSupplyRelease (rail : Rail) (s : State) : Out :=
  .next (let left := s.rst.lowRails.filter (· != rail)
    let s1 : State := { s with rst := { s.rst with lowRails := left } }
    if left.isEmpty && !s.rst.lowRails.isEmpty then s1.releaseSource 1 else s1)

/-- RESET_N_ASSERT (R378): a filtered low level, while the source follows the ball. -/
def execResetNAssert (s : State) : Out :=
  .next (if s.rst.driving || !(s.rst.follows || !s.rst.inReset) then s else s.assertSource 2 2 true)

/-- RESET_N_RELEASE (R378). -/
def execResetNRelease (s : State) : Out := .next (if s.rst.driving || !s.rst.follows then s else s.releaseSource 2)

/-- RESET_N_DRIVE_RELEASE (R379): 1 ms has passed, and no source other than RESET_N is asserted. -/
def execResetNDriveRelease (s : State) : Out :=
  .next (if s.rst.driving && s.rst.asserted.all (· == 2) then { s with rst := { s.rst with driving := false } } else s)

/-- RESET_N_FOLLOW (R378): 10 µs after the drive ends the source follows the ball again, which is now low or high. -/
def execResetNFollow (low : Bool) (s : State) : Out :=
  .next (if s.rst.driving || s.rst.follows then s
  else
    let s1 : State := { s with rst := { s.rst with follows := true } }
    if low then s1.assertSource 2 2 true else s1.releaseSource 2)

/-- The reach of CMD: 2 system, 1 core (RST_CFG.CMD_REACH); in ROM recovery always system (R389). -/
def State.cmdReach (s : State) : Nat := if s.flag R.rstCfg F.rstCfg_CMD_REACH || s.boot.phase == .recovery then 2 else 1

/-- A write of RST_CMD (R383): in a tile a write by a feed unit waits for its WR_ACK. -/
def State.rstCmdWrite (s : State) (value : Nat) (req : Requester) : State :=
  if fieldGet value F.rstCmd_KEY ≠ 0xA55A then s.progError R.rstCmd value req
  else if fieldGet value F.rstCmd_GO = 0 then s
  else if req = .claim0 ∨ req = .claim1 then { s with rst := { s.rst with tileCmd := true } }
  else s.assertSource 5 s.cmdReach false

/-- RST_CMD_WRITE (R383). -/
def execRstCmdWrite (req : Requester) (value : Word) (s : State) : Out := .next (s.byReq req (s.rstCmdWrite value.toNat req))

/-- TILE_CMD_RESET: 100 µs after the WR_ACK has left or was discarded, the reset takes effect (R383). -/
def execTileCmdReset (s : State) : Out :=
  .next (if s.rst.tileCmd then
    ({ s with rst := { s.rst with tileCmd := false } } : State).assertSource 5 s.cmdReach false
  else s)

/-- DBG_RESET (R377): honoured while the lifecycle enables debug. -/
def execDbgReset (s : State) : Out := .next (if s.fuses.debug then s.assertSource 6 1 false else s)

/-- FATAL_ESCALATION (R377, R382, R408): a captured FATAL event asserts its pulse at the reach of its block; a second one of the episode
only sets its bit again. -/
def execFatalEscalation (s : State) : Out :=
  .next (match s.rst.fatals with
    | [] => s
    | (b, _) :: rest =>
      let s1 : State := { s with rst := { s.rst with fatals := rest } }
      if s1.rst.inReset && s1.rst.fatal then s1.seen 7
      else
        let reach := if bitOf (s1.reg R.rstFatalReach) b then 2 else 1
        let s2 := (s1.put R.rstcause F.rstcause_FATAL_BLOCK b).assertSource 7 reach false
        { s2 with rst := { s2.rst with fatal := true } })

/-! ### The watchdog (R384) -/

/-- The watchdog period in ms. -/
def State.wdtMs (s : State) : Nat := 100 * s.get R.rstCfg F.rstCfg_WDT_PERIOD

/-- The watchdog starts, or starts its period again. -/
def State.wdtStart (s : State) : State :=
  let s1 : State := { s with rst := { s.rst with wdtRunning := true } }
  (s1.put R.rstWdt F.rstWdt_WARNED 0).setReg R.rstWdtRemain (s.wdtMs % 65536)

/-- A write of RST_WDT: only the management processor's kick counts. -/
def State.wdtWrite (s : State) (value : Nat) (req : Requester) : State :=
  if req = .mp ∧ fieldGet value F.rstWdt_KICK = 0x5A5A ∧ s.rst.wdtRunning then s.wdtStart else s

/-- WDT_KICK (R384). -/
def execWdtKick (req : Requester) (value : Word) (s : State) : Out := .next (s.byReq req (s.wdtWrite value.toNat req))

/-- WDT_WARN (R384): half the period has passed. -/
def execWdtWarn (s : State) : Out :=
  .next (if s.rst.wdtRunning then
    ((s.put R.rstWdt F.rstWdt_WARNED 1).setReg R.rstWdtRemain (s.wdtMs / 2)).raise .rst 2 2
  else s)

/-- WDT_EXPIRE (R384): the whole period has passed. -/
def execWdtExpire (s : State) : Out := .next (if s.rst.wdtRunning then s.assertSource 3 2 false else s)

end Sys2Proof.Machine
end

