-- ==== Sys2Proof/Machine/Thermal.lean ====
section
/-! DEFINITION. Heat, droop and voltage (R357 to R375): sensors, the thermal state machine, shedding, heat requests and the caps that
answer them, clock stretching, and the adaptive voltage loop. -/

namespace Sys2Proof.Machine

/-! ### Sensors (R357 to R360) -/

/-- A sensor's runs; one not yet sampled has none. -/
def State.sens (s : State) (i : Nat) : SensSt :=
  (s.thm.sens.find? fun x => x.idx == i).getD
    { idx := i, far := 0, near := 0, inRange := 0, hot := 0, n := 0, sum := 0, sums := [] }

/-- The state with a sensor's runs set. -/
def State.setSens (s : State) (x : SensSt) : State :=
  { s with thm := { s.thm with sens := (s.thm.sens.filter fun y => y.idx != x.idx) ++ [x] } }

/-- The state code of a sensor: 0 VALID, 1 SUSPECT, 2 DEAD. -/
def State.sensState (s : State) (i : Nat) : Nat := s.get (R.thmSensor i) F.thmSensor_STATE

/-- The raw value of a sensor in 1/16 °C. -/
def State.sensRaw (s : State) (i : Nat) : Int := toSigned 16 (s.get (R.thmSensor i) F.thmSensor_RAW)

/-- The counted value of a sensor. -/
def State.sensCounted (s : State) (i : Nat) : Int := toSigned 16 (s.get (R.thmSensor i) F.thmSensor_COUNTED)

/-- The neighbours of a sensor: those of its quarter at grid distance 1, diagonals included (R357). -/
def neighbours (i : Nat) : List Nat :=
  let near := fun (a b : Nat) => decide (a ≤ b + 1 ∧ b ≤ a + 1)
  ((List.range 16).map (i / 16 * 16 + ·)).filter fun j => j != i && near (i % 16 / 4) (j % 16 / 4) && near (i % 4) (j % 4)

/-- The VALID neighbours of a sensor. -/
def State.validNear (s : State) (i : Nat) : List Nat := (neighbours i).filter fun j => s.sensState j == 0

/-- A sensor takes a state, with its event (R358, R359). -/
def State.sensTo (s : State) (i st cause sev : Nat) : State :=
  let s1 := s.put (R.thmSensor i) F.thmSensor_STATE st
  if s.rst.inReset && s.rst.reach != 1 then s1 else s1.raise .thm cause sev i

/-- The state of a sensor after a sample (R358, R359); `old` holds the states that the medians are taken over. -/
def State.judgeSensor (s old : State) (i : Nat) : State :=
  let x := s.sens i
  let v := s.sensRaw i
  let st := s.sensState i
  if v < -960 ∨ 2560 < v then
    let s1 := s.setSens { x with inRange := 0, far := 0, near := 0 }
    if st = 2 then s1 else s1.sensTo i 2 6 2
  else if st = 2 then
    if x.inRange + 1 < 10000 then s.setSens { x with inRange := x.inRange + 1 }
    else (s.setSens { x with inRange := 0 }).sensTo i 0 5 1
  else
    let ns := old.validNear i
    if ns.length < 2 then s
    else
      let d := (v - lowerMedian (ns.map s.sensRaw)).natAbs
      if st = 0 then
        let far := if 96 < d then x.far + 1 else 0
        if far < 10 then s.setSens { x with far := far } else (s.setSens { x with far := 0, near := 0 }).sensTo i 1 4 2
      else
        let near := if d ≤ 48 then x.near + 1 else 0
        if near < 1000 then s.setSens { x with near := near } else (s.setSens { x with far := 0, near := 0 }).sensTo i 0 5 1

/-- The throttle level in force, in 1/16 °C. -/
def State.throttleLevel (s : State) : Int := 16 * (s.get R.thmLimits F.thmLimits_THROTTLE : Nat)

/-- The counted value of a sensor by its state (R360). -/
def State.countedNow (s : State) (i : Nat) : Int :=
  let dead := s.throttleLevel + 16
  match s.sensState i with
  | 0 => s.sensRaw i
  | 1 => match s.validNear i with
    | [] => dead
    | a :: r => r.foldl (fun m j => max m (s.sensRaw j)) (s.sensRaw a) + 64
  | _ => dead

/-- The means of a sensor (R362): 1,000 samples make a 100 ms interval, and eleven intervals are kept. -/
def SensSt.sample (x : SensSt) (v : Int) : SensSt :=
  if x.n + 1 < 1000 then { x with n := x.n + 1, sum := x.sum + v }
  else { x with n := 0, sum := 0, sums := (x.sums ++ [x.sum + v]).drop (x.sums.length - 10) }

/-- A sensor rises faster than the limit: its latest interval against the one 1 s earlier (R362). -/
def State.rises (s : State) (i : Nat) : Bool :=
  let limit := s.get R.thmPolicy F.thmPolicy_RISE
  let l := (s.sens i).sums
  limit != 0 && s.sensState i == 0 && decide (11 ≤ l.length) && decide ((limit * 4000 : Nat) < l.getD 10 0 - l.getD 0 0)

/-- The temperature of a count by a sensor's trim, in 1/16 °C (R357): the line through its counts at 25 °C and 105 °C. The spec gives no
rounding of a value between two codes: it is free (log entry 156). -/
def trimmed (c25 c105 count : Nat) : Int :=
  let n : Int := ((count : Int) - c25) * 1280
  let d : Int := (c105 : Int) - c25
  400 + n / d + (if n % d ≠ 0 ∧ Config.trimUp n d then 1 else 0)

/-- The trim of a sensor; a sensor without one counts in 1/16 °C. -/
def State.trimOf (s : State) (i : Nat) : Nat × Nat := s.fuses.trims.getD i (400, 1680)

/-- What THM_SENSOR.RAW shows of a count, within the ends of its 16 bits. -/
def State.tempOf (s : State) (i count : Nat) : Int :=
  clampInt (-32768) 32767 (trimmed (s.trimOf i).1 (s.trimOf i).2 count)

/-- Every sensor takes its count, its state and its counted value. -/
def State.takeReadings (s : State) (counts : List Nat) : State :=
  let s1 := (List.range 64).foldl (fun t i =>
    match counts[i]? with
    | some c => t.put (R.thmSensor i) F.thmSensor_RAW (ofSigned 16 (s.tempOf i c))
    | none => t) s
  let s2 := (List.range 64).foldl (fun t i => t.judgeSensor s1 i) s1
  (List.range 64).foldl (fun t i =>
    let x := (t.sens i).sample (t.sensRaw i)
    let hot := if s2.sensState i = 0 ∧ 2000 ≤ t.sensRaw i then x.hot + 1 else 0
    (t.setSens { x with hot := hot }).put (R.thmSensor i) F.thmSensor_COUNTED (ofSigned 16 (s2.countedNow i))) s2

/-- The sensor that supplies the hottest counted value, the lowest of several. -/
def State.hottestSensor (s : State) : Nat :=
  (List.range 64).foldl (fun a i => if s.sensCounted a < s.sensCounted i then i else a) 0

/-! ### The thermal state machine (R362 to R364) -/

/-- THM_STATUS.STATE: 0 NORMAL, 1 WARNING, 2 THROTTLE. -/
def State.thermState (s : State) : Nat := s.get R.thmStatus F.thmStatus_STATE

/-- The hottest value. -/
def State.hottest (s : State) : Int := toSigned 16 (s.get R.thmStatus F.thmStatus_HOTTEST)

/-- The throttle condition (R362). -/
def State.throttleCond (s : State) : Bool := decide (s.throttleLevel ≤ s.hottest) || s.flag R.thmStatus F.thmStatus_RISE

/-- The release condition (R362). -/
def State.releaseCond (s : State) : Bool := decide (s.hottest ≤ s.throttleLevel - 80) && !s.flag R.thmStatus F.thmStatus_RISE

/-- The condition under which a tile asks for less and a feed unit sheds (R363, R365, R367). -/
def State.mayShed (s : State) : Bool := s.throttleCond && !s.flag R.thmStatus F.thmStatus_HOLD

/-- A die heat request goes out (R367). -/
def State.dieRequest (s : State) : State :=
  let s1 := s.startRequest
  let s2 := s1.put R.thmCap F.thmCap_REQ 1
  let s3 : State := if s2.mayShed then { s2 with thm := { s2.thm with dieCap := s2.capWanted } } else s2
  s3.sendHeat false

/-- THROTTLE is entered (R362, R365, R367). -/
def State.enterThrottle (s : State) : State :=
  let s1 := ((s.put R.thmStatus F.thmStatus_STATE 2).put R.topStatus F.topStatus_THROTTLE 1).raise .thm 2 2
  let s2 : State := { s1 with thm := { s1.thm with relFrom := none } }
  if s2.isTile then s2.dieRequest else s2

/-- HOLD: throttling, and the hottest value comes only from SUSPECT or DEAD sensors (R363). -/
def State.showHold (s : State) : State :=
  let h := s.hottest
  let only := (List.range 64).all fun i => s.sensCounted i != h || s.sensState i != 0
  s.put R.thmStatus F.thmStatus_HOLD (s.thermState == 2 && only).toNat

/-- The thermal state after a sample (R362). -/
def State.judgeTherm (s : State) : State :=
  let i := s.hottestSensor
  let rise := (List.range 64).any s.rises
  let s1 := ((s.put R.thmStatus F.thmStatus_HOTTEST_TS i).put R.thmStatus F.thmStatus_HOTTEST (ofSigned 16 (s.sensCounted i))).put
    R.thmStatus F.thmStatus_RISE rise.toNat
  let st := s1.thermState
  let warn : Int := 16 * (s1.get R.thmLimits F.thmLimits_WARN : Nat)
  let s2 :=
    if st = 2 then
      let rel := if s1.releaseCond then (if s1.thm.relFrom.isSome then s1.thm.relFrom else some s1.clock.now) else none
      { s1 with thm := { s1.thm with relFrom := rel } }
    else if s1.throttleCond then s1.enterThrottle
    else if st = 0 ∧ warn ≤ s1.hottest then (s1.put R.thmStatus F.thmStatus_STATE 1).raise .thm 1 1
    else if st = 1 ∧ s1.hottest < warn - 48 then s1.put R.thmStatus F.thmStatus_STATE 0
    else s1
  s2.showHold

/-- Some VALID sensor reads 110 °C or more (R364). -/
def State.stillHot (s : State) : Bool := (List.range 64).any fun i => s.sensState i == 0 && decide (1760 ≤ s.sensRaw i)

/-- THERM asserts once a VALID sensor has read 125 °C or more three times in a row (R364). -/
def State.shutdown (s : State) : State :=
  if s.thm.sens.any (fun x => decide (3 ≤ x.hot)) && !s.rst.asserted.contains 4 then
    (s.put R.thmStatus F.thmStatus_SHUTDOWN_SEEN 1).assertSource 4 2 true
  else s

/-- SENSOR_SAMPLE (R357): the thermal states stand still while the device is in a system reset. -/
def execSensorSample (counts : List Nat) (s : State) : Out :=
  .next (let s1 := s.takeReadings counts
    let s2 := if s1.rst.inReset && s1.rst.reach != 1 then s1 else s1.judgeTherm
    s2.shutdown)

/-- SHUTDOWN_RELEASE: 100 ms after the last reading of 110 °C or more, THERM releases (R364). -/
def execShutdownRelease (s : State) : Out :=
  .next (if s.rst.asserted.contains 4 && !s.stillHot then s.releaseSource 4 else s)

/-- THROTTLE_RELEASE: the release condition has held for the release hold time (R362). -/
def execThrottleRelease (s : State) : Out :=
  .next (if s.thermState == 2 && s.releaseCond && s.thm.relFrom.isSome then
    let s1 := ((s.put R.thmStatus F.thmStatus_STATE 1).put R.thmStatus F.thmStatus_HOLD 0).put R.topStatus F.topStatus_THROTTLE 0
    let s2 : State := { s1 with thm := { s1.thm with relFrom := none } }
    (s2.raise .thm 3 1).raise .thm 1 1
  else s)

/-! ### Shedding (R365, R366) -/

/-- SHED_STEP: the throttle condition still holds one feed grace time after the last step (R363, R365). -/
def execShedStep (s : State) : Out :=
  .next (if s.isFeed && s.thermState == 2 && s.mayShed && decide (s.shed < 4) then s.shedTo (s.shed + 1) else s)

/-- SHED_WITHDRAW: one step in reverse order after the exit (R366). -/
def execShedWithdraw (s : State) : Out :=
  .next (if s.isFeed && s.thermState != 2 && decide (0 < s.shed) then s.shedTo (s.shed - 1) else s)

/-! ### Heat requests (R367 to R370) -/

/-- DIE_HEAT_REQ: every second in THROTTLE, and once with 4,096 on leaving it (R367). -/
def execDieHeatReq (s : State) : Out :=
  .next (if !s.isTile then s
  else if s.thermState = 2 then s.dieRequest
  else if s.dieReq then
    (({ s with thm := { s.thm with dieCap := 4096 } } : State).put R.thmCap F.thmCap_REQ 0).sendHeat false
  else s)

/-- The zone of an address (R369). -/
def State.zoneOf (s : State) (a : Nat) : Nat :=
  if s.flag R.thmHeatCfg F.thmHeatCfg_ZONED then s.reg (R.thmZone (a / 8)) / 2 ^ (4 * (a % 8)) % 16 else 0

/-- An address is ADMITTED. -/
def State.isAdmitted (s : State) (a : Nat) : Bool := s.topoState a == 3

/-- The target of a zone: the smallest CAP_WANTED of its active requests, 4,096 with none (R369). -/
def State.zoneTarget (s : State) (z : Nat) : Nat :=
  (s.thm.heats.filter fun h => h.live && decide (h.cap < 4096) && s.isAdmitted h.addr && s.zoneOf h.addr == z).foldl
    (fun m h => min m h.cap) 4096

/-- A PENNANT_CAP to one destination; it supersedes the one in force there, a broadcast all of them (R260, R261, R369). -/
def State.capPennant (s : State) (dst cap : Nat) : State :=
  let fade := max 1 (s.get R.thmHeatCfg F.thmHeatCfg_FADE)
  let frame := (s.nextSampled + 1) % 2 ^ 48
  let body := leBytes 2 cap ++ leBytes 2 fade ++ leBytes 6 frame ++ List.replicate 6 0
  let p : PennantOut := { id := s.pen.nextId, type := 0x12, dst := dst, body := body, copies := 0 }
  let s1 := s.newPennant 0x12 dst body
  let keep := if dst = 0xFFF then [] else s1.pen.caps.filter fun x => x.dst != dst
  { s1 with pen := { s1.pen with caps := keep ++ [p] } }

/-- The admitted tiles of a zone. -/
def State.zoneTiles (s : State) (z : Nat) : List Nat :=
  ((s.dsc.table.map (·.addr)).filter fun a => s.isAdmitted a && s.zoneOf a == z)

/-- A cap goes to a zone: by one broadcast where the domain is one zone, else to each admitted tile of the zone (R369). -/
def State.sendCap (s : State) (z cap : Nat) (all : Bool) : State :=
  let dsts := if all then [0xFFF] else s.zoneTiles z
  let s1 := dsts.foldl (fun t a => t.capPennant a cap) s
  let zs := if all then (if s.flag R.thmHeatCfg F.thmHeatCfg_ZONED then List.range 16 else [0]) else [z]
  (zs.foldl (fun t i => t.put (R.thmZoneStatus i) F.thmZoneStatus_SENT cap) s1).count R.thmHeatCount F.thmHeatCount_PENNANTS

/-- The domain is one zone. -/
def State.oneZone (s : State) : Bool := !s.flag R.thmHeatCfg F.thmHeatCfg_ZONED

/-- The zones in use. -/
def State.zones (s : State) : List Nat := if s.oneZone then [0] else List.range 16

/-- The targets of the zones are taken anew; with AUTO set, one that has fallen below the cap last sent is sent at once (R369). -/
def State.updateZones (s : State) : State :=
  s.zones.foldl (fun t z =>
    let target := t.zoneTarget z
    let t1 := t.put (R.thmZoneStatus z) F.thmZoneStatus_TARGET target
    if t1.flag R.thmHeatCfg F.thmHeatCfg_AUTO && decide (target < t1.get (R.thmZoneStatus z) F.thmZoneStatus_SENT) then
      t1.sendCap z target t1.oneZone
    else t1) s

/-- A HEAT_REQ reaches a feed unit (R224, R369, R370). -/
def State.heatReq (s : State) (p : Packet) : State :=
  let (ok, s1) := s.acceptUp p
  if ok then
    let a := p.hdr.src.toNat
    let cap := min 4096 (payField p 0 2)
    let rest := s1.thm.heats.filter fun h => h.addr != a
    let s2 : State := { s1 with thm := { s1.thm with heats := rest ++ [{ addr := a, cap := cap, live := true }] } }
    let s3 := s2.count R.thmHeatCount F.thmHeatCount_REQUESTS
    let s4 := if s3.flag R.thmHeatCfg F.thmHeatCfg_AUTO then s3 else s3.raise .thm 7 0 0 [a, cap, payField p 4 2]
    s4.updateZones
  else s1

/-- HEAT_REQ (R369). -/
def execHeatReq (port : Fin 96) (pkt : Packet) (s : State) : Out :=
  .next (if s.isFeed && s.takes port.val pkt 6 5 then s.heatReq pkt else s)

/-- HEAT_REQ_AGE: 3 s after its last arrival a request is no longer active (R369). -/
def execHeatReqAge (address : BitVec 12) (s : State) : Out :=
  .next (if s.isFeed then
    ({ s with thm := { s.thm with heats := s.thm.heats.map fun h => if h.addr = address.toNat then { h with live := false } else h } } :
      State).updateZones
  else s)

/-- CAP_RAISE: the target has stayed above the cap sent for RAISE_HOLD (R370). -/
def execCapRaise (zone : Fin 16) (s : State) : Out :=
  .next (let z := zone.val
    let t := s.zoneTarget z
    if s.isFeed && !s.rst.inReset && s.flag R.thmHeatCfg F.thmHeatCfg_AUTO && s.zones.contains z &&
        decide (s.get (R.thmZoneStatus z) F.thmZoneStatus_SENT < t) then
      (s.put (R.thmZoneStatus z) F.thmZoneStatus_TARGET t).sendCap z t s.oneZone
    else s)

/-- A write of THM_CAP_CMD (R370): honoured only with AUTO clear. -/
def State.capCmdWrite (s : State) (value : Nat) (req : Requester) : State :=
  if !s.isFeed then s
  else if s.flag R.thmHeatCfg F.thmHeatCfg_AUTO then s.progError R.thmCapCmd value req
  else if fieldGet value F.thmCapCmd_GO = 1 then
    s.sendCap (fieldGet value F.thmCapCmd_ZONE) (min 4096 (fieldGet value F.thmCapCmd_CAP)) (fieldGet value F.thmCapCmd_ALL == 1)
  else s

/-- CAP_COMMAND (R370). -/
def execCapCommand (req : Requester) (value : Word) (s : State) : Out := .next (s.byReq req (s.capCmdWrite value.toNat req))

/-! ### Droop (R371, R372) -/

/-- The droop threshold in mV (PWR_DROOP_CFG.THRESH): 4 to 16 steps of 5 mV. -/
def State.droopThresh (s : State) : Nat := 5 * min 16 (max 4 (s.get R.pwrDroopCfg F.pwrDroopCfg_THRESH))

/-- A detector sees VDD_CORE more than the threshold below the set point, the target of the voltage loop. -/
def State.droops (s : State) (mv : Nat) : Bool := decide (mv + s.droopThresh < s.get R.pwrAvsStatus F.pwrAvsStatus_TARGET)

/-- DROOP_DETECT: what VDD_CORE falls to at the detectors' sites, in mV; the unmasked ones that see a droop stretch CCLK and SCLK. -/
def execDroopDetect (millivolts : List (Fin 16 × Nat)) (s : State) : Out :=
  .next (let seen := (List.range 16).filter fun d => millivolts.any fun x => x.1.val == d && s.droops x.2
    let s1 := seen.foldl (fun t d => t.count (R.pwrDroopCount d) F.pwrDroopCount_COUNT) s
    let acts := seen.any fun d => !bitOf (s.get R.pwrDroopMask F.pwrDroopMask_MASK) d
    if acts && !s1.pwr.stretched then
      { s1 with pwr := { s1.pwr with stretched := true, stretches := s1.pwr.stretches + 1 } }
    else s1)

/-- STRETCH_END (R371). -/
def execStretchEnd (s : State) : Out := .next { s with pwr := { s.pwr with stretched := false } }

/-- STRETCH_DUTY: the share of the last 1 ms in 1/1,000 (R372). -/
def execStretchDuty (duty : BitVec 10) (s : State) : Out :=
  .next (let d := min 1000 duty.toNat
    let k := R.pwrStretch
    let run := if 250 < d then s.pwr.highMs + 1 else 0
    let s1 := (s.put k F.pwrStretch_DUTY d).put k F.pwrStretch_PEAK (max d (s.get k F.pwrStretch_PEAK))
    let s2 : State := { s1 with pwr := { s1.pwr with highMs := min 11 run } }
    if run = 10 then s2.raise .pwr 1 2 else s2)

/-! ### The voltage loop (R373, R374) -/

/-- The target after an update (R373): a raise takes priority. -/
def State.avsTarget (s : State) (low : Bool) (run : Nat) : Nat :=
  let t := s.get R.pwrAvsStatus F.pwrAvsStatus_TARGET
  if low ∨ 16 ≤ s.pwr.stretches then min (s.get R.pwrAvsLimits F.pwrAvsLimits_VMAX) (t + 5)
  else if 100 ≤ run then max (s.get R.pwrAvsLimits F.pwrAvsLimits_VMIN) (t - 5)
  else t

/-- The worst of the margins that the critical-path monitors read. -/
def worstMargin (l : List Int) : Option Int := match l with | [] => none | a :: r => some (r.foldl min a)

/-- AVS_UPDATE: the loop takes what the margins say and writes one step or none (R373, R374). -/
def State.avsUpdate (s : State) (low high acked : Bool) (readback : Nat) : State :=
  let k := R.pwrAvsStatus
  let run := if high && s.pwr.stretches == 0 then s.pwr.highRun + 1 else 0
  let t := s.avsTarget low run
  let s1 := (s.put k F.pwrAvsStatus_READBACK readback).put k F.pwrAvsStatus_TARGET t
  let s2 : State := { s1 with pwr := { s1.pwr with stretches := 0, highRun := if 100 ≤ run then 0 else run } }
  let nacks := if t = s2.pwr.ackedTarget then 0 else if acked then 0 else s2.pwr.nacks + 1
  let s3 : State := { s2 with pwr := { s2.pwr with nacks := nacks, ackedTarget := if acked then t else s2.pwr.ackedTarget } }
  let s4 := if 3 ≤ nacks then
      ((s3.put k F.pwrAvsStatus_LOST 1).put k F.pwrAvsStatus_TARGET s3.pwr.ackedTarget).raise .pwr 2 2
    else s3
  let v := s4.get k F.pwrAvsStatus_TARGET
  (s4.put k F.pwrAvsStatus_AT_MIN (decide (v = s4.get R.pwrAvsLimits F.pwrAvsLimits_VMIN)).toNat).put
    k F.pwrAvsStatus_AT_MAX (decide (v = s4.get R.pwrAvsLimits F.pwrAvsLimits_VMAX)).toNat

/-- The firmware runs. -/
def State.fwRuns (s : State) : Bool := match s.boot.phase with | .running _ => true | _ => false

/-- AVS_UPDATE (R373): after firmware start, with EN set and the regulator not lost. -/
def execAvsUpdate (margins : List Int) (acked : Bool) (readback : BitVec 10) (s : State) : Out :=
  .next (if s.fwRuns && !s.rst.inReset && s.flag R.pwrAvsCfg F.pwrAvsCfg_EN && !s.flag R.pwrAvsStatus F.pwrAvsStatus_LOST then
    let w := worstMargin margins
    s.avsUpdate (w.any fun m => decide (m < s.fuses.marginLow)) (w.any fun m => decide (s.fuses.marginHigh < m)) acked readback.toNat
  else s)

end Sys2Proof.Machine
end

