-- ==== Sys2Proof/Machine/Loader.lean ====
section
/-! DEFINITION. The Forjo loader up to BUILD (R37 to R44): the candidates, the header stage, the fetch, verification, the safe idle
state, the loader operations and their flash writes. What BUILD sets stands with READY. -/

namespace Sys2Proof.Machine

/-! ### The flash slots -/

/-- A Forjo slot of the flash. -/
def Flash.forjo (f : Flash) (n : Nat) : Slot ForjoImage := if n = 0 then f.fj0 else f.fj1

/-- The flash with a Forjo slot and its VALID bit set. -/
def Flash.setForjo (f : Flash) (n : Nat) (c : Slot ForjoImage) (valid : Bool) : Flash :=
  let f1 := if n = 0 then { f with fj0 := c } else { f with fj1 := c }
  { f1 with fjValid := f1.fjValid.set n valid }

/-- TOP_IMAGE_SLOT shows the slot descriptor. -/
def State.showImageSlots (s : State) : State :=
  let f := s.flash
  s.setReg R.topImageSlot (f.fjActive % 2 + (f.fjValid.getD 0 false).toNat * 2 + (f.fjValid.getD 1 false).toNat * 4)

/-- The slot that is not active. -/
def State.inactiveImage (s : State) : Nat := 1 - s.flash.fjActive % 2

/-- A slot takes an image whose write was read back, and becomes active (R41, R42). -/
def State.activateImage (s : State) (n : Nat) (c : Slot ForjoImage) : State :=
  ({ s with flash := { s.flash.setForjo n c true with fjActive := n } } : State).showImageSlots

/-- A slot's write has begun or failed: it holds no image. -/
def State.voidImage (s : State) (n : Nat) : State :=
  ({ s with flash := s.flash.setForjo n .erased false } : State).showImageSlots

/-- TOP_IMAGE_STATUS.STATE, ACCEPTED and CAUSE. -/
def State.imageStatus (s : State) (st acc cause : Nat) : State :=
  ((s.put R.topImageStatus F.topImageStatus_STATE st).put R.topImageStatus F.topImageStatus_ACCEPTED acc).put
    R.topImageStatus F.topImageStatus_CAUSE cause

/-! ### SELECT, refusal, safe idle (R38, R39) -/

/-- The endpoint fixes its BAR set, and configuration requests are answered (R50). -/
def State.announce (s : State) (b : BarSet) : State := { s with hif := { s.hif with bars := b, crs := false } }

/-- Safe idle (R39): BAR0 only, TIME stopped, HBM in power-down. -/
def State.safeIdle (s : State) : State :=
  let s1 : State := { s with ldr := { s.ldr with phase := .safeIdle, cand := .erased }, clock := { s.clock with running := false } }
  let s2 := if s1.isF && s1.hbmState != 0 then s1.hbmTo 2 else s1
  (s2.put R.topStatus F.topStatus_STATE 4).announce .bar0

/-- The source code of a flash slot. -/
def slotSource (n : Nat) : ImgSource := if n = 0 then .slot0 else .slot1

/-- SELECT: the active slot first, then the other, then none (R38). -/
def State.selectImage (s : State) : State :=
  let a := s.flash.fjActive % 2
  match [a, 1 - a].find? fun n => !s.ldr.tried.contains n with
  | some n =>
    ({ s with ldr := { s.ldr with phase := .header, source := slotSource n, cand := s.flash.forjo n } } : State).put
      R.topStatus F.topStatus_STATE 2
  | none => s.safeIdle

/-- No image is in force. -/
def State.dropImage (s : State) : State :=
  let s1 : State := { s with ldr := { s.ldr with image := none, rebuild := false } }
  ((s1.setReg R.topImageInfo 0).setReg R.topImageGen 0).put R.topStatus F.topStatus_PERSONALITY 0

/-- The loader refuses its candidate: the cause is recorded, and SELECT takes the next (R38). A LOAD_NOW ends refused (R42). -/
def State.refuseImage (s : State) (cause : Nat) : State :=
  let s1 := (s.put R.topStatus F.topStatus_CAUSE cause).dropImage
  if s1.ldr.loadNow then
    (({ s1 with ldr := { s1.ldr with loadNow := false } } : State).imageStatus 2 0 cause).selectImage
  else
    let bootCause := match s1.ldr.source with
      | .slot0 => (s1.put R.topImageStatus F.topImageStatus_BOOT_CAUSE0 cause, [0])
      | .slot1 => (s1.put R.topImageStatus F.topImageStatus_BOOT_CAUSE1 cause, [1])
      | .pcie => (s1, [])
    let s2 := bootCause.1
    ({ s2 with ldr := { s2.ldr with tried := s2.ldr.tried ++ bootCause.2 } } : State).selectImage

/-! ### HEADER, FETCH, VERIFY -/

/-- The length given to the loader with the LOAD_NOW that runs, for an image in host memory (R42). -/
def State.givenLength (s : State) : Option Nat :=
  if s.ldr.source = .pcie then some (s.ldr.length * 64) else none

/-- Steps 1 and 2 of R37 for the running firmware. -/
def State.headerCheck (s : State) (given : Option Nat) (i : ForjoImage) : Nat :=
  headerStageCause s.fuses (s.get R.secFwInfo F.secFwInfo_VERSION) given i

/-- HEADER_STAGE_DONE (R34 to R36). -/
def execHeaderStageDone (s : State) : Out :=
  .next (if s.ldr.phase ≠ .header then s
  else match slotForjo s.ldr.cand with
    | none => s.refuseImage 0x01
    | some i =>
      let c := s.headerCheck s.givenLength i
      if c = 0 then { s with ldr := { s.ldr with phase := .fetch } } else s.refuseImage c)

/-- HEADER_TIMEOUT (R38). -/
def execHeaderTimeout (s : State) : Out := .next (if s.ldr.phase = .header then s.refuseImage 0x0C else s)

/-- IMAGE_FETCH_TIMEOUT (R38). -/
def execImageFetchTimeout (s : State) : Out := .next (if s.ldr.phase = .fetch then s.refuseImage 0x0C else s)

/-- Step 7 of R37: an image that passed steps 4 to 6 is measured, whatever its limits. -/
def bodyMeasured (i : ForjoImage) : Bool := i.body.signatureOk && i.body.tagOk && i.crcsOk

/-- A LOAD_NOW whose image is also written to flash: always in a T build, with PERSIST in an F build (R41, R42). -/
def State.persists (s : State) : Bool := s.ldr.loadNow && (!s.isF || s.ldr.persist)

/-- VERIFY (steps 4 to 8 of R37): BUILD follows, or the flash write ahead of it. -/
def State.verifyLoad (s : State) (i : ForjoImage) : State :=
  let s1 := if bodyMeasured i then s.extend 3 i.digest else s
  let c := verifyCause s.fuses.build s.hbmOk i
  if c ≠ 0 then s1.refuseImage c
  else if s1.persists then
    let n := s1.inactiveImage
    ({ s1 with ldr := { s1.ldr with phase := .verify, writing := some (s1.ldr.cand, n) } } : State).voidImage n
  else { s1 with ldr := { s1.ldr with phase := .build } }

/-- IMAGE_FETCH_DONE (R37, R38). -/
def execImageFetchDone (s : State) : Out :=
  .next (if s.ldr.phase ≠ .fetch then s
  else match slotForjo s.ldr.cand with
    | none => s.refuseImage 0x01
    | some i => s.verifyLoad i)

/-- BUILD_TIMEOUT (R38). A rebuild after a core reset that times out is widened to a system reset, since no other image may take effect
without one (R3, R40; log entry 31). -/
def execBuildTimeout (s : State) : Out :=
  .next (if s.ldr.phase = .build then (if s.ldr.rebuild then s.widenRebuild else s.refuseImage 0x1B) else s)

/-! ### Loader operations (R42 to R44) -/

/-- The image that VERIFY and STAGE read: the inactive slot in a tile, host memory elsewhere; and the cause when there is none. -/
def State.operandImage (s : State) (host : Option ForjoImage) : Slot ForjoImage × Nat :=
  if s.isTile then (s.flash.forjo s.inactiveImage, 0x01)
  else match host with | some i => (.image i, 0x01) | none => (.erased, 0x0C)

/-- VERIFY, and the checks of STAGE: steps 1 to 8 of R37. -/
def State.operandCause (s : State) (host : Option ForjoImage) (given : Option Nat) : Nat :=
  let x := s.operandImage host
  match slotForjo x.1 with
  | none => x.2
  | some i =>
    let c := s.headerCheck given i
    if c ≠ 0 then c else verifyCause s.fuses.build s.hbmOk i

/-- STAGE after its checks: the image of a tile stands in its slot already; any other is written and read back first. -/
def State.stageImage (s : State) (host : Option ForjoImage) : State :=
  let n := s.inactiveImage
  let c := (s.operandImage host).1
  if s.isTile then (s.activateImage n c).imageStatus 2 1 0
  else
    let s1 := s.imageStatus 1 0 0
    ({ s1 with ldr := { s1.ldr with writing := some (c, n) } } : State).voidImage n

/-- LOAD_NOW accepted in safe idle: the loader goes to HEADER with the image in host memory and the LENGTH and PERSIST of the write, and
TIME runs. -/
def State.startLoad (s : State) (value : Nat) (host : Option ForjoImage) : State :=
  let cand := match host with | some i => Slot.image i | none => .erased
  let len := fieldGet value F.topImageLoadCtrl_LENGTH
  let keep := fieldGet value F.topImageLoadCtrl_PERSIST == 1
  let l := { s.ldr with phase := .header, source := .pcie, cand := cand, loadNow := true, writing := none, length := len, persist := keep }
  let s1 : State := { s with
    ldr := l,
    clock := { s.clock with running := true } }
  (s1.imageStatus 1 0 0).put R.topStatus F.topStatus_STATE 2

/-- An operation refused without effect on the one in progress (R42). -/
def State.refuseImageOp (s : State) (value : Nat) (req : Requester) : State :=
  (s.progError R.topImageLoadCtrl value req).put R.topImageStatus F.topImageStatus_CAUSE 0x1C

/-- A write of TOP_IMAGE_LOAD_CTRL with what host memory holds at TOP_IMAGE_LOAD_ADDR (R42, R44): 1 VERIFY, 2 STAGE, 3 LOAD_NOW. -/
def State.imageCtrlWrite (s : State) (value : Nat) (req : Requester) (host : Option ForjoImage) : State :=
  let op := fieldGet value F.topImageLoadCtrl_OP
  let len := fieldGet value F.topImageLoadCtrl_LENGTH
  let s1 := s.setReg R.topImageLoadCtrl (value % 2 ^ 23 - op)
  if op = 0 ∨ 3 < op ∨ !s.fwRuns then s1
  else if s.get R.topImageStatus F.topImageStatus_STATE = 1 ∨ (op = 3 ∧ s.ldr.phase ≠ .safeIdle) then s.refuseImageOp value req
  else if !s.isTile ∧ (len < 2 ∨ 262144 < len) then s1.refuseImageOp value req
  else if op = 3 then s1.startLoad value host
  else
    let c := s1.operandCause host (if s.isTile then none else some (len * 64))
    if c ≠ 0 then s1.imageStatus 2 0 c
    else if op = 1 then s1.imageStatus 2 1 0
    else s1.stageImage host

/-- IMAGE_VERIFY (R42). -/
def execImageVerify (req : Requester) (value : Word) (host : Option ForjoImage) (s : State) : Out :=
  .next (s.byReq req (s.imageCtrlWrite value.toNat req host))

/-- IMAGE_STAGE (R42, R43). -/
def execImageStage (req : Requester) (value : Word) (host : Option ForjoImage) (s : State) : Out :=
  .next (s.byReq req (s.imageCtrlWrite value.toNat req host))

/-- LOAD_NOW (R41, R42). -/
def execLoadNow (req : Requester) (value : Word) (host : Option ForjoImage) (s : State) : Out :=
  .next (s.byReq req (s.imageCtrlWrite value.toNat req host))

/-- The flash write of a STAGE or a LOAD_NOW ends with its read-back (R41). -/
def State.imageWritten (s : State) (ok : Bool) : State :=
  match s.ldr.writing with
  | none => s
  | some (c, n) =>
    let s1 : State := { s with ldr := { s.ldr with writing := none } }
    if ok then
      let s2 := s1.activateImage n c
      if s2.ldr.loadNow then
        { s2 with ldr := { s2.ldr with phase := .build, source := if s2.isF then .pcie else slotSource n } }
      else s2.imageStatus 2 1 0
    else if s1.ldr.loadNow then s1.refuseImage 0x1D
    else s1.imageStatus 2 0 0x1D

/-- IMAGE_FLASH_WRITE_DONE (R41, R42). -/
def execImageFlashWriteDone (ok : Bool) (s : State) : Out := .next (s.imageWritten ok)

/-! ### HBM training (R109) -/

/-- A trained or failed stack: a failed one clears its bit with a FAULT event. -/
def State.stackTrained (s : State) (n : Nat) (f : Fld) (ok : Bool) : State :=
  let s1 := s.put R.hbmStatus f ok.toNat
  if ok then s1 else s1.raise .hbm 1 3 n

/-- HBM_TRAINING_DONE: both stacks have trained or failed, and the loader starts (R38, R109). -/
def execHbmTrainingDone (ok0 ok1 : Bool) (s : State) : Out :=
  .next (if s.isF && s.fwRuns && s.ldr.phase == .off then
    let s1 := (s.stackTrained 0 F.hbmStatus_STACK0_OK ok0).stackTrained 1 F.hbmStatus_STACK1_OK ok1
    (if ok0 && ok1 then s1.hbmTo 1 else s1).selectImage
  else s)

end Sys2Proof.Machine
end

