-- ==== Sys2Proof/Machine/Boot.lean ====
section
/-! DEFINITION. The end of a reset, the boot ROM, the start of the firmware, and the firmware operations (R380, R388 to R394). -/

namespace Sys2Proof.Machine

/-! ### The firmware slots -/

/-- A firmware slot of the flash. -/
def Flash.fw (f : Flash) (n : Nat) : Slot FwImage := if n = 0 then f.fw0 else f.fw1

/-- The flash with a firmware slot and its VALID bit set. -/
def Flash.setFw (f : Flash) (n : Nat) (c : Slot FwImage) (valid : Bool) : Flash :=
  let f1 := if n = 0 then { f with fw0 := c } else { f with fw1 := c }
  { f1 with fwValid := f1.fwValid.set n valid }

/-- SEC_FW_SLOT shows the slot descriptor; BOOTED and FALLBACK stay. -/
def State.showFwSlots (s : State) : State :=
  let f := s.flash
  let v := f.fwActive % 2 + (f.fwValid.getD 0 false).toNat * 2 + (f.fwValid.getD 1 false).toNat * 4 + f.fwPending.toNat * 8 +
    f.fwTrials % 4 * 16
  s.setReg R.secFwSlot (v + s.get R.secFwSlot F.secFwSlot_BOOTED * 64 + s.get R.secFwSlot F.secFwSlot_FALLBACK * 128)

/-- The state with another slot descriptor. -/
def State.setFlash (s : State) (f : Flash) : State := ({ s with flash := f } : State).showFwSlots

/-- The slot that is not active. -/
def State.inactiveFw (s : State) : Nat := 1 - s.flash.fwActive % 2

/-! ### The firmware starts (R384, R388, R391) -/

/-- After each system or core reset firmware raises RESET_SEEN, which carries RSTCAUSE. -/
def State.resetSeen (s : State) : State :=
  let reach := s.get R.rstcause F.rstcause_REACH
  if reach = 1 ∨ reach = 2 then s.raise .rst 1 0 0 [s.reg R.rstcause] else s

/-- The loader starts once the firmware runs: at once in a T build, after HBM training in an F build (R38, R109). -/
def State.startLoader (s : State) : State := if s.isF then s else s.selectImage

/-- Firmware that finds TRIALS at 3 makes the other slot active and asserts a system reset (R391). -/
def State.revertFirmware (s : State) : State :=
  let f := s.flash
  ((s.setFlash { f with fwActive := 1 - f.fwActive % 2, fwPending := false }).raise .sec 3 2).assertSource 5 2 false

/-- Firmware starts from a slot: a slot with PENDING set counts the start (R391). -/
def State.startTrial (s : State) (n : Nat) : State :=
  if s.flash.fwPending && s.flash.fwActive % 2 == n then
    if 3 ≤ s.flash.fwTrials then s.revertFirmware
    else (s.setFlash { s.flash with fwTrials := s.flash.fwTrials + 1 }).startLoader
  else s.startLoader

/-- Step 5 of R388: the ROM measures the firmware and hands over. -/
def State.handOver (s : State) (n : Nat) (f : FwImage) : State :=
  let s1 := s.extend 2 f.digest
  let fallback := s.flash.fwActive % 2 != n
  let pend := s.flash.fwPending && !fallback
  let s2 : State := { s1 with boot := { s1.boot with phase := .running n, fw := some f, confirmed := !pend, op := none } }
  let info := f.version.toNat + f.svn.toNat % 64 * 2 ^ 32 + s2.fuses.svnFloor % 64 * 2 ^ 40
  let s3 := (s2.setReg R.secFwInfo info).put R.topStatus F.topStatus_STATE 1
  let s4 := (s3.put R.secFwSlot F.secFwSlot_BOOTED n).put R.secFwSlot F.secFwSlot_FALLBACK fallback.toNat
  let s5 := s4.wdtStart.resetSeen
  (if fallback then s5.raise .sec 2 2 else s5).startTrial n

/-! ### The boot ROM (R388, R389) -/

/-- A slot is refused at boot: its cause is recorded. -/
def State.refuseFw (s : State) (n cause : Nat) : State :=
  let f := if n = 0 then F.secFwStatus_BOOT_CAUSE0 else F.secFwStatus_BOOT_CAUSE1
  let s1 := s.put R.secFwStatus f cause
  { s1 with boot := { s1.boot with phase := .held, tried := s1.boot.tried ++ [n] } }

/-- The ROM takes a slot that it has not refused: the header is checked, and the payload fetched (steps 1 and 2 of R388). -/
def State.romTry (s : State) (n : Nat) : State :=
  if s.boot.phase ≠ .held ∨ s.boot.tried.contains n then s
  else match slotFw (s.flash.fw n) with
    | none => s.refuseFw n 0x01
    | some f =>
      let c := fwHeaderCause s.fuses f
      if c = 0 then { s with boot := { s.boot with phase := .fetching n } } else s.refuseFw n c

/-- Both slots refused: ROM recovery, with BAR0 only (R50, R389). -/
def State.romRecovery (s : State) : State :=
  ({ s with boot := { s.boot with phase := .recovery } } : State).announce .bar0

/-- The ROM takes the active slot, then the other. -/
def State.romNext (s : State) : State :=
  let a := s.flash.fwActive % 2
  let s1 := (s.romTry a).romTry (1 - a)
  if s1.boot.phase = .held then s1.romRecovery else s1

/-- The ROM after a power-on or system reset: index 1 is measured, the slot descriptor shown, and the slots are taken (R388, R393). -/
def State.romBoot (s : State) : State :=
  let s1 : State := { s with boot := { s.boot with phase := .held, tried := [] } }
  (((s1.put R.secFwSlot F.secFwSlot_FALLBACK 0).showFwSlots.showImageSlots).extend 1 (Config.fuseDigest s.fuses.svnFloor)).romNext

/-- FIRMWARE_FETCH_DONE (steps 3 to 5 of R388). -/
def execFirmwareFetchDone (s : State) : Out :=
  .next (match s.boot.phase with
    | .fetching n =>
      match slotFw (s.flash.fw n) with
      | none => (s.refuseFw n 0x01).romNext
      | some f => if fwVerifyCause f = 0 then s.handOver n f else (s.refuseFw n (fwVerifyCause f)).romNext
    | _ => s)

/-- FIRMWARE_FETCH_TIMEOUT (step 2 of R388). -/
def execFirmwareFetchTimeout (s : State) : Out :=
  .next (match s.boot.phase with
    | .fetching n => (s.refuseFw n 0x0A).romNext
    | _ => s)

/-! ### The end of a reset (R380, R381) -/

/-- The firmware starts again after a core reset (R376, R384, R400). -/
def State.restartFirmware (s : State) : State :=
  let n := s.get R.secFwSlot F.secFwSlot_BOOTED
  let s1 : State := { s with boot := { s.boot with phase := .running n } }
  let s2 := s1.wdtStart.resetSeen
  if s2.flash.fwPending && s2.flash.fwActive % 2 == n then
    (if 3 ≤ s2.flash.fwTrials then s2.revertFirmware else s2.setFlash { s2.flash with fwTrials := s2.flash.fwTrials + 1 })
  else s2

/-- Every enabled source enters WAIT when a core reset ends (R376). -/
def State.restartSources (s : State) : State :=
  if s.isFeed then (List.range 64).foldl (fun t i => if (t.srcNow i).en then t.srcWait i false else t) s else s

/-- The reset can end: no source is asserted, and the device neither drives RESET_N nor waits to follow it. -/
def State.canEnd (s : State) : Bool :=
  s.rst.inReset && s.rst.asserted.isEmpty && !s.rst.driving && (s.rst.follows || s.rst.deepest == 1)

/-- The end of a reset: the episode is counted once, at its deepest reach, and the boot ROM runs. -/
def State.endReset (s : State) : State :=
  let d := s.rst.deepest
  let s1 : State := { s with rst := { s.rst with inReset := false } }
  if d = 1 then
    let s2 := (s1.count R.rstEpisodes F.rstEpisodes_CORE).restartSources
    (if s2.isF && s2.isFeed && s2.hbmState == 3 then s2.hbmTo 1 else s2).restartFirmware
  else (if d = 2 then s1.count R.rstEpisodes F.rstEpisodes_SYSTEM else s1).romBoot

/-- RESET_END (R380, R381, R388). -/
def execResetEnd (s : State) : Out := .next (if s.canEnd then s.endReset else s)

/-! ### Firmware operations (R390) -/

/-- SEC_FW_STATUS.STATE, ACCEPTED and CAUSE. -/
def State.fwStatus (s : State) (st acc cause : Nat) : State :=
  ((s.put R.secFwStatus F.secFwStatus_STATE st).put R.secFwStatus F.secFwStatus_ACCEPTED acc).put
    R.secFwStatus F.secFwStatus_CAUSE cause

/-- VERIFY or STAGE begins. The image stands in the inactive slot (FROM_FLASH), or in host memory; one that is to be written takes the
inactive slot, which then holds no image until the write is read back. -/
def State.startFwOp (s : State) (stage fromFlash : Bool) (host : Option FwImage) : State :=
  let n := s.inactiveFw
  let img : Slot FwImage := if fromFlash then s.flash.fw n else match host with | some f => .image f | none => .erased
  let c := if !fromFlash && host.isNone then 0x0A else fwCause s.fuses img
  let s1 := s.fwStatus 1 0 0
  let s2 : State := { s1 with boot := { s1.boot with op := some { stage := stage, fromFlash := fromFlash, image := img, cause := c } } }
  if stage && !fromFlash && c == 0 then s2.setFlash (s2.flash.setFw n .erased false) else s2

/-- REVERT: the other slot becomes active, provided that it is VALID (R390). -/
def State.revertOp (s : State) : State :=
  let n := s.inactiveFw
  if s.flash.fwValid.getD n false then (s.setFlash { s.flash with fwActive := n }).fwStatus 2 1 0 else s.fwStatus 2 0 0x01

/-- A write of SEC_FW_LOAD_CTRL with what host memory holds at SEC_FW_LOAD_ADDR (R389, R390): 1 VERIFY, 2 STAGE, 3 REVERT. ROM recovery
takes only a STAGE from host memory. -/
def State.fwCtrlWrite (s : State) (value : Nat) (req : Requester) (host : Option FwImage) : State :=
  let op := fieldGet value F.secFwLoadCtrl_OP
  let flash := fieldGet value F.secFwLoadCtrl_FROM_FLASH == 1
  let s1 := s.setReg R.secFwLoadCtrl (value % 2 ^ 17 - op)
  let serves := s.fwRuns || (s.boot.phase == .recovery && op == 2 && !flash)
  if op = 0 ∨ 3 < op ∨ !serves then s1
  else if s.get R.secFwStatus F.secFwStatus_STATE = 1 then
    (s.progError R.secFwLoadCtrl value req).put R.secFwStatus F.secFwStatus_CAUSE 0x0E
  else if op = 3 then s1.revertOp
  else s1.startFwOp (op == 2) flash host

/-- FW_VERIFY (R390). -/
def execFwVerify (req : Requester) (value : Word) (host : Option FwImage) (s : State) : Out := .next (s.byReq req (s.fwCtrlWrite value.toNat req host))

/-- FW_STAGE (R390). -/
def execFwStage (req : Requester) (value : Word) (host : Option FwImage) (s : State) : Out := .next (s.byReq req (s.fwCtrlWrite value.toNat req host))

/-- FW_REVERT (R390). -/
def execFwRevert (req : Requester) (value : Word) (s : State) : Out := .next (s.byReq req (s.fwCtrlWrite value.toNat req none))

/-- A firmware operation ends: a STAGE that passed makes its slot active with PENDING set and TRIALS 0 (R390). -/
def State.fwOpDone (s : State) (flashOk : Bool) : State :=
  match s.boot.op with
  | none => s
  | some o =>
    let s1 : State := { s with boot := { s.boot with op := none } }
    let n := s1.inactiveFw
    if o.cause ≠ 0 then s1.fwStatus 2 0 o.cause
    else if !o.stage then s1.fwStatus 2 1 0
    else if !o.fromFlash && !flashOk then s1.fwStatus 2 0 0x0F
    else (s1.setFlash { s1.flash.setFw n o.image true with fwActive := n, fwPending := true, fwTrials := 0 }).fwStatus 2 1 0

/-- FW_OPERATION_DONE (R390). -/
def execFwOperationDone (flashOk : Bool) (s : State) : Out := .next (s.fwOpDone flashOk)

end Sys2Proof.Machine
end

