-- ==== Sys2Proof/Machine/Dma.lean ====
section
/-! DEFINITION. The DMA engine: descriptors and their checks (R120, R121), bursts (R122, R123), read-back (R124), request lines
(R125), errors (R126) and the channel states (R127). -/

namespace Sys2Proof.Machine

/-! ### Channel state -/

/-- The channel state codes of DMA_CH_STATUS. -/
def dmaIdle : Nat := 0
def dmaFetch : Nat := 1
def dmaActive : Nat := 2
def dmaPaused : Nat := 3
def dmaReadback : Nat := 4
def dmaStopping : Nat := 5
def dmaError : Nat := 6

/-- The state of a channel. -/
def State.dmaState (s : State) (c : Nat) : Nat := s.get (R.dmaChStatus c) F.dmaChStatus_STATE

/-- The state with a channel's state set. -/
def State.dmaTo (s : State) (c st : Nat) : State := s.put (R.dmaChStatus c) F.dmaChStatus_STATE st

/-- A channel at work. -/
def State.dmaCh (s : State) (c : Nat) : DmaCh :=
  (s.dma.chans.find? fun x => x.ch == c).getD (DmaCh.idle c)

/-- The state with a channel at work set. -/
def State.setDmaCh (s : State) (x : DmaCh) : State :=
  { s with dma := { s.dma with chans := (s.dma.chans.filter fun y => y.ch != x.ch) ++ [x] } }

/-- The queue of a channel. -/
def State.dmaQueue (s : State) (c : Nat) : Nat := s.get (R.dmaChCfg c) F.dmaChCfg_QUEUE

/-- RUN of a channel. -/
def State.dmaRun (s : State) (c : Nat) : Bool := s.flag (R.dmaChCtrl c) F.dmaChCtrl_RUN

/-- The address of the descriptor at C, and its space code. -/
def State.descAddr (s : State) (c : Nat) : Nat × Nat :=
  let x := s.queue (s.dmaQueue c)
  (x.base + x.c * 32, if x.hostSpace then 0 else if s.isF then 1 else 2)

/-- The channel drops its work. -/
def State.dmaDrop (s : State) (c : Nat) : State := s.setDmaCh (DmaCh.idle c)

/-- A channel enters ERROR with a cause, a failing address and the TAG (R120, R126, R127). -/
def State.dmaFail (s : State) (c cause addr space : Nat) : State :=
  let tag := match (s.dmaCh c).desc with | some d => d.tag | none => 0
  let k := R.dmaChStatus c
  let s1 := ((s.dmaTo c dmaError).put k F.dmaChStatus_CAUSE cause).put k F.dmaChStatus_ERR_SPACE space
  ((s1.setReg (R.dmaChErrAddr c) (addr % 2 ^ 64)).setReg (R.dmaChErrTag c) tag).dmaDrop c

/-- C of the channel's queue advances. -/
def State.dmaAdvance (s : State) (c : Nat) : State :=
  let q := s.dmaQueue c
  let x := s.queue q
  s.setQueue q { x with c := (x.c + 1) % x.size }

/-- The channel looks for its next descriptor: its queue must be enabled and of class 0. -/
def State.dmaNext (s : State) (c : Nat) : State :=
  let q := s.dmaQueue c
  if (s.queue q).enabled ∧ s.queueClass q = some 0 then s.dmaTo c dmaFetch
  else (s.dmaFail c 9 (s.descAddr c).1 (s.descAddr c).2).raise .dma 1 2 c [q, (s.queue q).c, 0]

/-- A channel ends in ERROR with HOST_RESET, whatever it did (R49, R127). -/
def State.dmaHostStop (s : State) (c : Nat) : State := (s.dmaFail c 8 0 0).raise .dma 3 2 c

/-- A stop completes: ERROR where a host reset asked for it (R49), else IDLE, and FETCH again where RUN has been set meanwhile (R127). -/
def State.dmaStopped (s : State) (c : Nat) : State :=
  if (s.dmaCh c).hostReset then s.dmaHostStop c
  else
    let s1 := (s.dmaTo c dmaIdle).dmaDrop c
    if s1.dmaRun c then s1.dmaNext c else s1

/-! ### DMA_CH_CTRL (R127) -/

/-- A write of DMA_CH_CTRL: RESET and SKIP act in ERROR, then RUN. -/
def State.dmaCtrlWrite (s : State) (c value : Nat) : State :=
  let run := fieldGet value F.dmaChCtrl_RUN == 1
  let s0 := s.setReg (R.dmaChCtrl c) run.toNat
  let s1 := if s0.dmaState c = dmaError ∧ fieldGet value F.dmaChCtrl_RESET = 1 then
      let t := (s0.dmaTo c dmaIdle).put (R.dmaChStatus c) F.dmaChStatus_CAUSE 0
      if fieldGet value F.dmaChCtrl_SKIP = 1 then t.dmaAdvance c else t
    else s0
  let st := s1.dmaState c
  if run then (if st = dmaIdle then s1.dmaNext c else s1)
  else if st = dmaFetch ∨ st = dmaPaused ∨ st = dmaActive then
    if (s1.dmaCh c).bursts.isEmpty then s1.dmaStopped c else s1.dmaTo c dmaStopping
  else s1

/-- DMA_RUN (R127). -/
def execDmaRun (req : Requester) (channel : Fin 128) (value : Word) (s : State) : Out :=
  .next (s.byReq req (if s.live .dma then s.dmaCtrlWrite channel.val value.toNat else s))

/-- DMA_STOP (R127). -/
def execDmaStop (req : Requester) (channel : Fin 128) (value : Word) (s : State) : Out :=
  .next (s.byReq req (if s.live .dma then s.dmaCtrlWrite channel.val value.toNat else s))

/-- DMA_RESET (R127). -/
def execDmaReset (req : Requester) (channel : Fin 128) (value : Word) (s : State) : Out :=
  .next (s.byReq req (if s.live .dma then s.dmaCtrlWrite channel.val value.toNat else s))

/-- DMA_RESET_SKIP (R127). -/
def execDmaResetSkip (req : Requester) (channel : Fin 128) (value : Word) (s : State) : Out :=
  .next (s.byReq req (if s.live .dma then s.dmaCtrlWrite channel.val value.toNat else s))

/-! ### Descriptors (R120, R121) -/

/-- The descriptor that 32 bytes spell. -/
def descOf (b : List Nat) : DmaDesc :=
  let f := fun o n => leVal ((b.drop o).take n)
  let c := f 0 4
  { srcSpace := c % 4, dstSpace := c / 4 % 4, pulse := bitOf c 4, trig := c / 32 % 256, circSrc := bitOf c 13,
    circDst := bitOf c 14, length := f 4 4, src := f 8 8, dst := f 16 8, srcLog2 := f 24 1, dstLog2 := f 25 1, tag := f 28 4 }

/-- A window size fits its circular bit: 12 to 40 with it, 0 without. -/
def windowOk (circ : Bool) (log2 : Nat) : Bool := if circ then decide (12 ≤ log2 ∧ log2 ≤ 40) else log2 == 0

/-- The end of the bytes that a side of a transfer reaches: the end of its window where a circular one wraps (R121). -/
def reachEnd (addr len : Nat) (circ : Bool) (log2 : Nat) : Nat :=
  if circ ∧ 2 ^ log2 < addr % 2 ^ log2 + len then addr / 2 ^ log2 * 2 ^ log2 + 2 ^ log2 else addr + len

/-- A transfer stays inside its space (R120): `space` 0 host, which has no end of its own, 1 shared HBM, 2 the SRAM region; and a
circular LENGTH stays within its window. -/
def State.spaceOk (s : State) (space addr len : Nat) (circ : Bool) (log2 : Nat) : Bool :=
  let top := reachEnd addr len circ log2
  decide (!circ ∨ len ≤ 2 ^ log2) &&
    (if space = 0 then true
     else if space = 1 then s.isF && decide (top ≤ 68719476736)
     else !s.isF && decide (top ≤ 12582912))

/-- The check of a whole descriptor (R120): its error cause, 0 where it passes. -/
def State.descCause (s : State) (b : List Nat) : Nat :=
  let d := descOf b
  let c := leVal (b.take 4)
  if d.src % 64 ≠ 0 ∨ d.dst % 64 ≠ 0 ∨ d.length % 64 ≠ 0 then 1
  else if d.length = 0 then 2
  else if d.srcSpace = 3 ∨ d.dstSpace = 3 ∨ c / 2 ^ 15 ≠ 0 ∨ leVal ((b.drop 26).take 2) ≠ 0 ∨
      !windowOk d.circSrc d.srcLog2 ∨ !windowOk d.circDst d.dstLog2 then 3
  else if !s.spaceOk d.srcSpace d.src d.length d.circSrc d.srcLog2 ∨ !s.spaceOk d.dstSpace d.dst d.length d.circDst d.dstLog2 then 4
  else 0

/-- DESCRIPTOR_FETCH_DONE (R120): the descriptor at C is read, from device memory or as the host answers, and checked. -/
def State.descFetched (s : State) (c : Nat) (hostData : List Nat) : State :=
  let q := s.dmaQueue c
  let x := s.queue q
  if s.dmaState c ≠ dmaFetch then s
  else if !(x.enabled && s.queueClass q == some 0) then s.dmaNext c
  else if x.isEmpty ∨ x.disabling then s
  else
    let (a, sp) := s.descAddr c
    let b := if x.hostSpace then (hostData ++ List.replicate 32 0).take 32 else (s.readBytes a 32).map (·.toNat)
    let s0 : State := { (if x.hostSpace then s else s.hbmTouch) with qmCache := s.cacheUse q }
    let cause := s.descCause b
    let d := descOf b
    if cause = 0 then
      ((s0.setDmaCh { DmaCh.idle c with desc := some d }).setReg (R.dmaChDone c) 0).dmaTo c dmaActive
    else
      let s1 := s0.setDmaCh { DmaCh.idle c with desc := some d }
      let s2 := s1.dmaFail c cause a sp
      s2.raiseRecord { s2.record .dma 1 2 c [q, x.c, d.tag] with prog := cause == 1 }

/-- DESCRIPTOR_FETCH_DONE (R120). -/
def execDescriptorFetchDone (channel : Fin 128) (hostData : List Byte) (s : State) : Out :=
  .next (s.descFetched channel.val (hostData.map (·.toNat)))

/-- A DMA error event carries the failing address (R126). -/
def State.dmaErrorEvent (s : State) (c addr : Nat) : State :=
  s.raise .dma 2 3 c [addr % 2 ^ 32, addr / 2 ^ 32 % 2 ^ 32]

/-- DESCRIPTOR_FETCH_TIMEOUT (R127). -/
def execDescriptorFetchTimeout (channel : Fin 128) (s : State) : Out :=
  .next (let c := channel.val
    if s.dmaState c = dmaFetch then
      let (a, sp) := s.descAddr c
      (s.dmaFail c 5 a sp).dmaErrorEvent c a
    else s)

/-! ### Bursts (R121 to R125) -/

/-- The address of byte i of a side of a transfer (R121). -/
def circAddr (addr : Nat) (circ : Bool) (log2 i : Nat) : Nat :=
  if circ then addr / 2 ^ log2 * 2 ^ log2 + (addr + i) % 2 ^ log2 else addr + i

/-- The source address of byte i. -/
def DmaDesc.srcAt (d : DmaDesc) (i : Nat) : Nat := circAddr d.src d.circSrc d.srcLog2 i

/-- The destination address of byte i. -/
def DmaDesc.dstAt (d : DmaDesc) (i : Nat) : Nat := circAddr d.dst d.circDst d.dstLog2 i

/-- The BURST bytes of a channel. -/
def State.burstBytes (s : State) (c : Nat) : Nat :=
  let b := s.get (R.dmaChCfg c) F.dmaChCfg_BURST
  if b < 4 then 256 * 2 ^ b else 4096

/-- The length of the next burst: BURST, the rest of the descriptor, and no 4 KiB boundary crossed (R122). -/
def burstLength (d : DmaDesc) (burst issued : Nat) : Nat :=
  min (min burst (d.length - issued)) (min (4096 - d.srcAt issued % 4096) (4096 - d.dstAt issued % 4096))

/-- The request line of a channel lets it issue bursts (R125). -/
def State.requested (s : State) (c : Nat) : Bool :=
  !s.flag (R.dmaChCfg c) F.dmaChCfg_REQ_EN || s.dma.drq.contains (s.get (R.dmaChCfg c) F.dmaChCfg_REQ)

/-- The bytes of a channel's next burst; none where it has none to issue. -/
def State.nextBurst (s : State) (c : Nat) : Option Nat :=
  let x := s.dmaCh c
  match x.desc with
  | some d => if s.dmaState c = dmaActive ∧ x.issued < d.length ∧ s.requested c then some (burstLength d (s.burstBytes c) x.issued) else none
  | none => none

/-! ### The shared buffer (R123) -/

/-- The shared buffer of the two engines, 1 MiB. -/
def dmaBuffer : Nat := 1048576

/-- A channel at work keeps a reservation: every state but IDLE and ERROR. -/
def State.dmaAtWork (s : State) (c : Nat) : Bool := s.dmaState c != dmaIdle && s.dmaState c != dmaError

/-- The guaranteed reservation of a channel at work, 2 × BURST (R123). -/
def State.guarantee (s : State) (c : Nat) : Nat := if s.dmaAtWork c then 2 * s.burstBytes c else 0

/-- The bytes of the buffer that the bursts of a channel hold. -/
def DmaCh.holds (x : DmaCh) : Nat := (x.bursts.map (·.2)).sum

/-- The bytes of the shared part of the buffer that channels hold beyond their guarantees. -/
def State.sharedHeld (s : State) : Nat := (s.dma.chans.map fun x => x.holds - s.guarantee x.ch).sum

/-- The shared part of the buffer: what the guarantees leave of it. -/
def State.sharedPart (s : State) : Nat := dmaBuffer - ((List.range 128).map s.guarantee).sum

/-- A burst of a channel fits into its own guarantee. -/
def State.fitsOwn (s : State) (c n : Nat) : Bool := decide ((s.dmaCh c).holds + n ≤ s.guarantee c)

/-- A burst of a channel fits into the buffer: its guarantee, and the shared part for what goes beyond (R123). -/
def State.fitsShared (s : State) (c n : Nat) : Bool :=
  let h := (s.dmaCh c).holds
  decide (s.sharedHeld + ((h + n - s.guarantee c) - (h - s.guarantee c)) ≤ s.sharedPart)

/-- A channel could issue its next burst now. -/
def State.burstReady (s : State) (c : Nat) : Bool :=
  match s.nextBurst c with
  | some n => s.fitsShared c n
  | none => false

/-- PRIO of a channel: real-time. -/
def State.realTime (s : State) (c : Nat) : Bool := s.flag (R.dmaChCfg c) F.dmaChCfg_PRIO

/-- The turn of a channel among those of its class: the place of its latest burst, 0 for one that has issued none. -/
def State.turnOf (s : State) (c : Nat) : Nat := (findIdxFrom (fun x => x == c) 1 s.dma.served).elim 0 (·.1)

/-- It is a channel's turn (R123): no channel of its class that could issue a burst has issued its latest before it, and a burst of a bulk
channel that needs the shared part waits for the real-time channels. -/
def State.hasTurn (s : State) (c n : Nat) : Bool :=
  (List.range 128).all fun o =>
    o == c || !s.burstReady o ||
      (if s.realTime o == s.realTime c then decide (s.turnOf c ≤ s.turnOf o) else s.realTime c || s.fitsOwn c n)

/-- BURST_ISSUE (R122, R123, R125): a channel whose request line is withdrawn pauses; a burst is issued once the buffer has space for
it and it is the channel's turn. -/
def State.burstIssue (s : State) (c : Nat) : State :=
  let x := s.dmaCh c
  if s.dmaState c = dmaActive ∧ x.desc.isSome ∧ !s.requested c then s.dmaTo c dmaPaused
  else match s.nextBurst c with
    | none => s
    | some n =>
      if s.fitsShared c n && s.hasTurn c n then
        let s1 := s.setDmaCh { x with issued := x.issued + n, bursts := x.bursts ++ [(x.issued, n)] }
        { s1 with dma := { s1.dma with served := s1.dma.served.filter (· != c) ++ [c] } }
      else s

/-- BURST_ISSUE (R123). -/
def execBurstIssue (channel : Fin 128) (s : State) : Out := .next (s.burstIssue channel.val)

/-- The descriptor's last write has been issued: a read-back with PULSE, else C advances (R124); the descriptor is kept, since a beat of
its last burst may still be answered with an error (R126). -/
def State.dmaLast (s : State) (c : Nat) (d : DmaDesc) : State :=
  if d.pulse then s.dmaTo c dmaReadback
  else ((s.dmaAdvance c).setDmaCh { DmaCh.idle c with prev := some d }).dmaNext c

/-- A write to the host leaves in pieces of at most the Max Payload Size (R122). -/
def State.hostWrites (s : State) (a : Nat) (bs : List Nat) : State :=
  (List.range (ceilDiv bs.length s.hif.mps)).foldl (fun t i =>
    t.hostWrite ((a + s.hif.mps * i) % 2 ^ 64) ((bs.drop (s.hif.mps * i)).take s.hif.mps)) s

/-- BURST_COMPLETE (R122): the oldest burst's data goes from source to destination; host data is what the host returned. A channel whose
request line is withdrawn pauses at this boundary (R125). -/
def State.burstComplete (s : State) (c : Nat) (hostData : List Nat) : State :=
  let x := s.dmaCh c
  match x.desc, x.bursts with
  | some d, (o, n) :: rest =>
    let data := if d.srcSpace = 0 then (hostData ++ List.replicate n 0).take n
      else (s.readBytes (d.srcAt o) n).map (·.toNat)
    let s0 := if d.srcSpace = 0 then s else s.hbmTouch
    let s1 := if d.dstSpace = 0 then s0.hostWrites (d.dstAt o) data else s0.memWrite (d.dstAt o) (data.map (BitVec.ofNat 8))
    let s2 := (s1.setReg (R.dmaChDone c) (o + n)).setDmaCh { x with bursts := rest }
    let st := s2.dmaState c
    if st = dmaStopping then (if rest.isEmpty then s2.dmaStopped c else s2)
    else if o + n = d.length ∧ rest.isEmpty then s2.dmaLast c d
    else if st = dmaActive ∧ rest.isEmpty ∧ !s2.requested c then s2.dmaTo c dmaPaused
    else s2
  | _, _ => s

/-- BURST_COMPLETE (R122). -/
def execBurstComplete (channel : Fin 128) (hostData : List Byte) (s : State) : Out :=
  .next (s.burstComplete channel.val (hostData.map (·.toNat)))

/-- READBACK_RETURN (R124): the pulse, then C advances, then FETCH, or IDLE where RUN is clear. -/
def State.readbackReturn (s : State) (c : Nat) : State :=
  match (s.dmaCh c).desc with
  | some d =>
    if s.dmaState c = dmaReadback then
      let s1 := ((s.pulse d.trig).dmaAdvance c).dmaDrop c
      if s1.dmaRun c then s1.dmaNext c else s1.dmaTo c dmaIdle
    else s
  | none => s

/-- READBACK_RETURN (R124). -/
def execReadbackReturn (channel : Fin 128) (s : State) : Out := .next (s.readbackReturn channel.val)

/-- READBACK_TIMEOUT (R124). -/
def execReadbackTimeout (channel : Fin 128) (s : State) : Out :=
  .next (let c := channel.val
    match (s.dmaCh c).desc with
    | some d =>
      if s.dmaState c = dmaReadback then
        let a := d.dstAt (d.length - 64)
        (s.dmaFail c 7 a d.dstSpace).dmaErrorEvent c a
      else s
    | none => s)

/-- The descriptor completed last is taken back: C stands on it again (R126). -/
def State.dmaTakeBack (s : State) (c : Nat) (d : DmaDesc) : State :=
  let q := s.dmaQueue c
  let x := s.queue q
  (s.setQueue q { x with c := (x.c + x.size - 1) % x.size }).setDmaCh { DmaCh.idle c with desc := some d }

/-- DMA_ERROR_RESPONSE (R126): an error answer ends the descriptor, and that of a write beat the descriptor it belongs to, which may have
just completed. An uncorrected error of the memory is counted and raised (R32, R110). A channel that a host reset stops ends with
HOST_RESET (R49). -/
def State.dmaErrorResponse (s : State) (c : Nat) (write ecc : Bool) (addr : Nat) : State :=
  let s0 := if ecc then s.memoryError addr else s
  let st := s0.dmaState c
  let x := s0.dmaCh c
  let s1 := match x.desc, x.prev with
    | none, some d => if write && st == dmaFetch then s0.dmaTakeBack c d else s0
    | _, _ => s0
  let space := match (s1.dmaCh c).desc with
    | some d => if write ∨ st = dmaReadback then d.dstSpace else d.srcSpace
    | none => (s1.descAddr c).2
  let cause := if write ∧ (s1.dmaCh c).desc.isSome then 6 else if st = dmaReadback then 7 else 5
  if !s1.dmaAtWork c then s1
  else if x.hostReset then s1.dmaHostStop c
  else (s1.dmaFail c cause addr space).dmaErrorEvent c addr

/-- DMA_ERROR_RESPONSE (R126). -/
def execDmaErrorResponse (channel : Fin 128) (write ecc : Bool) (address : BitVec 64) (s : State) : Out :=
  .next (s.dmaErrorResponse channel.val write ecc address.toNat)

/-- DRQ_ASSERT (R125): a request line changes. Channels paused on it resume when it asserts; when it is withdrawn, those with no burst in
flight pause at once, the others when their bursts have completed. -/
def State.drqSet (s : State) (line : Nat) (on : Bool) : State :=
  let l := s.dma.drq.filter (· != line)
  let s1 : State := { s with dma := { s.dma with drq := if on then l ++ [line] else l } }
  (List.range 128).foldl (fun t c =>
    if t.flag (R.dmaChCfg c) F.dmaChCfg_REQ_EN ∧ t.get (R.dmaChCfg c) F.dmaChCfg_REQ = line then
      if on ∧ t.dmaState c = dmaPaused then t.dmaTo c dmaActive
      else if !on ∧ t.dmaState c = dmaActive ∧ (t.dmaCh c).bursts.isEmpty then t.dmaTo c dmaPaused
      else t
    else t) s1

/-- DRQ_ASSERT (R125). -/
def execDrqAssert (line : Fin 64) (asserted : Bool) (s : State) : Out := .next (s.drqSet line.val asserted)

/-- A host reset at a channel: it stops at the next burst boundary, so those with bursts in flight complete them first, and goes to ERROR
with HOST_RESET (R49, R127). -/
def State.dmaHostHalt (s : State) (c : Nat) : State :=
  let x := s.dmaCh c
  if x.bursts.isEmpty then s.dmaHostStop c
  else (s.setDmaCh { x with hostReset := true }).dmaTo c dmaStopping

/-- A host reset puts every channel in ERROR with cause HOST_RESET (R49, R127). -/
def State.dmaHostReset (s : State) : State := if s.live .dma then (List.range 128).foldl State.dmaHostHalt s else s

end Sys2Proof.Machine
end

