-- ==== Sys2Proof/Machine/Ensign.lean ====
section
/-! DEFINITION. Ensign beacons (R65, R73 to R75, R84, R87, R216): what a feed unit sends, what a tile and a standby unit take from
one, and the loss of the beacon. -/

namespace Sys2Proof.Machine

/-! ### Sending -/

/-- The commit that an Ensign carries: one accepted with WALL set, until it applies (R84). -/
def State.wallCommit (s : State) : Option CommitPend :=
  match s.cmp.pend with
  | some p => if p.wall then some p else none
  | none => none

/-- The payload of an Ensign (R216); its launch writes the stamp. -/
def State.ensignBody (s : State) : List Nat :=
  let st := s.servo + s.time.inUse * 8 + (s.flag R.timeStatus F.timeStatus_STANDBY).toNat * 64
  let m := s.seq.pendingMode
  let c := s.wallCommit
  timeBytes s.clock.now ++ [s.get R.timeStatus F.timeStatus_EPOCH, st] ++
    leBytes 8 (s.clock.frac / 2 ^ 28 * 2 ^ 12) ++ leBytes 8 s.serial ++ timeBytes s.origin ++
    [s.seq.pattern % 8 + seqCode s.seq.state * 8, m.isSome.toNat + c.isSome.toNat * 2] ++
    timeBytes (match m with | some x => x.time | none => 0) ++
    [match m with | some x => x.pattern + x.action * 8 | none => 0] ++ [0] ++
    leBytes 2 (match c with | some x => x.gen | none => 0) ++
    leBytes 2 (s.get R.topCommitDetail F.topCommitDetail_ACTIVE_GEN) ++
    leBytes 6 (match c with | some x => x.frame | none => 0) ++ [0, 0]

/-- ENSIGN_SEND: a beacon on every Halyard port (R73, R216). -/
def execEnsignSend (s : State) : Out :=
  .next (if s.isFeed then
    let n := s.time.beacons
    let s1 : State := { s with time := { s.time with beacons := (n + 1) % 2 ^ 32 } }
    s1.enqueueAll s1.halPorts (makePacket 2 1 0xFFF s.domain 0xFFF s.cur n s.frameNow 0 0 false false s.ensignBody)
  else s)

/-! ### What an Ensign says -/

/-- The fields of an Ensign's payload (R216). -/
structure Beacon where
  origin : Int
  epoch : Nat
  servo : Nat
  standby : Bool
  invalid : Bool
  correction : Int
  serial : Nat
  align : Nat
  pattern : Nat
  run : Nat
  mode : Option ModeSwitch
  commit : Option (Nat × Nat)
  activeGen : Nat

/-- The Ensign that a packet carries. -/
def beaconOf (p : Packet) : Beacon :=
  let f := fun o n => payField p o n
  let st := f 0x0B 1
  let b := f 0x27 1
  let mode := f 0x32 1
  { origin := ((f 4 6 * 1000000000 + f 0 4) * 65536 : Nat), epoch := f 0x0A 1, servo := st % 8, standby := bitOf st 6,
    invalid := bitOf st 7, correction := toSigned 64 (f 0x0C 8), serial := f 0x14 8, align := f 0x1C 4 + f 0x20 6 * 2 ^ 32,
    pattern := f 0x26 1 % 8, run := f 0x26 1 / 8 % 4,
    mode := if b % 2 = 1 then
        some { time := f 0x28 4 + f 0x2C 6 * 1000000000, pattern := mode % 8, action := mode / 8 % 4, wall := true }
      else none,
    commit := if b / 2 % 2 = 1 then some (f 0x34 2, f 0x38 6) else none, activeGen := f 0x36 2 }

/-- The offset that a beacon measures on a port, in 2^-16 ns (R75). -/
def State.beaconOffset (s : State) (l : Nat) (b : Beacon) : Int := b.origin + b.correction + s.linkDelay l - s.stamp

/-- A beacon can be measured on a port: not INVALID, its ingress link delay valid (R68, R74). -/
def State.beaconValid (s : State) (l : Nat) (b : Beacon) : Bool := !b.invalid && s.linkValid l

/-- A measurement from a beacon; a change of the source empties the history (R442, R443). -/
def State.measureBeacon (s : State) (l : Nat) (b : Beacon) : State :=
  let s1 := if s.time.source = some b.serial then s
    else
      let s0 := if s.time.source.isSome then s.emptyHistory else s
      { s0 with time := { s0.time with source := some b.serial } }
  (s1.put R.timeStatus F.timeStatus_SRC_LANE l).measure (s1.beaconOffset l b)

/-! ### In a tile -/

/-- A tile may use a beacon for time: one of its claim winner, or, once the winner's have missed their deadline, the other unit's,
by rate only (R75). -/
def State.mayMeasure (s : State) (winner : Bool) (b : Beacon) : Bool :=
  winner || s.time.source == some b.serial || (s.time.source.isNone && s.flag R.timeStatus F.timeStatus_STEP_USED)

/-- What a tile learns from a usable Ensign of its claim winner: from the first one the pattern and the domain action, with or without a
pending switch; then pending switch and commit (R84), or a pattern or domain action that it does not follow (R87). -/
def State.learnEnsign (s : State) (b : Beacon) : State :=
  let act := seqOfCode b.run
  let followed := s.time.used == some (b.serial, s.get R.timeStatus F.timeStatus_EPOCH)
  let same := b.pattern == s.seq.pattern && act == s.seq.domainAction
  let s0 := if followed || same then s else s.adoptMode b.pattern act false
  let s1 := match b.mode with
    | some m => if s0.seq.pendingMode = some m then s0 else s0.learnMode m
    | none =>
      if s0.seq.pendingMode.isSome || same || !followed then s0
      else (s0.raise .top 2 3 0 [b.pattern, b.run]).adoptMode b.pattern act true
  let s2 := match b.commit with
    | some (g, n) => s1.learnCommit g n
    | none => s1
  { s2 with time := { s2.time with used := some (b.serial, s2.get R.timeStatus F.timeStatus_EPOCH) } }

/-- An Ensign in a tile (R75, R80, R87, R322). -/
def State.tileEnsign (s : State) (l : Nat) (p : Packet) : State :=
  let b := beaconOf p
  let claim := p.hdr.claim.toNat
  let s1 := s.noteClaim claim (some (b.serial, l))
  let winner := s1.fromWinner l claim
  if s1.beaconValid l b && s1.mayMeasure winner b then
    let s2 := (s1.setReg R.timeAlignOrigin b.align).measureBeacon l b
    if winner && !s2.rst.inReset then s2.learnEnsign b else s2
  else s1

/-! ### In a feed unit of a pair -/

/-- The port that delivers the partner's beacons with the fewest hops (R65). -/
def State.nearestPort (s : State) : Option Nat :=
  (s.red.hops.foldl (fun (a : Option (Nat × Nat)) h => match a with
    | some x => if h.2 < x.2 then some h else a
    | none => some h) none).map (·.1)

/-- An Ensign of the partner in a feed unit (R65, R315, R317, R320, R328). -/
def State.feedEnsign (s : State) (l : Nat) (p : Packet) : State :=
  let b := beaconOf p
  if p.hdr.domain.toNat ≠ s.domain ∨ b.serial = s.serial ∨ !s.paired then s
  else
    let s1 := s.hearPartner l b.serial p.hdr.claim.toNat b.activeGen b.run b.standby p.hdr.hops.toNat
    let s2 := (s1.claimYield.tieLower).tryResync
    if s2.time.inUse = 4 ∧ s2.nearestPort = some l ∧ s2.beaconValid l b then s2.measureBeacon l b else s2

/-- ENSIGN (R75). -/
def execEnsign (port : Fin 96) (pkt : Packet) (s : State) : Out :=
  .next (if s.takes port.val pkt 2 1 then
    (if s.isTile then s.tileEnsign port.val pkt else if s.isFeed then s.feedEnsign port.val pkt else s)
  else s)

/-- ENSIGN_TIMEOUT: 5 ms without a valid beacon of the source: a deadline FAULT, and the reference is lost (R68, R405). -/
def execEnsignTimeout (s : State) : Out :=
  .next (if s.time.inUse = 4 then
    let src := s.time.source.getD 0
    let s1 := s.raiseDeadline .time 6 0 [s.frameNow, s.slotNow, s.ns32, src % 2 ^ 32]
    ({ s1 with time := { s1.time with source := none } } : State).loseReference
  else s)

/-- ALIGN_ORIGIN_WRITE: in a feed unit with the sequencer in IDLE; otherwise a programming error (R80). -/
def State.alignOriginWrite (s : State) (value : Nat) (req : Requester) : State :=
  if s.isTile ∨ s.seq.state ≠ .idle then s.progError R.timeAlignOrigin (value % 2 ^ 32) req
  else s.setReg R.timeAlignOrigin (value % 2 ^ 80)

/-- ALIGN_ORIGIN_WRITE (R80). -/
def execAlignOriginWrite (req : Requester) (value : BitVec 96) (s : State) : Out := .next (s.byReq req (s.alignOriginWrite value.toNat req))

end Sys2Proof.Machine
end

