-- ==== Sys2Proof/Machine/HostLink.lean ====
section
/-! DEFINITION. The host endpoint (R46 to R51) and the remote tile window of a feed unit (R57 to R59, R219). -/

namespace Sys2Proof.Machine

/-! ### The remote tile window (R57, R58) -/

/-- A sub-window. -/
def State.window (s : State) (w : Nat) : SubWindow := s.hif.windows.getD w SubWindow.idle

/-- Posted writes not yet acknowledged (HIF_REMOTE_STATUS.PENDING): those sent and those that wait. -/
def SubWindow.unacked (x : SubWindow) : Nat :=
  x.writes.length + x.queue.countP fun o => match o with | .write _ _ => true | _ => false

/-- The state with a sub-window set; PENDING follows. -/
def State.setWindow (s : State) (w : Nat) (x : SubWindow) : State :=
  ({ s with hif := { s.hif with windows := s.hif.windows.set w x } } : State).put
    (R.hifRemoteStatus w) F.hifRemoteStatus_PENDING x.unacked

/-- An error of a sub-window: the first since the clear is recorded, a further one sets OVERFLOW, and each raises REMOTE_ERROR
with the sub-window and the offset (R58). -/
def State.remoteError (s : State) (w cause off : Nat) : State :=
  let k := R.hifRemoteStatus w
  let s1 := if s.get k F.hifRemoteStatus_ERROR = 0 then
      (s.put k F.hifRemoteStatus_ERROR cause).put k F.hifRemoteStatus_OFFSET (off / 4)
    else s.put k F.hifRemoteStatus_OVERFLOW 1
  s1.raise .hif 1 2 w [w, off]

/-- A remote read completes on the host link with a value. -/
def State.answerHost (s : State) (v : Nat) : State := { s with bus := { s.bus with answer := { s.bus.answer with host := v } } }

/-- The addressed bytes of a word (R9). -/
def ReadPart.of (r : ReadPart) (v : Nat) : Nat := v % 2 ^ 32 / 2 ^ (8 * r.first) % 2 ^ (8 * r.bytes)

/-- The whole word at an offset. -/
def ReadPart.word (off : Nat) : ReadPart := { offset := off, first := 0, bytes := 4 }

/-- A remote read completes with 0xFFFF_FFFF, and its cause is recorded (R58). -/
def State.failRead (s : State) (w cause : Nat) (r : ReadPart) : State :=
  (s.remoteError w cause r.offset).answerHost (r.of 0xFFFFFFFF)

/-- The tiles that are admitted, which a broadcast write reaches (R59). -/
def State.admittedTiles (s : State) : List Nat := (s.dsc.table.filter fun e => s.topoState e.addr == 3).map (·.addr)

/-- The ports on which a CTL packet to an address leaves. -/
def State.ctlPorts (s : State) (t : Nat) : List Nat := if t = 0xFFF then s.halPorts.filter s.portActive else [s.servedBy t]

/-- The tile offset of an access: the page and the offset in the sub-window (R57). -/
def State.tileOffset (s : State) (w off : Nat) : Nat := s.get (R.hifRemoteSel w) F.hifRemoteSel_PAGE * 0x800000 + off

/-- A CTL transaction leaves: its TAG is the low half of its sequence number, and it carries the unit's claim. -/
def State.sendCtl (s : State) (type t : Nat) (body : List Nat) : Nat × State :=
  let (n, s1) := s.nextSeq
  (n % 65536, s1.enqueueAll (s1.ctlPorts t)
    (makePacket 3 type t s1.domain 0xFFF s1.cur n s1.frameNow 0 (n % 65536) false false body))

/-- A write of a sub-window goes to its tile. A broadcast write with no admitted tile waits for no answer, so it counts as acknowledged at once:
the spec names no case without a last tile (DESIGN CHOICE, log entry 137). -/
def State.sendRemoteWrite (s : State) (w off data : Nat) : State :=
  let t := s.get (R.hifRemoteSel w) F.hifRemoteSel_TILE
  if t ≠ 0xFFF ∧ s.topoState t = 0 then s.remoteError w 2 off
  else
    let wait := if t = 0xFFF then s.admittedTiles else [t]
    let (tag, s1) := s.sendCtl 2 t (leBytes 4 (s.tileOffset w off) ++ leBytes 4 data)
    let x := s1.window w
    if wait.isEmpty then s1
    else s1.setWindow w { x with writes := x.writes ++
      [{ tag := tag, claim := s.cur, offset := off, broadcast := t == 0xFFF, waiting := wait }] }

/-- A read of a sub-window goes to its tile. -/
def State.sendRemoteRead (s : State) (w : Nat) (r : ReadPart) : State :=
  let t := s.get (R.hifRemoteSel w) F.hifRemoteSel_TILE
  if t = 0xFFF then s.failRead w 5 r
  else if s.topoState t = 0 then s.failRead w 2 r
  else
    let (tag, s1) := s.sendCtl 1 t (leBytes 4 (s.tileOffset w r.offset))
    s1.setWindow w { s1.window w with read := some { tag := tag, claim := s.cur, part := r } }

/-- The oldest waiting access may go: a write at once, a read and a new selection once every earlier write is acknowledged, and one
read at a time. -/
def SubWindow.ready (x : SubWindow) : Bool :=
  match x.queue with
  | [] => false
  | .write _ _ :: _ => true
  | .read _ :: _ => x.writes.isEmpty && x.read.isNone
  | .sel _ :: _ => x.writes.isEmpty

/-- One waiting access of a sub-window goes. -/
def State.windowStep (s : State) (w : Nat) : State :=
  let x := s.window w
  match x.queue with
  | [] => s
  | op :: rest =>
    let s1 := s.setWindow w { x with queue := rest }
    match op with
    | .write off data => s1.sendRemoteWrite w off data
    | .read r => s1.sendRemoteRead w r
    | .sel v => s1.setReg (R.hifRemoteSel w) v

/-- The waiting accesses of a sub-window go in order, as far as they may. -/
def State.drainWindow (s : State) (w : Nat) : Nat → State
  | 0 => s
  | n + 1 => if (s.window w).ready then (s.windowStep w).drainWindow w n else s

/-- An access joins its sub-window, and whatever may go goes. -/
def State.windowOp (s : State) (w : Nat) (op : RemoteOp) : State :=
  let x := s.window w
  (s.setWindow w { x with queue := x.queue ++ [op] }).drainWindow w (x.queue.length + 1)

/-- A posted write to a sub-window; one beyond 64 is dropped as OVERRUN (R57). -/
def State.remoteWrite (s : State) (w off data : Nat) : State :=
  if !s.isFeed then s
  else if 64 ≤ (s.window w).unacked then s.remoteError w 6 off
  else s.windowOp w (.write off data)

/-- REMOTE_WRITE (R57). -/
def execRemoteWrite (window : Fin 4) (offset : BitVec 23) (value : Word) (s : State) : Out :=
  .next (s.remoteWrite window.val (offset.toNat / 4 * 4) value.toNat)

/-- A read of a sub-window (R57, R58). Without the feed personality, as in safe idle, the window answers nothing: a write there vanishes and a
read never completes, since the spec does not say (DESIGN CHOICE, log entry 136). -/
def State.remoteRead (s : State) (w : Nat) (r : ReadPart) : State :=
  if s.isFeed then s.windowOp w (.read r) else s

/-- REMOTE_READ (R57, R58). -/
def execRemoteRead (window : Fin 4) (offset : BitVec 23) (s : State) : Out :=
  .next (s.remoteRead window.val (.word (offset.toNat / 4 * 4)))

/-- A write of HIF_REMOTE_SEL takes effect after the earlier writes of its sub-window (R57). -/
def State.remoteSelWrite (s : State) (w value : Nat) : State :=
  if s.live .hif then s.windowOp w (.sel (fieldGet value ⟨0, 14⟩ + fieldGet value F.hifRemoteSel_TIMEOUT * 65536)) else s

/-- REMOTE_SEL_WRITE (R57). -/
def execRemoteSelWrite (window : Fin 4) (value : Word) (s : State) : Out := .next (s.remoteSelWrite window.val value.toNat)

/-- Drain a sub-window after an answer. -/
def State.resumeWindow (s : State) (w : Nat) : State := s.drainWindow w (s.window w).queue.length

/-- The first waiting read of a sub-window and the accesses without it. -/
def takeRead : List RemoteOp → Option (ReadPart × List RemoteOp)
  | [] => none
  | .read p :: r => some (p, r)
  | o :: r => match takeRead r with | some (p, r1) => some (p, o :: r1) | none => none

/-- No answer within TIMEOUT: the read completes with 0xFFFF_FFFF (R58); a read that still waits for its writes ends too. -/
def State.remoteTimeout (s : State) (w : Nat) : State :=
  let x := s.window w
  match x.read with
  | some r => ((s.setWindow w { x with read := none }).failRead w 1 r.part).resumeWindow w
  | none =>
    match takeRead x.queue with
    | some (r, q) => ((s.setWindow w { x with queue := q }).failRead w 1 r).resumeWindow w
    | none => s

/-- REMOTE_READ_TIMEOUT (R58). -/
def execRemoteReadTimeout (window : Fin 4) (s : State) : Out := .next (s.remoteTimeout window.val)

/-- The error that a CTL STATUS records (R219). -/
def ctlError (status : Nat) : Nat := if status = 1 then 3 else if status = 2 then 2 else 0

/-- RD_DATA completes the read whose TAG and claim it carries; any other is dropped (R219). -/
def State.readAnswer (s : State) (p : Packet) : State :=
  let tag := p.hdr.arg.toNat % 65536
  match (List.range 4).find? fun w => match (s.window w).read with
      | some r => r.tag == tag && r.claim == p.hdr.claim.toNat | none => false with
  | none => s
  | some w =>
    let x := s.window w
    let r := match x.read with | some r => r.part | none => .word 0
    let s1 := s.setWindow w { x with read := none }
    let c := ctlError (payField p 8 1)
    ((if c = 0 then s1 else s1.remoteError w c r.offset).answerHost (r.of (payField p 4 4))).resumeWindow w

/-- RD_DATA (R219). -/
def execRdData (port : Fin 96) (pkt : Packet) (s : State) : Out :=
  .next (if s.isFeed && s.takes port.val pkt 6 2 then s.readAnswer pkt else s)

/-- A write with one tile fewer to answer; none when the last has answered. -/
def RemoteWr.ack (x : RemoteWr) (tile : Nat) : RemoteWr := { x with waiting := x.waiting.filter (· != tile) }

/-- WR_ACK decrements PENDING once the last tile of its write has answered, and records a refusal (R57, R58, R219); that of a
route mask confirms it (R240). -/
def State.writeAck (s : State) (p : Packet) : State :=
  let tag := p.hdr.arg.toNat % 65536
  let claim := p.hdr.claim.toNat
  let src := p.hdr.src.toNat
  let mine := fun (r : RemoteWr) => r.tag == tag && r.claim == claim && r.waiting.contains src
  match (List.range 4).find? fun w => (s.window w).writes.any mine with
  | none => s.maskAck src tag (payField p 4 1)
  | some w =>
    let x := s.window w
    let off := match x.writes.find? mine with | some r => r.offset | none => 0
    let left := (x.writes.map fun r => if mine r then r.ack src else r).filter fun r => !r.waiting.isEmpty
    let s1 := s.setWindow w { x with writes := left }
    let c := ctlError (payField p 4 1)
    (if c = 0 then s1 else s1.remoteError w c off).resumeWindow w

/-- WR_ACK (R219). -/
def execWrAck (port : Fin 96) (pkt : Packet) (s : State) : Out :=
  .next (if s.isFeed && s.takes port.val pkt 6 3 then s.writeAck pkt else s)

/-- A list without its first entry that a test selects. -/
def dropFirst {α : Type} (p : α → Bool) : List α → List α
  | [] => []
  | a :: r => if p a then r else a :: dropFirst p r

/-- BROADCAST_WRITE_TIMEOUT: the oldest broadcast write of the sub-window counts as acknowledged (R59). -/
def execBroadcastWriteTimeout (window : Fin 4) (s : State) : Out :=
  .next (let w := window.val
    let x := s.window w
    if x.writes.any (·.broadcast) then
      (s.setWindow w { x with writes := dropFirst (·.broadcast) x.writes }).resumeWindow w
    else s)

/-! ### Resets seen from the host (R49) -/

/-- The reads under way of a sub-window, sent or waiting. -/
def SubWindow.reading (x : SubWindow) : List ReadPart :=
  (match x.read with | some r => [r.part] | none => []) ++ x.queue.filterMap fun o => match o with | .read r => some r | _ => none

/-- A CTL WRITE of the remote window that has not started to leave. -/
def unsentWrite (tags : List Nat) (q : Queued) : Bool :=
  !q.started && pktIs q.pkt 3 2 && tags.contains (q.pkt.hdr.arg.toNat % 65536) && q.ingress.isNone

/-- The endpoint and HIF are reset: DMA channels stop, remote operations end, MSI-X vectors are masked, and HIF_REMOTE_SEL
returns to its reset value (R49). -/
def State.endpointReset (s : State) : State :=
  let tags := s.hif.windows.flatMap fun x => x.writes.map (·.tag)
  let reads := (List.range 4).flatMap fun w => (s.window w).reading.map fun r => (w, r)
  let s1 := s.dmaHostReset
  let s2 : State := { s1 with
    regs := dropRegs (fun h => h.spec.domain == .endpoint) s1.regs,
    hif := { s1.hif with windows := HifSt.reset.windows, linkUp := false, doeError := false, doeBusy := false,
                         doeAnswer := none, mps := HifSt.reset.mps, ltr := HifSt.reset.ltr },
    hal := { s1.hal with queue := s1.hal.queue.filter fun q => !unsentWrite tags q } }
  reads.foldl (fun t x => t.failRead x.1 1 x.2) s2

/-- PE_PERST_N_ASSERT (R49). -/
def execPePerstNAssert (s : State) : Out :=
  .next (if s.hif.perst then s else { s.endpointReset with hif := { s.endpointReset.hif with perst := true } })

/-- PE_PERST_N_DEASSERT (R50): link training starts. -/
def execPePerstNDeassert (s : State) : Out := .next { s with hif := { s.hif with perst := false } }

/-- HOT_RESET (R49). -/
def execHotReset (s : State) : Out := .next (if s.hif.linkUp then s.endpointReset else s)

/-- HOST_LINK_DOWN (R49). -/
def execHostLinkDown (s : State) : Out := .next (if s.hif.linkUp then s.endpointReset else s)

/-- FLR (R49): the link stays up. -/
def execFlr (s : State) : Out :=
  .next (if s.hif.linkUp then { s.endpointReset with hif := { s.endpointReset.hif with linkUp := true } } else s)

/-! ### Link training and configuration (R46, R50, R51) -/

/-- The endpoint may train: it is out of reset, the device is not held in a reset of system or power-on reach, a LOAD_NOW does not
hold the link down, and the device is not a tile (R50, R51). -/
def State.mayTrain (s : State) : Bool :=
  !s.hif.perst && !(s.rst.inReset && decide (2 ≤ s.rst.reach)) && !s.ldr.retrain && !s.isTile

/-- HOST_LINK_UP: training or a retrain has ended at a rate of 2.5 to 64 GT/s and a width of 1, 2, 4 or 8 (R46). L0P_WIDTH takes the width at
every link-up, in FLIT mode or not, and no command narrows it: the spec does not say when it changes (DESIGN CHOICE, log entry 135). -/
def execHostLinkUp (rate : Fin 6) (width : Fin 4) (flit : Bool) (s : State) : Out :=
  .next (if s.mayTrain then
    let k := R.hifLinkStatus
    let s1 := if s.hif.linkUp then s.count k F.hifLinkStatus_RETRAINS else s
    let w := 2 ^ width.val
    let s2 := ((s1.put k F.hifLinkStatus_RATE (rate.val + 1)).put k F.hifLinkStatus_WIDTH w).put k F.hifLinkStatus_FLIT flit.toNat
    let s3 := (s2.put k F.hifLinkStatus_L0P_WIDTH w).put R.topStatus F.topStatus_LINK_DEGRADED (!(rate == 5 && width == 3)).toNat
    ({ s3 with hif := { s3.hif with linkUp := true } } : State).reportLtr
  else s)

/-- CONFIGURATION_REQUEST: Retry Status until the BAR set is fixed, and a normal completion after (R50). A write of the Max Payload Size
sets 128, 256 or 512 B (R46, R122). -/
def execConfigurationRequest (maxPayload : Option (Fin 3)) (s : State) : Out :=
  .next (if s.hif.linkUp then
    let m := match maxPayload with | some p => if s.hif.crs then s.hif.mps else 128 * 2 ^ p.val | none => s.hif.mps
    { s with hif := { s.hif with lastCfgRetry := s.hif.crs, mps := m } }
  else s)

end Sys2Proof.Machine
end

