-- ==== Sys2Proof/Machine/EthPort.lean ====
section
/-! DEFINITION. What an Ethernet port puts on its lanes (R99, R184, R191). -/

namespace Sys2Proof.Machine

/-- The link of an Ethernet port is up: its first lane is ACTIVE, so no lane of it is in TEST (R184, R191). -/
def State.ethUp (s : State) (p : Nat) : Bool :=
  (List.range 96).any fun l =>
    s.get (R.laneCfg l) F.laneCfg_ROLE == 2 && s.get (R.laneCfg l) F.laneCfg_PORT == p &&
      s.get (R.laneCfg l) F.laneCfg_POS == 0 && s.get (R.laneStatus l) F.laneStatus_STATE == 6

/-- A frame leaves on an Ethernet port whose link is up; on any other it is lost (R99, R191). -/
def State.ethSend (s : State) (p : Nat) (t : EthTx) : State :=
  if s.ethUp p then { s with ing := { s.ing with sent := s.ing.sent ++ [t] } } else s

end Sys2Proof.Machine
end

