-- ==== Sys2Proof/Machine/Ingest.lean ====
section
/-! DEFINITION. Ethernet ports, flow filters and membership (R98 to R102), ST 2110-20 reception (R92, R103 to R106) and HEVC
depacketisation (R107). -/

namespace Sys2Proof.Machine

/-! ### Samples of a wire format written into a ring (R103, R104) -/

/-- Wire format: sample depth, ring depth, samples of a pgroup, pixels of a pgroup, bytes of a pgroup (R104). -/
def wireShape (w : Nat) : Nat × Nat × Nat × Nat × Nat :=
  match w with
  | 0 => (8, 8, 3, 1, 3)
  | 1 => (10, 10, 12, 4, 15)
  | 2 => (12, 12, 6, 2, 9)
  | 3 => (8, 12, 3, 1, 3)
  | 4 => (10, 12, 12, 4, 15)
  | 5 => (12, 12, 6, 2, 9)
  | 6 => (8, 10, 4, 2, 4)
  | 7 => (10, 10, 4, 2, 5)
  | _ => (12, 12, 4, 2, 6)

/-- The samples of depth `d` in packed bytes, most significant bit first. -/
def wireSamples (bytes : List Nat) (d n : Nat) : List Nat :=
  (List.range n).map fun i => msbBits (fun a => bytes.getD a 0) 0 (i * d) d

/-- The number that samples of depth `d` spell, first sample highest. -/
def sampleNumber (d : Nat) (l : List Nat) : Nat := l.foldl (fun v x => v * 2 ^ d + x) 0

/-- The number that big-endian bytes spell. -/
def beVal (l : List Nat) : Nat := l.foldl (fun v b => v * 256 + b) 0

/-- The big-endian bytes of a number. -/
def beBytes : Nat → Nat → List Nat
  | 0, _ => []
  | n + 1, v => v / 256 ^ n % 256 :: beBytes n v

/-- A field of `w` bits written into memory at bit `o` from a base, most significant bit first; other bits keep. -/
def State.writeMsb (s : State) (base o w v : Nat) : State :=
  let a := base + o / 8
  let n := ceilDiv (o % 8 + w) 8
  let old := beVal ((List.range n).map fun i => s.rd (a + i))
  s.memWrite a ((beBytes n (fieldSet old ⟨8 * n - o % 8 - w, w⟩ v)).map (BitVec.ofNat 8))

/-- A row segment written into its place in a slot, converted to the ring format (R103, R104). -/
def State.writeRow (s : State) (c : SrcCfg) (slot : Nat) (r : RowSeg) : State :=
  let (d, dd, ns, np, nb) := wireShape c.wire
  let groups := r.data.length / nb
  let samples := (wireSamples (r.data.map (·.toNat)) d (groups * ns)).map fun v => v * 2 ^ (dd - d)
  let bitsPerPixel := ns * dd / np
  s.writeMsb (c.base + slot * c.slotBytes + r.row * c.lineBytes) (r.offset * bitsPerPixel) (samples.length * dd)
    (sampleNumber dd samples)

/-- A row segment is acceptable (R103): inside the picture, progressive, its length right. -/
def rowOk (c : SrcCfg) (r : RowSeg) : Bool :=
  let (_, _, _, np, nb) := wireShape c.wire
  !r.field && r.length == r.data.length && decide (r.length % nb = 0 ∧ r.row < c.height ∧ r.offset + r.length / nb * np ≤ c.width)

/-! ### Network frames (R90, R92, R106) -/

/-- The slot of the next frame that starts: after the last in flight that is not discarded, or W (R90). -/
def State.nextSlot (s : State) (i : Nat) : Nat :=
  match ((s.src i).flights.filter fun f => !f.discarded).getLast? with
  | some f => (f.slot + 1) % (s.srcNow i).slots
  | none => s.writeSlot i

/-- The oldest frame in flight is complete (R92): marker landed, and every number from the one after the previous marker. With no
previous marker the count starts at the lowest number landed. -/
def frameComplete (x : SrcSt) (f : NetFrame) : Bool :=
  match f.marker with
  | none => false
  | some m =>
    let start := match x.lastMarker with
      | some p => (p + 1) % 2 ^ 32
      | none => f.seqs.foldl min m
    let n := (m + 2 ^ 32 - start) % 2 ^ 32 + 1
    decide ((f.seqs.filter fun q => decide ((q + 2 ^ 32 - start) % 2 ^ 32 < n)).length = n)

/-- The oldest frame in flight leaves, with the number that ends it; its timestamp is kept among the last eight (R106). -/
def State.popFlight (s : State) (i last : Nat) : State :=
  let x := s.src i
  let ended := x.ended ++ (x.flights.take 1).map (·.ts)
  s.setSrc i { x with flights := x.flights.drop 1, lastMarker := some last, ended := ended.drop (ended.length - 8) }

/-- The number of a frame's marker; of one that never arrived, the number after the last that landed (log entry 24). -/
def markerOf (f : NetFrame) : Nat := f.marker.getD ((f.seqs.foldl max 0 + 1) % 2 ^ 32)

/-- Frames in flight that are complete or have ended leave, oldest first. -/
def State.finishFlights (s : State) (i : Nat) : Nat → State
  | 0 => s
  | n + 1 =>
    match (s.src i).flights with
    | [] => s
    | f :: _ =>
      if f.ended || frameComplete (s.src i) f then
        let s1 := s.popFlight i (markerOf f)
        (if f.discarded then s1 else s1.completeFrame i f.slot).finishFlights i n
      else s

/-- A frame is damaged (R92): counted, with its event; without DAMAGED_USE it is discarded. -/
def State.noteDamage (s : State) (i : Nat) : State :=
  let s1 := (s.count (R.ingSrcCounts i) F.ingSrcCounts_DAMAGED).raise .ing 4 2 i
  if (s1.srcNow i).damagedUse then s1 else s1.srcDrop i

/-- The oldest frame in flight is damaged (R92). -/
def State.damageFlight (s : State) (i : Nat) : State :=
  match (s.src i).flights with
  | [] => s
  | f :: _ =>
    let s1 := s.popFlight i (markerOf f)
    if f.discarded then s1
    else
      let s2 := s1.noteDamage i
      if (s2.srcNow i).damagedUse then s2.completeFrame i f.slot else s2

/-- The newest frame in flight ends as damaged where its marker never arrived (R92); it leaves in its turn. -/
def State.endFlight (s : State) (i : Nat) : State :=
  let x := s.src i
  match x.flights.getLast? with
  | some f =>
    if f.marker.isSome || f.ended then s
    else
      let g : NetFrame := { f with ended := true, discarded := f.discarded || !(s.srcNow i).damagedUse }
      let s1 := s.setSrc i { x with flights := x.flights.dropLast ++ [g] }
      (if f.discarded then s1 else s1.noteDamage i).finishFlights i x.flights.length
  | none => s

/-- A packet belongs to a frame that was completed or discarded: its number lies at or before the last marker, or its timestamp is that of
a frame that has ended (R106). -/
def pastFrame (x : SrcSt) (ts seq : Nat) : Bool :=
  x.ended.contains ts || (match x.lastMarker with
    | some m => decide ((m + 2 ^ 32 - seq) % 2 ^ 32 < 2 ^ 31)
    | none => false)

/-- The first packet of a new timestamp opens a frame; a frame before it whose marker never arrived ends damaged (R92), and a
frame whose slot is held is discarded whole (R90). -/
def State.openFlight (s : State) (i ts : Nat) : State :=
  if (s.src i).flights.any (·.ts == ts) then s
  else
    let s1 := s.endFlight i
    let slot := s1.nextSlot i
    let held := s1.slotHeld i slot
    let x := s1.src i
    let s2 := s1.setSrc i { x with flights := x.flights ++ [{ ts := ts, slot := slot, seqs := [], marker := none, discarded := held, ended := false }] }
    if held then s2.srcDrop i else s2

/-- An ST 2110-20 packet of a source (R103, R106): one that breaks R103 is dropped and counted as damaged data. -/
def State.videoPacket (s : State) (i : Nat) (p : RtpPacket) (ext : BitVec 16) (rows : List RowSeg) : State :=
  let c := s.srcNow i
  let seq := ext.toNat * 65536 + p.seq.toNat
  let ts := p.timestamp.toNat
  if p.version.toNat ≠ 2 ∨ rows.isEmpty ∨ 3 < rows.length then s
  else if !rows.all (rowOk c) then s.count (R.ingSrcCounts i) F.ingSrcCounts_DAMAGED
  else if pastFrame (s.src i) ts seq then s
  else
    let s1 := s.openFlight i ts
    match (s1.src i).flights.find? (·.ts == ts) with
    | none => s1
    | some f =>
      if f.ended || f.seqs.contains seq then s1
      else
        let s2 := if f.discarded then s1 else rows.foldl (fun t r => t.writeRow c f.slot r) s1
        let f2 := { f with seqs := seq :: f.seqs, marker := if p.marker then some seq else f.marker }
        let x := s2.src i
        (s2.setSrc i { x with flights := x.flights.map fun g => if g.ts = ts then f2 else g }).finishFlights i
          (x.flights.length)

/-! ### HEVC over RTP (R107) -/

/-- The 16-bit RTP number extended near the last one taken. -/
def extendSeq (last : Option Nat) (seq : Nat) : Nat :=
  match last with
  | none => 65536 + seq
  | some l =>
    let d := (seq + 65536 - l % 65536) % 65536
    if d < 32768 then l + d else l + d - 65536

/-- The access unit under way passes to the decoder. -/
def closeUnit (h : HevcRx) : HevcRx :=
  if h.au.isEmpty then { h with fu := none } else { h with au := [], fu := none, done := h.done ++ [h.au] }

/-- An RFC 7798 payload joins the access unit: a fragmentation unit missing a fragment loses its NAL unit (R107). -/
def takeNal (h : HevcRx) (gap : Bool) (p : HevcPayload) : HevcRx :=
  let num := fun (l : List Byte) => l.map (·.toNat)
  match p with
  | .paci => h
  | .single n => { h with au := h.au ++ num n, fu := none }
  | .aggregation ns => { h with au := h.au ++ num ns.flatten, fu := none }
  | .fragment first last d =>
    let so_far := if first then some (num d) else if gap then none else h.fu.map (· ++ num d)
    if last then { h with au := h.au ++ so_far.getD [], fu := none } else { h with fu := so_far }

/-- The next packet of an HEVC flow in order: one access unit for each timestamp, ended by the marker or the next timestamp (R107). -/
def HevcRx.take (h : HevcRx) (gap : Bool) (p : HevcHeld) : HevcRx :=
  let h1 := if h.ts = some p.ts then h else closeUnit h
  let h2 := takeNal { h1 with ts := some p.ts, last := some p.seq } gap p.payload
  if p.marker then { closeUnit h2 with ts := none } else h2

/-- The packets held are taken while each follows the one before. -/
def HevcRx.drain (h : HevcRx) : Nat → HevcRx
  | 0 => h
  | n + 1 =>
    match h.held with
    | [] => h
    | p :: r => if h.last = some (p.seq - 1) then (({ h with held := r }).take false p).drain n else h

/-- A packet takes its place among those held, in ascending number. -/
def insertHeld (p : HevcHeld) : List HevcHeld → List HevcHeld
  | [] => [p]
  | a :: r => if p.seq < a.seq then p :: a :: r else a :: insertHeld p r

/-- A packet of an HEVC flow arrives: the first copy of each number counts, and the packets are taken in order within the merge and
reorder window (R106, R107). -/
def HevcRx.arrive (h : HevcRx) (p : HevcHeld) : HevcRx :=
  match h.last with
  | none => h.take false p
  | some l =>
    if p.seq ≤ l ∨ h.held.any (·.seq == p.seq) then h
    else ({ h with held := insertHeld p h.held }).drain (h.held.length + 1)

/-- The window ends for the packets that are missing: the lowest packet held is taken after a gap, and those that follow it (R107). -/
def HevcRx.giveUp (h : HevcRx) : HevcRx :=
  match h.held with
  | [] => h
  | p :: r => (({ h with held := r }).take true p).drain r.length

/-- An HEVC packet of a source (R107): PACI packets and those with DONL fields are dropped. -/
def State.hevcPacket (s : State) (i : Nat) (p : RtpPacket) (donl : Bool) (pl : HevcPayload) : State :=
  let x := s.src i
  if p.version.toNat ≠ 2 ∨ donl then s
  else
    let k : HevcHeld := { seq := extendSeq x.hevc.last p.seq.toNat, ts := p.timestamp.toNat, marker := p.marker, payload := pl }
    s.setSrc i { x with hevc := x.hevc.arrive k }

/-- MERGE_WIN_EXPIRE: a number is still missing MERGE_WIN after the marker landed, so the frame is damaged (R92); of an HEVC flow, the
packets that wait for a missing one go on without it (R107). -/
def State.mergeExpire (s : State) (i : Nat) : State :=
  let x := s.src i
  if !s.live .ing || s.rst.inReset then s
  else if (s.srcNow i).kind = 1 then s.setSrc i { x with hevc := x.hevc.giveUp }
  else match x.flights with
    | f :: _ => if f.marker.isSome then (s.damageFlight i).finishFlights i 8 else s
    | [] => s

/-- MERGE_WIN_EXPIRE (R92, R107). -/
def execMergeWinExpire (source : Fin 64) (s : State) : Out := .next (s.mergeExpire source.val)

/-! ### Filters (R101, R102) -/

/-- The key of a filter (R101): port, VLAN, address family and destination, UDP port, and the source unless ANY_SRC. -/
def State.filterKey (s : State) (f : Nat) : List Nat :=
  let c := R.ingFilterCtrl f
  let tagged := s.get c F.ingFilterCtrl_TAGGED
  let any := s.get c F.ingFilterCtrl_ANY_SRC
  [s.get c F.ingFilterCtrl_PORT, tagged, if tagged = 1 then s.get c F.ingFilterCtrl_VID else 0, s.get c F.ingFilterCtrl_IPV6,
   s.reg (R.ingFilterDst f), s.get (R.ingFilterUdp f) F.ingFilterUdp_PORT, any, if any = 1 then 0 else s.reg (R.ingFilterSrc f)]

/-- A filter is enabled. -/
def State.filterOn (s : State) (f : Nat) : Bool := s.flag (R.ingFilterCtrl f) F.ingFilterCtrl_EN

/-- A filter's destination is a multicast address. -/
def State.filterMulticast (s : State) (f : Nat) : Bool :=
  let a := s.reg (R.ingFilterDst f)
  if s.flag (R.ingFilterCtrl f) F.ingFilterCtrl_IPV6 then a / 2 ^ 120 % 256 == 255 else a / 2 ^ 28 % 16 == 14

/-- The enabled multicast filters of a port. -/
def State.memberships (s : State) (p : Nat) : List Nat :=
  (List.range 256).filter fun f => s.filterOn f && s.get (R.ingFilterCtrl f) F.ingFilterCtrl_PORT == p && s.filterMulticast f

/-- A filter's group: its family and destination. -/
def State.filterGroup (s : State) (f : Nat) : Bool × Nat :=
  (s.flag (R.ingFilterCtrl f) F.ingFilterCtrl_IPV6, s.reg (R.ingFilterDst f))

/-- The groups that a port is a member of. -/
def State.groups (s : State) (p : Nat) : List (Bool × Nat) := ((s.memberships p).map s.filterGroup).eraseDups

/-- The membership of a group (R102): EXCLUDE with an empty list where some filter has ANY_SRC, else INCLUDE with the specific sources. -/
def State.groupRec (s : State) (p : Nat) (g : Bool × Nat) : GroupRec :=
  let fs := (s.memberships p).filter fun f => s.filterGroup f == g
  if fs.any fun f => s.flag (R.ingFilterCtrl f) F.ingFilterCtrl_ANY_SRC then { group := g.2, exclude := true, sources := [] }
  else { group := g.2, exclude := false, sources := (fs.map fun f => s.reg (R.ingFilterSrc f)).eraseDups }

/-- The version of IGMP or MLD that a port speaks: that of the oldest querier heard (R102). -/
def State.groupVersion (s : State) (p : Nat) (v6 : Bool) : Nat :=
  (sLookup s.ing.compat (if v6 then 8 + p else p)).getD (if v6 then 2 else 3)

/-- A port with JOIN set sends a report of records of one family: with the port's address, or the unspecified one, on TX_VID (R102). -/
def State.sendReport (s : State) (p : Nat) (v6 : Bool) (rs : List GroupRec) : State :=
  if s.flag (R.ingPortCfg p) F.ingPortCfg_JOIN && !rs.isEmpty then
    let tx : EthTx := .report p (s.get (R.ingPortCfg p) F.ingPortCfg_TX_VID) v6 (s.groupVersion p v6)
      (if v6 then s.reg (R.ingPortIpv6 p) else s.reg (R.ingPortIpv4 p)) rs
    s.ethSend p tx
  else s

/-- The records of a port's membership in one family, with the groups just left as INCLUDE without sources (R102). -/
def State.records (s : State) (p : Nat) (v6 : Bool) (left : List (Bool × Nat)) : List GroupRec :=
  ((s.groups p).filter (·.1 == v6)).map (s.groupRec p) ++
    (left.filter (·.1 == v6)).map fun g => { group := g.2, exclude := false, sources := [] }

/-- A port with JOIN set reports its membership of both families (R102). -/
def State.report (s : State) (p : Nat) (left : List (Bool × Nat)) : State :=
  (s.sendReport p false (s.records p false left)).sendReport p true (s.records p true left)

/-- A change of membership from the groups before it: reported, and to be repeated (R102). -/
def State.membershipChanged (s : State) (p : Nat) (old : List (Bool × Nat)) : State :=
  let left := old.filter fun g => !(s.groups p).contains g
  let s1 := s.report p left
  { s1 with ing := { s1.ing with repeats := (s1.ing.repeats.filter (·.1 != p)) ++ [(p, left)] } }

/-- The answer to a query (R102): to a general one every group of the family, to one for a group its record, to one with sources those of
them that the membership takes. -/
def State.queryAnswer (s : State) (p : Nat) (v6 : Bool) (group : Nat) (sources : List Nat) : List GroupRec :=
  let rs := s.records p v6 []
  if group = 0 then rs
  else (rs.filter (·.group == group)).filterMap fun r =>
    if sources.isEmpty then some r
    else
      let hit := if r.exclude then sources else sources.filter r.sources.contains
      if hit.isEmpty then none else some { r with exclude := false, sources := hit }

/-- A query of an IGMP or MLD version (R102): one older than the newest puts the port into its compatibility mode, and it is answered. -/
def State.query (s : State) (p : Nat) (v6 : Bool) (version group : Nat) (sources : List Nat) : State :=
  let k := if v6 then 8 + p else p
  let s1 : State := if version < s.groupVersion p v6 then { s with ing := { s.ing with compat := aSet s.ing.compat k version } } else s
  s1.sendReport p v6 (s1.queryAnswer p v6 group sources)

/-- A write of ING_FILTER_CTRL (R101, R102, R106): the other fields only while EN is 0, EN refused on a duplicate key and for
path 1 of a source with MERGE clear. -/
def State.filterCtrlWrite (s : State) (f value : Nat) (req : Requester) : State :=
  let k := R.ingFilterCtrl f
  let v := value % 2 ^ 26
  let was := s.filterOn f
  let on := v % 2 == 1
  if was then
    let s1 := if v / 2 = s.reg k / 2 then s else s.progError k value req
    if on then s1
    else
      let s2 := s1.put k F.ingFilterCtrl_EN 0
      let p := s2.get k F.ingFilterCtrl_PORT
      if s.filterMulticast f then s2.membershipChanged p (s.groups p) else s2
  else
    let s1 := s.setReg k (v / 2 * 2)
    if on then
      let dup := (List.range 256).any fun g => g != f && s1.filterOn g && s1.filterKey g == s1.filterKey f
      let path1 := s1.get k F.ingFilterCtrl_PATH == 1 && !(s1.srcNow (s1.get k F.ingFilterCtrl_SOURCE)).merge
      if dup || path1 then s1.progError k value req
      else
        let s2 := s1.put k F.ingFilterCtrl_EN 1
        let p := s2.get k F.ingFilterCtrl_PORT
        if s2.filterMulticast f then s2.membershipChanged p (s1.groups p) else s2
    else s1

/-- FILTER_ENABLE (R101): a write of ING_FILTER_CTRL. -/
def execFilterEnable (req : Requester) (filter : Fin 256) (value : Word) (s : State) : Out :=
  .next (s.byReq req (if s.live .ing then s.filterCtrlWrite filter.val value.toNat req else s))

/-- MEMBERSHIP_REPEAT (R102). -/
def execMembershipRepeat (port : Fin 8) (s : State) : Out :=
  .next (match sLookup s.ing.repeats port.val with
    | some left =>
      ({ s with ing := { s.ing with repeats := s.ing.repeats.filter (·.1 != port.val) } } : State).report port.val left
    | none => s)

/-- The filter that takes a packet: one with a specific source before one with ANY_SRC (R101). -/
def State.matchFilter (s : State) (port : Nat) (vlans : List (BitVec 12)) (v6 : Bool) (src dst udp : Nat) : Option Nat :=
  let hit := fun f =>
    let c := R.ingFilterCtrl f
    let tag := match vlans with
      | [] => !s.flag c F.ingFilterCtrl_TAGGED
      | v :: _ => s.flag c F.ingFilterCtrl_TAGGED && s.get c F.ingFilterCtrl_VID == v.toNat
    s.filterOn f && s.get c F.ingFilterCtrl_PORT == port && tag && s.flag c F.ingFilterCtrl_IPV6 == v6 &&
      s.reg (R.ingFilterDst f) == dst && s.get (R.ingFilterUdp f) F.ingFilterUdp_PORT == udp
  match (List.range 256).find? fun f => hit f && !s.flag (R.ingFilterCtrl f) F.ingFilterCtrl_ANY_SRC && s.reg (R.ingFilterSrc f) == src with
  | some f => some f
  | none => (List.range 256).find? fun f => hit f && s.flag (R.ingFilterCtrl f) F.ingFilterCtrl_ANY_SRC

/-! ### Ports (R98 to R100) -/

/-- A packet that a filter accepted: counted on its path, activity of its source, and taken by its kind. -/
def State.acceptPacket (s : State) (f : Nat) (p : RtpPacket) : State :=
  let c := R.ingFilterCtrl f
  let i := s.get c F.ingFilterCtrl_SOURCE
  let path := s.get c F.ingFilterCtrl_PATH
  if s.srcState i = 0 then s
  else
    let s1 := (s.count (R.ingSrcPkts i) (if path = 0 then F.ingSrcPkts_PATH0 else F.ingSrcPkts_PATH1)).put
      (R.ingSrcStatus i) (pathBit path) 1
    match p.body, (s1.srcNow i).kind with
    | .video ext rows, 0 => s1.videoPacket i p ext rows
    | .hevc donl pl, 1 => s1.hevcPacket i p donl pl
    | _, _ => s1

/-- ETHERNET_FRAME (R99): dropped and counted, any packet that finds the burst buffer full as OVERFLOW (R100), or given to a filter or a
service. -/
def State.ethernetFrame (s : State) (p : Nat) (f : EthFrame) : State :=
  let k := R.ingPortDrop p
  let vid := s.get (R.ingPortCfg p) F.ingPortCfg_TX_VID
  let unmatched := s.count k F.ingPortDrop_UNMATCHED
  let answer := fun (own target : Nat) (t : EthTx) =>
    if s.flag (R.ingPortCfg p) F.ingPortCfg_RESPOND && own == target && target != 0 then s.ethSend p t else s
  if !f.fcsOk then s.count k F.ingPortDrop_FCS
  else if 9216 < f.length ∨ 2 ≤ f.vlans.length then s.count k F.ingPortDrop_OVERSIZE
  else if f.full then s.count k F.ingPortDrop_OVERFLOW
  else match f.body with
    | .ptp => s
    | .arp t => answer (s.reg (R.ingPortIpv4 p)) t.toNat (.arpReply p vid t.toNat)
    | .nd t => answer (s.reg (R.ingPortIpv6 p)) t.toNat (.ndAdvert p vid t.toNat)
    | .igmpQuery v g src => s.query p false v g.toNat (src.map (·.toNat))
    | .mldQuery v g src => s.query p true v g.toNat (src.map (·.toNat))
    | .other => unmatched
    | .udp v6 src dst udp rtp =>
      match s.matchFilter p f.vlans v6 src.toNat dst.toNat udp.toNat with
      | none => unmatched
      | some i => s.acceptPacket i rtp

/-- ETHERNET_FRAME (R99); a port passes frames only while its link is up (R184, R191), and during a core reset packets are discarded (R376). -/
def execEthernetFrame (port : Fin 8) (frame : EthFrame) (s : State) : Out :=
  .next (if s.live .ing && !s.rst.inReset && s.ethUp port.val then s.ethernetFrame port.val frame else s)

end Sys2Proof.Machine
end

