-- ==== Sys2Proof/Machine/Mailbox.lean ====
section
/-! DEFINITION. The management mailbox (R60, R61) and its opcodes (R390 to R398). -/

namespace Sys2Proof.Machine

/-! ### Entries -/

/-- The state of an entry. -/
def State.entry (s : State) (i : Nat) : MbxState := s.mbx.getD i .free

/-- The state with an entry's state set; MP_LOAD.HELD counts the entries submitted and not yet DONE. -/
def State.setEntry (s : State) (i : Nat) (x : MbxState) : State :=
  let l := s.mbx.set i x
  ({ s with mbx := l } : State).put R.mpLoad F.mpLoad_HELD (l.countP (· == .submitted))

/-- The words of a mailbox entry set from the first on. -/
def State.setEntryWords (s : State) (i : Nat) (ws : List Nat) : State :=
  ws.zipIdx.foldl (fun t x => t.setReg (R.mbxEntry i x.2) x.1) s

/-- A word of an entry. -/
def State.entryWord (s : State) (i w : Nat) : Nat := s.reg (R.mbxEntry i w)

/-- The opcode of a submitted entry. -/
def State.opcode (s : State) (i : Nat) : Nat := s.entryWord i 0 % 65536

/-- Payload words of a submitted entry. -/
def State.payloadWords (s : State) (i : Nat) : Nat := fieldGet (s.entryWord i 0) ⟨16, 4⟩

/-- The first free entry. -/
def State.freeEntry (s : State) : Option Nat := s.mbx.findIdx? (· == .free)

/-- A write of MBX_SUBMIT: MBX_CMD goes to a free entry, or the answer is BUSY (R60). -/
def State.submit (s : State) (value : Nat) : State :=
  let k := R.mbxSubmit
  let s0 := (s.put k F.mbxSubmit_DONE_EVENT (fieldGet value F.mbxSubmit_DONE_EVENT)).put k F.mbxSubmit_LAST_TAG
    (fieldGet value F.mbxSubmit_TAG)
  match s0.freeEntry with
  | none => s0.put k F.mbxSubmit_RESULT 2
  | some i =>
    let s1 := s0.setEntryWords i ((List.range 16).map fun w => s0.reg (R.mbxCmd w))
    ((s1.put k F.mbxSubmit_INDEX i).put k F.mbxSubmit_RESULT 1).setEntry i .submitted

/-- MBX_SUBMIT (R60). -/
def execMbxSubmit (req : Requester) (value : Word) (s : State) : Out := .next (s.byMailbox req (if s.live .mbx then s.submit value.toNat else s))

/-- A write of MBX_RELEASE: a DONE entry returns to the free set; any other release is reported (R60). -/
def State.release (s : State) (value : Nat) (req : Requester) : State :=
  let i := fieldGet value F.mbxRelease_INDEX
  if s.entry i = .done then s.setEntry i .free else s.progError R.mbxRelease value req

/-- MBX_RELEASE (R60). -/
def execMbxRelease (req : Requester) (value : Word) (s : State) : Out := .next (s.byMailbox req (if s.live .mbx then s.release value.toNat req else s))

/-- The MP writes a response over a submitted entry, and posts MBX_DONE where DONE_EVENT asks for it (R60). -/
def State.respond (s : State) (i status : Nat) (data : List Nat) : State :=
  let d := data.take 15
  let s1 := (s.setEntryWords i ((status % 256 + 256 + d.length * 512) :: d)).setEntry i .done
  if s1.flag R.mbxSubmit F.mbxSubmit_DONE_EVENT then s1.raise .mbx 1 0 i [i] else s1

/-- The MP works on an entry. -/
def State.serves (s : State) (i : Nat) : Bool := s.fwRuns && s.live .mbx && s.entry i == .submitted

/-- MBX_COMMAND_DONE (R60). -/
def execMbxCommandDone (entry : Fin 64) (status : BitVec 8) (data : List Word) (s : State) : Out :=
  .next (if s.serves entry.val then s.respond entry.val status.toNat (data.map (·.toNat)) else s)

/-! ### Opcodes -/

/-- The running firmware's version. -/
def State.runningVersion (s : State) : Nat := s.get R.secFwInfo F.secFwInfo_VERSION

/-- MBX_NOP: opcode 0x0000 does nothing. -/
def execMbxNop (entry : Fin 64) (s : State) : Out :=
  .next (if s.serves entry.val && s.opcode entry.val == 0 then s.respond entry.val 0 [] else s)

/-- GET_FW_INFO: opcode 0x0001 returns the firmware version, the slot and the measurement index, 2 (R393). -/
def execGetFwInfo (entry : Fin 64) (s : State) : Out :=
  .next (if s.serves entry.val && s.opcode entry.val == 1 then
    s.respond entry.val 0 [s.runningVersion, s.get R.secFwSlot F.secFwSlot_BOOTED, 2]
  else s)

/-- The floor in the fuses rises to the SVN of the running firmware (R392). -/
def State.commitSvn (s : State) (i : Nat) : State :=
  let svn := s.get R.secFwInfo F.secFwInfo_SVN
  if s.payloadWords i ≠ 0 then s.respond i 3 []
  else if s.boot.confirmed && decide (s.fuses.svnFloor < svn) then
    let s1 : State := { s with fuses := { s.fuses with svnFloor := svn } }
    (s1.put R.secFwInfo F.secFwInfo_FLOOR svn).respond i 0 [svn]
  else s.respond i 5 []

/-- FW_COMMIT_SVN: opcode 0x0100 (R392). -/
def execFwCommitSvn (entry : Fin 64) (s : State) : Out :=
  .next (if s.serves entry.val && s.opcode entry.val == 0x100 then s.commitSvn entry.val else s)

/-! ### Stored settings (R398) -/

/-- A settings copy of the flash. -/
def Flash.settings (f : Flash) (n : Nat) : Option SettingsBlock := if n = 0 then f.settings0 else f.settings1

/-- The flash with a settings copy set. -/
def Flash.setSettings (f : Flash) (n : Nat) (b : Option SettingsBlock) : Flash :=
  if n = 0 then { f with settings0 := b } else { f with settings1 := b }

/-- The sequence number of a copy whose CRC-32 is right. -/
def Flash.settingsSeq (f : Flash) (n : Nat) : Option Nat :=
  match f.settings n with | some b => if b.crcOk then some b.seq else none | none => none

/-- The valid copy with the higher sequence number (R398). -/
def Flash.newestSettings (f : Flash) : Option Nat :=
  match f.settingsSeq 0, f.settingsSeq 1 with
  | some a, some b => if a < b then some 1 else some 0
  | some _, none => some 0
  | none, some _ => some 1
  | none, none => none

/-- A word of the register space that settings hold: it has an RW field, and no field of its register is shadowed. -/
def settableWord (off : Nat) : Bool :=
  match regAt off with
  | some h => (h.spec.fields.any fun f => f.acc == .rw && decide (f.lo < 32 * (h.word + 1) ∧ 32 * h.word < f.lo + f.w)) &&
      h.spec.fields.all fun f => f.acc != .sh
  | none => false

/-- A word of a register. -/
def wordOf (v i : Nat) : Nat := v / 2 ^ (32 * i) % 2 ^ 32

/-- The pairs that SETTINGS_SAVE records: every RW register without shadow on the firmware's list, at most 4,096. -/
def State.settingsPairs (s : State) : List (Nat × Nat) :=
  ((Config.settable.filter settableWord).take 4096).map fun off =>
    match regAt off with
    | some h => (off, wordOf (s.reg h.key) h.word)
    | none => (off, 0)

/-- SETTINGS_SAVE: the inactive copy is written and read back (R398). -/
def State.saveSettings (s : State) (i : Nat) (ok : Bool) : State :=
  if s.payloadWords i ≠ 0 then s.respond i 3 []
  else
    let old := s.flash.newestSettings
    let n := match old with | some a => 1 - a | none => 0
    let seq := match old with | some a => (s.flash.settingsSeq a).getD 0 + 1 | none => 1
    let b : SettingsBlock := { format := Config.settingsFormat s.runningVersion, seq := seq, crcOk := true, pairs := s.settingsPairs }
    let s1 : State := { s with flash := s.flash.setSettings n (if ok then some b else none) }
    s1.respond i (if ok then 0 else 6) []

/-- SETTINGS_SAVE: opcode 0x0101 (R398). -/
def execSettingsSave (entry : Fin 64) (writeOk : Bool) (s : State) : Out :=
  .next (if s.serves entry.val && s.opcode entry.val == 0x101 then s.saveSettings entry.val writeOk else s)

/-- SETTINGS_DEFAULT: opcode 0x0102 erases both copies (R398). -/
def execSettingsDefault (entry : Fin 64) (s : State) : Out :=
  .next (if s.serves entry.val && s.opcode entry.val == 0x102 then
    (if s.payloadWords entry.val ≠ 0 then s.respond entry.val 3 []
    else ({ s with flash := { s.flash with settings0 := none, settings1 := none } } : State).respond entry.val 0 [])
  else s)

end Sys2Proof.Machine
end

