-- ==== Sys2Proof/Machine/Ptp.lean ====
section
/-! DEFINITION. PTP on Ethernet (R69, R70): the exchange, the choice of the better master, and the measurements it makes. -/

namespace Sys2Proof.Machine

/-- A time stamp of a PTP message in 2^-16 ns. -/
def ptpStamp (seconds nanos : Nat) : Int := ((seconds * 1000000000 + nanos) * 65536 : Nat)

/-- The first of two lists in lexicographic order. -/
def lexLess : List Nat → List Nat → Bool
  | [], _ => false
  | _, [] => false
  | a :: r, b :: t => decide (a < b) || (a == b && lexLess r t)

/-- A data set is better than another (R69's default best master clock algorithm, an outside standard; log entry 21). -/
def ptpBetter (a b : PtpDataset) : Bool :=
  if a.identity = b.identity then
    lexLess [a.stepsRemoved.toNat, a.source.toNat] [b.stepsRemoved.toNat, b.source.toNat]
  else
    lexLess [a.priority1.toNat, a.clockClass.toNat, a.accuracy.toNat, a.variance.toNat, a.priority2.toNat, a.identity.toNat]
      [b.priority1.toNat, b.clockClass.toNat, b.accuracy.toNat, b.variance.toNat, b.priority2.toNat, b.identity.toNat]

/-- Which of the two PTP ports a message is for: false PORT_A, true PORT_B; none where PTP does not run on the port, its link is
down, or the IP version or the domain differs. -/
def State.ptpSide (s : State) (h : PtpHdr) : Option Bool :=
  if !s.isFeed || !s.ethUp h.port.val || h.v6 != s.flag R.timePtpCfg F.timePtpCfg_IPV6 || h.domain.toNat != s.get R.timePtpCfg F.timePtpCfg_DOMAIN then none
  else if h.port.val = s.get R.timePtpCfg F.timePtpCfg_PORT_A then some false
  else if s.flag R.timePtpCfg F.timePtpCfg_PORT_B_EN && h.port.val == s.get R.timePtpCfg F.timePtpCfg_PORT_B then some true
  else none

/-- What PTP knows of a port. -/
def State.ptpPort (s : State) (b : Bool) : PtpPort := if b then s.time.ptpB else s.time.ptpA

/-- The state with that set. -/
def State.setPtpPort (s : State) (b : Bool) (p : PtpPort) : State :=
  if b then { s with time := { s.time with ptpB := p } } else { s with time := { s.time with ptpA := p } }

/-- The PTP state of a port shown in TIME_PTP_STATUS. -/
def State.showPtp (s : State) (b : Bool) (st : Nat) : State :=
  if b then s.put R.timePtpStatus F.timePtpStatus_STATE_B st else s.put R.timePtpStatus F.timePtpStatus_STATE_A st

/-- PORT_B is the active port. -/
def State.ptpActive (s : State) : Bool := s.flag R.timePtpStatus F.timePtpStatus_ACTIVE_B

/-- The Ethernet port that PTP runs on. -/
def State.ptpEthPort (s : State) (b : Bool) : Nat :=
  s.get R.timePtpCfg (if b then F.timePtpCfg_PORT_B else F.timePtpCfg_PORT_A)

/-- The first lane of an Ethernet port. -/
def State.ethLane (s : State) (port : Nat) : Nat :=
  ((List.range 96).find? fun l => s.get (R.laneCfg l) F.laneCfg_ROLE == 2 && s.get (R.laneCfg l) F.laneCfg_PORT == port &&
    s.get (R.laneCfg l) F.laneCfg_POS == 0).getD 0

/-- The port of the better master: PORT_B only when its master is better, or PORT_A has none. -/
def State.ptpChoice (s : State) : Bool :=
  match s.time.ptpA.best, s.time.ptpB.best with
  | some a, some b => ptpBetter b a
  | none, some _ => true
  | _, none => false

/-- The selected master's data set is shown; a change of the selection is a change of reference (R70, R442). -/
def State.ptpSelect (s : State) (before : Option PtpDataset) : State :=
  let b := s.ptpChoice
  let moved := b != s.ptpActive
  let s1 := s.put R.timePtpStatus F.timePtpStatus_ACTIVE_B b.toNat
  match (s1.ptpPort b).best with
  | none => (s1.put R.timePtpStatus F.timePtpStatus_STEPS_REMOVED 0).setReg R.timePtpParent 0
  | some d =>
    let s2 := (s1.put R.timePtpStatus F.timePtpStatus_STEPS_REMOVED (min 255 (d.stepsRemoved.toNat + 1))).setReg
      R.timePtpParent d.identity.toNat
    let other := !moved && (before.map (·.source)) == some d.source
    if other then s2
    else
      let s3 := (s2.showPtp b 4).setPtpPort b { s2.ptpPort b with sync := none, pair := none }
      let s4 := if moved then (if (s3.ptpPort !b).best.isSome then s3.showPtp (!b) 3 else s3) else s3
      if s4.time.inUse = 1 then s4.changeReference 1 else s4

/-- An Announce (R70): a better master, or news of the one held, is taken. -/
def State.ptpAnnounce (s : State) (h : PtpHdr) (d : PtpDataset) : State :=
  match s.ptpSide h with
  | none => s
  | some b =>
    let p := s.ptpPort b
    let before := (s.ptpPort s.ptpActive).best
    let take := match p.best with
      | none => true
      | some x => x.source == d.source || ptpBetter d x
    if take then (s.setPtpPort b { p with best := some d }).ptpSelect before else s

/-- PTP_ANNOUNCE (R70). -/
def execPtpAnnounce (hdr : PtpHdr) (data : PtpDataset) (s : State) : Out := .next (s.ptpAnnounce hdr data)

/-- A Sync with its origin time and its delay pair makes a measurement (R68, R69); the mean of the two one-way differences. -/
def State.ptpMeasure (s : State) (b : Bool) (t1 t2 : Int) : State :=
  match (s.ptpPort b).pair with
  | some pr =>
    if s.time.inUse = 1 ∧ b = s.ptpActive then
      let s1 := (s.showPtp b 5).put R.timeStatus F.timeStatus_SRC_LANE
        (s.ethLane (s.ptpEthPort b))
      s1.measure (((t1 - t2) + pr) / 2)
    else s
  | none => s

/-- A message comes from the master selected on its port. -/
def fromMaster (p : PtpPort) (h : PtpHdr) : Bool := (p.best.map (·.source)) == some h.source

/-- PTP_SYNC (R69): a one-step Sync carries its origin time; a two-step one waits for its Follow_Up. -/
def execPtpSync (hdr : PtpHdr) (twoStep : Bool) (seconds : BitVec 48) (nanos : BitVec 32) (correction : BitVec 64) (s : State) : Out :=
  .next (match s.ptpSide hdr with
    | none => s
    | some b =>
      let p := s.ptpPort b
      if fromMaster p hdr then
        if twoStep then s.setPtpPort b { p with sync := some (hdr.seq.toNat, s.stamp, correction.toInt) }
        else s.ptpMeasure b (ptpStamp seconds.toNat nanos.toNat + correction.toInt) s.stamp
      else s)

/-- PTP_FOLLOW_UP (R69): the origin time of the Sync of the same sequence number. -/
def execPtpFollowUp (hdr : PtpHdr) (seconds : BitVec 48) (nanos : BitVec 32) (correction : BitVec 64) (s : State) : Out :=
  .next (match s.ptpSide hdr with
    | none => s
    | some b =>
      let p := s.ptpPort b
      match p.sync with
      | some (q, t2, c) =>
        if fromMaster p hdr ∧ q = hdr.seq.toNat then
          (s.setPtpPort b { p with sync := none }).ptpMeasure b (ptpStamp seconds.toNat nanos.toNat + c + correction.toInt) t2
        else s
      | none => s)

/-- PTP_DELAY_REQ (R69, R99): a Delay_Req leaves on a port that has a master, stamped as it leaves; to the master itself in hybrid mode, else to
the multicast address. -/
def execPtpDelayReq (portB : Bool) (s : State) : Out :=
  .next (let p := s.ptpPort portB
    match p.best with
    | some m =>
      if s.isFeed && (!portB || s.flag R.timePtpCfg F.timePtpCfg_PORT_B_EN) then
        let e := s.ptpEthPort portB
        let dest := if s.flag R.timePtpCfg F.timePtpCfg_HYBRID then some m.source.toNat else none
        let f := EthTx.delayReq e (s.get (R.ingPortCfg e) F.ingPortCfg_TX_VID) (s.flag R.timePtpCfg F.timePtpCfg_IPV6) dest p.reqSeq
        let s1 := s.setPtpPort portB { p with req := some (p.reqSeq, s.stamp), reqSeq := (p.reqSeq + 1) % 65536 }
        s1.ethSend e f
      else s
    | none => s)

/-- PTP_DELAY_RESP (R69): the answer to the last Delay_Req, unicast in hybrid mode alone, completes a delay pair. -/
def execPtpDelayResp (hdr : PtpHdr) (seconds : BitVec 48) (nanos : BitVec 32) (correction : BitVec 64) (s : State) : Out :=
  .next (match s.ptpSide hdr with
    | none => s
    | some b =>
      let p := s.ptpPort b
      match p.req with
      | some (q, t3) =>
        if fromMaster p hdr ∧ q = hdr.seq.toNat ∧ hdr.unicast = s.flag R.timePtpCfg F.timePtpCfg_HYBRID then
          s.setPtpPort b { p with req := none, pair := some (ptpStamp seconds.toNat nanos.toNat - correction.toInt - t3) }
        else s
      | none => s)

/-- PTP_ANNOUNCE_TIMEOUT: three announce intervals without an Announce, or, with `noSync`, three sync intervals without a Sync. The reference is
lost where the port supplies it, heard of a master or not (R68, R442); without Announce the port's master is forgotten, and the other
port's is selected where there is one. -/
def execPtpAnnounceTimeout (portB noSync : Bool) (s : State) : Out :=
  .next (if s.isFeed then
      let p := s.ptpPort portB
      let before := (s.ptpPort s.ptpActive).best
      let s1 := if s.time.inUse = 1 ∧ portB = s.ptpActive then s.loseReference else s
      if noSync || p.best.isNone then s1
      else ((s1.setPtpPort portB { p with best := none, sync := none, pair := none }).showPtp portB 3).ptpSelect before
    else s)

/-- PTP restarts on both ports (TIME_PTP_CFG): masters and delay pairs are forgotten; a step taken stays taken. -/
def State.ptpRestart (s : State) : State :=
  let s1 : State := { s with time := { s.time with ptpA := PtpPort.reset, ptpB := PtpPort.reset } }
  let s2 := (s1.setReg R.timePtpStatus 0).setReg R.timePtpParent 0
  let s3 := (s2.showPtp false 3).showPtp true (if s2.flag R.timePtpCfg F.timePtpCfg_PORT_B_EN then 3 else 2)
  if s3.time.inUse = 1 then s3.loseReference else s3

/-- A write of TIME_PTP_CFG; one that changes a field restarts PTP (R69). -/
def State.ptpCfgWrite (s : State) (value : Nat) : State :=
  let keep := (value % 2 ^ 32) - fieldGet value ⟨11, 1⟩ * 2 ^ 11 - fieldGet value ⟨19, 5⟩ * 2 ^ 19 - fieldGet value ⟨27, 1⟩ * 2 ^ 27
  if keep = s.reg R.timePtpCfg then s else (s.setReg R.timePtpCfg keep).ptpRestart

/-- PTP_CFG_WRITE (R69). -/
def execPtpCfgWrite (req : Requester) (value : Word) (s : State) : Out := .next (s.byReq req (s.ptpCfgWrite value.toNat))

end Sys2Proof.Machine
end

