-- ==== Sys2Proof/Machine/Trust.lean ====
section
/-! DEFINITION. Attestation: DOE in a feed unit (R55), the SPDM responder (R396), its messages in a tile (R221) and the relay of a feed
unit (R397). -/

namespace Sys2Proof.Machine

/-! ### DOE (R55) -/

/-- The data object protocols that the DOE instance supports (R55). -/
def doeProtocols : List DoeProtocol := [.discovery, .spdm]

/-- DOE_OBJECT: an object above 32 KiB is discarded with DOE Error; an SPDM object is passed on to the responder, and DOE Discovery is
answered with the protocols supported. -/
def execDoeObject (protocol : DoeProtocol) (length : Nat) (object : List Byte) (s : State) : Out :=
  .next (if !s.hif.linkUp || s.hif.crs then s
  else if 32768 < length ∨ 32768 < object.length then { s with hif := { s.hif with doeError := true, doeBusy := false } }
  else match protocol with
    | .discovery => { s with hif := { s.hif with doeBusy := false, doeAnswer := some doeProtocols } }
    | .spdm => { s with hif := { s.hif with doeBusy := true } }
    | .other => { s with hif := { s.hif with doeBusy := false } })

/-- DOE_ABORT: the object in progress is discarded, and the DOE is ready again. -/
def execDoeAbort (s : State) : Out := .next { s with hif := { s.hif with doeBusy := false, doeError := false } }

/-! ### The responder (R396) -/

/-- Parts of a message, of at most 2,048 B each (R221). -/
def messageParts (bs : List Nat) : List (List Nat) :=
  (List.range (max 1 (ceilDiv bs.length 2048))).map fun i => (bs.drop (2048 * i)).take 2048

/-- The responder holds a request: over DOE in a feed unit, or a complete message in a tile. -/
def State.asked (s : State) (via : SpdmVia) : Bool :=
  match via with
  | .doe => !s.isTile && s.hif.doeBusy
  | .packet port claim seq message =>
    s.isTile && s.spdm.waiting.contains (port.val, claim.toNat, seq.toNat, message.toNat) && !s.rst.inReset

/-- The response of a tile leaves as SPDM_RSP parts on the port of its request (R219, R221). -/
def State.sendResponse (s : State) (port seq message : Nat) (bs : List Nat) : State :=
  let ps := messageParts bs
  ps.zipIdx.foldl (fun t x => t.enqueue port
    (makePacket 6 6 0xFFF t.domain t.tileAddr 0 seq t.frameNow 0 (message + x.2 * 65536) true (x.2 + 1 == ps.length) x.1)) s

/-- The responder answers the request it holds. -/
def State.answerSpdm (s : State) (via : SpdmVia) (a : SpdmAnswer) : State :=
  let s1 : State := { s with spdm := { s.spdm with answers := s.spdm.answers ++ [(via, a)] } }
  match via with
  | .doe => { s1 with hif := { s1.hif with doeBusy := false } }
  | .packet port claim seq message =>
    let k := (port.val, claim.toNat, seq.toNat, message.toNat)
    let s2 : State := { s1 with spdm := { s1.spdm with waiting := s1.spdm.waiting.filter (· != k) } }
    ({ s2 with freeCount := s2.freeCount + 1 } : State).sendResponse port.val seq.toNat message.toNat
      (Config.spdmBytes s2.freeCount)

/-- The chain of certificates, at most 4 KiB (R395). -/
def State.chain (s : State) : List Byte := s.fuses.certChain.take 4096

/-- GET_VERSION (R396). -/
def execGetVersion (via : SpdmVia) (s : State) : Out := .next (if s.asked via then s.answerSpdm via .version else s)

/-- GET_CAPABILITIES: certificate, challenge and signed measurements; no key exchange, no pre-shared key, no session (R396). -/
def execGetCapabilities (via : SpdmVia) (s : State) : Out :=
  .next (if s.asked via then s.answerSpdm via (.capabilities true true true false false false) else s)

/-- NEGOTIATE_ALGORITHMS: only ECDSA P-384 with SHA-384 (R396). -/
def execNegotiateAlgorithms (via : SpdmVia) (s : State) : Out :=
  .next (if s.asked via then s.answerSpdm via (.algorithms true true) else s)

/-- GET_DIGESTS: the digest of the chain of slot 0 (R396). -/
def execGetDigests (via : SpdmVia) (s : State) : Out :=
  .next (if s.asked via then s.answerSpdm via (.digests (Config.sha384 (s.chain.map (·.toNat)))) else s)

/-- GET_CERTIFICATE: slot 0 only (R396). -/
def execGetCertificate (via : SpdmVia) (slot : BitVec 8) (s : State) : Out :=
  .next (if s.asked via then s.answerSpdm via (if slot = 0#8 then .certificate s.chain else .unsupportedRequest) else s)

/-- The measurements that a request names: 0xFF all, 1 to 5 one, with index 2 as mutable firmware (R396). -/
def State.reported (s : State) (index : Nat) : List (Nat × Bool × Digest) :=
  ([1, 2, 3, 4, 5].filter fun i => index == 0xFF || index == i).map fun i => (i, i == 2, digestOf (s.measBytes i))

/-- The bytes of the measurements reported, which a signature covers. -/
def State.reportedBytes (s : State) (index : Nat) : List Nat :=
  (s.reported index).flatMap fun x => x.1 :: digestBytes x.2.2

/-- CHALLENGE: a signature by the attestation key (R395, R396). -/
def execChallenge (via : SpdmVia) (nonce : BitVec 256) (s : State) : Out :=
  .next (if s.asked via then
    s.answerSpdm via (.challenge (Config.sign s.fuses.serial (Config.transcript nonce.toNat (s.reportedBytes 0xFF))))
  else s)

/-- GET_MEASUREMENTS (R396). -/
def execGetMeasurements (via : SpdmVia) (index : BitVec 8) (signed : Bool) (s : State) : Out :=
  .next (if s.asked via then
    let i := index.toNat
    let sig := Config.sign s.fuses.serial (Config.transcript s.freeCount (s.reportedBytes i))
    ({ s with freeCount := s.freeCount + 1 } : State).answerSpdm via (.measurements (s.reported i) (if signed then some sig else none))
  else s)

/-- SPDM_UNSUPPORTED: any other request is answered with UnsupportedRequest (R396). -/
def execSpdmUnsupported (via : SpdmVia) (s : State) : Out :=
  .next (if s.asked via then s.answerSpdm via .unsupportedRequest else s)

/-! ### Requests to a tile (R221) -/

/-- A part of a message for an assembly: part 0 begins it anew, a part out of order ends it. -/
def joinPart (l : List Assembly) (port claim message part : Nat) (bs : List Nat) : Option Assembly :=
  let same := fun (a : Assembly) => a.port == port && a.claim == claim && a.message == message
  if part = 0 then some { port := port, claim := claim, message := message, nextPart := 1, bytes := bs }
  else match l.find? same with
    | some a => if a.nextPart = part ∧ a.bytes.length + bs.length ≤ 32768 then
        some { a with nextPart := part + 1, bytes := a.bytes ++ bs } else none
    | none => none

/-- SPDM_REQ in a tile: the parts of a message are put together, and a complete message goes to the responder (R221). -/
def State.spdmRequest (s : State) (port : Nat) (p : Packet) : State :=
  let claim := p.hdr.claim.toNat
  let message := p.hdr.arg.toNat % 65536
  let part := p.hdr.arg.toNat / 65536
  let rest := s.spdm.rx.filter fun a => !(a.port == port && a.claim == claim && a.message == message)
  match joinPart s.spdm.rx port claim message part (payloadBytes p) with
  | none => { s with spdm := { s.spdm with rx := rest } }
  | some a =>
    if p.hdr.last then
      { s with spdm := { s.spdm with rx := rest, waiting := s.spdm.waiting ++ [(port, claim, p.hdr.seq.toNat, message)] } }
    else { s with spdm := { s.spdm with rx := rest ++ [a] } }

/-- SPDM_REQ (R221): accepted from either unit. -/
def execSpdmReq (port : Fin 96) (pkt : Packet) (s : State) : Out :=
  .next (if s.isTile && s.takes port.val pkt 3 5 then (s.noteClaim pkt.hdr.claim.toNat none).spdmRequest port.val pkt else s)

/-! ### The relay of a feed unit (R397) -/

/-- The bytes of the relay buffer. -/
def State.relayBytes (s : State) (n : Nat) : List Nat :=
  ((List.range (ceilDiv n 4)).flatMap fun w => leBytes 4 (s.reg (R.secRelayBuf w))).take n

/-- Bytes placed in the relay buffer. -/
def State.setRelayBytes (s : State) (bs : List Nat) : State :=
  (List.range (ceilDiv bs.length 4)).foldl (fun t w => t.setReg (R.secRelayBuf w) (leVal ((bs.drop (4 * w)).take 4))) s

/-- The request of the buffer leaves as SPDM_REQ parts (R221, R397). -/
def State.relaySend (s : State) (tile len : Nat) : State :=
  let m := (s.spdm.relayMsg + 1) % 65536
  let ps := messageParts (s.relayBytes len)
  let s1 : State := { s with spdm := { s.spdm with relayMsg := m, relayTile := tile, relayRx := [], relayPart := 0 } }
  let s2 := ps.zipIdx.foldl (fun t x =>
    let (n, u) := t.nextSeq
    u.enqueueAll (u.ctlPorts tile)
      (makePacket 3 5 tile u.domain 0xFFF u.cur n u.frameNow 0 (m + x.2 * 65536) false (x.2 + 1 == ps.length) x.1)) s1
  s2.setReg R.secRelayStatus 1

/-- A write of SEC_RELAY_CTRL (R397): GO sends the request, unless one is under way. -/
def State.relayCtrlWrite (s : State) (value : Nat) (req : Requester) : State :=
  let go := fieldGet value F.secRelayCtrl_GO = 1
  if go ∧ s.get R.secRelayStatus F.secRelayStatus_STATE = 1 then s.progError R.secRelayCtrl value req
  else
    let s1 := s.setReg R.secRelayCtrl (value % 2 ^ 28)
    let len := fieldGet value F.secRelayCtrl_LENGTH
    if go ∧ s.isFeed ∧ !s.rst.inReset then
      s1.relaySend (fieldGet value F.secRelayCtrl_TILE) (if len = 0 then 32768 else min 32768 len)
    else s1

/-- SPDM_RELAY_GO (R397). -/
def execSpdmRelayGo (req : Requester) (value : Word) (s : State) : Out := .next (s.byReq req (s.relayCtrlWrite value.toNat req))

/-- SPDM_RSP: a part of the response; the last places the response in the buffer (R221, R397). -/
def State.relayPart (s : State) (p : Packet) : State :=
  let x := s.spdm
  let message := p.hdr.arg.toNat % 65536
  let part := p.hdr.arg.toNat / 65536
  let bs := x.relayRx ++ payloadBytes p
  if s.get R.secRelayStatus F.secRelayStatus_STATE ≠ 1 ∨ message ≠ x.relayMsg ∨ p.hdr.src.toNat ≠ x.relayTile ∨ part ≠ x.relayPart ∨
      32768 < bs.length then s
  else if p.hdr.last then
    let s1 : State := { s with spdm := { x with relayRx := [], relayPart := 0 } }
    (s1.setRelayBytes bs).setReg R.secRelayStatus (2 + bs.length % 32768 * 4)
  else { s with spdm := { x with relayRx := bs, relayPart := part + 1 } }

/-- SPDM_RSP (R221, R397). -/
def execSpdmRsp (port : Fin 96) (pkt : Packet) (s : State) : Out :=
  .next (if s.isFeed && s.takes port.val pkt 6 6 then s.relayPart pkt else s)

/-- SPDM_RELAY_TIMEOUT: no complete response within 200 ms (R397). -/
def execSpdmRelayTimeout (s : State) : Out :=
  .next (if s.get R.secRelayStatus F.secRelayStatus_STATE = 1 then
    ({ s with spdm := { s.spdm with relayRx := [], relayPart := 0 } } : State).setReg R.secRelayStatus 3
  else s)

end Sys2Proof.Machine
end

