-- ==== Sys2Proof/Machine/RegAccess.lean ====
section
/-! DEFINITION. The register space (R9 to R16, R45, R54, R157): reads with their latch and their clearing, writes by access type, the
staging of multi-word registers, and the writes that are commands of their own. -/

namespace Sys2Proof.Machine

/-! ### Registers found -/

/-- The unit numbers that an offset formula takes at an offset. -/
def dimIndex : List (Nat × Nat) → Nat → List Nat
  | [], _ => []
  | (_, st) :: ds, r => r / st :: dimIndex ds (r % st)

/-- A unit number of a register found. -/
def RegHit.unit (h : RegHit) (i : Nat) : Nat := (dimIndex h.spec.dims (h.key - h.spec.base)).getD i 0

/-- The lane of a lane register: the quarter and the lane in it. -/
def RegHit.lane (h : RegHit) : Nat := 24 * h.unit 0 + h.unit 1

/-- Some field of the register is shadowed. -/
def RegHit.shadowed (h : RegHit) : Bool := h.spec.fields.any fun f => f.acc == .sh

/-- Registers of a tile alone: the upstream queue and the claim table. -/
def tileOnly (base : Nat) : Bool :=
  [R.evtUpCfg, R.evtUpStatus, R.redTileCfg, R.redTileStatus, R.redTileWinSerial, R.redTileCounts, R.redTileRefused].contains base

/-- The register responds: its block is live, and a register of a tile alone stands in a tile. The registers of an off lane respond and
store: R17 calls such a lane held off, and R190 has software write its LANE_TEST (DESIGN CHOICE, log entry 138). -/
def State.regLive (s : State) (h : RegHit) : Bool := s.live h.spec.block && (!tileOnly h.spec.base || s.isTile)

/-! ### The coefficient store window (R244) -/

/-- The quarter and the word of the coefficient store at an offset. -/
def storeWord (off : Nat) : Option (Nat × Nat) :=
  if 0x1000000 ≤ off ∧ off < 0x2000000 ∧ 0x200000 ≤ (off - 0x1000000) % 0x400000 then
    some ((off - 0x1000000) / 0x400000, ((off - 0x1000000) % 0x400000 - 0x200000) / 4)
  else none

/-! ### Reads (R10, R13) -/

/-- A requester's item. -/
def PerReq.of {α : Type} (p : PerReq α) : Requester → α
  | .host => p.host
  | .mp => p.mp
  | .claim0 => p.claim0
  | .claim1 => p.claim1

/-- A requester's item replaced. -/
def PerReq.put {α : Type} (p : PerReq α) (r : Requester) (x : α) : PerReq α :=
  match r with
  | .host => { p with host := x }
  | .mp => { p with mp := x }
  | .claim0 => { p with claim0 := x }
  | .claim1 => { p with claim1 := x }

/-- What a requester's read returned. -/
def State.answered (s : State) (req : Requester) (v : Nat) : State := { s with bus := { s.bus with answer := s.bus.answer.put req v } }

/-- A register value with the fields of an access type cleared. -/
def clearAcc (spec : RegSpec) (a : Access) (v : Nat) : Nat :=
  spec.fields.foldl (fun x f => if f.acc == a then fieldSet x ⟨f.lo, f.w⟩ 0 else x) v

/-- The registers that show another part of the state, and the whole value of a register. MP_LOAD measures the management processor,
CMP_STATUS.WORST_US real composition times: they are free values (log entry 3). HBM_ECC.CORRECTED counts a free number of chance errors of the
memory since it was last read. HBM_TOL and HBM_STATUS.MIN_SRC show what the consumers publish (R111).
RST_WDT_REMAIN shows some time up to that of the last kick or warning. -/
def State.regView (s : State) (h : RegHit) : Nat × State :=
  let b := h.spec.base
  let q := s.queue s.selQueue
  if b = R.timeNow then (s.timeNow, s)
  else if b = R.timeFrame then (s.timeFrame, s)
  else if b = R.topStatus then
    (fieldSet (s.reg R.topStatus) F.topStatus_FRAME_LOCKED (s.get R.timeStatus F.timeStatus_FRAME_LOCKED), s)
  else if b = R.qmCtxCfg then (s.ctxCfg s.selQueue, s)
  else if b = R.qmCtxBase then (q.base, s)
  else if b = R.qmCtxProd then (q.p, s)
  else if b = R.qmCtxCons then (q.c, s)
  else if b = R.mpLoad then
    let (l, s1) := s.fresh 8
    let (p, s2) := s1.fresh 8
    let (t, s3) := s2.fresh 1
    (l % 101 + p % 101 * 2 ^ 8 + s.get R.mpLoad F.mpLoad_HELD * 2 ^ 16 + t * 2 ^ 23, s3)
  else if b = R.hbmEcc then
    let (c, s1) := s.fresh 16
    let s2 := s1.count R.hbmEcc F.hbmEcc_CORRECTED c
    (s2.reg h.key, s2)
  else if b = R.hbmStatus then (fieldSet (s.reg h.key) F.hbmStatus_MIN_SRC s.hbmTolerance.2, s)
  else if b = R.hbmTol 0 then (s.tolerance (h.unit 0), s)
  else if b = R.rstWdtRemain then
    let (w, s1) := s.fresh 16
    (if s.rst.wdtRunning then w % (s.reg h.key + 1) else s.reg h.key, s1)
  else if b = R.cmpStatus 0 then
    let (w, s1) := s.fresh 16
    (fieldSet (s.reg h.key) F.cmpStatus_WORST_US w, s1)
  else (s.reg h.key, s)

/-- A read of the low word: the whole value is latched where there is a higher word, and every RC field clears (R10, R13). -/
def State.readLow (s : State) (h : RegHit) (req : Requester) : Nat × State :=
  let (v0, s1) := s.regView h
  let v := clearAcc h.spec .wo v0
  let s2 : State := if 1 < h.spec.words then { s1 with bus := { s1.bus with latch := s1.bus.latch.put req v } } else s1
  let s3 := if h.spec.fields.any (fun f => f.acc == .rc) then s2.setReg h.key (clearAcc h.spec .rc (s2.reg h.key)) else s2
  (v % 2 ^ 32, s3)

/-- A register of one layer of one quarter lies above the image's layer count (R45). -/
def State.layerBeyond (s : State) (h : RegHit) : Bool :=
  match s.ldr.image, h.spec.dims with
  | some i, [(4, _), (8, _)] => decide (i.body.quarters.layers.getD (h.unit 0) 0 ≤ h.unit 1)
  | _, _ => false

/-- A read of a word of BAR0 or of a tile's register space (R10, R12, R15, R54); a layer above the image's count reads 0 (layer registers). -/
def State.busRead (s : State) (off : Nat) (req : Requester) : Nat × State :=
  match storeWord off with
  | some (q, w) =>
    if s.live .cor then (wordOf (s.lampRec (q * 65536 + w / 8)) (w % 8), s) else (0, s)
  | none =>
    match regAt off with
    | some h =>
      if !s.regLive h || (s.layerBeyond h && h.spec.block == .cmp) then (0, s)
      else if h.word = 0 then s.readLow h req
      else (wordOf (s.bus.latch.of req) h.word, s)
    | none => if (blockAt off).isSome then (0, s) else (0xFFFFFFFF, s.progErrorIn .hif off 0 req)

/-! ### Shadowed writes (R13, R45, R157) -/

/-- A register value after a write of its RW, SH, W1C and W1S fields (R13). -/
def writeFields (spec : RegSpec) (old v : Nat) : Nat :=
  spec.fields.foldl (fun x f =>
    let fld : Fld := ⟨f.lo, f.w⟩
    match f.acc with
    | .rw | .sh => fieldSet x fld (fieldGet v fld)
    | .w1c => fieldSet x fld (Nat.land (fieldGet x fld) (2 ^ f.w - 1 - fieldGet v fld))
    | .w1s => fieldSet x fld (Nat.lor (fieldGet x fld) (fieldGet v fld))
    | _ => x) old

/-- A write of a shadowed register that leaves the bounds of the image (R45): a setting of a layer above the image's count other than
CMP_LAYER_CTRL, whose EN refuses the commit instead (layer registers), and the origin of an address bound in TILES (R231). -/
def State.imageFixed (s : State) (h : RegHit) : Bool :=
  (s.layerBeyond h && h.spec.base != R.cmpLayerCtrl 0 0) || (h.spec.base == R.dscOrigin 0 && (s.boundAt (h.unit 0)).isSome)

/-- A write of a shadowed register: the shadow takes the value, unless a commit is being checked or is pending (R157) or the image fixes
it (R45). -/
def State.shadowStore (s : State) (h : RegHit) (v : Nat) (req : Requester) : State :=
  if s.committing || s.imageFixed h then s.progError h.key v req
  else
    let s1 := s.setReg h.key (writeFields h.spec (s.reg h.key) v)
    { s1 with shWritten := if s1.shWritten.contains h.key then s1.shWritten else s1.shWritten ++ [h.key] }

/-! ### Registers whose writes have conditions of their own -/

/-- A write of THM_LIMITS: software may only lower the levels of THERMAL, and WARN stays at or below THROTTLE (R361). -/
def State.limitsWrite (s : State) (v : Nat) (req : Requester) : State :=
  let w := fieldGet v F.thmLimits_WARN
  let t := fieldGet v F.thmLimits_THROTTLE
  let beyond : Bool := match s.ldr.image with
    | some i => decide (i.body.thermal.warn < w ∨ i.body.thermal.throttle < t)
    | none => false
  if beyond ∨ t < w then s.progError R.thmLimits v req else s.setReg R.thmLimits (v % 65536)

/-- A write of DMA_CH_CFG: only in IDLE. -/
def State.dmaCfgWrite (s : State) (c v : Nat) (req : Requester) : State :=
  if s.dmaState c = dmaIdle then s.setReg (R.dmaChCfg c) (v % 2 ^ 29) else s.progError (R.dmaChCfg c) v req

/-- A write of a filter word beside EN: only while EN is 0 (R101). -/
def State.filterWordWrite (s : State) (f : Nat) (h : RegHit) (v : Nat) (req : Requester) : State :=
  if s.filterOn f then s.progError h.key v req else s.setReg h.key (writeFields h.spec (s.reg h.key) v)

/-- A write of ING_PORT_CFG: a port that joins reports its membership (R102). -/
def State.portCfgWrite (s : State) (p : Nat) (h : RegHit) (v : Nat) : State :=
  let s1 := s.setReg h.key (writeFields h.spec (s.reg h.key) v)
  if fieldGet (s.reg h.key) F.ingPortCfg_JOIN ≠ fieldGet v F.ingPortCfg_JOIN then s1.membershipChanged p (s.groups p) else s1

/-- A write of HIF_MSIX_CTRL: an entry that is unmasked sends the message it has pended. -/
def State.msixCtrlWrite (s : State) (e v : Nat) : State :=
  let s1 := s.setReg (R.hifMsixCtrl e) (v % 2)
  let p := R.hifPba (e / 32)
  if v % 2 = 0 ∧ bitOf (s1.reg p) (e % 32) then (s1.put p ⟨e % 32, 1⟩ 0).sendMsix e else s1

/-- A generic write: each field by its access type (R13). -/
def State.plainWrite (s : State) (h : RegHit) (v : Nat) : State := s.setReg h.key (writeFields h.spec (s.reg h.key) v)

/-- Writes of the device-wide blocks that have a meaning of their own; none where the register is a plain one. -/
def State.deviceWrite (s : State) (h : RegHit) (v : Nat) (req : Requester) : Option State :=
  let b := h.spec.base
  if s.isTile && req == .mp && (b == R.mbxCmd 0 || b == R.mbxSubmit || b == R.mbxRelease) then some s
  else if b = R.topImageLoadAddr then (if s.isTile then some s else none)
  else if b = R.topImageLoadCtrl then some (s.imageCtrlWrite v req none)
  else if b = R.topCommit then some (s.topCommitWrite v)
  else if b = R.rstCmd then some (s.rstCmdWrite v req)
  else if b = R.rstWdt then some (s.wdtWrite v req)
  else if b = R.secFwLoadAddr then (if s.isTile then some s else none)
  else if b = R.secFwLoadCtrl then some (s.fwCtrlWrite v req none)
  else if b = R.secRelayCtrl then some (s.relayCtrlWrite v req)
  else if b = R.thmLimits then some (s.limitsWrite v req)
  else if b = R.thmCapCmd then some (s.capCmdWrite v req)
  else if b = R.thmHeatCfg ∨ b = R.thmZone 0 then (if s.isFeed then some (s.plainWrite h v).updateZones else none)
  else if b = R.evtRingBind 0 then some (s.ringBindWrite (h.unit 0) v req)
  else if b = R.evtCapCtrl 0 then some (s.capCtrlWrite (h.unit 0) v)
  else if b = R.timeCtrl then some (s.timeCtrlWrite v req)
  else if b = R.timeServoCfg then some (s.servoCfgWrite v req)
  else if b = R.timePtpCfg then some (s.ptpCfgWrite v)
  else if b = R.timePinCfg then some (s.pinCfgWrite v)
  else if b = R.timeAlignOrigin then some (s.alignOriginWrite v req)
  else if b = R.timeModeCommit then some (s.modeCommitWrite v req)
  else if b = R.hifRemoteSel 0 then some (s.remoteSelWrite (h.unit 0) v)
  else if b = R.hifMsixCtrl 0 then some (s.msixCtrlWrite (h.unit 0) v)
  else if b = R.redClaim then some (if s.isTile then s else s.claimCfgWrite v)
  else if b = R.redCtrl then (if s.isFeed then some (s.plainWrite h v).updateRole else none)
  else if b = R.dscCmd then some (s.dscCmdWrite v req)
  else if b = R.dscSel then some (s.plainWrite h v).showTile
  else if b = R.mbxSubmit then some (s.submit v)
  else if b = R.mbxRelease then some (s.release v req)
  else none

/-- Writes of the memory, source, codec and clip blocks that have a meaning of their own. -/
def State.feedWrite (s : State) (h : RegHit) (v : Nat) (req : Requester) : Option State :=
  let b := h.spec.base
  if b = R.qmCtxCfg ∨ b = R.qmCtxBase then some (s.ctxWrite b v req)
  else if b = R.qmCmd then some (s.qmCmdWrite v)
  else if b = R.qmConsume then some (s.qmConsume v req)
  else if b = R.hbmPowerCfg then some (s.hbmPowerWrite v)
  else if b = R.dmaChCfg 0 then some (s.dmaCfgWrite (h.unit 0) v req)
  else if b = R.dmaChCtrl 0 then some (s.dmaCtrlWrite (h.unit 0) v)
  else if b = R.dmaTrigSw then some (s.trigSw v)
  else if b = R.ingFence 0 then some (s.fence (h.unit 0) v req)
  else if b = R.ingFilterCtrl 0 then some (s.filterCtrlWrite (h.unit 0) v req)
  else if b = R.ingFilterUdp 0 ∨ b = R.ingFilterDst 0 ∨ b = R.ingFilterSrc 0 then some (s.filterWordWrite (h.unit 0) h v req)
  else if b = R.ingPortCfg 0 then some (s.portCfgWrite (h.unit 0) h v)
  else if b = R.cdcEncCmd 0 then some (s.encCmdWrite (h.unit 0) v)
  else if b = R.clpCmd then some (s.clpCmdWrite v)
  else if b = R.clpPortCfg 0 then some (s.refmodeWrite (h.unit 0) v)
  else none

/-- Writes of the quarter blocks that have a meaning of their own. -/
def State.quarterWrite (s : State) (h : RegHit) (v : Nat) (req : Requester) : Option State :=
  let b := h.spec.base
  if b = R.cmpLutE 0 0 0 then some (s.lutEWrite (h.unit 0) (h.unit 1) (h.unit 2) v req)
  else if b = R.cmpLutW 0 0 then some (s.lutWWrite (h.unit 0) (h.unit 1) v req)
  else if b = R.sclCoef 0 0 0 0 then some (s.coefWrite (h.unit 0) (h.unit 1) (h.unit 2) (h.unit 3) v req)
  else if b = R.laneCtrl 0 then some (s.laneCtrlWrite h.lane v)
  else if b = R.laneTest 0 then some (s.laneTestWrite (24 * h.unit 0) v req)
  else if b = R.corGain 0 then some (s.gainWrite (h.unit 0) v)
  else if b = R.corGainLimit then some (s.gainLimitWrite v req)
  else if b = R.corI2c then some (s.i2cWrite v)
  else if b = R.corCalCtrl then some (s.calCtrlWrite v req)
  else if b = R.corEotf 0 0 0 then some (s.eotfWrite (h.unit 0) (h.unit 1) (h.unit 2) v req)
  else if b = R.lmpClk then some (s.lmpClkStore v req)
  else if b = R.lmpCtrl then some (s.lmpCtrlWrite v)
  else if b = R.lmpFaultCtrl then some (s.faultCtrlWrite v)
  else if b = R.lmpSagCfg then some (s.sagCfgWrite v)
  else if b = R.lmpSagMap 0 0 then some (s.sagMapWrite (16 * h.unit 0 + h.unit 1) v req)
  else none

/-! ### Writes (R9, R11 to R13) -/

/-- A register takes a whole value. -/
def State.regWrite (s : State) (h : RegHit) (v : Nat) (req : Requester) : State :=
  if h.shadowed then s.shadowStore h v req
  else match s.deviceWrite h v req with
    | some t => t
    | none =>
      match s.feedWrite h v req with
      | some t => t
      | none => (s.quarterWrite h v req).getD (s.plainWrite h v)

/-- The value of a register of several words: the staged lower words below the highest. -/
def stagedValue (ws : List (Nat × Nat)) (top v : Nat) : Nat :=
  ws.foldl (fun x w => fieldSet x ⟨32 * w.1, 32⟩ w.2) (v * 2 ^ (32 * top))

/-- A requester's staging buffer replaced. -/
def State.setStaging (s : State) (req : Requester) (x : Staging) : State :=
  { s with bus := { s.bus with staging := s.bus.staging.put req x } }

/-- A register of several words whose writes are ignored and reported as it stands: an address of an enabled filter (R101). -/
def State.wordsShut (s : State) (h : RegHit) : Bool :=
  (h.spec.base == R.ingFilterDst 0 || h.spec.base == R.ingFilterSrc 0) && s.filterOn (h.unit 0)

/-- A write of one word of a register of several (R11): a lower word is staged, the highest commits the register. -/
def State.stageWrite (s : State) (h : RegHit) (v : Nat) (req : Requester) : State :=
  if s.wordsShut h then s.progError (h.key + 4 * h.word) v req
  else
    let top := h.spec.words - 1
    let buf := s.bus.staging.of req
    let mine := buf.key == h.key
    if h.word = top then
      let s1 := s.setStaging req ⟨0, []⟩
      if mine && (List.range top).all (fun i => buf.words.any fun w => w.1 == i) then s1.regWrite h (stagedValue buf.words top v) req
      else s1.progError (h.key + 4 * h.word) v req
    else if mine && !(buf.words.any fun w => w.1 == h.word) then s.setStaging req ⟨h.key, buf.words ++ [(h.word, v)]⟩
    else s.setStaging req ⟨h.key, [(h.word, v)]⟩

/-- A 32-bit write of BAR0 or of a tile's register space (R11, R12, R15, R54). -/
def State.busWrite (s : State) (off value : Nat) (req : Requester) : State :=
  if off % 4 ≠ 0 then s
  else match storeWord off with
  | some (q, w) => if s.live .cor then s.recordWrite q (w / 8) (w % 8) value off req else s
  | none =>
    match regAt off with
    | some h =>
      if !s.regLive h then s
      else if h.spec.words = 1 then s.regWrite h value req
      else s.stageWrite h value req
    | none => if (blockAt off).isSome then s else s.progErrorIn .hif off value req

/-! ### The commands of the host interface -/

/-- The sub-window and its offset at an offset of the remote tile window. -/
def remoteAt (off : Nat) : Option (Nat × Nat) :=
  if 0x2000000 ≤ off ∧ off < 0x4000000 then some ((off - 0x2000000) / 0x800000, (off - 0x2000000) % 0x800000) else none

/-- A write of a feed unit's BAR0: the remote window, or the register space. -/
def State.bar0Write (s : State) (off value : Nat) (req : Requester) : State :=
  match remoteAt off with
  | some (w, o) => if off % 4 = 0 then s.remoteWrite w o value else s
  | none => s.busWrite off value req

/-- The bytes that a read of a width takes of the word at an offset (R9). -/
def readPart (width : AccessWidth) (off : Nat) : ReadPart :=
  match width with
  | .byte => { offset := off / 4 * 4, first := off % 4, bytes := 1 }
  | .half => { offset := off / 4 * 4, first := off % 4, bytes := 2 }
  | .word => .word (off / 4 * 4)

/-- A read of a feed unit's BAR0 returns the addressed bytes of the word (R9); a remote read answers later. -/
def State.bar0Read (s : State) (width : AccessWidth) (off : Nat) (req : Requester) : State :=
  match remoteAt off with
  | some (w, o) => s.remoteRead w (readPart width o)
  | none =>
    let (v, s1) := s.busRead (off / 4 * 4) req
    s1.answered req ((readPart width off).of v)

/-- REGISTER_WRITE (R9, R12, R13, R15, R16, R45): a byte or 16-bit write is ignored. -/
def execRegisterWrite (req : Requester) (offset : BitVec 26) (width : AccessWidth) (value : Word) (s : State) : Out :=
  .next (s.byReq req (if width = .word then s.bar0Write offset.toNat value.toNat req else s))

/-- Successive 32-bit writes in ascending address order (R54). -/
def State.bar0Writes (s : State) (off : Nat) : List Nat → Requester → State
  | [], _ => s
  | v :: r, req => (s.bar0Write off v req).bar0Writes (off + 4) r req

/-- Successive 32-bit reads in ascending address order, the first word low (R54). -/
def State.bar0Reads (s : State) (off : Nat) (req : Requester) : Nat → State
  | 0 => s
  | n + 1 =>
    let s1 := s.bar0Reads off req n
    let low := s1.bus.answer.of req
    let s2 := s1.bar0Read .word (off + 4 * n) req
    if n = 0 then s2 else s2.answered req (low % 2 ^ (32 * n) + s2.bus.answer.of req % 2 ^ 32 * 2 ^ (32 * n))

/-- MULTIWORD_WRITE (R11, R54): a request of several words is executed as successive writes. -/
def execMultiwordWrite (req : Requester) (offset : BitVec 26) (values : List Word) (s : State) : Out :=
  .next (s.byReq req (s.bar0Writes offset.toNat (values.map (·.toNat)) req))

/-- SHADOW_WRITE (R157). -/
def execShadowWrite (req : Requester) (offset : BitVec 26) (value : Word) (s : State) : Out :=
  .next (s.byReq req (s.bar0Write offset.toNat value.toNat req))

/-- MULTIWORD_LOW_READ (R10, R54): the words after the low one, up to a request of 4 KiB, are read in ascending address order. -/
def execMultiwordLowRead (req : Requester) (offset : BitVec 26) (words : Fin 1024) (s : State) : Out :=
  .next (if s.mayRead req then s.bar0Reads offset.toNat req (words.val + 1) else s)

/-- READ_CLEAR (R9, R13). -/
def execReadClear (req : Requester) (offset : BitVec 26) (width : AccessWidth) (s : State) : Out :=
  .next (if s.mayRead req then s.bar0Read width offset.toNat req else s)

/-- UNMAPPED_BAR0_ACCESS (R54): a mapped offset is accessed as any other. -/
def execUnmappedBar0Access (isWrite : Bool) (offset : BitVec 26) (value : Word) (s : State) : Out :=
  .next (if !s.mayRead .host then s
    else if isWrite then s.bar0Write offset.toNat value.toNat .host else s.bar0Read .word offset.toNat .host)

/-- BAR2_ACCESS (R52): the shared region; beyond the mapped memory of a T build a write is dropped, a read gives 0, and both are
reported. -/
def execBar2Access (isWrite : Bool) (offset : BitVec 36) (length : Nat) (data : List Byte) (errors : List MemError) (s : State) : Out :=
  .next (let a := offset.toNat
    let room := s.sharedSize - a
    let n := if isWrite then data.length else length
    if !s.live .hif ∨ s.hif.bars ≠ .all then s
    else
      let first := leVal ((data.take 4).map (·.toNat))
      let s0 := s.hbmTouch.memErrors errors
      let s1 := if n ≤ room then s0 else s0.progErrorIn .hif a (if isWrite then first else 0) .host
      if isWrite then s1.memWrite a (data.take room)
      else s1.answered .host (leVal ((s1.readBytes a (min n room)).map (·.toNat))))

/-- QUEUE_DOORBELL (R47, R53): the queue must lie in a pool, below 2,048 in a T build, and the index inside the ring. -/
def execQueueDoorbell (queue : BitVec 18) (index : Word) (s : State) : Out :=
  .next (let q := queue.toNat
    if !s.live .qm ∨ s.hif.bars ≠ .all then s
    else if q < s.queueTotal then s.doorbell q index.toNat (q * 16) .host
    else s.progErrorIn .qm (q * 16) index.toNat .host)

/-! ### Halyard reads and writes in a tile (R218, R219) -/

/-- The answer to a CTL request leaves on the port it arrived on (R219). -/
def State.answerCtl (s : State) (port : Nat) (p : Packet) (type : Nat) (body : List Nat) : State :=
  s.enqueue port (makePacket 6 type 0xFFF s.domain s.tileAddr p.hdr.claim.toNat p.hdr.seq.toNat s.frameNow 0
    (p.hdr.arg.toNat % 65536) true false body)

/-- OFFSET is a multiple of 4 and at most 0x01FF_FFFC (R218). -/
def ctlOffsetOk (off : Nat) : Bool := off % 4 == 0 && decide (off ≤ 0x01FFFFFC)

/-- READ in a tile. -/
def State.ctlRead (s : State) (port : Nat) (p : Packet) : State :=
  let off := payField p 0 4
  let claim := p.hdr.claim.toNat
  let s1 := s.noteClaim claim none
  if ctlOffsetOk off then
    let req := s1.claimRequester claim
    let (v, s2) := s1.busRead off req
    (s2.answered req v).answerCtl port p 2 (leBytes 4 off ++ leBytes 4 v ++ [0, 0, 0, 0])
  else s1.answerCtl port p 2 (leBytes 4 off ++ leBytes 4 0xFFFFFFFF ++ [2, 0, 0, 0])

/-- READ (R218, R219): honoured from either unit. -/
def execRead (port : Fin 96) (pkt : Packet) (s : State) : Out :=
  .next (if s.isTile && s.takes port.val pkt 3 1 && s.isMine pkt then s.ctlRead port.val pkt else s)

/-- WRITE in a tile: only from the claim winner (R218, R322). -/
def State.ctlWrite (s : State) (port : Nat) (p : Packet) : State :=
  let off := payField p 0 4
  let claim := p.hdr.claim.toNat
  let s1 := s.noteClaim claim none
  let ack := fun (t : State) (st : Nat) => t.answerCtl port p 3 (leBytes 4 off ++ [st, 0, 0, 0])
  if !s1.fromWinner port claim then ack s1.refuseClaim 1
  else if !ctlOffsetOk off then ack s1 2
  else ack (s1.busWrite off (payField p 4 4) (s1.claimRequester claim)) 0

/-- WRITE (R61, R218, R219): a broadcast is executed by an admitted tile. -/
def execWrite (port : Fin 96) (pkt : Packet) (s : State) : Out :=
  .next (if s.isTile && s.takes port.val pkt 3 2 && (s.isMine pkt || s.flag R.dscSelf F.dscSelf_ADMITTED) then
    s.ctlWrite port.val pkt
  else s)

/-! ### Block transfers in a tile (R222, R223, R269) -/

/-- The size of a target in bytes: a Forjo slot, a firmware slot, a calibration copy, the register space. -/
def blkSize (target : Nat) : Nat :=
  match target with
  | 1 => 0x1000000
  | 2 => 0x100000
  | 3 => 0x900000
  | 4 => 0x2000000
  | _ => 0

/-- BLK_ACK leaves with the status and the contiguous bytes written (R223). -/
def State.blkAnswer (s : State) (port : Nat) (p : Packet) (status bytes : Nat) : State :=
  let t := p.hdr.arg.toNat % 65536
  s.enqueue port (makePacket 6 4 0xFFF s.domain s.tileAddr 0 p.hdr.seq.toNat s.frameNow 0 t true false
    (leBytes 2 t ++ [status, 0] ++ leBytes 4 bytes))

/-- The state with a transfer set. -/
def State.setTransfer (s : State) (x : BlkTransfer) : State :=
  let rest := s.hal.transfers.filter fun y => !(y.transfer == x.transfer && y.claim == x.claim)
  { s with hal := { s.hal with transfers := rest ++ [x] } }

/-- A transfer fails: it is aborted and answered, once (R223). -/
def State.blkFail (s : State) (port : Nat) (p : Packet) (x : BlkTransfer) (status : Nat) : State :=
  (s.setTransfer { x with failed := true }).blkAnswer port p status x.bytes

/-- Bytes put into a list from a place on; bytes never written read as erased flash. -/
def putBytes (old : List Nat) (at_ : Nat) (bs : List Nat) : List Nat :=
  let head := old.take at_
  head ++ List.replicate (at_ - head.length) 0xFF ++ bs ++ old.drop (at_ + bs.length)

/-- What a slot of stored bytes holds. -/
def slotBytes {α : Type} (c : Slot α) : List Nat := match c with | .bytes b => b | _ => []

/-- The data of a part goes to its target. -/
def State.blkStore (s : State) (target off : Nat) (bs : List Nat) (req : Requester) : State :=
  match target with
  | 1 =>
    let n := s.inactiveImage
    ({ s with flash := s.flash.setForjo n (.bytes (putBytes (slotBytes (s.flash.forjo n)) off bs)) false } : State).showImageSlots
  | 2 =>
    let n := s.inactiveFw
    s.setFlash (s.flash.setFw n (.bytes (putBytes (slotBytes (s.flash.fw n)) off bs)) false)
  | 3 =>
    let d := some (putBytes ((s.calCopy s.spareCopy).getD []) off bs)
    { s with flash := if s.spareCopy = 0 then { s.flash with cal0 := d } else { s.flash with cal1 := d } }
  | _ => (List.range (bs.length / 4)).foldl (fun t i => t.busWrite (off + 4 * i) (leVal ((bs.drop (4 * i)).take 4)) req) s

/-- A target erased before the first write (FLAGS.ERASE). -/
def State.blkErase (s : State) (target : Nat) : State :=
  match target with
  | 1 => s.voidImage s.inactiveImage
  | 2 => s.setFlash (s.flash.setFw s.inactiveFw .erased false)
  | 3 => { s with flash := if s.spareCopy = 0 then { s.flash with cal0 := none } else { s.flash with cal1 := none } }
  | _ => s

/-- Another transfer to a target is open. -/
def State.blkBusy (s : State) (x : BlkTransfer) : Bool :=
  s.hal.transfers.any fun y => y.target == x.target && !y.failed && !(y.transfer == x.transfer && y.claim == x.claim)

/-- The checks of a part of a transfer: the status, 0 for none. -/
def State.blkCheck (s : State) (x : BlkTransfer) (opens : Bool) (off n : Nat) : Nat :=
  if x.target < 1 ∨ 4 < x.target ∨ (x.target = 3 ∧ !s.flag R.corCalCtrl F.corCalCtrl_UNLOCK) then 5
  else if opens ∧ s.blkBusy x then 6
  else if off ≠ x.bytes then 2
  else if blkSize x.target < x.total ∨ x.total < off + n then 3
  else 0

/-- A part of a transfer of the claim winner. -/
def State.blkPart (s : State) (port : Nat) (p : Packet) (flashOk : Bool) : State :=
  let claim := p.hdr.claim.toNat
  let tr := p.hdr.arg.toNat % 65536
  let off := payField p 4 4
  let total := payField p 8 4
  let opens := off == 0
  let fresh : BlkTransfer :=
    { transfer := tr, target := payField p 0 1, total := total, bytes := 0, packets := 0, failed := false, claim := claim }
  let known := s.hal.transfers.find? fun y => y.transfer == tr && y.claim == claim
  let x := if opens then fresh else known.getD fresh
  if x.failed then s
  else
    let body := (payloadBytes p).drop 16
    let data := if p.hdr.last then body.take (x.total - off) else body
    let c := s.blkCheck x opens off data.length
    if c ≠ 0 then s.blkFail port p x c
    else
      let s1 := if opens && bitOf (payField p 1 1) 0 then s.blkErase x.target else s
      if x.target ≠ 4 ∧ !flashOk then s1.blkFail port p x 4
      else
        let s2 := s1.blkStore x.target off data (s1.claimRequester claim)
        let y := { x with bytes := off + data.length, packets := x.packets + 1 }
        let s3 := if p.hdr.last then
            { s2 with hal := { s2.hal with transfers := s2.hal.transfers.filter fun z => !(z.transfer == tr && z.claim == claim) } }
          else s2.setTransfer y
        if p.hdr.last || y.packets % 64 == 0 then s3.blkAnswer port p 0 y.bytes else s3

/-- A transfer of a unit that is not the claim winner is refused, once. -/
def State.blkRefuse (s : State) (port : Nat) (p : Packet) : State :=
  let tr := p.hdr.arg.toNat % 65536
  let claim := p.hdr.claim.toNat
  let known := s.hal.transfers.find? fun y => y.transfer == tr && y.claim == claim
  let x : BlkTransfer := known.getD
    { transfer := tr, target := payField p 0 1, total := 0, bytes := 0, packets := 0, failed := false, claim := claim }
  if x.failed && payField p 4 4 != 0 then s.refuseClaim else s.refuseClaim.blkFail port p x 1

/-- WRITE_BLOCK (R43, R222, R223): the part is stored, and only then are its credits freed. -/
def execWriteBlock (port : Fin 96) (pkt : Packet) (flashOk : Bool) (s : State) : Out :=
  .next ((if s.isTile && s.takes port.val pkt 4 1 then
    let s1 := s.noteClaim pkt.hdr.claim.toNat none
    if s1.fromWinner port.val pkt.hdr.claim.toNat then s1.blkPart port.val pkt flashOk else s1.blkRefuse port.val pkt
  else s).writeDone port.val pkt)

end Sys2Proof.Machine
end

