-- ==== Sys2Proof/Machine/Ready.lean ====
section
/-! DEFINITION. BUILD and READY (R17, R33, R38, R45, R50, R51): what the image sets, the stored settings (R398), and the retraining
of the endpoint. -/

namespace Sys2Proof.Machine

/-! ### What the image sets -/

/-- The code of a lane role in LANE_CFG. -/
def roleCode : LaneRole → Nat
  | .off => 0
  | .halyard => 1
  | .ethernet => 2
  | .nvme => 3

/-- LANE_CFG of a LANES record. -/
def laneCfgOf (r : LaneRec) : Nat :=
  roleCode r.role + r.rate.toNat * 2 ^ 2 + r.port.toNat * 2 ^ 5 + r.width.toNat * 2 ^ 12 + r.pos.toNat * 2 ^ 14 +
    r.txInv.toNat * 2 ^ 16 + r.rxInv.toNat * 2 ^ 17

/-- The lanes take their records; a lane with a role enters DETECT, or DISABLED where its port is held there, and any other stays OFF (R17,
R179). -/
def State.buildLanes (s : State) (ls : List LaneRec) : State :=
  let s1 := ls.zipIdx.foldl (fun t x => t.setReg (R.laneCfg x.2) (laneCfgOf x.1)) s
  (List.range ls.length).foldl (fun t l =>
    if t.laneRole l = 0 then t else t.enterLanes [l] (if s1.portDisabled (s1.portFirst l) then 1 else 2)) s1

/-- The PECK section and the default band width, in the shadows and in force (R18, R170). -/
def State.buildShadows (s : State) (b : ForjoBody) : State :=
  { s with regs := imageShadows b s.regs, active := imageShadows b s.active }

/-- The reset reaches and the thermal limits (R45, R361). -/
def State.buildLimits (s : State) (b : ForjoBody) : State :=
  let z := b.resets
  let reach := (List.range 23).foldl (fun v i => v + (z.fatalReach.getD (i + 1) 1 % 2) * 2 ^ (i + 1)) 0
  let t := b.thermal
  let policy := t.rise % 2 ^ 8 + t.releaseHold % 2 ^ 8 * 2 ^ 8 + t.feedGrace % 2 ^ 16 * 2 ^ 16 + t.tileGrace % 2 ^ 8 * 2 ^ 32
  let s1 := (s.setReg R.rstCfg (z.cmdReach % 2 + z.wdtPeriod % 256 * 256)).setReg R.rstFatalReach reach
  (s1.setReg R.thmLimits (t.warn % 256 + t.throttle % 256 * 256)).setReg R.thmPolicy policy

/-- A binding of TILES: its address is EXPECTED, and its origin stands in the shadow and in force (R231). -/
def State.buildBinding (s : State) (b : BindRec) : State :=
  let k := R.dscOrigin b.addr
  let v := b.originX % 2 ^ 15 + b.originY % 2 ^ 14 * 2 ^ 16 + 2 ^ 31
  let s1 := (s.setReg k v).setAct k v
  (s1.put (R.dscTopo b.addr) F.dscTopo_STATE 1).put (R.dscTopo b.addr) F.dscTopo_PARENT 0xFFF

/-- What a feed-personality image sets beside (R65, R69, R231). -/
def State.buildFeed (s : State) (b : ForjoBody) : State :=
  let s1 := (b.tiles.bindings.foldl State.buildBinding s).updateRole
  let s2 := if s1.isF && s1.hbmState != 0 then s1.hbmTo 1 else s1
  s2.ptpRestart.updateReference

/-- What a tile-personality image sets beside: the geometry, the lock threshold, REDUCED on pattern 0 (R77, R82), the reference. -/
def State.buildTile (s : State) (b : ForjoBody) : State :=
  let s1 := (s.put R.dscSelf F.dscSelf_WIDTH b.lampmap.width).put R.dscSelf F.dscSelf_HEIGHT b.lampmap.height
  let s2 := s1.put R.timeServoCfg F.timeServoCfg_LOCK_THRESH 2
  let s3 := if s2.isF && s2.hbmState != 0 then s2.hbmTo 2 else s2
  let s4 : State := { s3 with seq := { s3.seq with state := .reduced, pattern := 0, since := s3.clock.now } }
  s4.updateReference

/-- The code of a source in TOP_IMAGE_INFO. -/
def sourceCode : ImgSource → Nat
  | .slot0 => 1
  | .slot1 => 2
  | .pcie => 3

/-- TOP_IMAGE_INFO, TOP_IMAGE_GEN and TOP_STATUS.PERSONALITY of the image. -/
def State.showImage (s : State) (i : ForjoImage) : State :=
  let p := i.hdr.personality.toNat % 4
  let info := i.hdr.format.toNat + i.hdr.target.toNat % 4 * 2 ^ 16 + p * 2 ^ 18 + sourceCode s.ldr.source * 2 ^ 20
  ((s.setReg R.topImageInfo info).setReg R.topImageGen i.hdr.imageGen.toNat).put R.topStatus F.topStatus_PERSONALITY p

/-! ### Stored settings (R398) -/

/-- The pairs of a settings block written in order, without the offsets that the firmware's list of RW, non-shadowed registers lacks. -/
def State.applyPairs (s : State) (ps : List (Nat × Nat)) : State :=
  ps.foldl (fun t p => if Config.settable.contains p.1 && settableWord p.1 then t.busWrite p.1 p.2 .mp else t) s

/-- After BUILD the valid copy with the higher sequence number is applied, if its FORMAT major is the firmware's own, and index 4 is
measured (R393, R398). -/
def State.applySettings (s : State) : State :=
  let none_ := fun (t : State) => t.extend 4 (Config.sha384 (List.replicate 64 0))
  match s.flash.newestSettings with
  | none => none_ s
  | some n =>
    match s.flash.settings n with
    | none => none_ s
    | some b =>
      if b.format / 256 = Config.settingsFormat s.runningVersion / 256 then
        (s.applyPairs b.pairs).extend 4 (Config.settingsDigest b.pairs)
      else none_ (s.raise .sec 1 1)

/-! ### READY -/

/-- Firmware that started from a slot with PENDING set is confirmed (R391). -/
def State.confirmFirmware (s : State) : State :=
  let s1 : State := { s with boot := { s.boot with confirmed := true } }
  if s1.flash.fwPending && s1.flash.fwActive % 2 == s1.get R.secFwSlot F.secFwSlot_BOOTED then
    s1.setFlash { s1.flash with fwPending := false }
  else s1

/-- The loader is READY (R38). -/
def State.enterReady (s : State) : State :=
  let s1 : State := { s with ldr := { s.ldr with phase := .ready, cand := .erased, rebuild := false } }
  (s1.put R.topStatus F.topStatus_STATE 3).confirmFirmware

/-- A slot that a load has succeeded from is VALID (TOP_IMAGE_SLOT). -/
def State.validSource (s : State) : State :=
  let mark := fun (n : Nat) => ({ s with flash := { s.flash with fjValid := s.flash.fjValid.set n true } } : State).showImageSlots
  match s.ldr.source with
  | .slot0 => mark 0
  | .slot1 => mark 1
  | .pcie => s

/-- The BAR set at READY: all three in a feed unit, never announced in a tile (R50). -/
def State.announceReady (s : State) : State := s.announce (if s.isFeed then .all else .none)

/-- The endpoint when BUILD completes: after a LOAD_NOW the link goes down, to retrain in a feed unit; in a tile it stays down (R50,
R51). -/
def State.endpointReady (s : State) : State :=
  if s.ldr.loadNow then
    let s1 := s.endpointReset.announce .none
    let s2 := s1.imageStatus 2 1 0
    { s2 with ldr := { s2.ldr with loadNow := false, retrain := s2.isFeed } }
  else if s.isTile then s.endpointReset.announceReady
  else s.announceReady

/-- BUILD of a verified image (R33, R38). -/
def State.build (s : State) (i : ForjoImage) : State :=
  let kept := s.isF && s.ldr.source == .pcie
  let s0 : State := { s with ldr := { s.ldr with image := some i, retained := if kept then some i else s.ldr.retained } }
  let s1 := ((s0.showImage i).buildLanes i.body.lanes).buildShadows i.body |>.buildLimits i.body
  let s2 := (if s1.isTile then s1.buildTile i.body else s1.buildFeed i.body).applySettings
  let s3 := if s2.isTile then s2.calibrationCheck.lervisBuild.pwmFit else s2
  s3.validSource.enterReady.endpointReady

/-- IMAGE_BUILD_DONE (R38 to R40): READY after a load, or after the rebuild that follows a core reset. -/
def execImageBuildDone (s : State) : Out :=
  .next (if s.ldr.phase ≠ .build ∨ s.rst.inReset then s
  else if s.ldr.rebuild then s.enterReady
  else match slotForjo s.ldr.cand with
    | some i => s.build i
    | none => s)

/-- ENDPOINT_RETRAIN: 100 ms after the link was taken down, the endpoint may train with the BAR set of the new personality (R51). -/
def execEndpointRetrain (s : State) : Out :=
  .next (if s.ldr.retrain then ({ s with ldr := { s.ldr with retrain := false } } : State).announceReady else s)

end Sys2Proof.Machine
end

