-- ==== Sys2Proof/Machine/TileCompose.lean ====
section
/-! DEFINITION. The composition of a layer-mode tile (R151 to R153): list entries, fragments, and the slot picture of a quarter. -/

namespace Sys2Proof.Machine

/-- A composition list entry (R152). -/
structure Entry where
  layer : Nat
  en : Bool
  wspace : Bool
  cspace : Nat
  solid : Bool
  ga : Nat
  fade : Nat
  gen : Nat
  x : Int
  y : Int
  px : Nat
  py : Nat
  outW : Nat
  outH : Nat
  cx : Int
  cy : Int
  cw : Nat
  ch : Nat
  colour : Nat
  deriving DecidableEq, Repr

/-- The entry that 48 bytes spell. -/
def entryOf (b : List Nat) : Entry :=
  let f := fun o n => leVal ((b.drop o).take n)
  { layer := f 0 1 % 8, en := bitOf (f 0 1) 7, wspace := bitOf (f 1 1) 0, cspace := f 1 1 / 2 % 2, solid := bitOf (f 1 1) 2,
    ga := min 4096 (f 2 2), fade := min 4096 (f 4 2), gen := f 6 2, x := toSigned 16 (f 8 2), y := toSigned 16 (f 10 2), px := f 12 1,
    py := f 13 1, outW := f 16 2, outH := f 18 2, cx := toSigned 16 (f 20 2), cy := toSigned 16 (f 22 2), cw := f 24 2, ch := f 26 2,
    colour := f 28 8 }

/-- The fragment that an entry uses (R153): the one it names, else the last complete one of its layer. -/
def State.entryFragment (s : State) (e : Entry) : Option Fragment :=
  let mine := s.hold.frags.filter fun f => f.layer == e.layer
  match mine.find? fun f => f.gen == e.gen with
  | some f => some f
  | none => mine.getLast?

/-- A pixel of a fragment (R151). -/
def fragPix (f : Fragment) (codes : List Nat) (x y : Nat) : Pix :=
  let n := if f.alpha then 4 else 3
  let i := (y * f.width + x) * n
  let a := codes.getD (i + 3) 0
  { r := codes.getD i 0, g := codes.getD (i + 1) 0, b := codes.getD (i + 2) 0,
    a := if f.alpha then (if a = 4095 then 4096 else a) else 4096 }

/-- What an entry contributes to a lamp of the tile (R141, R152, R153); none where it does not cover the lamp or shows nothing. -/
def State.entryContribution (s : State) (rf : RegFile) (q : Nat) (e : Entry) (x y : Nat) : Option Contribution :=
  let i := (x : Int) - e.x
  let j := (y : Int) - e.y
  if e.en ∧ 0 ≤ i ∧ i < e.outW ∧ 0 ≤ j ∧ j < e.outH then
    let mk := fun (p : Pix) =>
      ({ alpha := effectiveAlpha p.a e.ga e.fade, s := p, linear := e.wspace, cspace := e.cspace, e := s.lutE q e.layer } : Contribution)
    if e.solid then
      some (mk { r := fieldGet e.colour F.cmpLayerFbcol_R, g := fieldGet e.colour F.cmpLayerFbcol_G,
                 b := fieldGet e.colour F.cmpLayerFbcol_B, a := 4096 })
    else
      (s.entryFragment e).map fun f =>
        let l := layerCfg rf q e.layer
        let hd : Dir := ⟨0, e.cw, e.outW, e.px, l.hTaps⟩
        let v := s.layerTaps rf l
        let vd : Dir := ⟨0, e.ch, e.outH, e.py, v⟩
        let codes := unpack12 f.pixels
        let at_ := fun (n : Nat) (c : Int) (v : Nat) => (clampInt 0 (n - 1 : Int) ((v : Int) + c)).toNat
        mk (scaleAt hd vd (s.coefs q l.hSet (hd.phase i.toNat) l.hTaps) (reduceTaps (s.coefs q l.vSet (vd.phase j.toNat) l.vTaps) v)
          (fun a b => fragPix f codes (at_ f.width e.cx a) (at_ f.height e.cy b)) i.toNat j.toNat)
  else none

/-- The canvas value of a lamp of a layer-mode tile (R153): the list's entries over the background, dithered in canvas coordinates. -/
def State.tileValue (s : State) (rf : RegFile) (es : List Entry) (frame slot q x y : Nat) : Rgb :=
  let c := canvasCfg rf
  let bg := c.bg.getD slot ⟨0, 0, 0⟩
  let acc := es.foldl (fun acc e =>
    match s.entryContribution rf q e x y with
    | some t => blend c.cspace (s.lutW q) t acc
    | none => acc) [(bg.r * 16 : Int), bg.g * 16, bg.b * 16]
  let o := s.dsc.origin.getD (0, 0)
  canvasRgb c.dither acc (o.1 + x) (o.2 + y) frame slot

/-- The slot picture under composition: that of the slot as it stands, black where none has been composed. -/
def State.picOf (s : State) (m : LampMap) (slot : Nat) : List Rgb :=
  match s.hold.pics.find? fun p => p.slot == slot with
  | some p => p.lamps
  | none => List.replicate (m.width * m.height) ⟨0, 0, 0⟩

/-- TILE_COMPOSE_START (R153): a quarter's lamps of the slot ahead; without any list for the slot its picture stays. -/
def State.tileCompose (s : State) (q : Nat) : State :=
  match s.lampMap, s.deadlineSlot with
  | some m, some (v, frame, k) =>
    let n := match v.pattern with
      | some p => frameAt v.origin p ((s.clock.now : Int) + 200000)
      | none => 0
    let back : Bool := match v.seq.interrupted with
      | some st => v.latchRule st n k
      | none => false
    match v.latches n k || back, s.listFor frame k with
    | true, some l =>
      let rf := v.cfgFor n
      let es := l.entries.map entryOf
      let mine := (s.lamps.filter fun a => a.channel / 128 == q)
      let lamps := mine.foldl (fun p a => p.set (a.y * m.width + a.x) (s.tileValue rf es frame k q a.x a.y)) (s.picOf m k)
      s.setPic { slot := k, frame := frame, lamps := lamps }
    | _, _ => s
  | _, _ => s

/-- TILE_COMPOSE_START (R153). -/
def execTileComposeStart (quarter : Fin 4) (s : State) : Out :=
  .next (if s.isTile && s.layerMode && !s.rst.inReset then s.tileCompose quarter.val else s)

end Sys2Proof.Machine
end

