-- ==== Sys2Proof/Machine/Dispatch.lean ====
section
/-! DEFINITION. Dispatch: one arm for each command, a direct call of its meaning. -/

namespace Sys2Proof.Machine

/-- The effect of a command on everything but the queue. -/
def exec (i : Instr) (s : State) : Host.Outcome State Fault Refusal :=
  match i with
  | .powerOnReset => Sys2Proof.Machine.execPowerOnReset s
  | .supplyLow rail => Sys2Proof.Machine.execSupplyLow rail s
  | .resetNAssert => Sys2Proof.Machine.execResetNAssert s
  | .resetNRelease => Sys2Proof.Machine.execResetNRelease s
  | .resetNDriveRelease => Sys2Proof.Machine.execResetNDriveRelease s
  | .resetEnd => Sys2Proof.Machine.execResetEnd s
  | .rstCmdWrite req value => Sys2Proof.Machine.execRstCmdWrite req value s
  | .tileCmdReset => Sys2Proof.Machine.execTileCmdReset s
  | .dbgReset => Sys2Proof.Machine.execDbgReset s
  | .wdtKick req value => Sys2Proof.Machine.execWdtKick req value s
  | .wdtWarn => Sys2Proof.Machine.execWdtWarn s
  | .wdtExpire => Sys2Proof.Machine.execWdtExpire s
  | .fatalEscalation => Sys2Proof.Machine.execFatalEscalation s
  | .firmwareFetchDone => Sys2Proof.Machine.execFirmwareFetchDone s
  | .firmwareFetchTimeout => Sys2Proof.Machine.execFirmwareFetchTimeout s
  | .fwVerify req value host => Sys2Proof.Machine.execFwVerify req value host s
  | .fwStage req value host => Sys2Proof.Machine.execFwStage req value host s
  | .fwRevert req value => Sys2Proof.Machine.execFwRevert req value s
  | .fwOperationDone flashOk => Sys2Proof.Machine.execFwOperationDone flashOk s
  | .headerStageDone => Sys2Proof.Machine.execHeaderStageDone s
  | .headerTimeout => Sys2Proof.Machine.execHeaderTimeout s
  | .imageFetchDone => Sys2Proof.Machine.execImageFetchDone s
  | .imageFetchTimeout => Sys2Proof.Machine.execImageFetchTimeout s
  | .imageBuildDone => Sys2Proof.Machine.execImageBuildDone s
  | .buildTimeout => Sys2Proof.Machine.execBuildTimeout s
  | .imageVerify req value host => Sys2Proof.Machine.execImageVerify req value host s
  | .imageStage req value host => Sys2Proof.Machine.execImageStage req value host s
  | .loadNow req value host => Sys2Proof.Machine.execLoadNow req value host s
  | .imageFlashWriteDone ok => Sys2Proof.Machine.execImageFlashWriteDone ok s
  | .endpointRetrain => Sys2Proof.Machine.execEndpointRetrain s
  | .hbmTrainingDone ok0 ok1 => Sys2Proof.Machine.execHbmTrainingDone ok0 ok1 s
  | .pePerstNAssert => Sys2Proof.Machine.execPePerstNAssert s
  | .pePerstNDeassert => Sys2Proof.Machine.execPePerstNDeassert s
  | .hotReset => Sys2Proof.Machine.execHotReset s
  | .hostLinkDown => Sys2Proof.Machine.execHostLinkDown s
  | .flr => Sys2Proof.Machine.execFlr s
  | .registerWrite req offset width value => Sys2Proof.Machine.execRegisterWrite req offset width value s
  | .multiwordWrite req offset values => Sys2Proof.Machine.execMultiwordWrite req offset values s
  | .multiwordLowRead req offset words => Sys2Proof.Machine.execMultiwordLowRead req offset words s
  | .readClear req offset width => Sys2Proof.Machine.execReadClear req offset width s
  | .unmappedBar0Access isWrite offset value => Sys2Proof.Machine.execUnmappedBar0Access isWrite offset value s
  | .bar2Access isWrite offset length data errors => Sys2Proof.Machine.execBar2Access isWrite offset length data errors s
  | .queueDoorbell queue index => Sys2Proof.Machine.execQueueDoorbell queue index s
  | .remoteWrite window offset value => Sys2Proof.Machine.execRemoteWrite window offset value s
  | .remoteRead window offset => Sys2Proof.Machine.execRemoteRead window offset s
  | .remoteReadTimeout window => Sys2Proof.Machine.execRemoteReadTimeout window s
  | .remoteSelWrite window value => Sys2Proof.Machine.execRemoteSelWrite window value s
  | .rdData port pkt => Sys2Proof.Machine.execRdData port pkt s
  | .wrAck port pkt => Sys2Proof.Machine.execWrAck port pkt s
  | .mbxSubmit req value => Sys2Proof.Machine.execMbxSubmit req value s
  | .mbxRelease req value => Sys2Proof.Machine.execMbxRelease req value s
  | .mbxCommandDone entry status data => Sys2Proof.Machine.execMbxCommandDone entry status data s
  | .mbxNop entry => Sys2Proof.Machine.execMbxNop entry s
  | .getFwInfo entry => Sys2Proof.Machine.execGetFwInfo entry s
  | .fwCommitSvn entry => Sys2Proof.Machine.execFwCommitSvn entry s
  | .settingsSave entry writeOk => Sys2Proof.Machine.execSettingsSave entry writeOk s
  | .settingsDefault entry => Sys2Proof.Machine.execSettingsDefault entry s
  | .doeObject protocol length object => Sys2Proof.Machine.execDoeObject protocol length object s
  | .doeAbort => Sys2Proof.Machine.execDoeAbort s
  | .getVersion via => Sys2Proof.Machine.execGetVersion via s
  | .getCapabilities via => Sys2Proof.Machine.execGetCapabilities via s
  | .negotiateAlgorithms via => Sys2Proof.Machine.execNegotiateAlgorithms via s
  | .getDigests via => Sys2Proof.Machine.execGetDigests via s
  | .getCertificate via slot => Sys2Proof.Machine.execGetCertificate via slot s
  | .challenge via nonce => Sys2Proof.Machine.execChallenge via nonce s
  | .getMeasurements via index signed => Sys2Proof.Machine.execGetMeasurements via index signed s
  | .spdmUnsupported via => Sys2Proof.Machine.execSpdmUnsupported via s
  | .spdmRelayGo req value => Sys2Proof.Machine.execSpdmRelayGo req value s
  | .spdmRelayTimeout => Sys2Proof.Machine.execSpdmRelayTimeout s
  | .spdmReq port pkt => Sys2Proof.Machine.execSpdmReq port pkt s
  | .spdmRsp port pkt => Sys2Proof.Machine.execSpdmRsp port pkt s
  | .topCommit req value => Sys2Proof.Machine.execTopCommit req value s
  | .commitChecksDone => Sys2Proof.Machine.execCommitChecksDone s
  | .commitApply => Sys2Proof.Machine.execCommitApply s
  | .shadowWrite req offset value => Sys2Proof.Machine.execShadowWrite req offset value s
  | .timeRefWrite req value => Sys2Proof.Machine.execTimeRefWrite req value s
  | .rearm req value => Sys2Proof.Machine.execRearm req value s
  | .rearmEffect => Sys2Proof.Machine.execRearmEffect s
  | .setGo req value => Sys2Proof.Machine.execSetGo req value s
  | .slewPpmWrite req value => Sys2Proof.Machine.execSlewPpmWrite req value s
  | .ptpCfgWrite req value => Sys2Proof.Machine.execPtpCfgWrite req value s
  | .alignOriginWrite req value => Sys2Proof.Machine.execAlignOriginWrite req value s
  | .timeModeCommit req value => Sys2Proof.Machine.execTimeModeCommit req value s
  | .modeChecksDone => Sys2Proof.Machine.execModeChecksDone s
  | .modeSwitch => Sys2Proof.Machine.execModeSwitch s
  | .ptpSync hdr twoStep seconds nanos correction => Sys2Proof.Machine.execPtpSync hdr twoStep seconds nanos correction s
  | .ptpFollowUp hdr seconds nanos correction => Sys2Proof.Machine.execPtpFollowUp hdr seconds nanos correction s
  | .ptpDelayResp hdr seconds nanos correction => Sys2Proof.Machine.execPtpDelayResp hdr seconds nanos correction s
  | .ptpAnnounce hdr data => Sys2Proof.Machine.execPtpAnnounce hdr data s
  | .ptpDelayReq portB => Sys2Proof.Machine.execPtpDelayReq portB s
  | .ptpAnnounceTimeout portB noSync => Sys2Proof.Machine.execPtpAnnounceTimeout portB noSync s
  | .frameInEdge rising widthNs => Sys2Proof.Machine.execFrameInEdge rising widthNs s
  | .ppsInEdge rising widthNs => Sys2Proof.Machine.execPpsInEdge rising widthNs s
  | .edgeTimeout => Sys2Proof.Machine.execEdgeTimeout s
  | .acquireTimeout => Sys2Proof.Machine.execAcquireTimeout s
  | .holdoverExpire => Sys2Proof.Machine.execHoldoverExpire s
  | .ensignSend => Sys2Proof.Machine.execEnsignSend s
  | .ensign port pkt => Sys2Proof.Machine.execEnsign port pkt s
  | .ensignTimeout => Sys2Proof.Machine.execEnsignTimeout s
  | .delayReqSend port => Sys2Proof.Machine.execDelayReqSend port s
  | .delayReq port pkt => Sys2Proof.Machine.execDelayReq port pkt s
  | .delayResp port pkt => Sys2Proof.Machine.execDelayResp port pkt s
  | .ppsOutPulse => Sys2Proof.Machine.execPpsOutPulse s
  | .ppsOutEnd => Sys2Proof.Machine.execPpsOutEnd s
  | .slotBoundary sag => Sys2Proof.Machine.execSlotBoundary sag s
  | .windowStart => Sys2Proof.Machine.execWindowStart s
  | .pennantCopy => Sys2Proof.Machine.execPennantCopy s
  | .pennantCommit port pkt => Sys2Proof.Machine.execPennantCommit port pkt s
  | .pennantMode port pkt => Sys2Proof.Machine.execPennantMode port pkt s
  | .pennantCap port pkt => Sys2Proof.Machine.execPennantCap port pkt s
  | .pennantCapRepeat => Sys2Proof.Machine.execPennantCapRepeat s
  | .ethernetFrame port frame => Sys2Proof.Machine.execEthernetFrame port frame s
  | .mergeWinExpire source => Sys2Proof.Machine.execMergeWinExpire source s
  | .sourceLossTimeout source => Sys2Proof.Machine.execSourceLossTimeout source s
  | .pathLossTimeout source path => Sys2Proof.Machine.execPathLossTimeout source path s
  | .bindingInstant => Sys2Proof.Machine.execBindingInstant s
  | .frameFence req source value => Sys2Proof.Machine.execFrameFence req source value s
  | .filterEnable req filter value => Sys2Proof.Machine.execFilterEnable req filter value s
  | .membershipRepeat port => Sys2Proof.Machine.execMembershipRepeat port s
  | .trigSwPulse req value => Sys2Proof.Machine.execTrigSwPulse req value s
  | .hbmPowerDown => Sys2Proof.Machine.execHbmPowerDown s
  | .hbmSelfRefresh => Sys2Proof.Machine.execHbmSelfRefresh s
  | .hbmWake fall => Sys2Proof.Machine.execHbmWake fall s
  | .queueEnable req value => Sys2Proof.Machine.execQueueEnable req value s
  | .queueDisable req value => Sys2Proof.Machine.execQueueDisable req value s
  | .queueDisableDone queue => Sys2Proof.Machine.execQueueDisableDone queue s
  | .qmConsume req value => Sys2Proof.Machine.execQmConsume req value s
  | .producerRetry queue => Sys2Proof.Machine.execProducerRetry queue s
  | .dmaRun req channel value => Sys2Proof.Machine.execDmaRun req channel value s
  | .dmaStop req channel value => Sys2Proof.Machine.execDmaStop req channel value s
  | .dmaReset req channel value => Sys2Proof.Machine.execDmaReset req channel value s
  | .dmaResetSkip req channel value => Sys2Proof.Machine.execDmaResetSkip req channel value s
  | .descriptorFetchDone channel hostData => Sys2Proof.Machine.execDescriptorFetchDone channel hostData s
  | .descriptorFetchTimeout channel => Sys2Proof.Machine.execDescriptorFetchTimeout channel s
  | .burstIssue channel => Sys2Proof.Machine.execBurstIssue channel s
  | .burstComplete channel hostData => Sys2Proof.Machine.execBurstComplete channel hostData s
  | .readbackReturn channel => Sys2Proof.Machine.execReadbackReturn channel s
  | .readbackTimeout channel => Sys2Proof.Machine.execReadbackTimeout channel s
  | .dmaErrorResponse channel write ecc address => Sys2Proof.Machine.execDmaErrorResponse channel write ecc address s
  | .drqAssert line asserted => Sys2Proof.Machine.execDrqAssert line asserted s
  | .bandStart quarter under errors => Sys2Proof.Machine.execBandStart quarter under errors s
  | .bandDeadline band row => Sys2Proof.Machine.execBandDeadline band row s
  | .writebackDone late => Sys2Proof.Machine.execWritebackDone late s
  | .cmpLutWrite req quarter layer entry value => Sys2Proof.Machine.execCmpLutWrite req quarter layer entry value s
  | .sclCoefWrite req quarter set_ phase tap value => Sys2Proof.Machine.execSclCoefWrite req quarter set_ phase tap value s
  | .tileComposeStart quarter => Sys2Proof.Machine.execTileComposeStart quarter s
  | .detectPoll port present => Sys2Proof.Machine.execDetectPoll port present s
  | .trainDone port foms ffe => Sys2Proof.Machine.execTrainDone port foms ffe s
  | .trainTimeout port => Sys2Proof.Machine.execTrainTimeout port s
  | .lockDone port positions => Sys2Proof.Machine.execLockDone port positions s
  | .lockTimeout port missing => Sys2Proof.Machine.execLockTimeout port missing s
  | .capsRecord port record acked => Sys2Proof.Machine.execCapsRecord port record acked s
  | .capsTimeout port => Sys2Proof.Machine.execCapsTimeout port s
  | .holdoffExpire port => Sys2Proof.Machine.execHoldoffExpire port s
  | .laneRetrain req lane value => Sys2Proof.Machine.execLaneRetrain req lane value s
  | .laneDisable req lane value => Sys2Proof.Machine.execLaneDisable req lane value s
  | .adaptFreeze req lane value => Sys2Proof.Machine.execAdaptFreeze req lane value s
  | .signalLost lane => Sys2Proof.Machine.execSignalLost lane s
  | .blockLockLost lane => Sys2Proof.Machine.execBlockLockLost lane s
  | .fecLockLost lane => Sys2Proof.Machine.execFecLockLost lane s
  | .highSer lane => Sys2Proof.Machine.execHighSer lane s
  | .refclkLost ref => Sys2Proof.Machine.execRefclkLost ref s
  | .refclkValid ref => Sys2Proof.Machine.execRefclkValid ref s
  | .fomMeasure lane width height bits errors => Sys2Proof.Machine.execFomMeasure lane width height bits errors s
  | .eqUpdate lane ctle taps request => Sys2Proof.Machine.execEqUpdate lane ctle taps request s
  | .amBlock lane block corrected uncorrectable request => Sys2Proof.Machine.execAmBlock lane block corrected uncorrectable request s
  | .laneTestEnable req lane value => Sys2Proof.Machine.execLaneTestEnable req lane value s
  | .testEntry lane => Sys2Proof.Machine.execTestEntry lane s
  | .testExit req lane value => Sys2Proof.Machine.execTestExit req lane value s
  | .testTimeout lane => Sys2Proof.Machine.execTestTimeout lane s
  | .inject req lane value => Sys2Proof.Machine.execInject req lane value s
  | .slip req lane value => Sys2Proof.Machine.execSlip req lane value s
  | .prbsClear req lane value => Sys2Proof.Machine.execPrbsClear req lane value s
  | .standardLinkUp lane rate width => Sys2Proof.Machine.execStandardLinkUp lane rate width s
  | .standardLinkFail lane recovery => Sys2Proof.Machine.execStandardLinkFail lane recovery s
  | .creditBlock port counts crc => Sys2Proof.Machine.execCreditBlock port counts crc s
  | .creditBlockSend port => Sys2Proof.Machine.execCreditBlockSend port s
  | .packetReceive port lanes => Sys2Proof.Machine.execPacketReceive port lanes s
  | .creditHeldForward port => Sys2Proof.Machine.execCreditHeldForward port s
  | .egressNext port => Sys2Proof.Machine.execEgressNext port s
  | .creditStall port blk => Sys2Proof.Machine.execCreditStall port blk s
  | .pixSend port => Sys2Proof.Machine.execPixSend port s
  | .slice port pkt => Sys2Proof.Machine.execSlice port pkt s
  | .fragment port pkt => Sys2Proof.Machine.execFragment port pkt s
  | .list port pkt => Sys2Proof.Machine.execList port pkt s
  | .digest port pkt => Sys2Proof.Machine.execDigest port pkt s
  | .digestMissing port frame => Sys2Proof.Machine.execDigestMissing port frame s
  | .sliceDeadline => Sys2Proof.Machine.execSliceDeadline s
  | .read port pkt => Sys2Proof.Machine.execRead port pkt s
  | .write port pkt => Sys2Proof.Machine.execWrite port pkt s
  | .writeBlock port pkt flashOk => Sys2Proof.Machine.execWriteBlock port pkt flashOk s
  | .blkAck port pkt => Sys2Proof.Machine.execBlkAck port pkt s
  | .event port pkt => Sys2Proof.Machine.execEvent port pkt s
  | .heatReq port pkt => Sys2Proof.Machine.execHeatReq port pkt s
  | .dscWalkPort req value => Sys2Proof.Machine.execDscWalkPort req value s
  | .dscWalkAll req value => Sys2Proof.Machine.execDscWalkAll req value s
  | .dscRelease req value => Sys2Proof.Machine.execDscRelease req value s
  | .walkHoldExpire port => Sys2Proof.Machine.execWalkHoldExpire port s
  | .walkQuiet port => Sys2Proof.Machine.execWalkQuiet port s
  | .walkTimeout port => Sys2Proof.Machine.execWalkTimeout port s
  | .walk port pkt => Sys2Proof.Machine.execWalk port pkt s
  | .answer port pkt => Sys2Proof.Machine.execAnswer port pkt s
  | .assign port pkt => Sys2Proof.Machine.execAssign port pkt s
  | .admitTile port pkt => Sys2Proof.Machine.execAdmitTile port pkt s
  | .assignRetry address => Sys2Proof.Machine.execAssignRetry address s
  | .tileDetailsRead address self peer peerInfo laneCfg => Sys2Proof.Machine.execTileDetailsRead address self peer peerInfo laneCfg s
  | .correctionStart quarter ecc errors => Sys2Proof.Machine.execCorrectionStart quarter ecc errors s
  | .boardSensorPoll readings => Sys2Proof.Machine.execBoardSensorPoll readings s
  | .lightSensorLoop readings => Sys2Proof.Machine.execLightSensorLoop readings s
  | .lampRecordWrite req quarter word value => Sys2Proof.Machine.execLampRecordWrite req quarter word value s
  | .corEotfWrite req bank colour entry value => Sys2Proof.Machine.execCorEotfWrite req bank colour entry value s
  | .calApply req value => Sys2Proof.Machine.execCalApply req value s
  | .calApplyDone => Sys2Proof.Machine.execCalApplyDone s
  | .i2cTransaction answer => Sys2Proof.Machine.execI2cTransaction answer s
  | .lampHeatReq => Sys2Proof.Machine.execLampHeatReq s
  | .heatGraceExpire => Sys2Proof.Machine.execHeatGraceExpire s
  | .transferStart quarter late blocked => Sys2Proof.Machine.execTransferStart quarter late blocked s
  | .wrGray group => Sys2Proof.Machine.execWrGray group s
  | .wrCfg group => Sys2Proof.Machine.execWrCfg group s
  | .statusScanDone group delay records => Sys2Proof.Machine.execStatusScanDone group delay records s
  | .cfgFailed group => Sys2Proof.Machine.execCfgFailed group s
  | .bankSupplyChange quarter volts => Sys2Proof.Machine.execBankSupplyChange quarter volts s
  | .bankSupplyValid quarter => Sys2Proof.Machine.execBankSupplyValid quarter s
  | .forceBlank req value => Sys2Proof.Machine.execForceBlank req value s
  | .rescan req value => Sys2Proof.Machine.execRescan req value s
  | .lmpClkWrite req value => Sys2Proof.Machine.execLmpClkWrite req value s
  | .strikeClear req value => Sys2Proof.Machine.execStrikeClear req value s
  | .clearAll req value => Sys2Proof.Machine.execClearAll req value s
  | .clearOne req value => Sys2Proof.Machine.execClearOne req value s
  | .sagLoopEnable req value => Sys2Proof.Machine.execSagLoopEnable req value s
  | .claimCfgWrite req value => Sys2Proof.Machine.execClaimCfgWrite req value s
  | .takeover => Sys2Proof.Machine.execTakeover s
  | .portPartnerLost port => Sys2Proof.Machine.execPortPartnerLost port s
  | .claimAgeOut claim => Sys2Proof.Machine.execClaimAgeOut claim s
  | .accessUnit stream au => Sys2Proof.Machine.execAccessUnit stream au s
  | .encodeStart stream => Sys2Proof.Machine.execEncodeStart stream s
  | .encodeDone stream pic => Sys2Proof.Machine.execEncodeDone stream pic s
  | .encodeDeadline stream => Sys2Proof.Machine.execEncodeDeadline stream s
  | .idrRequest req stream value => Sys2Proof.Machine.execIdrRequest req stream value s
  | .nvmeDriveInit port drive => Sys2Proof.Machine.execNvmeDriveInit port drive s
  | .nvmeCompletion port command ok warning => Sys2Proof.Machine.execNvmeCompletion port command ok warning s
  | .driveTimeout port => Sys2Proof.Machine.execDriveTimeout port s
  | .nvmeFlush port => Sys2Proof.Machine.execNvmeFlush port s
  | .smartPoll port => Sys2Proof.Machine.execSmartPoll port s
  | .labelSave port => Sys2Proof.Machine.execLabelSave port s
  | .clpCreate req value => Sys2Proof.Machine.execClpCreate req value s
  | .clpDelete req value => Sys2Proof.Machine.execClpDelete req value s
  | .clpFormat req value => Sys2Proof.Machine.execClpFormat req value s
  | .recordAppend stream writeOk => Sys2Proof.Machine.execRecordAppend stream writeOk s
  | .playEntry queue records => Sys2Proof.Machine.execPlayEntry queue records s
  | .playDeliver stream => Sys2Proof.Machine.execPlayDeliver stream s
  | .refmodeWrite req port value => Sys2Proof.Machine.execRefmodeWrite req port value s
  | .sensorSample counts => Sys2Proof.Machine.execSensorSample counts s
  | .shutdownRelease => Sys2Proof.Machine.execShutdownRelease s
  | .shedStep => Sys2Proof.Machine.execShedStep s
  | .throttleRelease => Sys2Proof.Machine.execThrottleRelease s
  | .shedWithdraw => Sys2Proof.Machine.execShedWithdraw s
  | .dieHeatReq => Sys2Proof.Machine.execDieHeatReq s
  | .heatReqAge address => Sys2Proof.Machine.execHeatReqAge address s
  | .capRaise zone => Sys2Proof.Machine.execCapRaise zone s
  | .capCommand req value => Sys2Proof.Machine.execCapCommand req value s
  | .droopDetect millivolts => Sys2Proof.Machine.execDroopDetect millivolts s
  | .stretchEnd => Sys2Proof.Machine.execStretchEnd s
  | .stretchDuty duty => Sys2Proof.Machine.execStretchDuty duty s
  | .avsUpdate margins acked readback => Sys2Proof.Machine.execAvsUpdate margins acked readback s
  | .eventRecordLanded => Sys2Proof.Machine.execEventRecordLanded s
  | .coalesceExpire ring => Sys2Proof.Machine.execCoalesceExpire ring s
  | .captureAck slot value => Sys2Proof.Machine.execCaptureAck slot value s
  | .evtRingBindWrite req ring value => Sys2Proof.Machine.execEvtRingBindWrite req ring value s
  | .upstreamEventSend => Sys2Proof.Machine.execUpstreamEventSend s
  | .supplyRelease rail => Sys2Proof.Machine.execSupplyRelease rail s
  | .pwrRelease => Sys2Proof.Machine.execPwrRelease s
  | .resetNFollow low => Sys2Proof.Machine.execResetNFollow low s
  | .hostLinkUp rate width flit => Sys2Proof.Machine.execHostLinkUp rate width flit s
  | .configurationRequest maxPayload => Sys2Proof.Machine.execConfigurationRequest maxPayload s
  | .broadcastWriteTimeout window => Sys2Proof.Machine.execBroadcastWriteTimeout window s
  | .capsSend port => Sys2Proof.Machine.execCapsSend port s
  | .checkerLock lane => Sys2Proof.Machine.execCheckerLock lane s
  | .checkerLockLost lane => Sys2Proof.Machine.execCheckerLockLost lane s
  | .controllerResetDone port ok => Sys2Proof.Machine.execControllerResetDone port ok s

end Sys2Proof.Machine
end

