-- ==== Sys2Proof/Safety.lean ====
section
/-! DEFINITION. What every run keeps, and how a claim says what a command leaves alone: the canonical forms of the sparse maps of the
state, the parts of the state, and frames. -/

namespace Sys2Proof.Machine

/-- The device memory, the register file and the values in force stand in their canonical form: addresses strictly rising, and no
entry equal to what an unlisted address reads as. Equal contents are then equal data. -/
abbrev State.Canonical (s : State) : Prop :=
  memWf s.mem = true ∧ sWf regReset s.regs = true ∧ sWf regReset s.active = true

/-- The parts of the state beside the register file: the fields of State; of the reset control the FATAL events that wait are a part
of their own, and of the endpoint the MSI-X messages sent. -/
inductive Part where
  | pending | active | shWritten | freeCount | fuses | flash | rst | fatals | boot | ldr | bus | evt | hif | msix | mbx
  | spdm | clock | queues | mem | time | seq | pen | ing | dma | qmCache | qmWait | cmp | lan | hal | pix | dsc | hold
  | cor | lmp | red | clp | cdc | thm | pwr
  deriving DecidableEq, Repr

/-- Two states agree on a part. -/
def State.agree (s t : State) (p : Part) : Prop :=
  match p with
  | .pending => t.pending = s.pending
  | .active => t.active = s.active
  | .shWritten => t.shWritten = s.shWritten
  | .freeCount => t.freeCount = s.freeCount
  | .fuses => t.fuses = s.fuses
  | .flash => t.flash = s.flash
  | .rst => { t.rst with fatals := [] } = { s.rst with fatals := [] }
  | .fatals => t.rst.fatals = s.rst.fatals
  | .boot => t.boot = s.boot
  | .ldr => t.ldr = s.ldr
  | .bus => t.bus = s.bus
  | .evt => t.evt = s.evt
  | .hif => { t.hif with msix := [] } = { s.hif with msix := [] }
  | .msix => t.hif.msix = s.hif.msix
  | .mbx => t.mbx = s.mbx
  | .spdm => t.spdm = s.spdm
  | .clock => t.clock = s.clock
  | .queues => t.queues = s.queues
  | .mem => t.mem = s.mem
  | .time => t.time = s.time
  | .seq => t.seq = s.seq
  | .pen => t.pen = s.pen
  | .ing => t.ing = s.ing
  | .dma => t.dma = s.dma
  | .qmCache => t.qmCache = s.qmCache
  | .qmWait => t.qmWait = s.qmWait
  | .cmp => t.cmp = s.cmp
  | .lan => t.lan = s.lan
  | .hal => t.hal = s.hal
  | .pix => t.pix = s.pix
  | .dsc => t.dsc = s.dsc
  | .hold => t.hold = s.hold
  | .cor => t.cor = s.cor
  | .lmp => t.lmp = s.lmp
  | .red => t.red = s.red
  | .clp => t.clp = s.clp
  | .cdc => t.cdc = s.cdc
  | .thm => t.thm = s.thm
  | .pwr => t.pwr = s.pwr

/-- The parts that raising an event may change (R401, R406 to R414): the delivery of events, the MSI-X messages sent, and the FATAL events
that wait for their reset pulse. -/
def evtParts : List Part := [.evt, .msix, .fatals]

/-- The registers that raising an event may change: those of EVT, and the pending bits of MSI-X. -/
def eventReg (k : Nat) : Bool := decide (0x50000 ≤ k ∧ k < 0x60000) || decide (0x77000 ≤ k ∧ k < 0x78000)

/-- From `s` to `t` only the parts `ps` and the registers `ks` may have changed; with the part evt also the registers that events
change. Every other part, and every other register, is as before. -/
def State.Frame (s t : State) (ps : List Part) (ks : List Nat) : Prop :=
  (∀ p, p ∉ ps → s.agree t p) ∧ ∀ k, k ∉ ks → (Part.evt ∈ ps → eventReg k = false) → t.reg k = s.reg k

/-- What a packet at an egress is told by: a packet of class TIM takes stamps into its payload as it leaves (R74, R216, R217), so the payload of
such a one is left out. -/
def pktMark (p : Packet) : Packet := if p.hdr.cls.toNat = 2 then { p with payload := [] } else p

/-- The packets that stand at the egresses, by port, oldest first. -/
def State.egress (s : State) : List (Nat × Packet) := s.hal.queue.map fun q => (q.port, pktMark q.pkt)

/-- From `s` to `t` exactly these packets were put at egresses, in order; one that may not stand there is discarded (R205, R439). -/
def State.Sends (s t : State) (l : List (Nat × Packet)) : Prop :=
  t.egress = s.egress ++ (l.filter fun e => s.carries e.1 e.2).map fun e => (e.1, pktMark e.2)

/-- The parts that sending may change: the ports, and, where a packet of class TIM leaves at once, the delay exchange under way and the
count of free values. -/
def sendParts : List Part := [.hal, .time, .freeCount]

/-- The registers that sending may change: the credits of every port (HAL_PORT_CREDIT). -/
def creditRegs : List Nat := (List.range 96).map R.halPortCredit

end Sys2Proof.Machine
end

