-- ==== Sys2Proof/Certificates/Slice0/Obligations.lean ====
section
/-! DEFINITION. What the model is claimed to do: the statements for the provers, by chapter of the spec. -/

open Sys2Proof Sys2Proof.Machine

/-- A step takes the command at the front of the queue and runs it on the state with the rest of the queue (log entry 1). -/
def Obligations.StepRunsTheOldestCommand : Prop :=
  ∀ (c : Instr) (rest : List Instr) (s : State), s.pending = c :: rest → step s = exec c { s with pending := rest }

/-- On an empty queue one cycle of the time counter's clock passes: TIME_ADDEND is added (R62), and nothing else changes (R27). That the step on an empty queue is that
cycle is the model's choice (log entry 1). -/
def Obligations.IdleStepCountsTime : Prop :=
  (∀ s : State, s.pending = [] → s.clock.running = true →
    ∃ t, step s = .next t ∧ s.Frame t [.clock] [] ∧ t.clock.running = true ∧ t.clock.frac < 2 ^ 32 ∧
      t.clock.now * 2 ^ 32 + t.clock.frac = s.clock.now * 2 ^ 32 + s.clock.frac + s.reg R.timeAddend) ∧
  (∀ s : State, s.pending = [] → s.clock.running = false → step s = .next s)

/-- No command stops the block, whatever the state. -/
def Obligations.EveryCommandAnswersANextState : Prop := ∀ (c : Instr) (s : State), ∃ t, exec c s = .next t

/-- The canonical forms hold after reset. -/
def Obligations.ResetIsCanonical : Prop := State.reset.Canonical

/-- Every step keeps the canonical forms of the device memory, the register file and the values in force. -/
def Obligations.StepKeepsCanonicalForms : Prop :=
  ∀ s t : State, s.Canonical → step s = .next t → t.Canonical

/-- The fused floor can only rise, stays within 0 to 63, and rises only by FW_COMMIT_SVN; every other fuse keeps its value (R392). -/
def Obligations.FloorOnlyRises : Prop :=
  ∀ s t : State, s.fuses.svnFloor ≤ 63 → step s = .next t →
    s.fuses.svnFloor ≤ t.fuses.svnFloor ∧ t.fuses.svnFloor ≤ 63 ∧ t.fuses = { s.fuses with svnFloor := t.fuses.svnFloor } ∧
    (t.fuses.svnFloor ≠ s.fuses.svnFloor → ∃ e rest, s.pending = .fwCommitSvn e :: rest)

/-- A command's effect is on everything but the queue, and the counter of free values never falls (log entries 1 and 3). -/
def Obligations.CommandsLeaveTheQueue : Prop :=
  ∀ (c : Instr) (s t : State), exec c s = .next t → t.pending = s.pending ∧ s.freeCount ≤ t.freeCount

/-- Narrow accesses of BAR0 (R9). -/
def Obligations.NarrowAccesses : Prop :=
  (∀ (req : Requester) (off : BitVec 26) (w : AccessWidth) (v : Word) (s : State), w ≠ .word → s.mayWrite req = true →
    exec (.registerWrite req off w v) s = .next s) ∧
  (∀ (req : Requester) (off : BitVec 26) (s : State), remoteAt off.toNat = none → s.mayRead req = true →
    ∃ u t, exec (.readClear req off .word) s = .next u ∧ exec (.readClear req off .byte) s = .next t ∧
      t.bus.answer.of req = u.bus.answer.of req / 2 ^ (8 * (off.toNat % 4)) % 2 ^ 8 ∧ t.regs = u.regs) ∧
  (∀ (req : Requester) (off : BitVec 26) (s : State), remoteAt off.toNat = none → s.mayRead req = true →
    ∃ u t, exec (.readClear req off .word) s = .next u ∧ exec (.readClear req off .half) s = .next t ∧
      t.bus.answer.of req = u.bus.answer.of req / 2 ^ (8 * (off.toNat % 4)) % 2 ^ 16 ∧ t.regs = u.regs)

/-- Writes of plain registers (R12, R13, R15) and of shadowed ones (R157), shown on CMP_CANVAS_SIZE. -/
def Obligations.RegisterWrites : Prop :=
  (∀ (req : Requester) (i : Nat) (v : Word) (s : State), i < 16 → s.live .mbx = true → s.mayWrite req = true →
      (s.isTile = true → req ≠ .mp) →
    ∃ t, exec (.registerWrite req (BitVec.ofNat 26 (R.mbxCmd i)) .word v) s = .next t ∧ t.get (R.mbxCmd i) ⟨0, 32⟩ = v.toNat ∧
      s.Frame t [] [R.mbxCmd i]) ∧
  (∀ (req : Requester) (i : Nat) (v : Word) (s : State), i < 16 → s.live .mbx = false → s.mayWrite req = true →
    exec (.registerWrite req (BitVec.ofNat 26 (R.mbxCmd i)) .word v) s = .next s) ∧
  (∀ (req : Requester) (b : Nat) (v : Word) (s : State), b < 23 → s.live .evt = true → s.mayWrite req = true →
    ∃ t, exec (.registerWrite req (BitVec.ofNat 26 (R.evtRoute b)) .word v) s = .next t ∧ s.Frame t [] [R.evtRoute b] ∧
      t.get (R.evtRoute b) F.evtRoute_LOW_RING = fieldGet v.toNat F.evtRoute_LOW_RING ∧
      t.get (R.evtRoute b) F.evtRoute_LOW_EN = fieldGet v.toNat F.evtRoute_LOW_EN ∧
      t.get (R.evtRoute b) F.evtRoute_HIGH_RING = fieldGet v.toNat F.evtRoute_HIGH_RING ∧
      t.get (R.evtRoute b) F.evtRoute_HIGH_EN = fieldGet v.toNat F.evtRoute_HIGH_EN) ∧
  (∀ (req : Requester) (v : Word) (s : State), s.mayWrite req = true →
    ∃ t, exec (.registerWrite req (BitVec.ofNat 26 R.topId) .word v) s = .next t ∧ s.Frame t [] []) ∧
  (∀ (req : Requester) (v : Word) (s : State), s.mayWrite req = true → exec (.registerWrite req 0x10#26 .word v) s = .next s) ∧
  (∀ (req : Requester) (v : Word) (s : State), s.mayWrite req = true → s.live .cmp = true → s.committing = false →
    ∃ t, exec (.shadowWrite req (BitVec.ofNat 26 R.cmpCanvasSize) v) s = .next t ∧ s.Frame t [.shWritten] [R.cmpCanvasSize] ∧
      t.get R.cmpCanvasSize F.cmpCanvasSize_W = fieldGet v.toNat F.cmpCanvasSize_W ∧
      t.get R.cmpCanvasSize F.cmpCanvasSize_H = fieldGet v.toNat F.cmpCanvasSize_H ∧ R.cmpCanvasSize ∈ t.shWritten) ∧
  (∀ (req : Requester) (v : Word) (s : State), s.mayWrite req = true → s.live .cmp = true → s.committing = true →
    exec (.shadowWrite req (BitVec.ofNat 26 R.cmpCanvasSize) v) s =
      .next (s.raise .cmp 0 1 0 [R.cmpCanvasSize, v.toNat, reqCode req]))

/-- Held-off blocks (R15). -/
def Obligations.HeldOffBlocks : Prop :=
  (∀ (req : Requester) (off : BitVec 26) (w : AccessWidth) (v : Word) (s : State), remoteAt off.toNat = none →
      s.mayWrite req = true → s.mayRead req = true →
      (∃ h, storeWord (off.toNat / 4 * 4) = none ∧ regAt (off.toNat / 4 * 4) = some h ∧ s.live h.spec.block = false) ∨
        (storeWord (off.toNat / 4 * 4) ≠ none ∧ s.live .cor = false) →
    exec (.registerWrite req off w v) s = .next s ∧ exec (.multiwordWrite req off [v]) s = .next s ∧
    exec (.shadowWrite req off v) s = .next s ∧
    (∃ t, exec (.multiwordLowRead req off 0) s = .next t ∧ s.Frame t [.bus] [] ∧ t.bus.answer.of req = 0 ∧ t.bus.latch = s.bus.latch) ∧
    (∃ t, exec (.readClear req off w) s = .next t ∧ s.Frame t [.bus] [] ∧ t.bus.answer.of req = 0 ∧ t.bus.latch = s.bus.latch)) ∧
  (∀ (req : Requester) (v : Word) (s : State), s.mayWrite req = true →
    (s.live .mbx = false → exec (.mbxSubmit req v) s = .next s ∧ exec (.mbxRelease req v) s = .next s) ∧
    (s.live .qm = false → exec (.queueEnable req v) s = .next s ∧ exec (.queueDisable req v) s = .next s ∧
      (∀ x, exec (.qmConsume req x) s = .next s) ∧ ∀ q, exec (.queueDoorbell q v) s = .next s) ∧
    (s.live .dma = false → exec (.trigSwPulse req v) s = .next s ∧ ∀ c, exec (.dmaRun req c v) s = .next s ∧
      exec (.dmaStop req c v) s = .next s ∧ exec (.dmaReset req c v) s = .next s ∧ exec (.dmaResetSkip req c v) s = .next s) ∧
    (s.live .ing = false → (∀ i, exec (.frameFence req i v) s = .next s) ∧ ∀ f, exec (.filterEnable req f v) s = .next s) ∧
    (s.live .cmp = false → ∀ q l e, exec (.cmpLutWrite req q l e v) s = .next s) ∧
    (s.live .scl = false → ∀ q k p x, exec (.sclCoefWrite req q k p x v) s = .next s) ∧
    (s.live .cor = false → exec (.calApply req v) s = .next s ∧ (∀ q w, exec (.lampRecordWrite req q w v) s = .next s) ∧
      ∀ b c e, exec (.corEotfWrite req b c e v) s = .next s) ∧
    (s.live .lmp = false → exec (.forceBlank req v) s = .next s ∧ exec (.rescan req v) s = .next s ∧ exec (.lmpClkWrite req v) s = .next s ∧
      exec (.strikeClear req v) s = .next s ∧ exec (.clearAll req v) s = .next s ∧ exec (.clearOne req v) s = .next s ∧
      exec (.sagLoopEnable req v) s = .next s) ∧
    (s.live .cdc = false → ∀ e, exec (.idrRequest req e v) s = .next s) ∧
    (s.live .clp = false → exec (.clpCreate req v) s = .next s ∧ exec (.clpDelete req v) s = .next s ∧ exec (.clpFormat req v) s = .next s ∧
      ∀ p, exec (.refmodeWrite req p v) s = .next s))

/-- Registers of several words (R10, R11, R54): staged writes, shown on TOP_IMAGE_LOAD_ADDR, and latched reads. -/
def Obligations.MultiwordRegisters : Prop :=
  (∀ (req : Requester) (v : Word) (s : State), s.mayWrite req = true →
    ∃ t, exec (.multiwordWrite req (BitVec.ofNat 26 R.topImageLoadAddr) [v]) s = .next t ∧ s.Frame t [.bus] [] ∧
      (t.bus.staging.of req).key = R.topImageLoadAddr ∧ (0, v.toNat) ∈ (t.bus.staging.of req).words ∧ t.bus.latch = s.bus.latch ∧
      t.bus.answer = s.bus.answer) ∧
  (∀ (req : Requester) (lo : Nat) (v : Word) (s : State), s.mayWrite req = true → s.isTile = false →
      s.bus.staging.of req = ⟨R.topImageLoadAddr, [(0, lo)]⟩ →
    ∃ t, exec (.multiwordWrite req (BitVec.ofNat 26 (R.topImageLoadAddr + 4)) [v]) s = .next t ∧ s.Frame t [.bus] [R.topImageLoadAddr] ∧
      t.bus.staging.of req = ⟨0, []⟩ ∧
      t.get R.topImageLoadAddr F.topImageLoadAddr_ADDR = (lo % 2 ^ 32 + v.toNat * 2 ^ 32) / 2 ^ 6) ∧
  (∀ (req : Requester) (lo hi : Word) (s : State), s.mayWrite req = true → s.isTile = false → s.bus.staging.of req = ⟨0, []⟩ →
    ∃ t, exec (.multiwordWrite req (BitVec.ofNat 26 R.topImageLoadAddr) [lo, hi]) s = .next t ∧ s.Frame t [.bus] [R.topImageLoadAddr] ∧
      t.bus.staging.of req = ⟨0, []⟩ ∧
      t.get R.topImageLoadAddr F.topImageLoadAddr_ADDR = (lo.toNat + hi.toNat * 2 ^ 32) / 2 ^ 6) ∧
  (∀ (req : Requester) (v : Word) (s : State), s.mayWrite req = true → (s.bus.staging.of req).key ≠ R.topImageLoadAddr →
    ∃ t, exec (.multiwordWrite req (BitVec.ofNat 26 (R.topImageLoadAddr + 4)) [v]) s = .next t ∧ s.Frame t (.bus :: evtParts) [] ∧
      t.bus.staging.of req = ⟨0, []⟩ ∧
      t = (s.setStaging req ⟨0, []⟩).raise .top 0 1 0 [R.topImageLoadAddr + 4, v.toNat, reqCode req]) ∧
  (∀ (req : Requester) (s : State), s.mayRead req = true →
    ∃ t, exec (.multiwordLowRead req (BitVec.ofNat 26 R.topCommitFrame) 0) s = .next t ∧ s.Frame t [.bus] [] ∧
      t.bus.answer.of req = s.reg R.topCommitFrame % 2 ^ 32 ∧ t.bus.latch.of req = s.reg R.topCommitFrame) ∧
  (∀ (req : Requester) (s : State), s.mayRead req = true →
    ∃ t, exec (.readClear req (BitVec.ofNat 26 (R.topCommitFrame + 4)) .word) s = .next t ∧ s.Frame t [.bus] [] ∧
      t.bus.answer.of req = s.bus.latch.of req / 2 ^ 32 % 2 ^ 32) ∧
  (∀ (req : Requester) (s : State), s.mayRead req = true →
    ∃ t, exec (.multiwordLowRead req (BitVec.ofNat 26 R.topCommitFrame) 1) s = .next t ∧ s.Frame t [.bus] [] ∧
      t.bus.answer.of req = s.reg R.topCommitFrame % 2 ^ 64) ∧
  (∀ (req : Requester) (s : State), s.mayRead req = true →
    ∃ t, exec (.readClear req (BitVec.ofNat 26 R.rstEpisodes) .word) s = .next t ∧ s.Frame t [.bus] [R.rstEpisodes] ∧
      t.bus.answer.of req = s.reg R.rstEpisodes % 2 ^ 32 ∧
      t.get R.rstEpisodes F.rstEpisodes_CORE = 0 ∧ t.get R.rstEpisodes F.rstEpisodes_SYSTEM = 0)

/-- Accesses outside every block (R54), through BAR2 (R52, R110) and through BAR4 (R53). -/
def Obligations.HostAddressSpaces : Prop :=
  (∀ (off : BitVec 26) (v : Word) (s : State), s.isTile = false → off.toNat % 4 = 0 → blockAt off.toNat = none → remoteAt off.toNat = none →
      storeWord off.toNat = none →
    exec (.unmappedBar0Access true off v) s = .next (s.raise .hif 0 1 0 [off.toNat, v.toNat, 0])) ∧
  (∀ (off : BitVec 26) (v : Word) (s : State), s.isTile = false → off.toNat % 4 = 0 → blockAt off.toNat = none → remoteAt off.toNat = none →
      storeWord off.toNat = none →
    ∃ t, exec (.unmappedBar0Access false off v) s = .next t ∧ s.Frame t (.bus :: evtParts) [] ∧ t.bus.answer.host = 0xFFFFFFFF ∧
      t = (s.raise .hif 0 1 0 [off.toNat, 0, 0]).answered .host 0xFFFFFFFF) ∧
  (∀ (off : BitVec 36) (n : Nat) (data : List Byte) (s : State), s.live .hif = true → s.hif.bars = .all →
      off.toNat + data.length ≤ s.sharedSize →
    ∃ t, exec (.bar2Access true off n data []) s = .next t ∧ s.Frame t [.mem] [R.hbmStatus] ∧
      ∀ a, t.memByte a = if off.toNat ≤ a ∧ a < off.toNat + data.length then data.getD (a - off.toNat) 0 else s.memByte a) ∧
  (∀ (off : BitVec 36) (data : List Byte) (s : State), s.live .hif = true → s.hif.bars = .all → off.toNat + 4 ≤ s.sharedSize →
    ∃ t, exec (.bar2Access false off 4 data []) s = .next t ∧ s.Frame t [.bus] [R.hbmStatus] ∧
      t.bus.answer.host = leVal ((List.range 4).map fun i => (s.memByte (off.toNat + i)).toNat)) ∧
  (∀ (off : BitVec 36) (data : List Byte) (s : State), s.live .hif = true → s.hif.bars = .all → s.sharedSize ≤ off.toNat →
    exec (.bar2Access false off 4 data []) s = .next ((s.hbmTouch.raise .hif 0 1 0 [off.toNat, 0, 0]).answered .host 0)) ∧
  (∀ (off : BitVec 36) (b : Byte) (s : State), s.live .hif = true → s.hif.bars = .all → s.sharedSize ≤ off.toNat →
    ∃ t, exec (.bar2Access true off 1 [b] []) s = .next t ∧ s.Frame t evtParts [R.hbmStatus] ∧ t.mem = s.mem) ∧
  (∀ (off : BitVec 36) (a : BitVec 37) (data : List Byte) (s : State), s.isF = true → s.live .hif = true → s.hif.bars = .all → off.toNat + 4 ≤ s.sharedSize →
    ∃ t, exec (.bar2Access false off 4 data [.hbm a]) s = .next t ∧ s.Frame t (.bus :: evtParts) [R.hbmStatus, R.hbmEcc] ∧
      t.get R.hbmEcc F.hbmEcc_UNCORRECTED = min 0xFFFF (s.get R.hbmEcc F.hbmEcc_UNCORRECTED + 1)) ∧
  (∀ (q : BitVec 18) (i : Word) (s : State), s.live .qm = true → s.hif.bars = .all →
      (s.queueTotal ≤ q.toNat ∨ s.pool q.toNat = none ∨ (s.queue q.toNat).size ≤ i.toNat) →
    exec (.queueDoorbell q i) s = .next (s.raise .qm 0 1 0 [q.toNat * 16, i.toNat, 0])) ∧
  (∀ (q : BitVec 18) (i : Word) (s : State), s.live .qm = true → s.hif.bars = .all → q.toNat < s.queueTotal →
      s.queueClass q.toNat = some 0 → (s.queue q.toNat).enabled = true → i.toNat < (s.queue q.toNat).size →
    ∃ t, exec (.queueDoorbell q i) s = .next t ∧ s.Frame t [.queues, .qmCache] [] ∧
      t.queue q.toNat = { s.queue q.toNat with p := i.toNat } ∧ ∀ x, x ≠ q.toNat → t.queue x = s.queue x)

/-- The loader's walk (R37, R38, R39, R33). -/
def Obligations.LoaderWalk : Prop :=
  (∀ (s : State) (i : ForjoImage), s.ldr.phase = .header → slotForjo s.ldr.cand = some i → s.headerCheck s.givenLength i = 0 →
    ∃ t, exec .headerStageDone s = .next t ∧ s.Frame t [.ldr] [] ∧ t.ldr = { s.ldr with phase := .fetch }) ∧
  (∀ (s : State) (i : ForjoImage) (c : Nat), s.ldr.phase = .header → slotForjo s.ldr.cand = some i →
      s.headerCheck s.givenLength i = c → c ≠ 0 → c < 256 → s.ldr.source = .slot0 → s.ldr.loadNow = false →
    ∃ t, exec .headerStageDone s = .next t ∧ t.get R.topImageStatus F.topImageStatus_BOOT_CAUSE0 = c ∧
      t.get R.topStatus F.topStatus_CAUSE = c ∧ 0 ∈ t.ldr.tried ∧ t.ldr.image = none) ∧
  (∀ (s : State) (i : ForjoImage), s.ldr.phase = .fetch → slotForjo s.ldr.cand = some i →
      verifyCause s.fuses.build s.hbmOk i = 0 → s.persists = false → s.boot.inner.length = 5 →
    ∃ t, exec .imageFetchDone s = .next t ∧ t.ldr = { s.ldr with phase := .build } ∧ t.boot.inner.getD 2 0 = i.digest ∧
      t.lan = s.lan ∧ t.seq = s.seq ∧ t.hif = s.hif) ∧
  (∀ (s : State) (i : ForjoImage) (c : Nat), s.ldr.phase = .fetch → slotForjo s.ldr.cand = some i →
      verifyCause s.fuses.build s.hbmOk i = c → c ≠ 0 → c < 256 → s.ldr.source = .slot0 → s.ldr.loadNow = false →
    ∃ t, exec .imageFetchDone s = .next t ∧ t.get R.topImageStatus F.topImageStatus_BOOT_CAUSE0 = c ∧
      t.get R.topStatus F.topStatus_CAUSE = c ∧ 0 ∈ t.ldr.tried ∧ t.ldr.image = none) ∧
  (∀ s : State, s.ldr.phase = .header → s.ldr.source = .slot1 → s.ldr.loadNow = false → 0 ∈ s.ldr.tried →
    ∃ t, exec .headerTimeout s = .next t ∧ t.get R.topImageStatus F.topImageStatus_BOOT_CAUSE1 = 0x0C ∧ 1 ∈ t.ldr.tried ∧
      t.ldr.phase = .safeIdle ∧ t.clock.running = false ∧ t.hif.bars = .bar0 ∧ t.get R.topStatus F.topStatus_STATE = 4) ∧
  (∀ s : State, s.ldr.phase = .fetch → s.ldr.source = .slot1 → s.ldr.loadNow = false →
    ∃ t, exec .imageFetchTimeout s = .next t ∧ t.get R.topImageStatus F.topImageStatus_BOOT_CAUSE1 = 0x0C ∧ 1 ∈ t.ldr.tried) ∧
  (∀ s : State, s.ldr.phase = .build → s.ldr.rebuild = false → s.ldr.source = .slot0 → s.ldr.loadNow = false →
    ∃ t, exec .buildTimeout s = .next t ∧ t.get R.topImageStatus F.topImageStatus_BOOT_CAUSE0 = 0x1B ∧ 0 ∈ t.ldr.tried ∧
      t.ldr.image = none) ∧
  (∀ (s : State) (i : ForjoImage), s.ldr.phase = .build → s.rst.inReset = false → (s.ldr.rebuild = true ∨ slotForjo s.ldr.cand = some i) →
    ∃ t, exec .imageBuildDone s = .next t ∧ t.ldr.phase = .ready ∧ t.get R.topStatus F.topStatus_STATE = 3 ∧
      (s.ldr.rebuild = false → s.flash.newestSettings = none → t.ldr.image = some i))

/-- The loader operations (R41, R42, R43), HBM training (R109) and the retraining of the endpoint (R51). -/
def Obligations.LoaderOperations : Prop :=
  (∀ (req : Requester) (v : Word) (h : Option ForjoImage) (s : State), s.mayWrite req = true → s.fwRuns = true →
      s.get R.topImageStatus F.topImageStatus_STATE ≠ 1 →
      s.isTile = false → fieldGet v.toNat F.topImageLoadCtrl_OP = 1 → 2 ≤ fieldGet v.toNat F.topImageLoadCtrl_LENGTH →
      fieldGet v.toNat F.topImageLoadCtrl_LENGTH ≤ 262144 →
      s.operandCause h (some (fieldGet v.toNat F.topImageLoadCtrl_LENGTH * 64)) = 0 →
    ∃ t, exec (.imageVerify req v h) s = .next t ∧ s.Frame t [] [R.topImageLoadCtrl, R.topImageStatus] ∧
      t.get R.topImageStatus F.topImageStatus_STATE = 2 ∧ t.get R.topImageStatus F.topImageStatus_ACCEPTED = 1 ∧
      t.get R.topImageStatus F.topImageStatus_CAUSE = 0) ∧
  (∀ (req : Requester) (v : Word) (h : Option ForjoImage) (s : State), s.mayWrite req = true → s.fwRuns = true →
      s.get R.topImageStatus F.topImageStatus_STATE ≠ 1 →
      s.isTile = true → fieldGet v.toNat F.topImageLoadCtrl_OP = 2 → s.operandCause h none = 0 → s.flash.fjValid.length = 2 →
    ∃ t, exec (.imageStage req v h) s = .next t ∧ t.flash.fjActive = s.inactiveImage ∧
      t.flash.fjValid.getD s.inactiveImage false = true ∧ t.flash.forjo s.inactiveImage = s.flash.forjo s.inactiveImage ∧
      t.get R.topImageStatus F.topImageStatus_ACCEPTED = 1) ∧
  (∀ (req : Requester) (v : Word) (i : ForjoImage) (s : State), s.mayWrite req = true → s.fwRuns = true →
      s.get R.topImageStatus F.topImageStatus_STATE ≠ 1 →
      s.isTile = false → s.ldr.phase = .safeIdle → fieldGet v.toNat F.topImageLoadCtrl_OP = 3 →
      2 ≤ fieldGet v.toNat F.topImageLoadCtrl_LENGTH → fieldGet v.toNat F.topImageLoadCtrl_LENGTH ≤ 262144 →
    ∃ t, exec (.loadNow req v (some i)) s = .next t ∧ t.ldr.phase = .header ∧ t.ldr.source = .pcie ∧ t.ldr.cand = .image i ∧
      t.ldr.loadNow = true ∧ t.ldr.length = fieldGet v.toNat F.topImageLoadCtrl_LENGTH ∧
      t.get R.topImageStatus F.topImageStatus_STATE = 1 ∧ t.flash = s.flash) ∧
  (∀ (req : Requester) (v : Word) (h : Option ForjoImage) (s : State), s.mayWrite req = true → s.fwRuns = true → s.ldr.phase ≠ .safeIdle →
      fieldGet v.toNat F.topImageLoadCtrl_OP = 3 →
    ∃ t, exec (.loadNow req v h) s = .next t ∧ s.Frame t evtParts [R.topImageStatus] ∧
      t.get R.topImageStatus F.topImageStatus_CAUSE = 0x1C) ∧
  (∀ (c : Slot ForjoImage) (s : State), s.ldr.writing = some (c, 1) → s.ldr.loadNow = false → s.flash.fjValid.length = 2 →
    ∃ t, exec (.imageFlashWriteDone true) s = .next t ∧ t.flash.fjActive = 1 ∧ t.flash.forjo 1 = c ∧
      t.flash.fjValid.getD 1 false = true ∧ t.get R.topImageStatus F.topImageStatus_ACCEPTED = 1) ∧
  (∀ (c : Slot ForjoImage) (n : Nat) (s : State), s.ldr.writing = some (c, n) → s.ldr.loadNow = false →
    ∃ t, exec (.imageFlashWriteDone false) s = .next t ∧ t.flash = s.flash ∧ t.get R.topImageStatus F.topImageStatus_CAUSE = 0x1D) ∧
  (∀ (ok0 ok1 : Bool) (s : State), s.isF = true → s.fwRuns = true → s.ldr.phase = .off →
    ∃ t, exec (.hbmTrainingDone ok0 ok1) s = .next t ∧ t.get R.hbmStatus F.hbmStatus_STACK0_OK = ok0.toNat ∧
      t.get R.hbmStatus F.hbmStatus_STACK1_OK = ok1.toNat) ∧
  (∀ s : State, s.ldr.retrain = true → s.isFeed = true →
    ∃ t, exec .endpointRetrain s = .next t ∧ s.Frame t [.ldr, .hif] [] ∧ t.hif.bars = .all ∧ t.hif.crs = false ∧ t.ldr.retrain = false)

/-- The reset sources (R377, R383). -/
def Obligations.ResetSourcesAreRecorded : Prop :=
  (∀ s : State, ∃ t, exec .powerOnReset s = .next t ∧ t.rst.inReset = true ∧ 0 ∈ t.rst.asserted ∧
    bitOf (t.get R.rstcause F.rstcause_SEEN) 0 = true) ∧
  (∀ (r : Rail) (s : State), (hbmRail r = false ∨ s.isF = true) → ∃ t, exec (.supplyLow r) s = .next t ∧ t.rst.inReset = true ∧
    1 ∈ t.rst.asserted ∧ bitOf (t.get R.rstcause F.rstcause_SEEN) 1 = true) ∧
  (∀ s : State, s.rst.driving = false → (s.rst.follows = true ∨ s.rst.inReset = false) →
    ∃ t, exec .resetNAssert s = .next t ∧ t.rst.inReset = true ∧ 2 ∈ t.rst.asserted ∧
      bitOf (t.get R.rstcause F.rstcause_SEEN) 2 = true) ∧
  (∀ s : State, s.rst.wdtRunning = true → ∃ t, exec .wdtExpire s = .next t ∧ t.rst.inReset = true ∧
    bitOf (t.get R.rstcause F.rstcause_SEEN) 3 = true) ∧
  (∀ (req : Requester) (v : Word) (s : State), (req = .host ∨ req = .mp) → s.mayWrite req = true →
      fieldGet v.toNat F.rstCmd_KEY = 0xA55A → fieldGet v.toNat F.rstCmd_GO = 1 →
    ∃ t, exec (.rstCmdWrite req v) s = .next t ∧ t.rst.inReset = true ∧ bitOf (t.get R.rstcause F.rstcause_SEEN) 5 = true) ∧
  (∀ (req : Requester) (v : Word) (s : State), (req = .claim0 ∨ req = .claim1) → s.mayWrite req = true →
      fieldGet v.toNat F.rstCmd_KEY = 0xA55A → fieldGet v.toNat F.rstCmd_GO = 1 →
    exec (.rstCmdWrite req v) s = .next { s with rst := { s.rst with tileCmd := true } }) ∧
  (∀ (req : Requester) (v : Word) (s : State), s.mayWrite req = true → fieldGet v.toNat F.rstCmd_KEY ≠ 0xA55A →
    exec (.rstCmdWrite req v) s = .next (s.raise .rst 0 1 0 [R.rstCmd, v.toNat, reqCode req])) ∧
  (∀ s : State, s.rst.tileCmd = true → ∃ t, exec .tileCmdReset s = .next t ∧ t.rst.inReset = true ∧ t.rst.tileCmd = false ∧
    bitOf (t.get R.rstcause F.rstcause_SEEN) 5 = true) ∧
  (∀ s : State, s.fuses.debug = true → ∃ t, exec .dbgReset s = .next t ∧ t.rst.inReset = true ∧
    bitOf (t.get R.rstcause F.rstcause_SEEN) 6 = true) ∧
  (∀ (b c : Nat) (r : List (Nat × Nat)) (s : State), s.rst.fatals = (b, c) :: r → ∃ t, exec .fatalEscalation s = .next t ∧
    t.rst.inReset = true ∧ bitOf (t.get R.rstcause F.rstcause_SEEN) 7 = true)

/-- The releases (R378, R379, R381) and the end of an episode (R380, R381). -/
def Obligations.ResetReleasesAndEpisodes : Prop :=
  (∀ s : State, ∃ t, exec .pwrRelease s = .next t ∧ s.Frame t [.rst] [] ∧ t.rst.asserted = s.rst.asserted.filter (· != 0)) ∧
  (∀ (r : Rail) (s : State), s.rst.lowRails = [r] → ∃ t, exec (.supplyRelease r) s = .next t ∧ s.Frame t [.rst] [] ∧
    t.rst.lowRails = [] ∧ 1 ∉ t.rst.asserted) ∧
  (∀ (r q : Rail) (s : State), s.rst.lowRails = [r, q] → q ≠ r → ∃ t, exec (.supplyRelease r) s = .next t ∧
    t.rst = { s.rst with lowRails := [q] }) ∧
  (∀ s : State, s.rst.driving = false → s.rst.follows = true → ∃ t, exec .resetNRelease s = .next t ∧ s.Frame t [.rst] [] ∧
    2 ∉ t.rst.asserted) ∧
  (∀ s : State, s.rst.driving = true → (∀ c ∈ s.rst.asserted, c = 2) → ∃ t, exec .resetNDriveRelease s = .next t ∧
    s.Frame t [.rst] [] ∧ t.rst = { s.rst with driving := false }) ∧
  (∀ (s : State) (c : Nat), c ∈ s.rst.asserted → c ≠ 2 → exec .resetNDriveRelease s = .next s) ∧
  (∀ s : State, s.rst.driving = false → s.rst.follows = false → ∃ t, exec (.resetNFollow false) s = .next t ∧
    s.Frame t [.rst] [] ∧ t.rst.follows = true ∧ 2 ∉ t.rst.asserted) ∧
  (∀ s : State, s.canEnd = false → exec .resetEnd s = .next s) ∧
  (∀ s : State, s.canEnd = true → s.rst.deepest = 2 → ∃ t, exec .resetEnd s = .next t ∧ t.rst.inReset = false ∧
    t.get R.rstEpisodes F.rstEpisodes_SYSTEM = min 65535 (s.get R.rstEpisodes F.rstEpisodes_SYSTEM + 1) ∧
    t.get R.rstEpisodes F.rstEpisodes_CORE = s.get R.rstEpisodes F.rstEpisodes_CORE ∧ t.boot.phase ≠ .held) ∧
  (∀ s : State, s.canEnd = true → s.rst.deepest = 1 → s.flash.fwPending = false → ∃ t, exec .resetEnd s = .next t ∧ t.rst.inReset = false ∧
    t.get R.rstEpisodes F.rstEpisodes_CORE = min 65535 (s.get R.rstEpisodes F.rstEpisodes_CORE + 1) ∧
    t.boot.phase = .running (s.get R.secFwSlot F.secFwSlot_BOOTED))

/-- Queues at a core reset (R119). -/
def Obligations.CoreResetDisablesQueues : Prop :=
  (∀ (q : Nat) (s : State), (s.widen 1).queue q = QueueCtx.fresh ∧ s.startCore.queue q = QueueCtx.fresh) ∧
  QueueCtx.fresh.enabled = false ∧ QueueCtx.fresh.p = 0 ∧ QueueCtx.fresh.c = 0 ∧
  (∀ s : State, s.fuses.debug = true → s.rst.inReset = false → s.ldr.phase = .ready → s.firmwareSame = true → s.imageSame = true →
    ∃ t, exec .dbgReset s = .next t ∧ t.rst.inReset = true ∧ t.rst.reach = 1 ∧ ∀ q, t.queue q = QueueCtx.fresh)

/-- The watchdog (R384). -/
def Obligations.WatchdogKicks : Prop :=
  (∀ (v : Word) (s : State), fieldGet v.toNat F.rstWdt_KICK = 0x5A5A → s.rst.wdtRunning = true →
    ∃ t, exec (.wdtKick .mp v) s = .next t ∧ s.Frame t [.rst] [R.rstWdt, R.rstWdtRemain] ∧ t.rst.wdtRunning = true ∧
      t.get R.rstWdt F.rstWdt_WARNED = 0 ∧ t.reg R.rstWdtRemain = 100 * s.get R.rstCfg F.rstCfg_WDT_PERIOD % 65536) ∧
  (∀ (req : Requester) (v : Word) (s : State), req ≠ .mp → s.mayWrite req = true → exec (.wdtKick req v) s = .next s) ∧
  (∀ (v : Word) (s : State), fieldGet v.toNat F.rstWdt_KICK ≠ 0x5A5A → exec (.wdtKick .mp v) s = .next s) ∧
  (∀ s : State, s.rst.wdtRunning = true → ∃ t u, exec .wdtWarn s = .next t ∧ t = u.raise .rst 2 2 ∧
    s.Frame u [] [R.rstWdt, R.rstWdtRemain] ∧ u.get R.rstWdt F.rstWdt_WARNED = 1 ∧
    u.reg R.rstWdtRemain = 100 * s.get R.rstCfg F.rstCfg_WDT_PERIOD / 2)

/-- The boot ROM (R388) and the firmware operations (R390). -/
def Obligations.FirmwareSlots : Prop :=
  (∀ (n : Nat) (f : FwImage) (s : State), n < 2 → s.boot.phase = .fetching n → slotFw (s.flash.fw n) = some f → fwVerifyCause f = 0 →
      s.flash.fwPending = false → s.boot.inner.length = 5 →
    ∃ t, exec .firmwareFetchDone s = .next t ∧ t.boot.phase = .running n ∧ t.boot.fw = some f ∧ t.rst.wdtRunning = true ∧
      t.get R.secFwSlot F.secFwSlot_BOOTED = n ∧ t.get R.secFwInfo F.secFwInfo_VERSION = f.version.toNat ∧
      t.boot.inner.getD 1 0 = f.digest) ∧
  (∀ (f : FwImage) (s : State), s.boot.phase = .fetching 0 → slotFw (s.flash.fw 0) = some f → fwVerifyCause f ≠ 0 →
    ∃ t, exec .firmwareFetchDone s = .next t ∧ 0 ∈ t.boot.tried ∧
      t.get R.secFwStatus F.secFwStatus_BOOT_CAUSE0 = fwVerifyCause f) ∧
  (∀ s : State, s.boot.phase = .fetching 0 → ∃ t, exec .firmwareFetchTimeout s = .next t ∧ 0 ∈ t.boot.tried ∧
    t.get R.secFwStatus F.secFwStatus_BOOT_CAUSE0 = 0x0A) ∧
  (∀ (req : Requester) (v : Word) (s : State), s.mayWrite req = true → s.fwRuns = true → s.get R.secFwStatus F.secFwStatus_STATE ≠ 1 →
      fieldGet v.toNat F.secFwLoadCtrl_OP = 3 →
    ∃ t, exec (.fwRevert req v) s = .next t ∧ s.Frame t [.flash] [R.secFwLoadCtrl, R.secFwStatus, R.secFwSlot] ∧
      (s.flash.fwValid.getD s.inactiveFw false = true → t.flash = { s.flash with fwActive := s.inactiveFw } ∧
        t.get R.secFwStatus F.secFwStatus_ACCEPTED = 1) ∧
      (s.flash.fwValid.getD s.inactiveFw false = false → t.flash = s.flash ∧ t.get R.secFwStatus F.secFwStatus_CAUSE = 0x01)) ∧
  (∀ (req : Requester) (v : Word) (h : Option FwImage) (s : State), s.mayWrite req = true → s.fwRuns = true →
      s.get R.secFwStatus F.secFwStatus_STATE ≠ 1 → fieldGet v.toNat F.secFwLoadCtrl_OP = 1 →
    ∃ t o, exec (.fwVerify req v h) s = .next t ∧ s.Frame t [.boot] [R.secFwLoadCtrl, R.secFwStatus] ∧ t.boot.op = some o ∧
      o.stage = false ∧ t.get R.secFwStatus F.secFwStatus_STATE = 1) ∧
  (∀ (req : Requester) (v : Word) (f : FwImage) (s : State), s.mayWrite req = true → s.fwRuns = true →
      s.get R.secFwStatus F.secFwStatus_STATE ≠ 1 →
      fieldGet v.toNat F.secFwLoadCtrl_OP = 2 → fieldGet v.toNat F.secFwLoadCtrl_FROM_FLASH = 0 → fwCause s.fuses (.image f) = 0 →
    ∃ t, exec (.fwStage req v (some f)) s = .next t ∧ s.Frame t [.boot, .flash] [R.secFwLoadCtrl, R.secFwStatus, R.secFwSlot] ∧
      t.flash.fwActive = s.flash.fwActive ∧ t.flash.fw s.inactiveFw = .erased ∧ t.flash.fw (1 - s.inactiveFw) = s.flash.fw (1 - s.inactiveFw) ∧
      t.boot.op = some { stage := true, fromFlash := false, image := .image f, cause := 0 }) ∧
  (∀ (f : FwImage) (s : State), s.boot.op = some { stage := true, fromFlash := false, image := .image f, cause := 0 } →
      s.flash.fwValid.length = 2 →
    ∃ t, exec (.fwOperationDone true) s = .next t ∧ t.flash.fwActive = s.inactiveFw ∧ t.flash.fw s.inactiveFw = .image f ∧
      t.flash.fwPending = true ∧ t.flash.fwTrials = 0 ∧ t.flash.fwValid.getD s.inactiveFw false = true ∧
      t.get R.secFwStatus F.secFwStatus_ACCEPTED = 1) ∧
  (∀ (f : FwImage) (s : State), s.boot.op = some { stage := true, fromFlash := false, image := .image f, cause := 0 } →
    ∃ t, exec (.fwOperationDone false) s = .next t ∧ t.flash = s.flash ∧ t.get R.secFwStatus F.secFwStatus_CAUSE = 0x0F) ∧
  (∀ (ok : Bool) (o : FwOp) (s : State), s.boot.op = some o → o.stage = false → o.cause < 256 →
    ∃ t, exec (.fwOperationDone ok) s = .next t ∧ t.flash = s.flash ∧ t.get R.secFwStatus F.secFwStatus_STATE = 2 ∧
      t.get R.secFwStatus F.secFwStatus_CAUSE = o.cause ∧ (t.get R.secFwStatus F.secFwStatus_ACCEPTED = 1 ↔ o.cause = 0))

/-- The resets seen from the host (R49), training (R46) and configuration requests (R50). -/
def Obligations.HostResetsAndTraining : Prop :=
  (∀ (c : Instr) (s : State), (c = .pePerstNAssert ∧ s.hif.perst = false) ∨ (c = .hotReset ∧ s.hif.linkUp = true) ∨
      (c = .hostLinkDown ∧ s.hif.linkUp = true) ∨ (c = .flr ∧ s.hif.linkUp = true) →
    ∃ t, exec c s = .next t ∧ (t.hif.linkUp = true ↔ c = .flr) ∧ t.rst.inReset = s.rst.inReset ∧
      (∀ v, v < 2048 → t.get (R.hifMsixCtrl v) F.hifMsixCtrl_MASK = 1) ∧
      (∀ w, w < 4 → t.get (R.hifRemoteSel w) F.hifRemoteSel_TILE = 0xFFF) ∧
      ∀ p, p ∈ [Part.clock, .time, .seq, .cmp, .lan, .pix, .hold, .cor, .lmp, .dsc, .red, .cdc, .clp, .thm, .pwr, .mem] → s.agree t p) ∧
  (∀ s : State, ∃ t, exec .pePerstNAssert s = .next t ∧ t.hif.perst = true) ∧
  (∀ s : State, ∃ t, exec .pePerstNDeassert s = .next t ∧ s.Frame t [.hif] [] ∧ t.hif = { s.hif with perst := false }) ∧
  (∀ (r : Fin 6) (w : Fin 4) (fl : Bool) (s : State), s.mayTrain = true →
    ∃ t, exec (.hostLinkUp r w fl) s = .next t ∧ s.Frame t [.hif] [R.hifLinkStatus, R.topStatus] ∧ t.hif.linkUp = true ∧
      t.get R.hifLinkStatus F.hifLinkStatus_RATE = r.val + 1 ∧ t.get R.hifLinkStatus F.hifLinkStatus_WIDTH = 2 ^ w.val ∧
      t.get R.hifLinkStatus F.hifLinkStatus_FLIT = fl.toNat ∧
      (t.get R.topStatus F.topStatus_LINK_DEGRADED = 0 ↔ r = 5 ∧ w = 3)) ∧
  (∀ s : State, s.hif.linkUp = true → ∃ t, exec (.configurationRequest none) s = .next t ∧ s.Frame t [.hif] [] ∧
    t.hif = { s.hif with lastCfgRetry := s.hif.crs }) ∧
  (∀ (p : Fin 3) (s : State), s.hif.linkUp = true → s.hif.crs = false →
    ∃ t, exec (.configurationRequest (some p)) s = .next t ∧ s.Frame t [.hif] [] ∧
      t.hif = { s.hif with lastCfgRetry := false, mps := 128 * 2 ^ p.val })

/-- The remote tile window (R57, R58, R59, R219). -/
def Obligations.RemoteWindow : Prop :=
  (∀ (w : Fin 4) (off : BitVec 23) (v : Word) (a : Nat) (s : State), s.isFeed = true → s.hif.windows.length = 4 →
      s.window w.val = SubWindow.idle → s.get (R.hifRemoteSel w.val) F.hifRemoteSel_TILE = a → a ≠ 0xFFF → s.topoState a ≠ 0 →
    ∃ t, exec (.remoteWrite w off v) s = .next t ∧
      s.Sends t [(s.servedBy a, makePacket 3 2 a s.domain 0xFFF s.cur s.hal.senderCount s.frameNow 0 (s.hal.senderCount % 65536) false false
        (leBytes 4 (s.tileOffset w.val (off.toNat / 4 * 4)) ++ leBytes 4 v.toNat))] ∧
      (t.window w.val).writes = [⟨s.hal.senderCount % 65536, s.cur, off.toNat / 4 * 4, false, [a]⟩] ∧ t.get (R.hifRemoteStatus w.val) F.hifRemoteStatus_PENDING = 1) ∧
  (∀ (w : Fin 4) (off : BitVec 23) (a : Nat) (s : State), s.isFeed = true → s.hif.windows.length = 4 →
      s.window w.val = SubWindow.idle → s.get (R.hifRemoteSel w.val) F.hifRemoteSel_TILE = a → a ≠ 0xFFF → s.topoState a ≠ 0 →
    ∃ t, exec (.remoteRead w off) s = .next t ∧
      s.Sends t [(s.servedBy a, makePacket 3 1 a s.domain 0xFFF s.cur s.hal.senderCount s.frameNow 0 (s.hal.senderCount % 65536) false false
        (leBytes 4 (s.tileOffset w.val (off.toNat / 4 * 4))))] ∧
      (t.window w.val).read = some { tag := s.hal.senderCount % 65536, claim := s.cur, part := .word (off.toNat / 4 * 4) }) ∧
  (∀ (w : Fin 4) (off : BitVec 23) (v : Word) (s : State), s.isFeed = true → 64 ≤ (s.window w.val).unacked →
      s.get (R.hifRemoteStatus w.val) F.hifRemoteStatus_ERROR = 0 →
    ∃ t, exec (.remoteWrite w off v) s = .next t ∧ s.Frame t evtParts [R.hifRemoteStatus w.val] ∧
      t.get (R.hifRemoteStatus w.val) F.hifRemoteStatus_ERROR = 6 ∧
      t.get (R.hifRemoteStatus w.val) F.hifRemoteStatus_OFFSET = off.toNat / 4) ∧
  (∀ (w : Fin 4) (off : BitVec 23) (s : State), s.isFeed = true → s.hif.windows.length = 4 → s.window w.val = SubWindow.idle →
      s.get (R.hifRemoteSel w.val) F.hifRemoteSel_TILE = 0xFFF → s.get (R.hifRemoteStatus w.val) F.hifRemoteStatus_ERROR = 0 →
    ∃ t, exec (.remoteRead w off) s = .next t ∧ t.bus.answer.host = 0xFFFFFFFF ∧
      t.get (R.hifRemoteStatus w.val) F.hifRemoteStatus_ERROR = 5 ∧
      t.get (R.hifRemoteStatus w.val) F.hifRemoteStatus_OFFSET = off.toNat / 4) ∧
  (∀ (w : Fin 4) (r : RemoteRd) (s : State), s.hif.windows.length = 4 → s.window w.val = { SubWindow.idle with read := some r } →
      s.get (R.hifRemoteStatus w.val) F.hifRemoteStatus_ERROR = 0 →
    ∃ t, exec (.remoteReadTimeout w) s = .next t ∧ t.bus.answer.host = r.part.of 0xFFFFFFFF ∧ (t.window w.val).read = none ∧
      t.get (R.hifRemoteStatus w.val) F.hifRemoteStatus_ERROR = 1) ∧
  (∀ (w : Fin 4) (v : Word) (s : State), s.live .hif = true → s.hif.windows.length = 4 → s.window w.val = SubWindow.idle →
    ∃ t, exec (.remoteSelWrite w v) s = .next t ∧
      t.get (R.hifRemoteSel w.val) F.hifRemoteSel_TILE = fieldGet v.toNat F.hifRemoteSel_TILE ∧
      t.get (R.hifRemoteSel w.val) F.hifRemoteSel_PAGE = fieldGet v.toNat F.hifRemoteSel_PAGE ∧
      t.get (R.hifRemoteSel w.val) F.hifRemoteSel_TIMEOUT = fieldGet v.toNat F.hifRemoteSel_TIMEOUT) ∧
  (∀ (p : Fin 96) (k : Packet) (r : RemoteRd) (s : State), s.isFeed = true → s.takes p.val k 6 2 = true → s.hif.windows.length = 4 →
      s.window 0 = { SubWindow.idle with read := some r } → r.tag = k.hdr.arg.toNat % 65536 → r.claim = k.hdr.claim.toNat →
      payField k 8 1 = 0 →
    ∃ t, exec (.rdData p k) s = .next t ∧ t.bus.answer.host = r.part.of (payField k 4 4) ∧ (t.window 0).read = none) ∧
  (∀ (p : Fin 96) (k : Packet) (x : RemoteWr) (s : State), s.isFeed = true → s.takes p.val k 6 3 = true → s.hif.windows.length = 4 →
      s.window 0 = { SubWindow.idle with writes := [x] } → x.tag = k.hdr.arg.toNat % 65536 → x.claim = k.hdr.claim.toNat →
      x.waiting = [k.hdr.src.toNat] → payField k 4 1 = 0 →
    ∃ t, exec (.wrAck p k) s = .next t ∧ (t.window 0).writes = [] ∧ t.get (R.hifRemoteStatus 0) F.hifRemoteStatus_PENDING = 0) ∧
  (∀ (w : Fin 4) (x : RemoteWr) (s : State), s.hif.windows.length = 4 → s.window w.val = { SubWindow.idle with writes := [x] } →
      x.broadcast = true →
    ∃ t, exec (.broadcastWriteTimeout w) s = .next t ∧ (t.window w.val).writes = [])

/-- The mailbox (R60) and its opcodes (R392, R398). -/
def Obligations.Mailbox : Prop :=
  (∀ (req : Requester) (v : Word) (s : State), s.live .mbx = true → s.mayWrite req = true → (s.isTile = true → req ≠ .mp) → (∀ x ∈ s.mbx, x ≠ .free) →
    ∃ t, exec (.mbxSubmit req v) s = .next t ∧ s.Frame t [] [R.mbxSubmit] ∧ t.get R.mbxSubmit F.mbxSubmit_RESULT = 2 ∧
      t.get R.mbxSubmit F.mbxSubmit_LAST_TAG = fieldGet v.toNat F.mbxSubmit_TAG) ∧
  (∀ (req : Requester) (v : Word) (i : Nat) (s : State), s.live .mbx = true → s.mayWrite req = true → (s.isTile = true → req ≠ .mp) → i < 64 → s.freeEntry = some i →
    ∃ t, exec (.mbxSubmit req v) s = .next t ∧ t.mbx = s.mbx.set i .submitted ∧ t.get R.mbxSubmit F.mbxSubmit_RESULT = 1 ∧
      t.get R.mbxSubmit F.mbxSubmit_INDEX = i ∧ ∀ w, w < 16 → t.reg (R.mbxEntry i w) = s.reg (R.mbxCmd w)) ∧
  (∀ (req : Requester) (v : Word) (s : State), s.live .mbx = true → s.mayWrite req = true → (s.isTile = true → req ≠ .mp) → s.entry (fieldGet v.toNat F.mbxRelease_INDEX) = .done →
    ∃ t, exec (.mbxRelease req v) s = .next t ∧ s.Frame t [.mbx] [R.mpLoad] ∧
      t.mbx = s.mbx.set (fieldGet v.toNat F.mbxRelease_INDEX) .free) ∧
  (∀ (req : Requester) (v : Word) (s : State), s.live .mbx = true → s.mayWrite req = true → (s.isTile = true → req ≠ .mp) → s.entry (fieldGet v.toNat F.mbxRelease_INDEX) ≠ .done →
    exec (.mbxRelease req v) s = .next (s.raise .mbx 0 1 0 [R.mbxRelease, v.toNat, reqCode req])) ∧
  (∀ (e : Fin 64) (st : BitVec 8) (d : List Word) (s : State), s.serves e.val = true →
    ∃ t, exec (.mbxCommandDone e st d) s = .next t ∧ t.mbx = s.mbx.set e.val .done ∧
      t.reg (R.mbxEntry e.val 0) = st.toNat + 256 + min 15 d.length * 512 ∧
      ∀ j, j < min 15 d.length → t.reg (R.mbxEntry e.val (j + 1)) = (d.getD j 0).toNat) ∧
  (∀ (e : Fin 64) (s : State), s.serves e.val = true → s.opcode e.val = 0 →
    ∃ t, exec (.mbxNop e) s = .next t ∧ t.mbx = s.mbx.set e.val .done ∧ t.reg (R.mbxEntry e.val 0) = 256) ∧
  (∀ (e : Fin 64) (s : State), s.serves e.val = true → s.opcode e.val = 1 →
    ∃ t, exec (.getFwInfo e) s = .next t ∧ t.mbx = s.mbx.set e.val .done ∧ t.reg (R.mbxEntry e.val 0) = 256 + 3 * 512 ∧
      t.reg (R.mbxEntry e.val 1) = s.get R.secFwInfo F.secFwInfo_VERSION ∧
      t.reg (R.mbxEntry e.val 2) = s.get R.secFwSlot F.secFwSlot_BOOTED ∧ t.reg (R.mbxEntry e.val 3) = 2) ∧
  (∀ (e : Fin 64) (s : State), s.serves e.val = true → s.opcode e.val = 0x100 → s.payloadWords e.val = 0 →
    ∃ t, exec (.fwCommitSvn e) s = .next t ∧ t.mbx = s.mbx.set e.val .done ∧
      (s.boot.confirmed = true ∧ s.fuses.svnFloor < s.get R.secFwInfo F.secFwInfo_SVN →
        t.fuses.svnFloor = s.get R.secFwInfo F.secFwInfo_SVN ∧ t.reg (R.mbxEntry e.val 0) % 256 = 0) ∧
      (¬(s.boot.confirmed = true ∧ s.fuses.svnFloor < s.get R.secFwInfo F.secFwInfo_SVN) →
        t.fuses = s.fuses ∧ t.reg (R.mbxEntry e.val 0) % 256 = 5)) ∧
  (∀ (e : Fin 64) (s : State), s.serves e.val = true → s.opcode e.val = 0x101 → s.payloadWords e.val = 0 →
      s.flash.newestSettings = some 0 →
    ∃ t b, exec (.settingsSave e true) s = .next t ∧ t.flash = { s.flash with settings1 := some b } ∧ b.pairs = s.settingsPairs ∧
      b.seq = (s.flash.settingsSeq 0).getD 0 + 1 ∧ t.reg (R.mbxEntry e.val 0) % 256 = 0) ∧
  (∀ (e : Fin 64) (s : State), s.serves e.val = true → s.opcode e.val = 0x102 → s.payloadWords e.val = 0 →
    ∃ t, exec (.settingsDefault e) s = .next t ∧ t.flash = { s.flash with settings0 := none, settings1 := none } ∧
      t.reg (R.mbxEntry e.val 0) % 256 = 0)

/-- Attestation (R55, R221, R396, R397). -/
def Obligations.Attestation : Prop :=
  (∀ (pr : DoeProtocol) (n : Nat) (o : List Byte) (s : State), s.hif.linkUp = true → s.hif.crs = false → 32768 < n →
    ∃ t, exec (.doeObject pr n o) s = .next t ∧ s.Frame t [.hif] [] ∧ t.hif.doeError = true) ∧
  (∀ (n : Nat) (o : List Byte) (s : State), s.hif.linkUp = true → s.hif.crs = false → n ≤ 32768 → o.length ≤ 32768 →
    (∃ t, exec (.doeObject .spdm n o) s = .next t ∧ s.Frame t [.hif] [] ∧ t.hif = { s.hif with doeBusy := true }) ∧
    (∃ t, exec (.doeObject .discovery n o) s = .next t ∧ s.Frame t [.hif] [] ∧
      t.hif = { s.hif with doeBusy := false, doeAnswer := some [.discovery, .spdm] })) ∧
  (∀ s : State, ∃ t, exec .doeAbort s = .next t ∧ s.Frame t [.hif] [] ∧ t.hif.doeBusy = false ∧ t.hif.doeError = false) ∧
  (∀ s : State, s.isTile = false → s.hif.doeBusy = true →
    (∃ t, exec (.getVersion .doe) s = .next t ∧ s.Frame t [.spdm, .hif] [] ∧ t.hif.doeBusy = false ∧
      t.spdm.answers = s.spdm.answers ++ [(.doe, .version)]) ∧
    (∃ t, exec (.getCapabilities .doe) s = .next t ∧ s.Frame t [.spdm, .hif] [] ∧ t.hif.doeBusy = false ∧
      t.spdm.answers = s.spdm.answers ++ [(.doe, .capabilities true true true false false false)]) ∧
    (∃ t, exec (.negotiateAlgorithms .doe) s = .next t ∧ s.Frame t [.spdm, .hif] [] ∧ t.hif.doeBusy = false ∧
      t.spdm.answers = s.spdm.answers ++ [(.doe, .algorithms true true)]) ∧
    (∃ t, exec (.getDigests .doe) s = .next t ∧ s.Frame t [.spdm, .hif] [] ∧ t.hif.doeBusy = false ∧
      t.spdm.answers = s.spdm.answers ++ [(.doe, .digests (Config.sha384 ((s.fuses.certChain.take 4096).map (·.toNat))))]) ∧
    (∃ t, exec (.getCertificate .doe 0#8) s = .next t ∧ s.Frame t [.spdm, .hif] [] ∧ t.hif.doeBusy = false ∧
      t.spdm.answers = s.spdm.answers ++ [(.doe, .certificate (s.fuses.certChain.take 4096))]) ∧
    (∀ n : BitVec 8, n ≠ 0#8 → ∃ t, exec (.getCertificate .doe n) s = .next t ∧ s.Frame t [.spdm, .hif] [] ∧ t.hif.doeBusy = false ∧
      t.spdm.answers = s.spdm.answers ++ [(.doe, .unsupportedRequest)]) ∧
    (∀ n : BitVec 256, ∃ t, exec (.challenge .doe n) s = .next t ∧ s.Frame t [.spdm, .hif] [] ∧ t.hif.doeBusy = false ∧
      t.spdm.answers = s.spdm.answers ++
        [(.doe, .challenge (Config.sign s.fuses.serial (Config.transcript n.toNat (s.reportedBytes 0xFF))))]) ∧
    (∃ t, exec (.getMeasurements .doe 0xFF#8 false) s = .next t ∧ s.Frame t [.spdm, .hif, .freeCount] [] ∧ t.hif.doeBusy = false ∧
      t.spdm.answers = s.spdm.answers ++ [(.doe, .measurements (s.reported 0xFF) none)]) ∧
    (∃ t, exec (.spdmUnsupported .doe) s = .next t ∧ s.Frame t [.spdm, .hif] [] ∧ t.hif.doeBusy = false ∧
      t.spdm.answers = s.spdm.answers ++ [(.doe, .unsupportedRequest)])) ∧
  (∀ (p : Fin 96) (c : BitVec 16) (q : BitVec 32) (m : BitVec 16) (s : State), s.isTile = true → s.rst.inReset = false →
      (p.val, c.toNat, q.toNat, m.toNat) ∈ s.spdm.waiting →
    ∃ t, exec (.getVersion (.packet p c q m)) s = .next t ∧ s.Frame t (.spdm :: sendParts) creditRegs ∧
      t.spdm.answers = s.spdm.answers ++ [(.packet p c q m, .version)] ∧ (p.val, c.toNat, q.toNat, m.toNat) ∉ t.spdm.waiting) ∧
  (∀ (p : Fin 96) (k : Packet) (s : State), s.isTile = true → s.takes p.val k 3 5 = true → k.hdr.last = true → k.hdr.arg.toNat < 65536 →
    ∃ t, exec (.spdmReq p k) s = .next t ∧ (p.val, k.hdr.claim.toNat, k.hdr.seq.toNat, k.hdr.arg.toNat) ∈ t.spdm.waiting) ∧
  (∀ (req : Requester) (v : Word) (s : State), s.mayWrite req = true → fieldGet v.toNat F.secRelayCtrl_GO = 1 →
      s.get R.secRelayStatus F.secRelayStatus_STATE = 1 →
    exec (.spdmRelayGo req v) s = .next (s.raise .sec 0 1 0 [R.secRelayCtrl, v.toNat, reqCode req])) ∧
  (∀ (req : Requester) (v : Word) (a n : Nat) (s : State), s.mayWrite req = true → fieldGet v.toNat F.secRelayCtrl_GO = 1 →
      s.isFeed = true → s.rst.inReset = false → s.get R.secRelayStatus F.secRelayStatus_STATE ≠ 1 →
      fieldGet v.toNat F.secRelayCtrl_TILE = a → a ≠ 0xFFF → fieldGet v.toNat F.secRelayCtrl_LENGTH = n → 0 < n → n ≤ 2048 →
    ∃ t, exec (.spdmRelayGo req v) s = .next t ∧ t.get R.secRelayStatus F.secRelayStatus_STATE = 1 ∧ t.spdm.relayTile = a ∧
      t.spdm.relayMsg = (s.spdm.relayMsg + 1) % 65536 ∧
      s.Sends t [(s.servedBy a, makePacket 3 5 a s.domain 0xFFF s.cur s.hal.senderCount s.frameNow 0 ((s.spdm.relayMsg + 1) % 65536)
        false true (s.relayBytes n))]) ∧
  (∀ s : State, s.get R.secRelayStatus F.secRelayStatus_STATE = 1 → ∃ t, exec .spdmRelayTimeout s = .next t ∧
    s.Frame t [.spdm] [R.secRelayStatus] ∧ t.get R.secRelayStatus F.secRelayStatus_STATE = 3) ∧
  (∀ (p : Fin 96) (k : Packet) (s : State), s.isFeed = true → s.takes p.val k 6 6 = true → k.hdr.last = true →
      s.get R.secRelayStatus F.secRelayStatus_STATE = 1 → k.hdr.arg.toNat = s.spdm.relayMsg → s.spdm.relayMsg < 65536 →
      k.hdr.src.toNat = s.spdm.relayTile → s.spdm.relayPart = 0 → s.spdm.relayRx = [] → (payloadBytes k).length ≤ 2048 →
    ∃ t, exec (.spdmRsp p k) s = .next t ∧ t.get R.secRelayStatus F.secRelayStatus_STATE = 2 ∧
      t.get R.secRelayStatus F.secRelayStatus_RSP_LENGTH = (payloadBytes k).length)

/-- TIME_CTRL, TIME_SERVO_CFG and TIME_PTP_CFG (R63, R65 to R67, R69, R442). That REF is taken before REARM
and SET_GO of the same write is the model's choice (log entry 22). -/
def Obligations.TimeRegisterWrites : Prop :=
  (∀ (req : Requester) (v : Word) (s : State), s.mayWrite req = true → s.isTile = false → s.flag R.timeStatus F.timeStatus_STANDBY = false →
      fieldGet v.toNat F.timeCtrl_REARM = 0 → fieldGet v.toNat F.timeCtrl_SET_GO = 0 →
      fieldGet v.toNat F.timeCtrl_REF ≠ 0 → fieldGet v.toNat F.timeCtrl_REF ≠ s.time.inUse →
    ∃ t, exec (.timeRefWrite req v) s = .next t ∧ s.Frame t [.time] [R.timeCtrl, R.timeStatus] ∧
      t.get R.timeCtrl F.timeCtrl_REF = fieldGet v.toNat F.timeCtrl_REF ∧ t.time.inUse = fieldGet v.toNat F.timeCtrl_REF ∧
      t.time.hist = [] ∧ t.get R.timeStatus F.timeStatus_REF_VALID = 0 ∧
      t.get R.timeStatus F.timeStatus_STATE = s.get R.timeStatus F.timeStatus_STATE) ∧
  (∀ (req : Requester) (v : Word) (s : State), s.mayWrite req = true → s.isTile = true → fieldGet v.toNat F.timeCtrl_REARM = 0 →
      fieldGet v.toNat F.timeCtrl_SET_GO = 0 → exec (.timeRefWrite req v) s = .next s) ∧
  (∀ (req : Requester) (v : Word) (s : State), s.mayWrite req = true → fieldGet v.toNat F.timeCtrl_REARM = 1 → fieldGet v.toNat F.timeCtrl_SET_GO = 0 →
      fieldGet v.toNat F.timeCtrl_REF = s.get R.timeCtrl F.timeCtrl_REF → s.wantedReference = s.time.inUse →
    (s.flag R.timeStatus F.timeStatus_REARM_PENDING = true → ∃ t, exec (.rearm req v) s = .next t ∧ s.Frame t [] [R.timeCtrl] ∧
      t.get R.timeCtrl F.timeCtrl_REF = s.get R.timeCtrl F.timeCtrl_REF) ∧
    (s.flag R.timeStatus F.timeStatus_REARM_PENDING = false → ∃ u, exec (.rearm req v) s = .next (u.raise .time 2 1) ∧
      s.Frame u [] [R.timeCtrl, R.timeStatus, R.topStatus] ∧ u.get R.timeStatus F.timeStatus_REARM_PENDING = 1 ∧
      u.get R.timeStatus F.timeStatus_FRAME_LOCKED = 0 ∧ u.get R.topStatus F.topStatus_FRAME_LOCKED = 0)) ∧
  (∀ s : State, s.flag R.timeStatus F.timeStatus_REARM_PENDING = true → s.seq.state = .idle → s.seq.pendingMode = none →
      s.seq.checking = none →
    ∃ t, exec .rearmEffect s = .next t ∧ s.Frame t [.time] [R.timeCtrl, R.timeStatus, R.topStatus] ∧
      t.get R.timeStatus F.timeStatus_EPOCH = (s.get R.timeStatus F.timeStatus_EPOCH + 1) % 256 ∧
      t.get R.timeStatus F.timeStatus_STEP_USED = 0 ∧ t.get R.timeStatus F.timeStatus_STEP_NEEDED = 0 ∧
      t.get R.timeStatus F.timeStatus_REARM_PENDING = 0 ∧ t.get R.timeStatus F.timeStatus_STATE = 0 ∧ t.time.hist = []) ∧
  (∀ s : State, s.seq.state ≠ .idle ∨ s.seq.pendingMode ≠ none → exec .rearmEffect s = .next s) ∧
  (∀ (req : Requester) (v : Word) (s : State), s.mayWrite req = true → fieldGet v.toNat F.timeCtrl_REARM = 0 → fieldGet v.toNat F.timeCtrl_SET_GO = 1 →
      fieldGet v.toNat F.timeCtrl_REF = s.get R.timeCtrl F.timeCtrl_REF → s.wantedReference = s.time.inUse →
    (s.flag R.timeStatus F.timeStatus_STEP_USED = false → s.time.inUse ∈ [0, 2, 3] → s.reg R.timeSet % 2 ^ 32 ≤ 999999999 →
      ∃ t, exec (.setGo req v) s = .next t ∧ s.Frame t [.clock, .time, .cmp] [R.timeCtrl, R.timeStatus] ∧
        t.clock = { s.clock with now := nsOf (s.reg R.timeSet), frac := 0 } ∧
        t.flag R.timeStatus F.timeStatus_STEP_USED = (s.time.inUse == 0)) ∧
    (s.flag R.timeStatus F.timeStatus_STEP_USED = true →
      ∃ u, exec (.setGo req v) s = .next (u.raise .time 0 1 0 [R.timeCtrl, v.toNat, reqCode req]) ∧ s.Frame u [] [R.timeCtrl])) ∧
  (∀ (req : Requester) (v : Word) (s : State), s.mayWrite req = true →
    (1 ≤ fieldGet v.toNat F.timeServoCfg_SLEW_PPM → fieldGet v.toNat F.timeServoCfg_SLEW_PPM ≤ 200 →
      ∃ t, exec (.slewPpmWrite req v) s = .next t ∧ s.Frame t [] [R.timeServoCfg] ∧
        t.get R.timeServoCfg F.timeServoCfg_SLEW_PPM = fieldGet v.toNat F.timeServoCfg_SLEW_PPM) ∧
    (fieldGet v.toNat F.timeServoCfg_SLEW_PPM = 0 ∨ 200 < fieldGet v.toNat F.timeServoCfg_SLEW_PPM →
      exec (.slewPpmWrite req v) s = .next (s.raise .time 0 1 0 [R.timeServoCfg, v.toNat, reqCode req]))) ∧
  (∀ (req : Requester) (v : Word) (s : State), s.mayWrite req = true →
      fieldGet v.toNat F.timePtpCfg_DOMAIN ≠ s.get R.timePtpCfg F.timePtpCfg_DOMAIN →
    ∃ t, exec (.ptpCfgWrite req v) s = .next t ∧
      s.Frame t [.time] [R.timePtpCfg, R.timePtpStatus, R.timePtpParent, R.timeStatus, R.topStatus, R.timeAddend] ∧
      t.get R.timePtpCfg F.timePtpCfg_DOMAIN = fieldGet v.toNat F.timePtpCfg_DOMAIN ∧ t.time.ptpA = PtpPort.reset ∧
      t.time.ptpB = PtpPort.reset ∧ t.get R.timeStatus F.timeStatus_STEP_USED = s.get R.timeStatus F.timeStatus_STEP_USED)

/-- TIME_ALIGN_ORIGIN (R80). -/
def Obligations.AlignmentOrigin : Prop :=
  (∀ (req : Requester) (v : BitVec 96) (s : State), s.mayWrite req = true →
    (s.isFeed = true → s.seq.state = .idle → ∃ t, exec (.alignOriginWrite req v) s = .next t ∧ s.Frame t [] [R.timeAlignOrigin] ∧
      t.reg R.timeAlignOrigin = v.toNat % 2 ^ 80) ∧
    (s.isTile = true ∨ s.seq.state ≠ .idle →
      exec (.alignOriginWrite req v) s = .next (s.raise .time 0 1 0 [R.timeAlignOrigin, v.toNat % 2 ^ 32, reqCode req]))) ∧
  (∀ (l : Fin 96) (k : Packet) (s u : State), s.takes l.val k 2 1 = true → s.isTile = true →
      u = s.noteClaim k.hdr.claim.toNat (some ((beaconOf k).serial, l.val)) → u.beaconValid l.val (beaconOf k) = true →
      u.mayMeasure (u.fromWinner l.val k.hdr.claim.toNat) (beaconOf k) = true →
    ∃ t, exec (.ensign l k) s = .next t ∧ t.time.source = some (beaconOf k).serial ∧ t.reg R.timeAlignOrigin = (beaconOf k).align)

/-- The timers of the servo and the time pins (R66, R68, R71, R72, R405, R443). -/
def Obligations.ServoTimersAndPins : Prop :=
  (∀ s : State, s.servo = svAcquire → ∃ u, exec .acquireTimeout s = .next (u.raise .time 1 1) ∧
    s.Frame u [.time] [R.timeStatus, R.topStatus] ∧ u.servo = svAcquire ∧ u.time.acq = []) ∧
  (∀ s : State, s.servo ≠ svAcquire → exec .acquireTimeout s = .next s) ∧
  (∀ s : State, s.servo = svHoldover → ∃ u, exec .holdoverExpire s = .next (u.raise .time 5 2) ∧
    s.Frame u [.time] [R.timeStatus, R.topStatus] ∧ u.servo = svFree ∧ u.time.hist = []) ∧
  (∀ s : State, s.servo ≠ svHoldover → exec .holdoverExpire s = .next s) ∧
  (∀ s : State, s.time.inUse = 2 ∨ s.time.inUse = 3 →
    ∃ t, exec .edgeTimeout s = .next t ∧ s.Frame t [.time] [R.timeStatus, R.topStatus, R.timeAddend] ∧ t.time.edge = none ∧
      t.time.hist = [] ∧ t.get R.timeStatus F.timeStatus_REF_VALID = 0 ∧ (s.servo = svAcquire ∨ s.servo = svTrack → t.servo = svFree) ∧
      (s.servo = svLocked → t.servo = svHoldover) ∧ (s.servo = svFree ∨ s.servo = svHoldover → t.servo = s.servo)) ∧
  (∀ s : State, s.time.inUse ≠ 2 → s.time.inUse ≠ 3 → exec .edgeTimeout s = .next s) ∧
  (∀ s : State, s.time.inUse = 4 →
    ∃ u t, u = s.raiseDeadline .time 6 0 [s.frameNow, s.slotNow, s.ns32, s.time.source.getD 0 % 2 ^ 32] ∧
      exec .ensignTimeout s = .next t ∧ u.Frame t [.time] [R.timeStatus, R.topStatus, R.timeAddend] ∧ t.time.source = none ∧
      t.time.hist = [] ∧ t.get R.timeStatus F.timeStatus_REF_VALID = 0 ∧ (u.servo = svAcquire ∨ u.servo = svTrack → t.servo = svFree) ∧
      (u.servo = svLocked → t.servo = svHoldover)) ∧
  (∀ (rising : Bool) (w : Nat) (s : State), w < 100 ∨ rising = s.flag R.timePinCfg F.timePinCfg_FRAME_IN_POL ∨ s.time.inUse ≠ 2 →
    exec (.frameInEdge rising w) s = .next s) ∧
  (∀ (rising : Bool) (w : Nat) (p : PatternRec) (s : State), 100 ≤ w → rising ≠ s.flag R.timePinCfg F.timePinCfg_FRAME_IN_POL →
      s.time.inUse = 2 → s.pattern = some p →
    (s.time.edge = none → exec (.frameInEdge rising w) s = .next { s with time := { s.time with edge := some s.stamp } }) ∧
    (∀ e, s.time.edge = some e → nearPeriod (s.stamp - e) p.fpNum p.fpDen = true → s.servo = svFree →
        s.flag R.timeStatus F.timeStatus_STEP_USED = false → s.flag R.timeStatus F.timeStatus_REARM_PENDING = false →
      ∃ t, exec (.frameInEdge rising w) s = .next t ∧ s.Frame t [.time] [R.timeStatus, R.topStatus, R.timeOffset] ∧
        t.servo = svAcquire ∧ t.time.acq = [s.frameEdgeOffset p] ∧ t.get R.timeStatus F.timeStatus_REF_VALID = 1)) ∧
  (∀ (rising : Bool) (w : Nat) (s : State), w < 100 ∨ rising = s.flag R.timePinCfg F.timePinCfg_PPS_IN_POL ∨ s.time.inUse ≠ 3 →
    exec (.ppsInEdge rising w) s = .next s) ∧
  (∀ (rising : Bool) (w : Nat) (e : Int) (s : State), 100 ≤ w → rising ≠ s.flag R.timePinCfg F.timePinCfg_PPS_IN_POL →
      s.time.inUse = 3 → s.time.edge = some e → nearPeriod (s.stamp - e) 1 1 = true → s.servo = svAcquire → s.time.acq.length = 15 →
      s.flag R.timeStatus F.timeStatus_REARM_PENDING = false →
    ∃ t, exec (.ppsInEdge rising w) s = .next t ∧ s.Frame t [.time, .clock, .cmp] [R.timeStatus, R.topStatus, R.timeOffset] ∧
      ((t.clock.now * 2 ^ 32 + t.clock.frac : Nat) : Int) = max 0 (((s.clock.now * 2 ^ 32 + s.clock.frac : Nat) : Int) +
        acquireMedian (s.time.acq ++ [s.secondEdgeOffset]) * 2 ^ 16) ∧
      t.get R.timeStatus F.timeStatus_STEP_USED = 1 ∧ t.servo = svTrack ∧ t.time.hist = []) ∧
  (∀ (a b : Int) (s : State), s.ppsInstants = some (a, b) → s.clock.now - a ≤ 2 →
    exec .ppsOutPulse s = .next { s with time := { s.time with
      pps := some (a + min ((s.get R.timePinCfg F.timePinCfg_WIDTH * 1000 : Nat) : Int) ((b - a) / 2)).toNat } }) ∧
  (∀ s : State, s.get R.timePinCfg F.timePinCfg_OUT_MODE = 1 → s.clock.now % 1000000000 ≤ 2 →
    exec .ppsOutPulse s = .next { s with time := { s.time with
      pps := some (s.clock.now / 1000000000 * 1000000000 + min (s.get R.timePinCfg F.timePinCfg_WIDTH * 1000) 500000000) } }) ∧
  (∀ s : State, s.get R.timePinCfg F.timePinCfg_OUT_MODE = 0 → exec .ppsOutPulse s = .next s) ∧
  (∀ (t : Nat) (s : State), s.time.pps = some t →
    (t ≤ s.clock.now → exec .ppsOutEnd s = .next { s with time := { s.time with pps := none } }) ∧
    (s.clock.now < t → exec .ppsOutEnd s = .next s))

/-- PTP on Ethernet (R68 to R70, R442). Which master is the better one is an outside standard (log entry 21). -/
def Obligations.PtpExchange : Prop :=
  (∀ (h : PtpHdr) (d : PtpDataset) (two : Bool) (sec : BitVec 48) (ns : BitVec 32) (c : BitVec 64) (s : State), s.ptpSide h = none →
    exec (.ptpAnnounce h d) s = .next s ∧ exec (.ptpSync h two sec ns c) s = .next s ∧ exec (.ptpFollowUp h sec ns c) s = .next s ∧
      exec (.ptpDelayResp h sec ns c) s = .next s) ∧
  (∀ (h : PtpHdr) (d : PtpDataset) (s : State), s.ptpSide h = some false → s.time.ptpA.best = none → s.time.ptpB.best = none →
    ∃ t, exec (.ptpAnnounce h d) s = .next t ∧
      s.Frame t [.time] [R.timePtpStatus, R.timePtpParent, R.timeStatus] ∧ t.time.ptpA.best = some d ∧
      t.reg R.timePtpParent = d.identity.toNat ∧ t.get R.timePtpStatus F.timePtpStatus_STATE_A = 4 ∧
      t.get R.timePtpStatus F.timePtpStatus_ACTIVE_B = 0) ∧
  (∀ (h : PtpHdr) (b : Bool) (sec : BitVec 48) (ns : BitVec 32) (c : BitVec 64) (s : State), s.ptpSide h = some b →
      fromMaster (s.ptpPort b) h = true →
    exec (.ptpSync h true sec ns c) s =
      .next (s.setPtpPort b { s.ptpPort b with sync := some (h.seq.toNat, s.stamp, c.toInt) })) ∧
  (∀ (h : PtpHdr) (b two : Bool) (sec : BitVec 48) (ns : BitVec 32) (c : BitVec 64) (s : State), s.ptpSide h = some b →
      fromMaster (s.ptpPort b) h = false → exec (.ptpSync h two sec ns c) s = .next s) ∧
  (∀ (h : PtpHdr) (b : Bool) (pr : Int) (sec : BitVec 48) (ns : BitVec 32) (c : BitVec 64) (s : State), s.ptpSide h = some b →
      fromMaster (s.ptpPort b) h = true → (s.ptpPort b).pair = some pr → s.time.inUse = 1 → b = s.ptpActive → s.servo = svFree →
      s.flag R.timeStatus F.timeStatus_STEP_USED = false → s.flag R.timeStatus F.timeStatus_REARM_PENDING = false →
    (∃ t, exec (.ptpSync h false sec ns c) s = .next t ∧
      s.Frame t [.time] [R.timePtpStatus, R.timeStatus, R.topStatus, R.timeOffset] ∧ t.servo = svAcquire ∧
      t.time.acq = [(ptpStamp sec.toNat ns.toNat + c.toInt - s.stamp + pr) / 2]) ∧
    (∀ (t2 c1 : Int), (s.ptpPort b).sync = some (h.seq.toNat, t2, c1) →
      ∃ t, exec (.ptpFollowUp h sec ns c) s = .next t ∧
        s.Frame t [.time] [R.timePtpStatus, R.timeStatus, R.topStatus, R.timeOffset] ∧ t.servo = svAcquire ∧
        t.time.acq = [(ptpStamp sec.toNat ns.toNat + c1 + c.toInt - t2 + pr) / 2] ∧ (t.ptpPort b).sync = none)) ∧
  (∀ (b : Bool) (m : PtpDataset) (s : State), s.isFeed = true → (s.ptpPort b).best = some m →
      (b = true → s.flag R.timePtpCfg F.timePtpCfg_PORT_B_EN = true) → s.ethUp (s.ptpEthPort b) = true →
    ∃ t, exec (.ptpDelayReq b) s = .next t ∧ s.Frame t [.time, .ing] [] ∧
      t.time = (s.setPtpPort b { s.ptpPort b with
        req := some ((s.ptpPort b).reqSeq, s.stamp), reqSeq := ((s.ptpPort b).reqSeq + 1) % 65536 }).time ∧
      t.ing = { s.ing with sent := s.ing.sent ++ [.delayReq (s.ptpEthPort b)
        (s.get (R.ingPortCfg (s.ptpEthPort b)) F.ingPortCfg_TX_VID) (s.flag R.timePtpCfg F.timePtpCfg_IPV6)
        (if s.flag R.timePtpCfg F.timePtpCfg_HYBRID = true then some m.source.toNat else none) (s.ptpPort b).reqSeq] }) ∧
  (∀ (b : Bool) (s : State), (s.ptpPort b).best = none → exec (.ptpDelayReq b) s = .next s) ∧
  (∀ (h : PtpHdr) (b : Bool) (t3 : Int) (sec : BitVec 48) (ns : BitVec 32) (c : BitVec 64) (s : State), s.ptpSide h = some b →
      (s.ptpPort b).req = some (h.seq.toNat, t3) → fromMaster (s.ptpPort b) h = true →
      h.unicast = s.flag R.timePtpCfg F.timePtpCfg_HYBRID →
    exec (.ptpDelayResp h sec ns c) s = .next (s.setPtpPort b { s.ptpPort b with
      req := none, pair := some (ptpStamp sec.toNat ns.toNat - c.toInt - t3) })) ∧
  (∀ (b : Bool) (s : State), s.isFeed = true → (s.ptpPort b).best ≠ none →
    ∃ t, exec (.ptpAnnounceTimeout b false) s = .next t ∧ (t.ptpPort b).best = none ∧ (t.ptpPort b).pair = none ∧
      s.Frame t [.time] [R.timePtpStatus, R.timePtpParent, R.timeStatus, R.topStatus, R.timeAddend] ∧
      (s.time.inUse = 1 → b = s.ptpActive → s.servo = svLocked → t.servo = svHoldover)) ∧
  (∀ (b noSync : Bool) (s : State), s.isFeed = true → noSync = true ∨ (s.ptpPort b).best = none →
    (s.time.inUse = 1 → b = s.ptpActive →
      ∃ t, exec (.ptpAnnounceTimeout b noSync) s = .next t ∧ s.Frame t [.time] [R.timeStatus, R.topStatus, R.timeAddend] ∧
        t.time.ptpA = s.time.ptpA ∧ t.time.ptpB = s.time.ptpB ∧ t.time.hist = [] ∧ t.get R.timeStatus F.timeStatus_REF_VALID = 0 ∧
        (s.servo = svAcquire ∨ s.servo = svTrack → t.servo = svFree) ∧ (s.servo = svLocked → t.servo = svHoldover)) ∧
    (s.time.inUse ≠ 1 ∨ b ≠ s.ptpActive → exec (.ptpAnnounceTimeout b noSync) s = .next s))

/-- Ensigns and link delays (R73 to R75, R80, R216, R217). The turnaround of a response is a free value (log entry 3). -/
def Obligations.EnsignsAndLinkDelays : Prop :=
  (∀ s : State, s.isFeed = true → ∃ t, exec .ensignSend s = .next t ∧ s.Frame t sendParts creditRegs ∧
    t.time.beacons = (s.time.beacons + 1) % 2 ^ 32 ∧
    s.Sends t (s.halPorts.map fun l =>
      (l, makePacket 2 1 0xFFF s.domain 0xFFF s.cur s.time.beacons s.frameNow 0 0 false false s.ensignBody)) ∧
    ∀ l, l ∈ s.halPorts → s.portActive l = true → (∀ q ∈ s.hal.queue, q.port ≠ l) →
      ∃ q, q ∈ t.hal.queue ∧ q.port = l ∧ q.started = true ∧
        q.pkt = makePacket 2 1 0xFFF s.domain 0xFFF s.cur s.time.beacons s.frameNow 0 0 false false s.ensignBody) ∧
  (∀ s : State, s.isFeed = false → exec .ensignSend s = .next s) ∧
  (∀ (l : Fin 96) (k : Packet) (s u : State), s.takes l.val k 2 1 = true → s.isTile = true →
      u = s.noteClaim k.hdr.claim.toNat (some ((beaconOf k).serial, l.val)) →
    (u.beaconValid l.val (beaconOf k) = false → exec (.ensign l k) s = .next u) ∧
    (u.beaconValid l.val (beaconOf k) = true → u.fromWinner l.val k.hdr.claim.toNat = true → u.rst.inReset = false →
      ∃ t, exec (.ensign l k) s = .next t ∧ t.reg R.timeAlignOrigin = (beaconOf k).align ∧ t.time.source = some (beaconOf k).serial ∧
        t.time.used = some ((beaconOf k).serial, t.get R.timeStatus F.timeStatus_EPOCH) ∧
        t.get R.timeStatus F.timeStatus_SRC_LANE = l.val)) ∧
  (∀ (l : Fin 96) (k : Packet) (s : State), s.takes l.val k 2 1 = false → exec (.ensign l k) s = .next s) ∧
  (∀ (l : Fin 96) (s : State), s.isHalPort l.val = true → s.portActive l.val = true →
    ∃ t, exec (.delayReqSend l) s = .next t ∧ s.Frame t sendParts creditRegs ∧
      (t.link l.val).count = ((s.link l.val).count + 1) % 2 ^ 32 ∧ (t.link l.val).samples = (s.link l.val).samples ∧
      (∃ q, q ∈ t.hal.queue ∧ q.port = l.val ∧
        q.pkt = makePacket 2 2 0xFFF s.domain s.tileAddr s.ownClaim (s.link l.val).count s.frameNow 0 0 false false
          (leBytes 4 (s.link l.val).count ++ [0, 0, 0, 0])) ∧
      ((∀ q ∈ s.hal.queue, q.port ≠ l.val) → ((s.link l.val).count % 2 ^ 32, s.stamp) ∈ (t.link l.val).waiting)) ∧
  (∀ (l : Fin 96) (k : Packet) (s : State), s.isHalPort l.val = true → s.portActive l.val = true → k.hdr.length.toNat = 8 →
      k.payload.length = 8 →
    ∃ t, exec (.delayReq l k) s = .next t ∧ s.Frame t sendParts creditRegs ∧
      ((∀ q ∈ s.hal.queue, q.port ≠ l.val) → ∃ q n, q ∈ t.hal.queue ∧ q.port = l.val ∧ q.started = true ∧ n ≤ 100000 * 65536 ∧
        q.pkt = makePacket 2 3 0xFFF s.domain s.tileAddr s.ownClaim k.hdr.seq.toNat s.frameNow 0 0 false false
          ((payloadBytes k).take 4 ++ [0, 0, 0, 0] ++ leBytes 8 n))) ∧
  (∀ (l : Fin 96) (k : Packet) (s : State), s.portActive l.val = false →
    exec (.delayReqSend l) s = .next s ∧ exec (.delayReq l k) s = .next s) ∧
  (∀ (l : Fin 96) (k : Packet) (t1 : Int) (s : State), s.isHalPort l.val = true → k.hdr.length.toNat = 16 →
      (s.link l.val).waiting.find? (fun w => w.1 == payField k 0 4) = some (payField k 0 4, t1) → s.stamp - t1 ≤ 65536000000 →
      (s.link l.val).samples.length ≤ 16 →
    ∃ t, exec (.delayResp l k) s = .next t ∧ s.Frame t [.time] [R.timeLaneDelay l.val] ∧
      (t.link l.val).samples = ((s.link l.val).samples ++ [(s.stamp - t1 - (payField k 8 8 : Int)) / 2]).drop
        ((s.link l.val).samples.length - 15) ∧
      t.get (R.timeLaneDelay l.val) F.timeLaneDelay_COUNT = min 16 ((s.link l.val).samples.length + 1)) ∧
  (∀ (l : Fin 96) (k : Packet) (s : State), (s.link l.val).waiting.find? (fun w => w.1 == payField k 0 4) = none →
    exec (.delayResp l k) s = .next s)

/-- TIME_MODE_COMMIT and its switch (R67, R86 to R88). -/
def Obligations.ModeSwitches : Prop :=
  (∀ (req : Requester) (v : Word) (s : State), s.mayWrite req = true →
    (s.isTile = true → exec (.timeModeCommit req v) s = .next (s.raise .time 0 1 0 [R.timeModeCommit, v.toNat, reqCode req])) ∧
    (s.isTile = false → s.switching = true ∨ (s.flag R.timeStatus F.timeStatus_REARM_PENDING = true ∧
        fieldGet v.toNat F.timeModeCommit_ACTION ≠ 1) →
      ∃ t, exec (.timeModeCommit req v) s = .next t ∧ s.Frame t [] [R.timeModeStatus] ∧
        t.get R.timeModeStatus F.timeModeStatus_REASON = 1 ∧
        t.get R.timeModeStatus F.timeModeStatus_STATE = s.get R.timeModeStatus F.timeModeStatus_STATE ∧
        t.get R.timeModeStatus F.timeModeStatus_PATTERN = s.get R.timeModeStatus F.timeModeStatus_PATTERN ∧
        t.get R.timeModeStatus F.timeModeStatus_ACTION = s.get R.timeModeStatus F.timeModeStatus_ACTION) ∧
    (s.isTile = false → s.switching = false → s.flag R.timeStatus F.timeStatus_REARM_PENDING = false ∨
        fieldGet v.toNat F.timeModeCommit_ACTION = 1 →
      ∃ t, exec (.timeModeCommit req v) s = .next t ∧ s.Frame t [.seq] [R.timeModeStatus] ∧
        t.get R.timeModeStatus F.timeModeStatus_STATE = 1 ∧ t.get R.timeModeStatus F.timeModeStatus_REASON = 0 ∧
        t.seq = { s.seq with checking := some ⟨nsOf (s.reg R.timeModeTime), fieldGet v.toNat F.timeModeCommit_PATTERN,
          fieldGet v.toNat F.timeModeCommit_ACTION, fieldGet v.toNat F.timeModeCommit_WALL == 1⟩ })) ∧
  (∀ s : State, s.seq.checking = none → exec .modeChecksDone s = .next s) ∧
  (∀ (m : ModeSwitch) (p : PatternRec) (s : State), s.seq.checking = some m → s.pattern = some p →
    (∀ r, (m.time < s.clock.now + 3 * periodCeil p ∧ r = 2) ∨
        (s.clock.now + 3 * periodCeil p ≤ m.time ∧ s.clock.now + 60000000000 < m.time ∧ r = 3) ∨
        (s.clock.now + 3 * periodCeil p ≤ m.time ∧ m.time ≤ s.clock.now + 60000000000 ∧
          (m.action = 3 ∨ s.patternRec m.pattern = none) ∧ r = 4) ∨
        (s.clock.now + 3 * periodCeil p ≤ m.time ∧ m.time ≤ s.clock.now + 60000000000 ∧ m.action ≠ 3 ∧ m.action ≠ 1 ∧
          s.patternRec m.pattern ≠ none ∧ s.frameLocked = false ∧ r = 5) →
      ∃ t, exec .modeChecksDone s = .next t ∧ s.Frame t [.seq] [R.timeModeStatus] ∧ t.seq = { s.seq with checking := none } ∧
        t.get R.timeModeStatus F.timeModeStatus_STATE = 4 ∧ t.get R.timeModeStatus F.timeModeStatus_REASON = r) ∧
    (s.clock.now + 3 * periodCeil p ≤ m.time → m.time ≤ s.clock.now + 60000000000 → s.patternRec m.pattern ≠ none → m.action = 1 →
      m.pattern < 8 →
      ∃ t, exec .modeChecksDone s = .next t ∧ s.Frame t [.seq, .pen] [R.timeModeStatus] ∧
        t.seq = { s.seq with checking := none, pendingMode := some m } ∧ t.get R.timeModeStatus F.timeModeStatus_STATE = 2 ∧
        t.get R.timeModeStatus F.timeModeStatus_PATTERN = m.pattern ∧ t.get R.timeModeStatus F.timeModeStatus_ACTION = 1) ∧
    (∀ (q : PatternRec) (f : CheckFail) (u : State), s.clock.now + 3 * periodCeil p ≤ m.time → m.time ≤ s.clock.now + 60000000000 →
        s.patternRec m.pattern = some q → m.action = 0 ∨ m.action = 2 → s.frameLocked = true → s.checks s.active q = (some f, u) →
      ∃ t, exec .modeChecksDone s = .next t ∧ t.get R.timeModeStatus F.timeModeStatus_STATE = 4 ∧ t.seq.checking = none ∧
        t.get R.timeModeStatus F.timeModeStatus_REASON = modeReason f.reason) ∧
    (∀ (q : PatternRec) (u : State), s.clock.now + 3 * periodCeil p ≤ m.time → m.time ≤ s.clock.now + 60000000000 →
        s.patternRec m.pattern = some q → m.action = 0 ∨ m.action = 2 → s.frameLocked = true → s.checks s.active q = (none, u) →
      ∃ t, exec .modeChecksDone s = .next t ∧ t.get R.timeModeStatus F.timeModeStatus_STATE = 2 ∧ t.seq.checking = none ∧
        t.seq.pendingMode = some m)) ∧
  (∀ (m : ModeSwitch) (s : State), s.rst.inReset = false → s.seq.pendingMode = some m →
    (s.clock.now < m.time → exec .modeSwitch s = .next s) ∧
    (m.time ≤ s.clock.now → s.isTile = false → s.seq.interrupted = none → s.patternRec m.pattern ≠ none →
      ∃ t, exec .modeSwitch s = .next t ∧ s.Frame t [.seq, .pen, .red, .cmp] [R.timeModeStatus, R.corCalCtrl] ∧ t.seq.pendingMode = none ∧
        t.seq.pattern = m.pattern ∧ t.seq.since = m.time ∧ t.seq.state = seqOfAction m.action ∧ t.seq.dark = false ∧
        (m.action = 1 → t.seq.target = none) ∧ (m.action = 0 ∨ m.action = 2 → t.seq.target = some ⟨seqOfAction m.action, m.time⟩) ∧ t.get R.timeModeStatus F.timeModeStatus_STATE = 3) ∧
    (m.time ≤ s.clock.now → s.isTile = true → s.patternRec m.pattern = none →
      ∃ t, exec .modeSwitch s = .next t ∧ t.seq.pendingMode = none ∧ t.seq.state = .idle ∧ t.seq.dark = true ∧ t.seq.target = none ∧
        t.seq.pattern = m.pattern))

/-- Slot boundaries (R82, R86) and window starts (R79, R82, R296). -/
def Obligations.SlotsAndWindows : Prop :=
  (∀ (sag : List (Fin 8 × BitVec 16)) (p : PatternRec) (s : State), s.pattern = some p → s.rst.inReset = false →
    (s.slotTime s.slotNow < s.seq.since → exec (.slotBoundary sag) s = .next s) ∧
    (∀ m, s.seq.pendingMode = some m → (m.time : Int) ≤ s.slotTime s.slotNow → exec (.slotBoundary sag) s = .next s) ∧
    (s.isTile = false → s.slotNow ≠ 0 → exec (.slotBoundary sag) s = .next s) ∧
    (∀ x : SeqTarget, s.isTile = false → s.slotNow = 0 → s.seq.pendingMode = none → (s.seq.since : Int) ≤ s.slotTime 0 →
        s.seq.target = some x → (x.from_ : Int) ≤ s.slotTime 0 →
      ∃ t, exec (.slotBoundary sag) s = .next t ∧ t.seq.state = x.state ∧ t.seq.target = none ∧
        ∀ q, q ∈ [Part.mem, .clock, .time, .cmp, .hold, .cor, .lmp, .pix, .hal, .evt] → s.agree t q) ∧
    (s.isTile = true → s.slotNow ≠ 0 → s.seq.pendingMode = none → (s.seq.since : Int) ≤ s.slotTime s.slotNow →
        s.seq.state = .run → s.seq.target = none →
      ∃ t, exec (.slotBoundary sag) s = .next t ∧ t.seq = { s.seq with latched := true } ∧
        ∀ g, g ∈ s.usedGroups → 2 ≤ s.groupState g → ∀ x, x ∈ s.groupLamps g →
          greyOf t.lmp.disp x.key = greyOf s.lmp.wbank x.key)) ∧
  (∀ (p : PatternRec) (s : State), s.isTile = true → s.pattern = some p →
    (s.seq.dark = true ∨ (s.seq.state = .idle ∧ s.seq.latched = false) → exec .windowStart s = .next s) ∧
    (s.seq.dark = false → s.seq.state ≠ .idle ∨ s.seq.latched = true → (s.seq.since : Int) ≤ s.slotTime s.slotNow →
      ∃ t, exec .windowStart s = .next t ∧ s.Frame t [.lmp] ((List.range 64).map fun g => R.lmpSyncOfs (g / 16) (g % 16)) ∧
        ∀ g, g ∈ s.usedGroups → 3 ≤ s.groupState g →
          t.get (R.lmpSyncOfs (g / 16) (g % 16)) F.lmpSyncOfs_OFS = s.syncOffset p g s.slotNow % 2 ^ F.lmpSyncOfs_OFS.w ∧
          (t.groupSt g).strobes = (s.groupSt g).strobes ++ [1] ∧ ((t.groupSt g).pwm.isSome = (s.groupSt g).cfg.isSome)))

/-- Pennants (R84, R85, R87, R220, R260, R261, R322). That one PENNANT_COPY sends the next copy of every due Pennant is the model's
reading (log entry 23). -/
def Obligations.Pennants : Prop :=
  (∀ s : State, s.isFeed = true → s.rst.inReset = false → s.tieMuted = false →
    (∃ t, exec .pennantCopy s = .next t ∧ s.Frame t (.pen :: sendParts) creditRegs ∧
      s.Sends t ((s.pen.out.filter fun p => decide (p.copies < 3)).flatMap fun p =>
        s.halPorts.map fun l => (l, s.pennantPacket p (min 2 p.copies))) ∧
      ∀ p, p ∈ s.pen.out → p.type ≠ 0x12 → { p with copies := min 3 (p.copies + 1) } ∈ t.pen.out) ∧
    (∃ t, exec .pennantCapRepeat s = .next t ∧ s.Frame t sendParts creditRegs ∧
      s.Sends t (s.pen.caps.flatMap fun p => s.halPorts.map fun l => (l, s.pennantPacket { p with copies := 0 } 0)))) ∧
  (∀ s : State, s.isFeed = false ∨ s.rst.inReset = true ∨ s.tieMuted = true →
    exec .pennantCopy s = .next s ∧ exec .pennantCapRepeat s = .next s) ∧
  (∀ (l : Fin 96) (k : Packet) (s u : State), s.isTile = true → u = s.noteClaim k.hdr.claim.toNat none →
    (s.takes l.val k 3 0x10 = true →
      (u.fromWinner l.val k.hdr.claim.toNat = false → exec (.pennantCommit l k) s = .next u.refuseClaim) ∧
      (u.fromWinner l.val k.hdr.claim.toNat = true → u.pennantNew l.val k = false → exec (.pennantCommit l k) s = .next u) ∧
      (∀ v : State, u.pennantNew l.val k = true → u.cmp.pend = none →
          u.get R.topCommitDetail F.topCommitDetail_ACTIVE_GEN ≠ payField k 8 2 →
          (u.pennantActed k).tileChecks = (none, v) → v.frameBegun (payField k 0xA 6) = false →
        ∃ t, exec (.pennantCommit l k) s = .next t ∧ v.Frame t [.cmp] [R.topCommitStatus, R.topCommitFrame] ∧
          t.cmp.pend = some { gen := payField k 8 2, frame := payField k 0xA 6, wall := true, followed := false, skewed := false } ∧
          t.get R.topCommitStatus F.topCommitStatus_STATE = 2 ∧ t.reg R.topCommitFrame = payField k 0xA 6)) ∧
    (s.takes l.val k 3 0x11 = true →
      (u.fromWinner l.val k.hdr.claim.toNat = false → exec (.pennantMode l k) s = .next u.refuseClaim) ∧
      (u.fromWinner l.val k.hdr.claim.toNat = true → u.pennantNew l.val k = false → exec (.pennantMode l k) s = .next u) ∧
      (u.pennantNew l.val k = true → u.clock.now < payField k 8 4 + payField k 0xC 6 * 1000000000 →
        ∃ t, exec (.pennantMode l k) s = .next t ∧ u.Frame t [.pen, .seq] [R.timeModeStatus] ∧
          t.seq = { u.seq with pendingMode := some ⟨payField k 8 4 + payField k 0xC 6 * 1000000000,
            payField k 0x12 1 % 8, payField k 0x12 1 / 8 % 4, true⟩ } ∧
          t.get R.timeModeStatus F.timeModeStatus_STATE = 2)) ∧
    (s.takes l.val k 3 0x12 = true → k.hdr.dst.toNat = 0xFFF →
      (u.fromWinner l.val k.hdr.claim.toNat = false → exec (.pennantCap l k) s = .next u.refuseClaim) ∧
      (u.fromWinner l.val k.hdr.claim.toNat = true → u.pennantNew l.val k = false → exec (.pennantCap l k) s = .next u) ∧
      (u.pennantNew l.val k = true →
        ∃ t, exec (.pennantCap l k) s = .next t ∧ u.Frame t [.pen, .cor] [R.thmCap] ∧
          t.cor.wall = u.cor.wall.next (min 4096 (payField k 8 2)) (payField k 0xC 6) (payField k 0xA 2))))

/-- Ethernet reception (R92, R98 to R101, R103, R106). -/
def Obligations.EthernetFrames : Prop :=
  ∀ (p : Fin 8) (e : EthFrame) (s : State), s.live .ing = true → s.rst.inReset = false → s.ethUp p.val = true →
    (e.fcsOk = false → ∃ t, exec (.ethernetFrame p e) s = .next t ∧ s.Frame t [] [R.ingPortDrop p.val] ∧
      t.get (R.ingPortDrop p.val) F.ingPortDrop_FCS = min 255 (s.get (R.ingPortDrop p.val) F.ingPortDrop_FCS + 1)) ∧
    (e.fcsOk = true → 9216 < e.length ∨ 2 ≤ e.vlans.length →
      ∃ t, exec (.ethernetFrame p e) s = .next t ∧ s.Frame t [] [R.ingPortDrop p.val] ∧
        t.get (R.ingPortDrop p.val) F.ingPortDrop_OVERSIZE = min 255 (s.get (R.ingPortDrop p.val) F.ingPortDrop_OVERSIZE + 1)) ∧
    (e.fcsOk = true → e.length ≤ 9216 → e.vlans.length < 2 → e.full = true →
      ∃ t, exec (.ethernetFrame p e) s = .next t ∧ s.Frame t [] [R.ingPortDrop p.val] ∧
        t.get (R.ingPortDrop p.val) F.ingPortDrop_OVERFLOW = min 255 (s.get (R.ingPortDrop p.val) F.ingPortDrop_OVERFLOW + 1)) ∧
    (e.fcsOk = true → e.length ≤ 9216 → e.vlans.length < 2 → e.full = false →
      (e.body = .other → ∃ t, exec (.ethernetFrame p e) s = .next t ∧ s.Frame t [] [R.ingPortDrop p.val] ∧
        t.get (R.ingPortDrop p.val) F.ingPortDrop_UNMATCHED = min 255 (s.get (R.ingPortDrop p.val) F.ingPortDrop_UNMATCHED + 1)) ∧
      (∀ a : BitVec 32, e.body = .arp a → a ≠ 0#32 → s.reg (R.ingPortIpv4 p.val) = a.toNat →
          s.get (R.ingPortCfg p.val) F.ingPortCfg_RESPOND = 1 →
        exec (.ethernetFrame p e) s = .next { s with ing := { s.ing with sent := s.ing.sent ++ [.arpReply p.val
          (s.get (R.ingPortCfg p.val) F.ingPortCfg_TX_VID) a.toNat] } }) ∧
      (∀ v6 src dst udp rtp, e.body = .udp v6 src dst udp rtp →
        (s.matchFilter p.val e.vlans v6 src.toNat dst.toNat udp.toNat = none →
          ∃ t, exec (.ethernetFrame p e) s = .next t ∧ s.Frame t [] [R.ingPortDrop p.val] ∧
            t.get (R.ingPortDrop p.val) F.ingPortDrop_UNMATCHED =
              min 255 (s.get (R.ingPortDrop p.val) F.ingPortDrop_UNMATCHED + 1)) ∧
        (∀ f i, s.matchFilter p.val e.vlans v6 src.toNat dst.toNat udp.toNat = some f →
            i = s.get (R.ingFilterCtrl f) F.ingFilterCtrl_SOURCE →
          (s.srcState i = 0 → exec (.ethernetFrame p e) s = .next s) ∧
          (∀ (g : NetFrame) (ext : BitVec 16) (rows : List RowSeg), s.srcState i ≠ 0 → (s.srcNow i).kind = 0 →
              rtp.body = .video ext rows → rtp.version.toNat = 2 → rows ≠ [] → rows.length ≤ 3 → rows.all (rowOk (s.srcNow i)) = true →
              pastFrame (s.src i) g.ts (ext.toNat * 65536 + rtp.seq.toNat) = false → (s.src i).flights = [g] → g.ts = rtp.timestamp.toNat →
              g.ended = false → g.discarded = false → g.marker = none → (ext.toNat * 65536 + rtp.seq.toNat) ∉ g.seqs →
            ∃ t u, exec (.ethernetFrame p e) s = .next t ∧ u = rows.foldl (fun x r => x.writeRow (s.srcNow i) g.slot r) s ∧
              t.mem = u.mem ∧
              (rtp.marker = false → s.Frame t [.ing, .mem] [R.ingSrcPkts i, R.ingSrcStatus i, R.hbmStatus] ∧
                (t.src i).flights = [{ g with seqs := (ext.toNat * 65536 + rtp.seq.toNat) :: g.seqs }]) ∧
              (rtp.marker = true → frameComplete (s.src i) { g with
                  seqs := (ext.toNat * 65536 + rtp.seq.toNat) :: g.seqs, marker := some (ext.toNat * 65536 + rtp.seq.toNat) } = true →
                (t.src i).flights = [] ∧ t.get (R.ingSrcStatus i) F.ingSrcStatus_NEWEST = g.slot % 8 ∧ t.srcState i = 2)))))

/-- Completion, damage and loss of sources (R90, R92, R94, R96, R97, R106, R128). -/
def Obligations.SourcesAndFences : Prop :=
  (∀ (i : Fin 64) (f : NetFrame) (m : Nat) (s : State), s.live .ing = true → s.rst.inReset = false → (s.srcNow i.val).kind ≠ 1 → (s.src i.val).flights = [f] → f.marker = some m →
      f.discarded = false →
    ∃ t, exec (.mergeWinExpire i) s = .next t ∧ (t.src i.val).flights = [] ∧
      t.get (R.ingSrcCounts i.val) F.ingSrcCounts_DAMAGED = min 255 (s.get (R.ingSrcCounts i.val) F.ingSrcCounts_DAMAGED + 1) ∧
      ((s.srcNow i.val).damagedUse = false → s.Frame t (.ing :: evtParts) [R.ingSrcCounts i.val] ∧
        t.get (R.ingSrcCounts i.val) F.ingSrcCounts_DROPPED = min 255 (s.get (R.ingSrcCounts i.val) F.ingSrcCounts_DROPPED + 1)) ∧
      ((s.srcNow i.val).damagedUse = true → t.get (R.ingSrcStatus i.val) F.ingSrcStatus_NEWEST = f.slot % 8 ∧ t.srcState i.val = 2 ∧
        t.get (R.ingSrcCounts i.val) F.ingSrcCounts_DROPPED = s.get (R.ingSrcCounts i.val) F.ingSrcCounts_DROPPED)) ∧
  (∀ (i : Fin 64) (s : State), (s.srcNow i.val).kind ≠ 1 → (s.src i.val).flights = [] → exec (.mergeWinExpire i) s = .next s) ∧
  (∀ (i : Fin 64) (s : State), s.live .ing = true → s.rst.inReset = false → (s.srcNow i.val).kind = 1 →
    exec (.mergeWinExpire i) s = .next (s.setSrc i.val { s.src i.val with hevc := (s.src i.val).hevc.giveUp })) ∧
  (∀ (i : Fin 64) (s : State), s.live .ing = true → s.rst.inReset = false →
    (s.srcState i.val = 1 ∨ s.srcState i.val = 2 → ∃ u, exec (.sourceLossTimeout i) s = .next (u.raise .ing 2 2 i.val) ∧
      s.Frame u [] [R.ingSrcStatus i.val] ∧ u.srcState i.val = 3) ∧
    (s.srcState i.val = 0 ∨ s.srcState i.val = 3 → exec (.sourceLossTimeout i) s = .next s)) ∧
  (∀ (i : Fin 64) (p : Fin 2) (s : State), s.live .ing = true → s.rst.inReset = false →
    (s.flag (R.ingSrcStatus i.val) (pathBit p.val) = true →
      ∃ u, exec (.pathLossTimeout i p) s = .next (u.raise .ing 5 2 i.val [p.val]) ∧ s.Frame u [] [R.ingSrcStatus i.val] ∧
        u.flag (R.ingSrcStatus i.val) (pathBit p.val) = false ∧ u.srcState i.val = s.srcState i.val) ∧
    (s.flag (R.ingSrcStatus i.val) (pathBit p.val) = false → exec (.pathLossTimeout i p) s = .next s)) ∧
  (∀ (req : Requester) (i : Fin 64) (v : Word) (s : State), s.mayWrite req = true → s.live .ing = true → s.rst.inReset = false →
    ((s.srcNow i.val).kind = 3 → s.srcState i.val ≠ 0 → fieldGet v.toNat F.ingFence_SLOT = s.writeSlot i.val →
        s.slotHeld i.val (s.writeSlot i.val) = false →
      ∃ t, exec (.frameFence req i v) s = .next t ∧ s.Frame t (.ing :: evtParts) [R.ingSrcStatus i.val] ∧
        t.get (R.ingSrcStatus i.val) F.ingSrcStatus_NEWEST = fieldGet v.toNat F.ingFence_SLOT ∧ t.srcState i.val = 2 ∧
        (t.src i.val).fresh = (s.src i.val).fresh + 1 ∧ (t.src i.val).doneAt = some s.clock.now) ∧
    ((s.srcNow i.val).kind ≠ 3 ∨ s.srcState i.val = 0 ∨ fieldGet v.toNat F.ingFence_SLOT ≠ s.writeSlot i.val ∨
        s.slotHeld i.val (fieldGet v.toNat F.ingFence_SLOT) = true →
      ∃ u, exec (.frameFence req i v) s = .next (u.raise .ing 0 1 0 [R.ingFence i.val, v.toNat, reqCode req]) ∧
        s.Frame u [] [R.ingSrcCounts i.val] ∧
        u.get (R.ingSrcCounts i.val) F.ingSrcCounts_DROPPED = min 255 (s.get (R.ingSrcCounts i.val) F.ingSrcCounts_DROPPED + 1))) ∧
  (∀ (req : Requester) (i : Fin 64) (v : Word) (s : State), s.mayWrite req = true → s.rst.inReset = true → exec (.frameFence req i v) s = .next s) ∧
  (∀ (req : Requester) (v : Word) (s : State), s.mayWrite req = true → s.live .dma = true → s.live .ing = true → s.rst.inReset = false →
    (∃ t, exec (.trigSwPulse req v) s = .next t ∧ t.get (R.dmaTrigCnt (fieldGet v.toNat F.dmaTrigSw_LINE)) F.dmaTrigCnt_COUNT =
      (s.get (R.dmaTrigCnt (fieldGet v.toNat F.dmaTrigSw_LINE)) F.dmaTrigCnt_COUNT + 1) % 2 ^ F.dmaTrigCnt_COUNT.w ∧
      ∀ e, e < 8 → s.live .cdc = true → s.actGet (R.cdcEncCtrl e) F.cdcEncCtrl_EN = 1 → s.actGet (R.cdcEncCtrl e) F.cdcEncCtrl_MODE ≠ 2 →
        s.actGet (R.cdcEncCtrl e) F.cdcEncCtrl_TRIG = fieldGet v.toNat F.dmaTrigSw_LINE → e ∈ t.cdc.due) ∧
    (∀ i, i < 64 → (∀ j, j < 64 → ((s.srcNow j).en = true ∧ (s.srcNow j).kind = 2 ∧ (s.srcNow j).trig = fieldGet v.toNat F.dmaTrigSw_LINE ↔ j = i)) →
        s.srcState i ≠ 0 →
      (s.slotHeld i (s.writeSlot i) = false → ∃ t, exec (.trigSwPulse req v) s = .next t ∧
        t.get (R.ingSrcStatus i) F.ingSrcStatus_NEWEST = s.writeSlot i % 8 ∧ t.srcState i = 2) ∧
      (s.slotHeld i (s.writeSlot i) = true → ∃ t, exec (.trigSwPulse req v) s = .next t ∧ t.ing = s.ing ∧
        t.reg (R.ingSrcStatus i) = s.reg (R.ingSrcStatus i) ∧
        t.get (R.ingSrcCounts i) F.ingSrcCounts_DROPPED = min 255 (s.get (R.ingSrcCounts i) F.ingSrcCounts_DROPPED + 1))))

/-- Flow filters and memberships (R101, R102); the binding instant of every source (R91, R93). -/
def Obligations.FiltersAndBinding : Prop :=
  (∀ (req : Requester) (f : Fin 256) (v : Word) (s u : State), s.mayWrite req = true → s.live .ing = true → s.filterOn f.val = false →
      u = s.setReg (R.ingFilterCtrl f.val) (v.toNat % 2 ^ 26 / 2 * 2) →
    (v.toNat % 2 = 0 → exec (.filterEnable req f v) s = .next u) ∧
    (v.toNat % 2 = 1 → (∀ g, g < 256 → g ≠ f.val → u.filterOn g = true → u.filterKey g ≠ u.filterKey f.val) →
        u.get (R.ingFilterCtrl f.val) F.ingFilterCtrl_PATH = 0 →
      ∃ t, exec (.filterEnable req f v) s = .next t ∧ s.Frame t [.ing] [R.ingFilterCtrl f.val] ∧ t.filterOn f.val = true ∧
        t.reg (R.ingFilterCtrl f.val) / 2 = v.toNat % 2 ^ 26 / 2) ∧
    (∀ g, v.toNat % 2 = 1 → g < 256 → g ≠ f.val → u.filterOn g = true → u.filterKey g = u.filterKey f.val →
      exec (.filterEnable req f v) s = .next (u.raise .ing 0 1 0 [R.ingFilterCtrl f.val, v.toNat, reqCode req]))) ∧
  (∀ (req : Requester) (f : Fin 256) (v : Word) (s : State), s.mayWrite req = true → s.live .ing = true → s.filterOn f.val = true →
    (v.toNat % 2 = 0 → v.toNat % 2 ^ 26 / 2 = s.reg (R.ingFilterCtrl f.val) / 2 →
      ∃ t, exec (.filterEnable req f v) s = .next t ∧ s.Frame t [.ing] [R.ingFilterCtrl f.val] ∧ t.filterOn f.val = false ∧
        t.reg (R.ingFilterCtrl f.val) / 2 = s.reg (R.ingFilterCtrl f.val) / 2) ∧
    (v.toNat % 2 = 1 → v.toNat % 2 ^ 26 / 2 ≠ s.reg (R.ingFilterCtrl f.val) / 2 →
      exec (.filterEnable req f v) s = .next (s.raise .ing 0 1 0 [R.ingFilterCtrl f.val, v.toNat, reqCode req]))) ∧
  (∀ (p : Fin 8) (left : List (Bool × Nat)) (s : State), sLookup s.ing.repeats p.val = some left →
      s.get (R.ingPortCfg p.val) F.ingPortCfg_JOIN = 1 → s.ethUp p.val = true →
    ∃ t, exec (.membershipRepeat p) s = .next t ∧ s.Frame t [.ing] [] ∧
      t.ing = { s.ing with
        repeats := s.ing.repeats.filter (·.1 != p.val),
        sent := s.ing.sent ++ ([false, true].filter fun v6 => !(s.records p.val v6 left).isEmpty).map fun v6 =>
          .report p.val (s.get (R.ingPortCfg p.val) F.ingPortCfg_TX_VID) v6 (s.groupVersion p.val v6)
            (if v6 = true then s.reg (R.ingPortIpv6 p.val) else s.reg (R.ingPortIpv4 p.val)) (s.records p.val v6 left) }) ∧
  (∀ (p : Fin 8) (s : State), sLookup s.ing.repeats p.val = none → exec (.membershipRepeat p) s = .next s) ∧
  (∀ (n : Int) (s : State), s.live .ing = true → s.rst.inReset = false → s.bindFrame = some n →
    ∃ t, exec .bindingInstant s = .next t ∧ ∀ i, i < 64 →
      (s.srcState i = 0 → { t.src i with holds := [] } = { s.src i with holds := [] }) ∧
      (s.srcState i ≠ 0 → (s.src i).any = false →
        { t.src i with holds := [], flights := [] } = { s.src i with found := 0, holds := [], flights := [] }) ∧
      (s.srcState i ≠ 0 → (s.src i).any = true → 0 < (s.src i).fresh →
        (t.src i).found = 1 ∧ (t.src i).fresh = 0 ∧
        t.get (R.ingSrcStatus i) F.ingSrcStatus_BOUND = s.get (R.ingSrcStatus i) F.ingSrcStatus_NEWEST ∧
        (∃ c, (t.src i).bound = some ((s.srcNow i).pic i (s.get (R.ingSrcStatus i) F.ingSrcStatus_NEWEST) (s.src i).done c)) ∧
        (s.get (R.ingSrcStatus i) F.ingSrcStatus_NEWEST, ofSigned 48 n) ∈ (t.src i).holds ∧
        t.get (R.ingSrcCounts i) F.ingSrcCounts_SKIPPED =
          min 255 (s.get (R.ingSrcCounts i) F.ingSrcCounts_SKIPPED + ((s.src i).fresh - 1))) ∧
      (∀ d p, s.srcState i ≠ 0 → (s.src i).any = true → (s.src i).fresh = 0 → (s.src i).doneAt = some d →
          p = ceilDiv ((s.srcNow i).num * 1000000000) (s.srcNow i).den →
        (s.clock.now < d + p * (8 + (s.srcNow i).lateTol) / 8 →
          { t.src i with holds := [], flights := [] } = { s.src i with found := 2, holds := [], flights := [] } ∧
          t.get (R.ingSrcCounts i) F.ingSrcCounts_LATE = s.get (R.ingSrcCounts i) F.ingSrcCounts_LATE) ∧
        (d + p * (8 + (s.srcNow i).lateTol) / 8 ≤ s.clock.now → (t.src i).found = 3 ∧ (t.src i).bound = (s.src i).bound ∧
          t.get (R.ingSrcCounts i) F.ingSrcCounts_LATE = min 255 (s.get (R.ingSrcCounts i) F.ingSrcCounts_LATE + 1))))

/-- The queue manager (R114 to R116, R118) and the HBM power states (R111, R112). -/
def Obligations.QueuesAndHbm : Prop :=
  (∀ (req : Requester) (v : Word) (q : Nat) (s : State), s.mayWrite req = true → s.live .qm = true → fieldGet v.toNat F.qmCmd_OP = 1 → q = s.selQueue →
    ∃ t, exec (.queueEnable req v) s = .next t ∧ s.Frame t [.queues, .qmCache] [R.qmCmd] ∧ (∀ x, x ≠ q → t.queue x = s.queue x) ∧
      (s.enableReason q = 0 → t.queue q = { s.queue q with enabled := true, p := 0, c := 0, disabling := false } ∧
        t.get R.qmCmd F.qmCmd_RESULT = 1 ∧ t.get R.qmCmd F.qmCmd_REASON = 0) ∧
      (s.enableReason q ≠ 0 → t.queues = s.queues ∧ t.get R.qmCmd F.qmCmd_RESULT = 2) ∧
      (s.pool q = none → t.get R.qmCmd F.qmCmd_REASON = 1) ∧
      (∀ p, s.pool q = some p → q < s.queueTotal → (s.queue q).sizeLog2 < 6 ∨ 24 < (s.queue q).sizeLog2 →
        t.get R.qmCmd F.qmCmd_REASON = 2) ∧
      (∀ p, s.pool q = some p → q < s.queueTotal → 6 ≤ (s.queue q).sizeLog2 → (s.queue q).sizeLog2 ≤ 24 →
          (s.queue q).base + (s.queue q).size * (s.queue q).entryBytes ≤
            (if (s.queue q).hostSpace = true then 2 ^ 64 else s.sharedSize) → (s.queue q).esize < 3 → (s.queue q).entryBytes ∈ p.sizes →
          classEntry p.cls q = (s.queue q).entryBytes → (s.queue q).base % 4096 = 0 → (s.queue q).enabled = true →
        t.get R.qmCmd F.qmCmd_REASON = 5)) ∧
  (∀ (req : Requester) (v : Word) (q : Nat) (s : State), s.mayWrite req = true → s.live .qm = true → fieldGet v.toNat F.qmCmd_OP = 2 → q = s.selQueue →
    ∃ t, exec (.queueDisable req v) s = .next t ∧ s.Frame t [.queues, .qmCache] [R.qmCmd] ∧ (∀ x, x ≠ q → t.queue x = s.queue x) ∧
      ((s.queue q).enabled = true → t.queue q = { s.queue q with disabling := true }) ∧
      ((s.queue q).enabled = false → t.queues = s.queues ∧ t.get R.qmCmd F.qmCmd_RESULT = 1)) ∧
  (∀ (q : BitVec 18) (s : State),
    ((s.queue q.toNat).disabling = true → ∃ t, exec (.queueDisableDone q) s = .next t ∧ s.Frame t [.queues, .qmCache] [R.qmCmd] ∧
      t.queue q.toNat = { s.queue q.toNat with enabled := false, disabling := false }) ∧
    ((s.queue q.toNat).disabling = false → exec (.queueDisableDone q) s = .next s)) ∧
  (∀ (req : Requester) (v : BitVec 64) (q i : Nat) (s : State), s.mayWrite req = true → s.live .qm = true → q = fieldGet v.toNat F.qmConsume_QUEUE →
      i = fieldGet v.toNat F.qmConsume_INDEX →
    (s.queueClass q = some 1 ∨ s.queueClass q = some 4 → (s.queue q).enabled = true → i < (s.queue q).size →
        (i + (s.queue q).size - (s.queue q).c) % (s.queue q).size ≤ ((s.queue q).p + (s.queue q).size - (s.queue q).c) % (s.queue q).size →
      ∃ t, exec (.qmConsume req v) s = .next t ∧ s.Frame t [.queues, .qmCache] [] ∧ t.queue q = { s.queue q with c := i } ∧
        ∀ x, x ≠ q → t.queue x = s.queue x) ∧
    ((s.queueClass q ≠ some 1 ∧ s.queueClass q ≠ some 4) ∨
        ((s.queue q).p + (s.queue q).size - (s.queue q).c) % (s.queue q).size < (i + (s.queue q).size - (s.queue q).c) % (s.queue q).size →
      exec (.qmConsume req v) s = .next (s.raise .qm 0 1 0 [R.qmConsume, v.toNat % 2 ^ 32, reqCode req]))) ∧
  (∀ (q : BitVec 18) (b : List Nat) (r : List (Nat × List Nat)) (a : Nat) (s : State), s.qmWait = (q.toNat, b) :: r →
      a = (s.queue q.toNat).base + (s.queue q.toNat).p * (s.queue q.toNat).entryBytes →
    ((s.queue q.toNat).enabled = true → (s.queue q.toNat).isFull = false →
      ∃ t, exec (.producerRetry q) s = .next t ∧ t.qmWait = r ∧
        t.queue q.toNat = { s.queue q.toNat with p := ((s.queue q.toNat).p + 1) % (s.queue q.toNat).size } ∧
        ((s.queue q.toNat).hostSpace = false → s.Frame t [.qmWait, .queues, .qmCache, .mem] [R.hbmStatus] ∧
          t.mem = writeBytes s.mem a ((b.map (BitVec.ofNat 8)).take (s.memSize - a))) ∧
        ((s.queue q.toNat).hostSpace = true → s.Frame t [.qmWait, .queues, .qmCache, .hif] [] ∧
          t.hif = { s.hif with hostWrites := s.hif.hostWrites ++ [(a, b)] })) ∧
    ((s.queue q.toNat).isFull = true → exec (.producerRetry q) s = .next s)) ∧
  (∀ (q : BitVec 18) (s : State), (∀ e ∈ s.qmWait, e.1 ≠ q.toNat) → exec (.producerRetry q) s = .next s) ∧
  (∀ s : State, s.hbmServes = true → s.hbmState = 1 →
    (s.get R.hbmPowerCfg F.hbmPowerCfg_PD_EN = 1 → 600 ≤ s.hbmTolerance.1 →
      ∃ t, exec .hbmPowerDown s = .next t ∧ s.Frame t [] [R.hbmStatus, R.hbmSleepCount] ∧ t.hbmState = 2 ∧
        t.get R.hbmSleepCount F.hbmSleepCount_PD = min 65535 (s.get R.hbmSleepCount F.hbmSleepCount_PD + 1)) ∧
    (s.get R.hbmPowerCfg F.hbmPowerCfg_PD_EN = 0 ∨ s.hbmTolerance.1 < 600 → exec .hbmPowerDown s = .next s)) ∧
  (∀ s : State, s.hbmServes = true → s.hbmState = 1 ∨ s.hbmState = 2 →
    (s.get R.hbmPowerCfg F.hbmPowerCfg_SR_EN = 1 → 6000 ≤ s.hbmTolerance.1 →
      ∃ t, exec .hbmSelfRefresh s = .next t ∧ s.Frame t [] [R.hbmStatus, R.hbmSleepCount] ∧ t.hbmState = 3 ∧
        t.get R.hbmSleepCount F.hbmSleepCount_SR = min 65535 (s.get R.hbmSleepCount F.hbmSleepCount_SR + 1)) ∧
    (s.get R.hbmPowerCfg F.hbmPowerCfg_SR_EN = 0 ∨ s.hbmTolerance.1 < 6000 → exec .hbmSelfRefresh s = .next s)) ∧
  (∀ s : State, s.isTile = true ∨ s.ldr.phase = .safeIdle ∨ s.rst.inReset = true →
    exec .hbmPowerDown s = .next s ∧ exec .hbmSelfRefresh s = .next s ∧ ∀ f, exec (.hbmWake f) s = .next s) ∧
  (∀ s : State, s.hbmServes = true →
    (s.hbmState = 2 ∨ s.hbmState = 3 → ∃ t, exec (.hbmWake none) s = .next t ∧ s.Frame t [] [R.hbmStatus] ∧ t.hbmState = 1) ∧
    (∀ (c : Fin 11) (v : BitVec 16), s.hbmState = 3 →
      ∃ t, exec (.hbmWake (some (c, v))) s = .next t ∧ s.Frame t [.hif] [R.hbmStatus, R.hbmTol c.val] ∧
        t.get (R.hbmTol c.val) F.hbmTol_TOL = max 1000 v.toNat ∧ (t.hbmTolerance.1 < 6000 → t.hbmState = 1) ∧
        (6000 ≤ t.hbmTolerance.1 → t.hbmState = 3) ∧ (s.hif.linkUp = true → t.hif.ltr = t.hbmTolerance.1)))

/-- DMA channel control (R125, R127). -/
def Obligations.DmaChannels : Prop :=
  (∀ (req : Requester) (c : Fin 128) (v : Word) (s : State), s.mayWrite req = true → s.live .dma = true → fieldGet v.toNat F.dmaChCtrl_RUN = 1 →
      s.dmaState c.val = dmaIdle →
    ((s.queue (s.dmaQueue c.val)).enabled = true → s.queueClass (s.dmaQueue c.val) = some 0 →
      ∃ t, exec (.dmaRun req c v) s = .next t ∧ s.Frame t [] [R.dmaChCtrl c.val, R.dmaChStatus c.val] ∧
        t.dmaState c.val = dmaFetch ∧ t.dmaRun c.val = true) ∧
    ((s.queue (s.dmaQueue c.val)).enabled = false → ∃ t, exec (.dmaRun req c v) s = .next t ∧ t.dmaState c.val = dmaError ∧
      t.get (R.dmaChStatus c.val) F.dmaChStatus_CAUSE = 9 ∧ t.queues = s.queues ∧ t.mem = s.mem)) ∧
  (∀ (req : Requester) (c : Fin 128) (v : Word) (s : State), s.mayWrite req = true → s.live .dma = true → fieldGet v.toNat F.dmaChCtrl_RUN = 0 →
      s.dmaState c.val = dmaActive → (s.dmaCh c.val).hostReset = false →
    ∃ t, exec (.dmaStop req c v) s = .next t ∧ s.Frame t [.dma] [R.dmaChCtrl c.val, R.dmaChStatus c.val] ∧ t.dmaRun c.val = false ∧
      ((s.dmaCh c.val).bursts ≠ [] → t.dmaState c.val = dmaStopping ∧ t.dma = s.dma) ∧
      ((s.dmaCh c.val).bursts = [] → t.dmaState c.val = dmaIdle ∧ (t.dmaCh c.val).desc = none)) ∧
  (∀ (req : Requester) (c : Fin 128) (v : Word) (s : State), s.mayWrite req = true → s.live .dma = true → fieldGet v.toNat F.dmaChCtrl_RUN = 0 →
      fieldGet v.toNat F.dmaChCtrl_RESET = 1 → s.dmaState c.val = dmaError →
    (fieldGet v.toNat F.dmaChCtrl_SKIP = 0 → ∃ t, exec (.dmaReset req c v) s = .next t ∧
      s.Frame t [] [R.dmaChCtrl c.val, R.dmaChStatus c.val] ∧ t.dmaState c.val = dmaIdle) ∧
    (fieldGet v.toNat F.dmaChCtrl_SKIP = 1 → ∃ t, exec (.dmaResetSkip req c v) s = .next t ∧
      s.Frame t [.queues, .qmCache] [R.dmaChCtrl c.val, R.dmaChStatus c.val] ∧ t.dmaState c.val = dmaIdle ∧
      t.queue (s.dmaQueue c.val) = { s.queue (s.dmaQueue c.val) with
        c := ((s.queue (s.dmaQueue c.val)).c + 1) % (s.queue (s.dmaQueue c.val)).size } ∧
      ∀ x, x ≠ s.dmaQueue c.val → t.queue x = s.queue x)) ∧
  (∀ (l : Fin 64) (s : State),
    (∃ t, exec (.drqAssert l true) s = .next t ∧ l.val ∈ t.dma.drq ∧
      s.Frame t [.dma] ((List.range 128).map R.dmaChStatus) ∧ ∀ c, c < 128 →
        (s.dmaState c = dmaPaused → s.get (R.dmaChCfg c) F.dmaChCfg_REQ_EN = 1 → s.get (R.dmaChCfg c) F.dmaChCfg_REQ = l.val →
          t.dmaState c = dmaActive) ∧
        (s.dmaState c ≠ dmaPaused ∨ s.get (R.dmaChCfg c) F.dmaChCfg_REQ_EN = 0 ∨ s.get (R.dmaChCfg c) F.dmaChCfg_REQ ≠ l.val →
          t.dmaState c = s.dmaState c)) ∧
    (∃ t, exec (.drqAssert l false) s = .next t ∧ t.dma = { s.dma with drq := s.dma.drq.filter (· != l.val) } ∧
      s.Frame t [.dma] ((List.range 128).map R.dmaChStatus) ∧ ∀ c, c < 128 →
        (s.dmaState c = dmaActive → (s.dmaCh c).bursts = [] → s.get (R.dmaChCfg c) F.dmaChCfg_REQ_EN = 1 →
          s.get (R.dmaChCfg c) F.dmaChCfg_REQ = l.val → t.dmaState c = dmaPaused) ∧
        (s.dmaState c ≠ dmaActive ∨ (s.dmaCh c).bursts ≠ [] ∨ s.get (R.dmaChCfg c) F.dmaChCfg_REQ_EN = 0 ∨
          s.get (R.dmaChCfg c) F.dmaChCfg_REQ ≠ l.val → t.dmaState c = s.dmaState c)))

/-- DMA descriptors (R120 to R126, R128). -/
def Obligations.DmaDescriptors : Prop :=
  (∀ (c : Fin 128) (h : List Byte) (b : List Nat) (s : State), s.dmaState c.val = dmaFetch →
      (s.queue (s.dmaQueue c.val)).enabled = true → (s.queue (s.dmaQueue c.val)).disabling = false →
      s.queueClass (s.dmaQueue c.val) = some 0 → (s.queue (s.dmaQueue c.val)).p ≠ (s.queue (s.dmaQueue c.val)).c →
      (s.queue (s.dmaQueue c.val)).hostSpace = false → b = (s.readBytes (s.descAddr c.val).1 32).map (·.toNat) →
    ∃ t, exec (.descriptorFetchDone c h) s = .next t ∧ t.queues = s.queues ∧ t.mem = s.mem ∧
      (s.descCause b = 0 → s.Frame t [.dma, .qmCache] [R.dmaChStatus c.val, R.dmaChDone c.val, R.hbmStatus] ∧ t.dmaState c.val = dmaActive ∧
        t.dmaCh c.val = { DmaCh.idle c.val with desc := some (descOf b) }) ∧
      (s.descCause b ≠ 0 → t.dmaState c.val = dmaError ∧ t.get (R.dmaChStatus c.val) F.dmaChStatus_CAUSE = s.descCause b ∧
        t.reg (R.dmaChErrTag c.val) = (descOf b).tag) ∧
      ((descOf b).src % 64 ≠ 0 ∨ (descOf b).dst % 64 ≠ 0 ∨ (descOf b).length % 64 ≠ 0 → s.descCause b = 1) ∧
      ((descOf b).src % 64 = 0 → (descOf b).dst % 64 = 0 → (descOf b).length = 0 → s.descCause b = 2)) ∧
  (∀ (c : Fin 128) (s : State), s.dmaState c.val = dmaFetch → ∃ t, exec (.descriptorFetchTimeout c) s = .next t ∧
    t.dmaState c.val = dmaError ∧ t.get (R.dmaChStatus c.val) F.dmaChStatus_CAUSE = 5 ∧ t.queues = s.queues ∧ t.mem = s.mem) ∧
  (∀ (c : Fin 128) (d : DmaDesc) (s : State), s.dmaState c.val = dmaActive → (s.dmaCh c.val).desc = some d →
      (s.dmaCh c.val).issued < d.length →
    (s.get (R.dmaChCfg c.val) F.dmaChCfg_REQ_EN = 1 → s.get (R.dmaChCfg c.val) F.dmaChCfg_REQ ∉ s.dma.drq →
      ∃ t, exec (.burstIssue c) s = .next t ∧ s.Frame t [] [R.dmaChStatus c.val] ∧ t.dmaState c.val = dmaPaused) ∧
    (∀ n, s.get (R.dmaChCfg c.val) F.dmaChCfg_REQ_EN = 0 ∨ s.get (R.dmaChCfg c.val) F.dmaChCfg_REQ ∈ s.dma.drq →
        n = burstLength d (s.burstBytes c.val) (s.dmaCh c.val).issued →
      (s.fitsShared c.val n = true → s.hasTurn c.val n = true →
        ∃ t, exec (.burstIssue c) s = .next t ∧ s.Frame t [.dma] [] ∧ 0 < n ∧ n ≤ s.burstBytes c.val ∧
          (t.dmaCh c.val).issued = (s.dmaCh c.val).issued + n ∧
          (t.dmaCh c.val).bursts = (s.dmaCh c.val).bursts ++ [((s.dmaCh c.val).issued, n)] ∧
          d.srcAt (s.dmaCh c.val).issued % 4096 + n ≤ 4096 ∧ d.dstAt (s.dmaCh c.val).issued % 4096 + n ≤ 4096) ∧
      (s.fitsShared c.val n = false ∨ s.hasTurn c.val n = false → exec (.burstIssue c) s = .next s))) ∧
  (∀ (c : Fin 128) (h : List Byte) (d : DmaDesc) (o n : Nat) (r : List (Nat × Nat)) (s : State),
      (s.dmaCh c.val).desc = some d → (s.dmaCh c.val).bursts = (o, n) :: r → d.srcSpace ≠ 0 → d.dstSpace ≠ 0 →
      s.dmaState c.val = dmaActive →
    ∃ t, exec (.burstComplete c h) s = .next t ∧
      t.mem = writeBytes s.mem (d.dstAt o) ((s.readBytes (d.srcAt o) n).take (s.memSize - d.dstAt o)) ∧
      t.reg (R.dmaChDone c.val) = o + n ∧
      (o + n ≠ d.length ∨ r ≠ [] → s.Frame t [.dma, .mem] [R.dmaChDone c.val, R.dmaChStatus c.val, R.hbmStatus] ∧
        (t.dmaCh c.val).bursts = r ∧ t.dmaState c.val = if r = [] ∧ s.requested c.val = false then dmaPaused else dmaActive) ∧
      (o + n = d.length → r = [] → d.pulse = true → s.Frame t [.dma, .mem] [R.dmaChDone c.val, R.dmaChStatus c.val, R.hbmStatus] ∧
        t.dmaState c.val = dmaReadback) ∧
      (o + n = d.length → r = [] → d.pulse = false → (s.queue (s.dmaQueue c.val)).enabled = true →
          s.queueClass (s.dmaQueue c.val) = some 0 →
        s.Frame t [.dma, .mem, .queues, .qmCache] [R.dmaChDone c.val, R.dmaChStatus c.val, R.hbmStatus] ∧
        (t.queue (s.dmaQueue c.val)).c = ((s.queue (s.dmaQueue c.val)).c + 1) % (s.queue (s.dmaQueue c.val)).size ∧
        t.dmaState c.val = dmaFetch)) ∧
  (∀ (c : Fin 128) (d : DmaDesc) (s : State), (s.dmaCh c.val).desc = some d → s.dmaState c.val = dmaReadback → d.trig < 256 →
      (s.queue (s.dmaQueue c.val)).enabled = true → s.queueClass (s.dmaQueue c.val) = some 0 →
    ∃ t, exec (.readbackReturn c) s = .next t ∧
      t.get (R.dmaTrigCnt d.trig) F.dmaTrigCnt_COUNT = (s.get (R.dmaTrigCnt d.trig) F.dmaTrigCnt_COUNT + 1) % 65536 ∧
      (t.queue (s.dmaQueue c.val)).c = ((s.queue (s.dmaQueue c.val)).c + 1) % (s.queue (s.dmaQueue c.val)).size ∧
      (s.dmaRun c.val = true → t.dmaState c.val = dmaFetch) ∧ (s.dmaRun c.val = false → t.dmaState c.val = dmaIdle)) ∧
  (∀ (c : Fin 128) (d : DmaDesc) (s : State), (s.dmaCh c.val).desc = some d → s.dmaState c.val = dmaReadback →
    ∃ t, exec (.readbackTimeout c) s = .next t ∧ t.dmaState c.val = dmaError ∧
      t.get (R.dmaChStatus c.val) F.dmaChStatus_CAUSE = 7 ∧ t.reg (R.dmaChErrAddr c.val) = d.dstAt (d.length - 64) % 2 ^ 64 ∧
      t.reg (R.dmaChErrTag c.val) = d.tag ∧ t.queues = s.queues ∧ t.mem = s.mem) ∧
  (∀ (c : Fin 128) (e : Bool) (a : BitVec 64) (s : State), s.dmaState c.val = dmaActive → (s.dmaCh c.val).desc.isSome = true →
      (s.dmaCh c.val).hostReset = false →
    ∃ t, exec (.dmaErrorResponse c true e a) s = .next t ∧ t.dmaState c.val = dmaError ∧
      t.get (R.dmaChStatus c.val) F.dmaChStatus_CAUSE = 6 ∧ t.reg (R.dmaChErrAddr c.val) = a.toNat ∧ t.queues = s.queues ∧ t.mem = s.mem)

/-- TOP_COMMIT (R56, R156, R158, R440). -/
def Obligations.Commits : Prop :=
  (∀ (req : Requester) (v : Word) (s : State), s.mayWrite req = true →
    (s.isTile = true → exec (.topCommit req v) s = .next s) ∧
    (s.isTile = false → s.switching = true → ∃ t, exec (.topCommit req v) s = .next t ∧ s.Frame t [] [R.topCommitStatus] ∧
      t.get R.topCommitStatus F.topCommitStatus_REASON = 1 ∧
      t.get R.topCommitStatus F.topCommitStatus_STATE = s.get R.topCommitStatus F.topCommitStatus_STATE ∧
      t.get R.topCommitStatus F.topCommitStatus_GEN = s.get R.topCommitStatus F.topCommitStatus_GEN) ∧
    (s.isTile = false → s.switching = false → ∃ t, exec (.topCommit req v) s = .next t ∧ s.Frame t [.cmp] [R.topCommitStatus] ∧
      t.cmp = { s.cmp with checking := some (fieldGet v.toNat F.topCommit_GEN, fieldGet v.toNat F.topCommit_WALL == 1) } ∧
      t.get R.topCommitStatus F.topCommitStatus_STATE = 1 ∧ t.get R.topCommitStatus F.topCommitStatus_REASON = 0 ∧
      t.get R.topCommitStatus F.topCommitStatus_GEN = fieldGet v.toNat F.topCommit_GEN)) ∧
  (∀ s : State, s.cmp.checking = none → exec .commitChecksDone s = .next s) ∧
  (∀ (gen : Nat) (wall : Bool) (p : PatternRec) (s : State), s.cmp.checking = some (gen, wall) → s.pattern = some p →
    (s.ldr.phase ≠ .ready ∨ s.frameLocked = false → ∃ t, exec .commitChecksDone s = .next t ∧ s.Frame t [.cmp] [R.topCommitStatus] ∧
      t.cmp = { s.cmp with checking := none } ∧ t.get R.topCommitStatus F.topCommitStatus_STATE = 4 ∧
      t.get R.topCommitStatus F.topCommitStatus_REASON = 7) ∧
    (s.ldr.phase = .ready → s.frameLocked = true → gen = s.activeGen → ∃ t, exec .commitChecksDone s = .next t ∧
      s.Frame t [.cmp] [R.topCommitStatus] ∧ t.get R.topCommitStatus F.topCommitStatus_STATE = 4 ∧
      t.get R.topCommitStatus F.topCommitStatus_REASON = 2) ∧
    (∀ (f : CheckFail) (u : State), s.ldr.phase = .ready → s.frameLocked = true → gen ≠ s.activeGen →
        s.checks s.regs p = (some f, u) → f.reason < 256 →
      ∃ t, exec .commitChecksDone s = .next t ∧ t.cmp.checking = none ∧ t.cmp.pend = u.cmp.pend ∧
        t.get R.topCommitStatus F.topCommitStatus_STATE = 4 ∧ t.get R.topCommitStatus F.topCommitStatus_REASON = f.reason) ∧
    (∀ u : State, s.ldr.phase = .ready → s.frameLocked = true → gen ≠ s.activeGen → s.checks s.regs p = (none, u) →
        u.namedFrame gen = none →
      ∃ t, exec .commitChecksDone s = .next t ∧ u.Frame t [.cmp, .pen] [R.topCommitStatus, R.topCommitFrame] ∧
        t.cmp = { u.cmp with checking := none, pend := some ⟨gen, u.nextSampled, wall, false, false⟩ } ∧
        t.get R.topCommitStatus F.topCommitStatus_STATE = 2 ∧ t.reg R.topCommitFrame = u.nextSampled)) ∧
  (∀ (n : Nat) (p : PatternRec) (s : State), s.pattern = some p → 0 < p.fpNum → 0 < p.fpDen → n < 2 ^ 48 →
      (s.clock.now : Int) < frameStart s.origin p n - s.lead - 100000 →
      frameStart s.origin p (n - 1 : Int) - s.lead - 100000 ≤ s.clock.now → s.nextSampled = n) ∧
  (∀ s : State, s.rst.inReset = true ∨ s.cmp.pend = none → exec .commitApply s = .next s) ∧
  (∀ (c : CommitPend) (s : State), s.rst.inReset = false → s.cmp.pend = some c →
    (s.frameInt < c.frame → exec .commitApply s = .next s) ∧
    ((c.frame : Int) ≤ s.frameInt → c.gen < 65536 → ∃ t, exec .commitApply s = .next t ∧ t.cmp.pend = none ∧
      t.active = s.regs.filter (fun e => shadowedKey e.1) ∧ t.shWritten = [] ∧
      t.get R.topCommitStatus F.topCommitStatus_STATE = 3 ∧ t.get R.topCommitDetail F.topCommitDetail_ACTIVE_GEN = c.gen))

/-- Composition (R129, R130, R144, R145, R153 to R155) and coefficients (R167). -/
def Obligations.Composition : Prop :=
  (∀ (q : Fin 4) (s : State), s.live .cmp = true → s.isFeed = true →
    (s.composeAt = none → exec (.bandStart q [] []) s = .next s.hbmTouch) ∧
    (∀ a : ComposeAt, s.composeAt = some a →
      ∃ t, exec (.bandStart q [] []) s = .next t ∧ s.Frame t [.cmp, .ing] (R.hbmStatus :: (List.range 64).map R.ingSrcStatus) ∧
        ∀ b, b ∈ bandsOf (canvasCfg a.rf) q.val → ∃ pic, pic ∈ t.cmp.bands ∧ pic.band = b ∧
          pic.frame = ofSigned 48 a.frame ∧ pic.slot = a.slot ∧ pic.rows.length = (canvasCfg a.rf).h ∧
          ∀ row, row ∈ pic.rows → ∀ v, v ∈ row → v.r ≤ 4095 ∧ v.g ≤ 4095 ∧ v.b ≤ 4095)) ∧
  (∀ (q : Fin 4) (u : List (Nat × Nat × Nat × Nat)) (s : State), s.isTile = true → exec (.bandStart q u []) s = .next s) ∧
  (∀ (q : Fin 4) (u : List (Nat × Nat × Nat × Nat)) (a : BitVec 37) (s : State), s.live .cmp = false → s.isF = true →
    exec (.bandStart q u [.hbm a]) s = .next ((s.count R.hbmEcc F.hbmEcc_UNCORRECTED).raise .hbm 2 3 0
      [a.toNat % 2 ^ 32, a.toNat / 2 ^ 32 % 2 ^ 32])) ∧
  (∀ (b : Fin 128) (row : BitVec 14) (pic : BandPic) (s : State), s.live .cmp = true →
      (s.cmp.bands.filter fun x => x.band == b.val).getLast? = some pic →
    (pic.rows.length ≤ row.toNat → exec (.bandDeadline b row) s = .next s) ∧
    (row.toNat < pic.rows.length → ∃ t, exec (.bandDeadline b row) s = .next t ∧
      s.Frame t (.cmp :: evtParts) [R.cmpStatus (b.val % 4)] ∧ { pic with rows := pic.rows.take row.toNat } ∈ t.cmp.bands ∧
      t.get (R.cmpStatus (b.val % 4)) F.cmpStatus_BAND_LATE =
        min 65535 (s.get (R.cmpStatus (b.val % 4)) F.cmpStatus_BAND_LATE + 1))) ∧
  (∀ (late : Bool) (s : State), s.live .cmp = true →
    (s.cmp.wbFrame = none → exec (.writebackDone late) s = .next s) ∧
    (∀ f w, s.cmp.wbFrame = some f → w = wbCfg (s.cfgFor f) → ∃ t, exec (.writebackDone late) s = .next t ∧
      t.reg R.cmpWbFrame = f ∧ t.cmp.wbFrame = none ∧
      t.get R.cmpWbStatus F.cmpWbStatus_INCOMPLETE = (late || s.cmp.wbBad || !s.wbWhole (s.cfgFor f) f).toNat ∧
      t.get R.cmpWbStatus F.cmpWbStatus_NEWEST = s.cmp.wbNext % 2 ^ w.ringLog2 ∧
      (w.trigEn = false → s.Frame t [.cmp, .mem, .ing]
        ([R.cmpWbStatus, R.cmpWbFrame, R.hbmStatus] ++ (List.range 64).map R.ingSrcStatus)) ∧
      (w.trigEn = true → t.get (R.dmaTrigCnt w.trig) F.dmaTrigCnt_COUNT =
        (s.get (R.dmaTrigCnt w.trig) F.dmaTrigCnt_COUNT + 1) % 2 ^ F.dmaTrigCnt_COUNT.w))) ∧
  (∀ (req : Requester) (q : Fin 4) (n : Fin 8) (e : Fin 4096) (v : Word) (s : State), s.mayWrite req = true → s.live .cmp = true →
    (linearOn s.active q.val n.val = false → s.committing = false → ∃ t, exec (.cmpLutWrite req q (some n) e v) s = .next t ∧
      s.Frame t [] [R.cmpLutE q.val n.val e.val] ∧ t.reg (R.cmpLutE q.val n.val e.val) = v.toNat % 2 ^ 20) ∧
    (linearOn s.active q.val n.val = true ∨ (s.committing = true ∧ linearOn s.regs q.val n.val = true) →
      exec (.cmpLutWrite req q (some n) e v) s =
        .next (s.raise .cmp 0 1 0 [R.cmpLutE q.val n.val e.val, v.toNat, reqCode req])) ∧
    (s.seq.state = .idle → ∃ t, exec (.cmpLutWrite req q none e v) s = .next t ∧ s.Frame t [] [R.cmpLutW q.val e.val] ∧
      t.reg (R.cmpLutW q.val e.val) = v.toNat % 2 ^ 20) ∧
    (s.seq.state ≠ .idle → exec (.cmpLutWrite req q none e v) s =
      .next (s.raise .cmp 0 1 0 [R.cmpLutW q.val e.val, v.toNat, reqCode req]))) ∧
  (∀ (req : Requester) (q : Fin 4) (c : Fin 16) (ph : Fin 64) (tap : Fin 12) (v : Word) (s : State), s.mayWrite req = true → s.live .scl = true →
    (setUsed s.active q.val c.val = false → s.committing = false → ∃ t, exec (.sclCoefWrite req q c ph tap v) s = .next t ∧
      s.Frame t [] [R.sclCoef q.val c.val ph.val tap.val] ∧ t.reg (R.sclCoef q.val c.val ph.val tap.val) = v.toNat % 1024) ∧
    (setUsed s.active q.val c.val = true ∨ (s.committing = true ∧ setUsed s.regs q.val c.val = true) →
      exec (.sclCoefWrite req q c ph tap v) s =
        .next (s.raise .scl 0 1 0 [R.sclCoef q.val c.val ph.val tap.val, v.toNat, reqCode req]))) ∧
  (∀ (q : Fin 4) (s : State), s.layerMode = false → exec (.tileComposeStart q) s = .next s) ∧
  (∀ (q : Fin 4) (m : LampMap) (p : PatternRec) (v : State) (f k : Nat) (l : ListRec) (s : State), s.isTile = true →
      s.layerMode = true → s.rst.inReset = false → s.lampMap = some m → s.deadlineSlot = some (v, f, k) → v.pattern = some p →
      v.latches (frameAt v.origin p ((s.clock.now : Int) + 200000)) k = true → s.listFor f k = some l →
    ∃ t pic, exec (.tileComposeStart q) s = .next t ∧ s.Frame t [.hold] [] ∧ pic ∈ t.hold.pics ∧ pic.slot = k ∧ pic.frame = f)

/-- Bring-up of a Halyard port (R179, R181). The step to HOLDOFF at every failed attempt from the fourth on is the model's (log entry 70). -/
def Obligations.LaneBringUp : Prop :=
  (∀ (p : Fin 96) (present : Bool) (s : State), s.isPort p.val = true → s.laneState p.val = 2 →
    ∃ t, exec (.detectPoll p present) s = .next t ∧
      (present = true → s.refLost p.val = false →
        s.Frame t [.lan] ((s.portLanes p.val).map R.laneStatus ++ (s.portLanes p.val).map R.laneEq ++ (s.portLanes p.val).map R.laneFom) ∧
        ∀ x, x ∈ s.portLanes p.val → t.laneState x = 3 ∧ t.reg (R.laneEq x) = regReset (R.laneEq x) ∧
          t.get (R.laneFom x) F.laneFom_VALID = 0) ∧
      (present = false ∨ s.refLost p.val = true → s.Frame t [] ((s.portLanes p.val).map R.laneStatus) ∧
        ∀ x, x ∈ s.portLanes p.val → t.laneState x = s.laneState x ∧ t.get (R.laneStatus x) F.laneStatus_SIGNAL = present.toNat)) ∧
  (∀ (p : Fin 96) (foms : List (BitVec 8 × BitVec 10)) (ffe : List (BitVec 4 × BitVec 6 × BitVec 5)) (s : State),
      s.isPort p.val = true → s.laneState p.val = 3 →
    ∃ t, exec (.trainDone p foms ffe) s = .next t ∧
      s.Frame t [.lan] ((s.portLanes p.val).map R.laneStatus ++ (s.portLanes p.val).map R.laneFom ++ (s.portLanes p.val).map R.laneEq) ∧
      (∀ x, x ∈ s.portLanes p.val → t.laneState x = if s.laneRole p.val = 3 then s.laneState x else 4) ∧
      (∀ (i x : Nat) (v : BitVec 8 × BitVec 10), foms[i]? = some v → (s.portLanes p.val)[i]? = some x →
        t.get (R.laneFom x) F.laneFom_WIDTH = v.1.toNat ∧ t.get (R.laneFom x) F.laneFom_HEIGHT = v.2.toNat ∧
        t.get (R.laneFom x) F.laneFom_VALID = 1) ∧
      ∀ (i x : Nat) (v : BitVec 4 × BitVec 6 × BitVec 5), ffe[i]? = some v → (s.portLanes p.val)[i]? = some x →
          32 ≤ v.2.1.toNat → v.1.toNat + v.2.1.toNat + v.2.2.toNat ≤ 63 → s.get (R.laneCtrl x) F.laneCtrl_ADAPT_FREEZE = 0 →
        t.get (R.laneEq x) F.laneEq_PRE = v.1.toNat ∧ t.get (R.laneEq x) F.laneEq_MAIN = v.2.1.toNat ∧
        t.get (R.laneEq x) F.laneEq_POST = v.2.2.toNat) ∧
  (∀ (p : Fin 96) (c : Instr) (cause : Nat) (s : State), s.isHalPort p.val = true →
      (c = .trainTimeout p ∧ cause = 1 ∧ s.laneState p.val = 3) ∨ (c = .capsTimeout p ∧ cause = 6 ∧ s.laneState p.val = 5) →
    ∃ t, exec c s = .next t ∧
      (∀ x, x ∈ s.portLanes p.val →
        t.get (R.laneStatus x) F.laneStatus_FAILS = min 15 (s.get (R.laneStatus x) F.laneStatus_FAILS + 1) ∧
        t.get (R.laneStatus x) F.laneStatus_LAST_CAUSE = cause ∧
        (s.get (R.laneStatus p.val) F.laneStatus_FAILS < 3 → t.laneState x = 2) ∧
        (3 ≤ s.get (R.laneStatus p.val) F.laneStatus_FAILS → t.laneState x = 7)) ∧
      s.Frame t (.lan :: evtParts) ((s.portLanes p.val).map R.laneStatus)) ∧
  (∀ (p : Fin 96) (at_ : List (Fin 4)) (s : State), s.isHalPort p.val = true → s.laneState p.val = 4 →
    (anyOrder (s.portLanes p.val).length (at_.map (·.val)) = true →
      ∃ t, exec (.lockDone p at_) s = .next t ∧ s.Frame t [.lan] ((s.portLanes p.val).map R.laneStatus) ∧
        (∀ x, x ∈ s.portLanes p.val → t.laneState x = 5) ∧
        ∀ (i x : Nat) (v : Fin 4), at_[i]? = some v → (s.portLanes p.val)[i]? = some x → (t.lane x).rxPos = v.val) ∧
    (anyOrder (s.portLanes p.val).length (at_.map (·.val)) = false → exec (.lockDone p at_) s = .next s)) ∧
  (∀ (p : Fin 96) (m : LockStep) (s : State), s.isHalPort p.val = true → s.laneState p.val = 4 →
    ∃ t, exec (.lockTimeout p m) s = .next t ∧
      (∀ x, x ∈ s.portLanes p.val → t.get (R.laneStatus x) F.laneStatus_LAST_CAUSE =
        (match m with | .bit => 2 | .block => 3 | .fec => 4 | .deskew => 5)) ∧
      ((s.lane p.val).lockFails < 2 → ∀ x, x ∈ s.portLanes p.val → t.laneState x = 3 ∧
        t.get (R.laneStatus x) F.laneStatus_FAILS = s.get (R.laneStatus x) F.laneStatus_FAILS) ∧
      (2 ≤ (s.lane p.val).lockFails → ∀ x, x ∈ s.portLanes p.val →
        t.get (R.laneStatus x) F.laneStatus_FAILS = min 15 (s.get (R.laneStatus x) F.laneStatus_FAILS + 1) ∧
        (s.get (R.laneStatus p.val) F.laneStatus_FAILS < 3 → t.laneState x = 2) ∧
        (3 ≤ s.get (R.laneStatus p.val) F.laneStatus_FAILS → t.laneState x = 7))) ∧
  (∀ (p : Fin 96) (s : State), s.isHalPort p.val = true → s.laneState p.val = 5 →
    ∃ t, exec (.capsSend p) s = .next t ∧ s.Frame t [.lan] [] ∧ ∀ x, x ∈ s.portLanes p.val → (t.lane x).capsSent = s.capsBytes p.val) ∧
  (∀ (p : Fin 96) (bytes : List Byte) (r : List Nat) (a : Bool) (s : State), s.isHalPort p.val = true → s.laneState p.val = 5 →
      (s.lane p.val).record = none → r = bytes.map (·.toNat) →
    ∃ t, exec (.capsRecord p bytes a) s = .next t ∧
      (capsGood r = false → s.Frame t [.lan] []) ∧
      (capsGood r = true → a = false → (s.lane p.val).acked = false → s.Frame t [.lan]
          ((s.portLanes p.val).map R.lanePeer ++ (s.portLanes p.val).map R.lanePeerInfo) ∧
        ∀ x, x ∈ s.portLanes p.val → t.reg (R.lanePeer x) = leVal ((r.drop 8).take 8)) ∧
      (capsGood r = true → a = true ∨ (s.lane p.val).acked = true →
        (r.getD 0 0 = 1 → r.getD 1 0 = s.get (R.laneCfg p.val) F.laneCfg_RATE →
            r.getD 2 0 % 4 = s.get (R.laneCfg p.val) F.laneCfg_WIDTH →
            ¬(s.isTile = true ∧ 2 ≤ s.portName p.val ∧ r.getD 3 0 / 4 % 4 = 2 ∧ 2 ≤ r.getD 4 0) →
          s.Frame t ([.lan, .hal, .dsc] ++ evtParts) (R.dscCmd :: R.halPortCredit p.val :: ((s.portLanes p.val).map R.laneStatus ++
            (s.portLanes p.val).map R.lanePeer ++ (s.portLanes p.val).map R.lanePeerInfo)) ∧
          ∀ x, x ∈ s.portLanes p.val → t.laneState x = 6 ∧ t.get (R.laneStatus x) F.laneStatus_FAILS = 0 ∧
            t.reg (R.lanePeer x) = leVal ((r.drop 8).take 8)) ∧
        (r.getD 0 0 ≠ 1 ∨ r.getD 1 0 ≠ s.get (R.laneCfg p.val) F.laneCfg_RATE ∨
            r.getD 2 0 % 4 ≠ s.get (R.laneCfg p.val) F.laneCfg_WIDTH ∨
            (s.isTile = true ∧ 2 ≤ s.portName p.val ∧ r.getD 3 0 / 4 % 4 = 2 ∧ 2 ≤ r.getD 4 0) →
          ∀ x, x ∈ s.portLanes p.val → t.laneState x = 7 ∧ t.get (R.laneStatus x) F.laneStatus_LAST_CAUSE = 7))) ∧
  (∀ (p : Fin 96) (s : State), s.isPort p.val = true → s.laneState p.val = 7 →
    ∃ t, exec (.holdoffExpire p) s = .next t ∧ s.Frame t [.lan] ((s.portLanes p.val).map R.laneStatus) ∧
      ∀ x, x ∈ s.portLanes p.val → t.laneState x = 2 ∧
        t.get (R.laneStatus x) F.laneStatus_FAILS = s.get (R.laneStatus x) F.laneStatus_FAILS)

/-- Leaving ACTIVE and the commands of a port (R180, R182 to R184, R188, R194). -/
def Obligations.LaneExits : Prop :=
  (∀ (l : Fin 96) (f : Nat) (c : Instr) (cause : Nat) (s : State), f = s.portFirst l.val → s.isHalPort f = true → l.val ∈ s.portLanes f →
      s.laneRole l.val = 1 → s.laneState l.val = 6 → s.laneState f = 6 → (s.walkOf f).phase ≠ .walk → (s.halPort f).rx = none →
      (c, cause) ∈ [(Instr.signalLost l, 8), (.blockLockLost l, 9), (.fecLockLost l, 10), (.highSer l, 11)] →
    ∃ t, exec c s = .next t ∧ s.Frame t ([.lan, .hal, .time, .dsc] ++ evtParts)
        (R.dscCmd :: R.timeLaneDelay f :: (s.portLanes f).map R.laneStatus) ∧
      ∀ x, x ∈ s.portLanes f → t.laneState x = 2 ∧
        t.get (R.laneStatus x) F.laneStatus_LAST_CAUSE = (if x = l.val then cause else 12) ∧
        t.get (R.laneStatus x) F.laneStatus_LINK_DOWNS = min 255 (s.get (R.laneStatus x) F.laneStatus_LINK_DOWNS + 1)) ∧
  (∀ (l : Fin 96) (s : State), s.laneRole l.val ≠ 1 ∨ s.laneState l.val ≠ 6 →
    exec (.blockLockLost l) s = .next s ∧ exec (.fecLockLost l) s = .next s ∧ exec (.highSer l) s = .next s) ∧
  (∀ (req : Requester) (l : Fin 96) (v : Word) (f : Nat) (s : State), s.mayWrite req = true → f = s.portFirst l.val → s.isHalPort f = true →
      (s.halPort f).rx = none →
      l.val ∈ s.portLanes f → s.laneRole l.val = 1 → fieldGet v.toNat F.laneCtrl_RETRAIN = 1 → fieldGet v.toNat F.laneCtrl_DISABLE = 0 →
      (∀ x, x ∈ s.portLanes f → s.get (R.laneCtrl x) F.laneCtrl_DISABLE = 0) →
    ((∀ x, x ∈ s.portLanes f → s.laneState x ≠ 0 ∧ s.laneState x ≠ 1 ∧ s.laneState x ≠ 8) →
      ∃ t, exec (.laneRetrain req l v) s = .next t ∧ ∀ x, x ∈ s.portLanes f → t.laneState x = 2 ∧
        t.get (R.laneStatus x) F.laneStatus_LAST_CAUSE = 13) ∧
    ((∃ x, x ∈ s.portLanes f ∧ (s.laneState x = 0 ∨ s.laneState x = 8)) →
      ∃ t, exec (.laneRetrain req l v) s = .next t ∧ s.Frame t [] [R.laneCtrl l.val])) ∧
  (∀ (req : Requester) (l : Fin 96) (v : Word) (f : Nat) (s : State), s.mayWrite req = true → f = s.portFirst l.val → s.isHalPort f = true →
      (s.halPort f).rx = none →
      l.val ∈ s.portLanes f → s.laneRole l.val = 1 → fieldGet v.toNat F.laneCtrl_RETRAIN = 0 → fieldGet v.toNat F.laneCtrl_DISABLE = 1 →
      (∀ x, x ∈ s.portLanes f → s.laneState x = s.laneState f) → s.laneState f ≠ 0 → s.laneState f ≠ 8 →
    ∃ t, exec (.laneDisable req l v) s = .next t ∧ t.get (R.laneCtrl l.val) F.laneCtrl_DISABLE = 1 ∧
      ∀ x, x ∈ s.portLanes f → t.laneState x = 1) ∧
  (∀ (req : Requester) (l : Fin 96) (v : Word) (s : State), s.mayWrite req = true → fieldGet v.toNat F.laneCtrl_RETRAIN = 0 → fieldGet v.toNat F.laneCtrl_DISABLE = 0 →
      s.laneRole l.val ≠ 0 → (∀ x, x ∈ s.portLanes (s.portFirst l.val) → s.get (R.laneCtrl x) F.laneCtrl_DISABLE = 0 ∧ s.laneState x ≠ 1) →
    ∃ t, exec (.adaptFreeze req l v) s = .next t ∧ s.Frame t [] [R.laneCtrl l.val] ∧
      t.get (R.laneCtrl l.val) F.laneCtrl_ADAPT_FREEZE = fieldGet v.toNat F.laneCtrl_ADAPT_FREEZE) ∧
  (∀ (r : Fin 2) (s : State), (∀ l, (s.halPort l).rx = none) →
    (∃ t, exec (.refclkLost r) s = .next t ∧ r.val ∈ t.lan.refLost ∧
      ∀ l, l < 96 → l / 48 = r.val → s.isPort l = true → 3 ≤ s.laneState l → s.laneState l ≤ 6 → t.laneState l = 2 ∧
        t.get (R.laneStatus l) F.laneStatus_LAST_CAUSE = 14) ∧
    ∃ t, exec (.refclkValid r) s = .next t ∧ s.Frame t [.lan] [] ∧ r.val ∉ t.lan.refLost ∧ t.lan.lanes = s.lan.lanes) ∧
  (∀ (l : Fin 96) (rate : BitVec 3) (width : BitVec 4) (f : Nat) (s : State), f = s.portFirst l.val → s.isPort f = true →
      2 ≤ s.laneRole f → 2 ≤ s.laneState f → s.laneState f ≤ 4 → s.refLost f = false →
    ∃ t, exec (.standardLinkUp l rate width) s = .next t ∧
      (∀ x, x ∈ s.portLanes f → t.laneState x = 6 ∧ t.get (R.laneStatus x) F.laneStatus_FAILS = 0) ∧
      (s.laneRole f = 2 → s.Frame t (.lan :: evtParts) ((s.portLanes f).map R.laneStatus)) ∧
      (s.laneRole f = 3 → ∃ p, p = s.get (R.laneCfg f) F.laneCfg_PORT % 4 ∧
        s.Frame t ([.lan, .clp] ++ evtParts) (R.clpPortStatus p :: (s.portLanes f).map R.laneStatus) ∧
        t.get (R.clpPortStatus p) F.clpPortStatus_STATE = 1 ∧ t.get (R.clpPortStatus p) F.clpPortStatus_RATE = rate.toNat ∧
        t.get (R.clpPortStatus p) F.clpPortStatus_WIDTH = width.toNat)) ∧
  (∀ (l : Fin 96) (recovery : Bool) (f : Nat) (s : State), f = s.portFirst l.val → s.isPort f = true → 2 ≤ s.laneRole f →
    (recovery = false → s.laneState f = 6 → ∃ t, exec (.standardLinkFail l recovery) s = .next t ∧ ∀ x, x ∈ s.portLanes f → t.laneState x = 2 ∧
      t.get (R.laneStatus x) F.laneStatus_LAST_CAUSE = 15) ∧
    (recovery = true → s.laneRole f = 3 → s.laneState f = 6 → ∃ t, exec (.standardLinkFail l recovery) s = .next t ∧
      s.Frame t [] ((s.portLanes f).map R.laneStatus) ∧ ∀ x, x ∈ s.portLanes f → t.laneState x = s.laneState x ∧
      t.get (R.laneStatus x) F.laneStatus_LINK_DOWNS = min 255 (s.get (R.laneStatus x) F.laneStatus_LINK_DOWNS + 1)) ∧
    (2 ≤ s.laneState f → s.laneState f ≤ 4 → ∃ t, exec (.standardLinkFail l recovery) s = .next t ∧ ∀ x, x ∈ s.portLanes f →
      t.get (R.laneStatus x) F.laneStatus_FAILS = min 15 (s.get (R.laneStatus x) F.laneStatus_FAILS + 1) ∧
      (s.get (R.laneStatus f) F.laneStatus_FAILS < 3 → t.laneState x = 2)))

/-- Equalisation and the figure of merit (R186 to R189). -/
def Obligations.LaneEqualisation : Prop :=
  (∀ (l : Fin 96) (w : BitVec 8) (h : BitVec 10) (bits errs : BitVec 48) (s : State),
    (s.laneState l.val = 6 ∨ s.laneState l.val = 8 → ∃ t, exec (.fomMeasure l w h bits errs) s = .next t ∧
      s.Frame t (.lan :: evtParts) [R.laneFom l.val, R.lanePrbsBits (l.val / 24), R.lanePrbsErr (l.val / 24)] ∧
      t.get (R.laneFom l.val) F.laneFom_WIDTH = w.toNat ∧ t.get (R.laneFom l.val) F.laneFom_HEIGHT = h.toNat ∧
      t.get (R.laneFom l.val) F.laneFom_VALID = 1 ∧
      (s.laneState l.val = 6 → t.reg (R.lanePrbsBits (l.val / 24)) = s.reg (R.lanePrbsBits (l.val / 24))) ∧
      (w.toNat < s.get (R.laneFomLimit l.val) F.laneFomLimit_WARN_W → (s.lane l.val).low = 99 → (s.lane l.val).lowMargin = false →
        (t.lane l.val).lowMargin = true)) ∧
    (s.laneState l.val ≠ 6 → s.laneState l.val ≠ 8 → exec (.fomMeasure l w h bits errs) s = .next s)) ∧
  (∀ (l : Fin 96) (c : BitVec 4) (taps : List Int) (q : Option (BitVec 4 × BitVec 6 × BitVec 5)) (s : State),
    (s.laneRole l.val ≠ 0 → s.laneState l.val = 3 ∨ s.laneState l.val = 6 ∨ s.laneState l.val = 8 →
        s.get (R.laneCtrl l.val) F.laneCtrl_ADAPT_FREEZE = 0 →
      ∃ t, exec (.eqUpdate l c taps q) s = .next t ∧ s.Frame t [.lan] [R.laneEq l.val] ∧
        t.get (R.laneEq l.val) F.laneEq_CTLE ≤ s.get (R.laneEq l.val) F.laneEq_CTLE + 1 ∧
        s.get (R.laneEq l.val) F.laneEq_CTLE ≤ t.get (R.laneEq l.val) F.laneEq_CTLE + 1 ∧
        (c.toNat ≤ s.get (R.laneEq l.val) F.laneEq_CTLE + 1 → s.get (R.laneEq l.val) F.laneEq_CTLE ≤ c.toNat + 1 →
          t.get (R.laneEq l.val) F.laneEq_CTLE = c.toNat) ∧
        toSigned 7 (t.get (R.laneEq l.val) F.laneEq_DFE1) ≤ toSigned 7 (s.get (R.laneEq l.val) F.laneEq_DFE1) + 2 ∧
        toSigned 7 (s.get (R.laneEq l.val) F.laneEq_DFE1) ≤ toSigned 7 (t.get (R.laneEq l.val) F.laneEq_DFE1) + 2 ∧
        (t.lane l.val).ffeOut = (if s.laneRole l.val = 1 then q.map fun x => (x.1.toNat, x.2.1.toNat, x.2.2.toNat) else none) ∧
        (∀ x, x ∈ (t.lane l.val).taps → -31 ≤ x ∧ x ≤ 31) ∧
        t.get (R.laneEq l.val) F.laneEq_PRE = s.get (R.laneEq l.val) F.laneEq_PRE ∧
        t.get (R.laneEq l.val) F.laneEq_MAIN = s.get (R.laneEq l.val) F.laneEq_MAIN ∧
        t.get (R.laneEq l.val) F.laneEq_POST = s.get (R.laneEq l.val) F.laneEq_POST) ∧
    (s.get (R.laneCtrl l.val) F.laneCtrl_ADAPT_FREEZE = 1 ∨ (s.laneState l.val ≠ 3 ∧ s.laneState l.val ≠ 6 ∧ s.laneState l.val ≠ 8) ∨ s.laneRole l.val = 0 →
      exec (.eqUpdate l c taps q) s = .next s)) ∧
  (∀ (l : Fin 96) (b : BitVec 64) (corr unc : Word) (q : Option (BitVec 4 × BitVec 6 × BitVec 5)) (s : State),
    (s.laneRole l.val = 1 → s.laneState l.val = 6 → ∃ t, exec (.amBlock l b corr unc q) s = .next t ∧
      s.Frame t [.lan] [R.laneFec l.val, R.laneEq l.val] ∧
      t.get (R.laneFec l.val) F.laneFec_CORRECTED = min (2 ^ 32 - 1) (s.get (R.laneFec l.val) F.laneFec_CORRECTED + corr.toNat) ∧
      t.get (R.laneFec l.val) F.laneFec_UNCORRECTABLE = min (2 ^ 32 - 1) (s.get (R.laneFec l.val) F.laneFec_UNCORRECTABLE + unc.toNat) ∧
      (t.lane l.val).ffe = (if s.markerMatches l.val (leBytes 8 b.toNat) = true then q.map fun x => (x.1.toNat, x.2.1.toNat, x.2.2.toNat) else none) ∧
      ((s.lane l.val).ffe = none → t.reg (R.laneEq l.val) = s.reg (R.laneEq l.val)) ∧
      (∀ a b c, (s.lane l.val).ffe = some (a, b, c) →
        t.get (R.laneEq l.val) F.laneEq_PRE ≤ s.get (R.laneEq l.val) F.laneEq_PRE + 1 ∧
        t.get (R.laneEq l.val) F.laneEq_POST ≤ s.get (R.laneEq l.val) F.laneEq_POST + 1 ∧
        t.get (R.laneEq l.val) F.laneEq_CTLE = s.get (R.laneEq l.val) F.laneEq_CTLE ∧
        (s.get (R.laneEq l.val) F.laneEq_PRE + s.get (R.laneEq l.val) F.laneEq_MAIN + s.get (R.laneEq l.val) F.laneEq_POST ≤ 63 →
          t.get (R.laneEq l.val) F.laneEq_PRE + t.get (R.laneEq l.val) F.laneEq_MAIN + t.get (R.laneEq l.val) F.laneEq_POST ≤ 63))) ∧
    (s.laneRole l.val ≠ 1 ∨ s.laneState l.val ≠ 6 → exec (.amBlock l b corr unc q) s = .next s))

/-- The pattern test (R190 to R193). -/
def Obligations.PatternTest : Prop :=
  (∀ (req : Requester) (l : Fin 96) (v : Word) (f : Nat) (s : State), s.mayWrite req = true → l.val % 24 = 0 → f = s.portFirst l.val →
      fieldGet v.toNat F.laneTest_EN = 1 → (s.lane l.val).armed = false → s.laneState l.val ≠ 8 →
    (s.laneRole l.val ≠ 0 → s.portDisabled f = false → s.get (R.laneTest (l.val / 24)) F.laneTest_EN = 0 →
        fieldGet v.toNat F.laneTest_SLIP = 0 → fieldGet v.toNat F.laneTest_CLEAR = 0 →
      ∃ t, exec (.laneTestEnable req l v) s = .next t ∧ s.Frame t [.lan] [R.laneTest (l.val / 24)] ∧ (t.lane l.val).armed = true ∧
        t.get (R.laneTest (l.val / 24)) F.laneTest_EN = 1 ∧
        t.get (R.laneTest (l.val / 24)) F.laneTest_PATTERN = fieldGet v.toNat F.laneTest_PATTERN ∧
        t.get (R.laneTest (l.val / 24)) F.laneTest_GEN = fieldGet v.toNat F.laneTest_GEN ∧
        t.get (R.laneTest (l.val / 24)) F.laneTest_CHK = fieldGet v.toNat F.laneTest_CHK ∧
        t.get (R.laneTest (l.val / 24)) F.laneTest_TIMEOUT = fieldGet v.toNat F.laneTest_TIMEOUT) ∧
    (s.laneRole l.val = 0 ∨ s.portDisabled f = true →
      exec (.laneTestEnable req l v) s = .next (s.raise .lane 0 1 0 [R.laneTest (l.val / 24), v.toNat, reqCode req]))) ∧
  (∀ (req : Requester) (l : Fin 96) (v : Word) (s : State), s.mayWrite req = true → l.val % 24 ≠ 0 →
    exec (.laneTestEnable req l v) s = .next s ∧ exec (.testExit req l v) s = .next s ∧ exec (.inject req l v) s = .next s ∧
    exec (.slip req l v) s = .next s ∧ exec (.prbsClear req l v) s = .next s ∧ exec (.testEntry l) s = .next s ∧
    exec (.testTimeout l) s = .next s) ∧
  (∀ (l : Fin 96) (f : Nat) (s : State), l.val % 24 = 0 → f = s.portFirst l.val →
    ((s.lane l.val).armed = false → exec (.testEntry l) s = .next s) ∧
    ((s.lane l.val).armed = true → s.isPort f = true → l.val ∈ s.portLanes f → s.laneRole l.val ≠ 0 → s.portDisabled f = false →
        (s.halPort f).rx = none →
      ∃ t, exec (.testEntry l) s = .next t ∧ t.laneState l.val = 8 ∧ t.get (R.laneFom l.val) F.laneFom_VALID = 0 ∧
        (t.lane l.val).armed = false ∧ (∀ x, x ∈ s.portLanes f → x ≠ l.val → t.laneState x = 1) ∧
        (s.laneState f ≠ 6 → s.Frame t (.lan :: evtParts) (R.laneFom l.val :: R.lanePrbsBits (l.val / 24) ::
          R.lanePrbsErr (l.val / 24) :: (s.portLanes f).map R.laneStatus)))) ∧
  (∀ (req : Requester) (l : Fin 96) (v : Word) (f : Nat) (s : State), s.mayWrite req = true → l.val % 24 = 0 → f = s.portFirst l.val → s.isPort f = true →
      l.val ∈ s.portLanes f → s.laneState l.val = 8 → s.portDisabled f = false → fieldGet v.toNat F.laneTest_EN = 0 →
      fieldGet v.toNat F.laneTest_SLIP = 0 → fieldGet v.toNat F.laneTest_CLEAR = 0 →
    ∃ t, exec (.testExit req l v) s = .next t ∧
      s.Frame t (.lan :: evtParts) (R.laneTest (l.val / 24) :: (s.portLanes f).map R.laneStatus) ∧
      t.get (R.laneTest (l.val / 24)) F.laneTest_EN = 0 ∧ ∀ x, x ∈ s.portLanes f → t.laneState x = 2) ∧
  (∀ (l : Fin 96) (f : Nat) (s : State), l.val % 24 = 0 → f = s.portFirst l.val → s.isPort f = true → l.val ∈ s.portLanes f →
    (s.laneState l.val = 8 → s.portDisabled f = false → s.get (R.laneTest (l.val / 24)) F.laneTest_TIMEOUT ≠ 0 →
      ∃ t, exec (.testTimeout l) s = .next t ∧ s.Frame t (.lan :: evtParts) (R.laneTest (l.val / 24) :: (s.portLanes f).map R.laneStatus) ∧
        ∀ x, x ∈ s.portLanes f → t.laneState x = 2) ∧
    (s.laneState l.val ≠ 8 ∨ s.get (R.laneTest (l.val / 24)) F.laneTest_TIMEOUT = 0 → exec (.testTimeout l) s = .next s)) ∧
  (∀ (req : Requester) (l : Fin 96) (v : Word) (s : State), s.mayWrite req = true → l.val % 24 = 0 → s.laneState l.val = 8 → fieldGet v.toNat F.laneTest_EN = 1 →
      fieldGet v.toNat testFields = s.get (R.laneTest (l.val / 24)) testFields →
    (fieldGet v.toNat F.laneTest_INJECT = 1 → fieldGet v.toNat F.laneTest_SLIP = 0 → fieldGet v.toNat F.laneTest_CLEAR = 0 →
      ∃ t, exec (.inject req l v) s = .next t ∧ s.Frame t [.lan] [R.laneTest (l.val / 24)] ∧
        (t.lane l.val).injected = (s.lane l.val).injected + 1) ∧
    (fieldGet v.toNat F.laneTest_SLIP = 1 → fieldGet v.toNat F.laneTest_CLEAR = 0 →
      ∃ t, exec (.slip req l v) s = .next t ∧ s.Frame t (.lan :: evtParts) [R.laneTest (l.val / 24)] ∧
        (s.get (R.laneTest (l.val / 24)) F.laneTest_PATTERN = 3 →
          s.Frame t [.lan] [R.laneTest (l.val / 24)] ∧ (t.lane l.val).slips = (s.lane l.val).slips + 1) ∧
        (s.get (R.laneTest (l.val / 24)) F.laneTest_PATTERN ≠ 3 → (t.lane l.val).slips = (s.lane l.val).slips)) ∧
    (fieldGet v.toNat F.laneTest_CLEAR = 1 → fieldGet v.toNat F.laneTest_SLIP = 0 →
      ∃ t, exec (.prbsClear req l v) s = .next t ∧
        s.Frame t [.lan] [R.laneTest (l.val / 24), R.lanePrbsBits (l.val / 24), R.lanePrbsErr (l.val / 24)] ∧
        t.reg (R.lanePrbsBits (l.val / 24)) = 0 ∧ t.reg (R.lanePrbsErr (l.val / 24)) = 0 ∧ (t.lane l.val).startCount = !s.flag (R.laneTest (l.val / 24)) F.laneTest_CHK_LOCK)) ∧
  (∀ (l : Fin 96) (s : State),
    (s.prbsChecks l.val = true → ∃ t u, exec (.checkerLock l) s = .next t ∧ exec (.checkerLockLost l) s = .next u ∧
      t.get (R.laneTest (l.val / 24)) F.laneTest_CHK_LOCK = 1 ∧ u.get (R.laneTest (l.val / 24)) F.laneTest_CHK_LOCK = 0 ∧
      s.Frame u [] [R.laneTest (l.val / 24)] ∧
      ((s.lane l.val).startCount = true → t.reg (R.lanePrbsBits (l.val / 24)) = 0 ∧ t.reg (R.lanePrbsErr (l.val / 24)) = 0 ∧
        (t.lane l.val).startCount = false ∧
        s.Frame t [.lan] [R.laneTest (l.val / 24), R.lanePrbsBits (l.val / 24), R.lanePrbsErr (l.val / 24)]) ∧
      ((s.lane l.val).startCount = false → s.Frame t [] [R.laneTest (l.val / 24)])) ∧
    (l.val % 24 ≠ 0 ∨ s.laneState l.val ≠ 8 ∨ s.get (R.laneTest (l.val / 24)) F.laneTest_CHK = 0 ∨
        s.get (R.laneTest (l.val / 24)) F.laneTest_PATTERN = 3 →
      exec (.checkerLock l) s = .next s ∧ exec (.checkerLockLost l) s = .next s))

/-- Receiving, forwarding, credits and egress (R199 to R203, R206, R207). -/
def Obligations.HalyardPorts : Prop :=
  (∀ (l : Fin 96) (lanes : List (List LineBlock)) (s : State), s.isHalPort l.val = false ∨ s.portActive l.val = false →
    exec (.packetReceive l lanes) s = .next s) ∧
  (∀ (l : Fin 96) (lanes : List (List LineBlock)) (b : LineBlock) (c : Nat) (s : State), s.isHalPort l.val = true →
      s.portActive l.val = true → gathered (s.inPosOrder l.val lanes) = [b] → c = b.word.toNat % 256 →
    ((s.halPort l.val).rx = none →
      (b.control = false ∨ c = 0x1E → exec (.packetReceive l lanes) s = .next s) ∧
      (b.control = true → 0x11 ≤ c → c ≤ 0x16 → ∃ t, exec (.packetReceive l lanes) s = .next t ∧ s.Frame t [.hal] [] ∧ t.egress = s.egress ∧
        (t.halPort l.val).rx = some ⟨leBytes 8 b.word.toNat, b.corrected⟩) ∧
      (b.control = true → ¬(0x11 ≤ c ∧ c ≤ 0x16) → c ≠ 0x1E → c ≠ 0x4B → ∃ t, exec (.packetReceive l lanes) s = .next t ∧
        s.Frame t evtParts [R.halPortErr l.val] ∧
        t.get (R.halPortErr l.val) F.halPortErr_HDR = min 65535 (s.get (R.halPortErr l.val) F.halPortErr_HDR + 1))) ∧
    (∀ r, (s.halPort l.val).rx = some r → b.control = true → c = 0x1E → 24 ≤ r.bytes.length → s.isTile = false →
      ∃ t, exec (.packetReceive l lanes) s = .next t ∧ s.Frame t (.hal :: evtParts) [R.halPortErr l.val, R.halPortTraffic l.val] ∧
        (t.halPort l.val).rx = none ∧
        t.get (R.halPortTraffic l.val) F.halPortTraffic_RX = min (2 ^ 32 - 1) (s.get (R.halPortTraffic l.val) F.halPortTraffic_RX + 1) ∧
        t.get (R.halPortErr l.val) F.halPortErr_CRC = min 65535 (s.get (R.halPortErr l.val) F.halPortErr_CRC + 1)) ∧
    (∀ r bs p clean, (s.halPort l.val).rx = some r → b.control = false → bs = r.bytes ++ leBytes 8 b.word.toNat → p = packetOf bs →
        clean = (r.clean && b.corrected) →
      (bs.length = 24 → crc16 (bs.take 22) ≠ leVal (bs.drop 22) ∨ p.hdr.version ≠ 1#4 ∨ p.hdr.cls = 0#4 ∨ 6 < p.hdr.cls.toNat ∨
          2048 < p.hdr.length.toNat ∨ p.hdr.length.toNat % 4 ≠ 0 ∨ p.hdr.hops = 0#6 ∨ 32 < p.hdr.hops.toNat →
        ∃ t, exec (.packetReceive l lanes) s = .next t ∧ s.Frame t (.hal :: evtParts) [R.halPortErr l.val] ∧ (t.halPort l.val).rx = none ∧
          t.get (R.halPortErr l.val) F.halPortErr_HDR = min 65535 (s.get (R.halPortErr l.val) F.halPortErr_HDR + 1)) ∧
      (bs.length = 24 → crc16 (bs.take 22) = leVal (bs.drop 22) → headerOk p = true →
        ∃ t, exec (.packetReceive l lanes) s = .next t ∧ s.Frame t [.hal] [] ∧ (t.halPort l.val).rx = some ⟨bs, clean⟩) ∧
      (24 < bs.length → 28 + p.hdr.length.toNat ≤ bs.length → s.isTile = false →
        ∃ t, exec (.packetReceive l lanes) s = .next t ∧ s.Frame t (.hal :: evtParts) [R.halPortErr l.val, R.halPortTraffic l.val] ∧
          (t.halPort l.val).rx = none ∧
          t.get (R.halPortTraffic l.val) F.halPortTraffic_RX = min (2 ^ 32 - 1) (s.get (R.halPortTraffic l.val) F.halPortTraffic_RX + 1) ∧
          (clean = true → crcVerdict bs = 0 → s.typeCheck p = some true → s.Frame t [.hal] [R.halPortTraffic l.val]) ∧
          (clean = true → crcVerdict bs = 0 → s.typeCheck p ≠ some true → t.get (R.halPortErr l.val) F.halPortErr_DROPPED =
            min 65535 (s.get (R.halPortErr l.val) F.halPortErr_DROPPED + 1)) ∧
          (clean = true → crcVerdict bs = 1 → s.Frame t [.hal] [R.halPortErr l.val, R.halPortTraffic l.val] ∧
            t.get (R.halPortErr l.val) F.halPortErr_STOMPED = min 65535 (s.get (R.halPortErr l.val) F.halPortErr_STOMPED + 1) ∧
            t.get (R.halPortErr l.val) F.halPortErr_CRC = s.get (R.halPortErr l.val) F.halPortErr_CRC) ∧
          (clean = false ∨ crcVerdict bs = 2 → t.get (R.halPortErr l.val) F.halPortErr_CRC =
              min 65535 (s.get (R.halPortErr l.val) F.halPortErr_CRC + 1) ∧
            t.get (R.halPortErr l.val) F.halPortErr_STOMPED = s.get (R.halPortErr l.val) F.halPortErr_STOMPED)) ∧
      (24 < bs.length → 28 + p.hdr.length.toNat ≤ bs.length → clean = true → crcVerdict bs = 0 → s.isTile = true → p.hdr.cls = 1#4 →
          p.hdr.up = false → p.hdr.dst ≠ 0xFFF#12 → s.isMine p = false → p.hdr.hops ≠ 32#6 →
          (∀ x, x ∈ s.forwardPorts l.val p → s.egressBusy x = false ∨ s.pixFifo x + wireLength p.hdr.length.toNat ≤ 8192) →
        ∃ t, exec (.packetReceive l lanes) s = .next t ∧ t.mem = s.mem ∧ t.hold = s.hold ∧
          s.Sends t ((s.forwardPorts l.val p).map fun x => (x, { p with hdr := { p.hdr with hops := p.hdr.hops + 1 } }))))) ∧
  (∀ (l : Fin 96) (w : BitVec 48) (crc : BitVec 8) (s : State), s.isHalPort l.val = true → s.portActive l.val = true →
    (crc8 (leBytes 6 w.toNat) = crc.toNat → ∃ t, exec (.creditBlock l w crc) s = .next t ∧ s.Frame t sendParts [R.halPortCredit l.val] ∧
      (t.halPort l.val).ctl.partnerSent = w.toNat % 4096 ∧ (t.halPort l.val).ctl.partnerFreed = w.toNat / 2 ^ 12 % 4096 ∧
      (t.halPort l.val).blk.partnerSent = w.toNat / 2 ^ 24 % 4096 ∧ (t.halPort l.val).blk.partnerFreed = w.toNat / 2 ^ 36 % 4096) ∧
    (crc8 (leBytes 6 w.toNat) ≠ crc.toNat → exec (.creditBlock l w crc) s = .next s) ∧
    (∃ t, exec (.creditBlockSend l) s = .next t ∧ s.Frame t [.hal] [] ∧ (t.halPort l.val).block =
      creditBytes (s.halPort l.val).ctl.sent (s.halPort l.val).ctl.freed (s.halPort l.val).blk.sent (s.halPort l.val).blk.freed)) ∧
  (∀ (l i : Nat) (q : Queued) (s : State), s.nextQueued l = some (i, q) → s.hal.queue[i]? = some q ∧ q.port = l ∧ q.started = false ∧
    ((∃ x, x ∈ s.hal.queue ∧ x.port = l ∧ x.started = false ∧ packetLevel x.pkt = 1) → packetLevel q.pkt = 1) ∧
    ((∃ x, x ∈ s.hal.queue ∧ x.port = l ∧ x.started = false ∧ packetLevel x.pkt = 2) → packetLevel q.pkt ≤ 2) ∧
    (∀ j x, j < i → s.hal.queue[j]? = some x → x.port = l → x.started = false → packetLevel x.pkt ≠ packetLevel q.pkt) ∧
    (3 ≤ packetLevel q.pkt → s.hasCredits l q.pkt = true)) ∧
  (∀ (l : Fin 96) (s : State), s.isHalPort l.val = true → s.portActive l.val = true →
    (∀ i q, s.egressBusy l.val = false → s.nextQueued l.val = some (i, q) →
      ∃ t, exec (.creditHeldForward l) s = .next t ∧ s.Frame t sendParts [R.halPortCredit l.val] ∧ t.egress = s.egress ∧
        ∃ k, t.hal.queue[i]? = some { q with pkt := k, started := true } ∧ pktMark k = pktMark q.pkt) ∧
    (s.egressBusy l.val = true ∨ s.nextQueued l.val = none → exec (.creditHeldForward l) s = .next s) ∧
    (s.egressBusy l.val = true → ∃ t, exec (.egressNext l) s = .next t ∧
      s.Frame t sendParts [R.halPortCredit l.val, R.halPortTraffic l.val] ∧
      t.get (R.halPortTraffic l.val) F.halPortTraffic_TX = min (2 ^ 32 - 1) (s.get (R.halPortTraffic l.val) F.halPortTraffic_TX + 1) ∧
      t.egress = (s.hal.queue.filter fun q => !(q.port == l.val && q.started)).map (fun q => (q.port, pktMark q.pkt)) ∧
      (t.egressBusy l.val = false → t.nextQueued l.val = none))) ∧
  (∀ (l : Fin 96) (blk : Bool) (s : State), s.isHalPort l.val = true → s.portActive l.val = true →
    ((∃ q, q ∈ s.hal.queue ∧ q.port = l.val ∧ q.started = false ∧ packetPool q.pkt = (if blk then 2 else 1) ∧ s.hasCredits l.val q.pkt = false) →
        (∀ x, x ∈ s.portLanes l.val → s.laneState x = 6) → (s.halPort l.val).rx = none →
      ∃ t, exec (.creditStall l blk) s = .next t ∧ t.get (R.halPortCredit l.val) F.halPortCredit_STALLED = 1 ∧
        ∀ x, x ∈ s.portLanes l.val → t.laneState x = 2 ∧ t.get (R.laneStatus x) F.laneStatus_LAST_CAUSE = 13) ∧
    ((∀ q, q ∈ s.hal.queue → q.port = l.val → q.started = false → packetPool q.pkt = (if blk then 2 else 1) → s.hasCredits l.val q.pkt = true) →
      exec (.creditStall l blk) s = .next s))

/-- Pictures on their way into a tile (R24, R209 to R211, R215, R324). -/
def Obligations.PicturesIntoATile : Prop :=
  (∀ (l : Fin 96) (p : Packet) (u v : State) (f k n : Nat) (s : State), s.isTile = true → s.takes l.val p 1 1 = true →
      u = (s.noteClaim p.hdr.claim.toNat none).sawPix → u.pktView p = (v, f) → k = p.hdr.slot.toNat → n = p.hdr.seq.toNat % 1024 →
    (v.sliceDeadlineAt f k ≤ s.clock.now → ∃ t, exec (.slice l p) s = .next t ∧ t.hold = s.hold ∧
      t.get (R.halPortErr l.val) F.halPortErr_DROPPED = min 65535 (s.get (R.halPortErr l.val) F.halPortErr_DROPPED + 1)) ∧
    ((s.clock.now : Int) < v.sliceDeadlineAt f k →
      ((∀ x, x ∈ s.hold.slices → ¬(x.frame = f ∧ x.slot = k ∧ x.index = n)) →
        ∃ t r, exec (.slice l p) s = .next t ∧ s.Frame t [.red, .bus, .seq, .hold] [R.redTileStatus, R.redTileWinSerial] ∧
          t.hold = { s.hold with slices := s.hold.slices ++ [r] } ∧ r.frame = f ∧ r.slot = k ∧ r.index = n ∧
          r.row = p.hdr.arg.toNat % 512 ∧ r.col = p.hdr.arg.toNat / 512 % 512 ∧
          r.lamps = (codesRgb (unpack12 (payloadBytes p))).take (p.hdr.arg.toNat / 2 ^ 18 % 1024) ∧
          r.preferred = u.fromWinner l.val p.hdr.claim.toNat) ∧
      (∀ x, s.hold.slices.find? (fun x => x.frame == f && x.slot == k && x.index == n) = some x →
        (x.preferred = true ∨ u.fromWinner l.val p.hdr.claim.toNat = false → ∃ t, exec (.slice l p) s = .next t ∧ t.hold = s.hold ∧
          t.get R.redTileCounts F.redTileCounts_DUP_DROPPED = min (2 ^ 32 - 1) (s.get R.redTileCounts F.redTileCounts_DUP_DROPPED + 1)) ∧
        (x.preferred = false → u.fromWinner l.val p.hdr.claim.toNat = true → ∃ t r, exec (.slice l p) s = .next t ∧
          s.Frame t [.red, .bus, .seq, .hold] [R.redTileStatus, R.redTileWinSerial] ∧ r ∈ t.hold.slices ∧ r.preferred = true ∧
          r.frame = f ∧ r.slot = k ∧ r.index = n ∧ ∀ y, y ∈ t.hold.slices → y.frame = f → y.slot = k → y.index = n → y = r)))) ∧
  (∀ (l : Fin 96) (p : Packet) (u v : State) (f k : Nat) (s : State), s.isTile = true → s.takes l.val p 1 3 = true →
      u = (s.noteClaim p.hdr.claim.toNat none).sawPix → u.pktView p = (v, f) → k = p.hdr.slot.toNat →
    (v.sliceDeadlineAt f k ≤ s.clock.now → ∃ t, exec (.list l p) s = .next t ∧ t.hold = s.hold ∧
      t.get (R.halPortErr l.val) F.halPortErr_DROPPED = min 65535 (s.get (R.halPortErr l.val) F.halPortErr_DROPPED + 1)) ∧
    ((s.clock.now : Int) < v.sliceDeadlineAt f k → (∀ x, x ∈ s.hold.lists → ¬(x.frame = f ∧ x.slot = k)) →
      ∃ t r, exec (.list l p) s = .next t ∧ s.Frame t [.red, .bus, .seq, .hold] [R.redTileStatus, R.redTileWinSerial] ∧
        t.hold = { s.hold with lists := s.hold.lists ++ [r] } ∧ r.frame = f ∧ r.slot = k ∧ r.entries.length = p.hdr.arg.toNat % 16 ∧
        r.preferred = u.fromWinner l.val p.hdr.claim.toNat)) ∧
  (∀ (l : Fin 96) (p : Packet) (layer gen part : Nat) (s : State), s.isTile = true → s.takes l.val p 1 2 = true →
      layer = p.hdr.arg.toNat / 2 ^ 16 % 8 → gen = p.hdr.arg.toNat % 2 ^ 16 → part = p.hdr.arg.toNat / 2 ^ 19 →
    ((∀ x, x ∈ s.hold.parts → ¬(x.layer = layer ∧ x.gen = gen)) →
      ∃ t, exec (.fragment l p) s = .next t ∧ s.Frame t [.red, .bus, .seq, .hold] [R.redTileStatus, R.redTileWinSerial] ∧
        t.hold.slices = s.hold.slices ∧ t.hold.lists = s.hold.lists ∧ t.hold.pics = s.hold.pics ∧
        ∃ r, r ∈ t.hold.parts ∧ r.layer = layer ∧ r.gen = gen ∧ r.part = part ∧ r.last = p.hdr.last ∧ r.data = payloadBytes p) ∧
    ((∃ x, x ∈ s.hold.parts ∧ x.layer = layer ∧ x.gen = gen ∧ x.part = part) →
        (∀ x, x ∈ s.hold.parts → x.layer = layer → x.gen = gen → x.part = part → x.preferred = true) →
      ∃ t, exec (.fragment l p) s = .next t ∧ t.hold = s.hold ∧
        t.get R.redTileCounts F.redTileCounts_DUP_DROPPED = min (2 ^ 32 - 1) (s.get R.redTileCounts F.redTileCounts_DUP_DROPPED + 1))) ∧
  (∀ (l : Fin 96) (p : Packet) (s : State), s.isTile = false → exec (.slice l p) s = .next s ∧ exec (.fragment l p) s = .next s ∧
    exec (.list l p) s = .next s ∧ exec .sliceDeadline s = .next s) ∧
  (∀ (m : LampMap) (v : State) (f k : Nat) (s : State), s.isTile = true → s.rst.inReset = false → s.layerMode = false →
      s.lampMap = some m → s.deadlineSlot = some (v, f, k) →
    ∃ t, exec .sliceDeadline s = .next t ∧ s.Frame t (.hold :: evtParts) [R.redTileCounts] ∧
      (∀ x, x ∈ t.hold.slices → ¬(x.frame = f ∧ x.slot = k)) ∧
      t.get R.redTileCounts F.redTileCounts_LOSER_USED = min (2 ^ 32 - 1) (s.get R.redTileCounts F.redTileCounts_LOSER_USED +
        ((s.hold.slices.countP fun x => x.frame == f && x.slot == k && !x.preferred) +
          (s.hold.lists.countP fun x => x.frame == f && x.slot == k && !x.preferred) + s.hold.parts.countP fun x => !x.preferred)) ∧
      ((∀ i, i < m.height * rowParts m.width → ∃ x, x ∈ s.hold.slices ∧ x.frame = f ∧ x.slot = k ∧ x.index = i) →
        s.Frame t [.hold] [R.redTileCounts] ∧ ∃ pic, pic ∈ t.hold.pics ∧ pic.slot = k ∧ pic.frame = f ∧ pic.lamps.length = m.height * m.width) ∧
      (∀ i, i < m.height * rowParts m.width → (∀ x, x ∈ s.hold.slices → x.frame = f → x.slot = k → x.index ≠ i) → t.hold.pics = s.hold.pics))

/-- PIX of a feed unit and the digests of a pair (R212 to R214, R325 to R328). -/
def Obligations.PixAndDigests : Prop :=
  (∀ (l : Fin 96) (f k : Nat) (a : SliceSpec) (ks : List Nat) (specs : List SliceSpec) (s : State), s.isFeed = true → s.isHalPort l.val = true →
      s.portActive l.val = true → s.rst.inReset = false → s.layerMode = false → s.composedFrames.find? (fun f => !(s.cursor l.val f).done) = some f →
      specs = s.slotSlices (s.cfgFor f) l.val → ks = s.sentSlots f →
      (∀ x, x ∈ ks → ∀ b, b ∈ specs → s.sliceLamps (canvasCfg (s.cfgFor f)) f x b ≠ some none) →
      s.openSlot l.val f specs.length ks = some k → specs[(s.cursor l.val f).passedOf k]? = some a → s.assignWaits l.val = false →
      (∀ c, s.cmp.pend = some c → f < c.frame ∨ s.dsc.originsFor = some c.gen) →
    (∀ lamps, s.sliceLamps (canvasCfg (s.cfgFor f)) f k a = some (some lamps) → s.composeStart f k + a.ready ≤ s.clock.now →
      ∃ t rest, exec (.pixSend l) s = .next t ∧ t.egress = s.egress ++ [(l.val, s.slicePacket f k a lamps)] ++ rest ∧
        (∀ e, e ∈ rest → e.1 = l.val ∧ pktIs e.2 1 4 = true) ∧ ((t.cursor l.val f).done = false → s.Frame t (.pix :: sendParts) [R.halPortCredit l.val])) ∧
    ((s.clock.now : Int) < s.composeStart f k + a.ready ∨ s.sliceLamps (canvasCfg (s.cfgFor f)) f k a = none →
      exec (.pixSend l) s = .next s)) ∧
  (∀ (l : Fin 96) (f : Nat) (ks : List Nat) (x : PixOut) (s : State), s.isFeed = true → s.isHalPort l.val = true → s.portActive l.val = true →
      s.rst.inReset = false → s.layerMode = true → s.layerFrame = some (f, ks) → s.pix.made = some f →
      s.pix.out.find? (fun x => x.port == l.val) = some x → x.pkt.hdr.cls = 1#4 → s.assignWaits l.val = false →
      (∀ c, s.cmp.pend = some c → f < c.frame ∨ s.dsc.originsFor = some c.gen) →
    ∃ t rest, exec (.pixSend l) s = .next t ∧ t.egress = s.egress ++ [(l.val, x.pkt)] ++ rest ∧
      (∀ e, e ∈ rest → e.1 = l.val ∧ pktIs e.2 1 4 = true) ∧
      t.pix.out.length + 1 = s.pix.out.length) ∧
  (∀ (l : Fin 96) (s : State), s.isFeed = false ∨ s.isHalPort l.val = false ∨ s.rst.inReset = true → exec (.pixSend l) s = .next s) ∧
  (∀ (l : Fin 96) (p : Packet) (own : DigestRec) (s : State), s.isFeed = true → s.paired = true → s.takes l.val p 1 4 = true →
      s.red.own.find? (fun x => x.port == l.val && x.frame == payField p 0 6) = some own →
    ∃ t, exec (.digest l p) s = .next t ∧ t.mem = s.mem ∧ t.cmp = s.cmp ∧ t.egress = s.egress ∧
      (own.gen = payField p 6 2 → own.packets = payField p 8 4 → own.digest = leVal (((payloadBytes p).drop 16).take 32).reverse →
        t.get R.redDigestCounts F.redDigestCounts_MISMATCHED = s.get R.redDigestCounts F.redDigestCounts_MISMATCHED ∧
        t.get (R.redPort l.val) F.redPort_LAST_MATCH = 1) ∧
      (own.gen ≠ payField p 6 2 ∨ own.packets ≠ payField p 8 4 ∨ own.digest ≠ leVal (((payloadBytes p).drop 16).take 32).reverse →
        t.get R.redDigestCounts F.redDigestCounts_MISMATCHED =
          min (2 ^ F.redDigestCounts_MISMATCHED.w - 1) (s.get R.redDigestCounts F.redDigestCounts_MISMATCHED + 1) ∧
        t.get (R.redPort l.val) F.redPort_LAST_MATCH = 0 ∧ t.get R.redStatus F.redStatus_MATCH_RUN = 0 ∧
        t.get R.redStatus F.redStatus_SYNCED = 0)) ∧
  (∀ (l : Fin 96) (n : BitVec 48) (s : State),
    (s.isFeed = true → s.paired = true → l.val ∈ s.red.hearing → l.val ∉ (s.judge n.toNat).done →
        (∃ x, x ∈ s.red.own ∧ x.port = l.val ∧ x.frame = n.toNat) →
      ∃ t, exec (.digestMissing l n) s = .next t ∧ t.mem = s.mem ∧ t.egress = s.egress ∧
        t.get R.redDigestCounts F.redDigestCounts_MISSING =
          min (2 ^ F.redDigestCounts_MISSING.w - 1) (s.get R.redDigestCounts F.redDigestCounts_MISSING + 1)) ∧
    (s.isFeed = false ∨ s.paired = false ∨ l.val ∉ s.red.hearing ∨ l.val ∈ (s.judge n.toNat).done → exec (.digestMissing l n) s = .next s)) ∧
  (∀ (l : Fin 96) (p : Packet) (s : State), s.isFeed = false ∨ s.paired = false → exec (.digest l p) s = .next s)

/-- Register access, block transfers and events between a feed unit and a tile (R218, R219, R222 to R224, R322, R413, R415). -/
def Obligations.TileAccessAndEvents : Prop :=
  (∀ (l : Fin 96) (p : Packet) (u : State) (off : Nat) (s : State), s.isTile = true → s.takes l.val p 3 1 = true → s.isMine p = true →
      u = s.noteClaim p.hdr.claim.toNat none → off = payField p 0 4 →
    ∃ t k, exec (.read l p) s = .next t ∧ t.egress = s.egress ++ [(l.val, k)] ∧ pktIs k 6 2 = true ∧ k.hdr.up = true ∧ k.hdr.dst = 0xFFF#12 ∧
      k.hdr.seq = p.hdr.seq ∧ k.hdr.claim = p.hdr.claim ∧ k.hdr.arg.toNat = p.hdr.arg.toNat % 65536 ∧ t.mem = s.mem ∧
      (off % 4 = 0 → off ≤ 0x01FFFFFC → ∀ v, v = (u.busRead off (u.claimRequester p.hdr.claim.toNat)).1 →
        payloadBytes k = leBytes 4 off ++ leBytes 4 v ++ [0, 0, 0, 0]) ∧
      (off % 4 ≠ 0 ∨ 0x01FFFFFC < off → payloadBytes k = leBytes 4 off ++ [255, 255, 255, 255] ++ [2, 0, 0, 0] ∧
        s.Frame t ([.red, .bus] ++ sendParts) [R.redTileStatus, R.redTileWinSerial, R.halPortCredit l.val])) ∧
  (∀ (l : Fin 96) (p : Packet) (u : State) (off : Nat) (s : State), s.isTile = true → s.takes l.val p 3 2 = true →
      s.isMine p = true ∨ s.flag R.dscSelf F.dscSelf_ADMITTED = true →
      u = s.noteClaim p.hdr.claim.toNat none → off = payField p 0 4 →
    (u.fromWinner l.val p.hdr.claim.toNat = false → ∃ t k, exec (.write l p) s = .next t ∧ t.egress = s.egress ++ [(l.val, k)] ∧
      pktIs k 6 3 = true ∧ k.hdr.seq = p.hdr.seq ∧ k.hdr.claim = p.hdr.claim ∧ payloadBytes k = leBytes 4 off ++ [1, 0, 0, 0] ∧
      s.Frame t ([.red, .bus] ++ sendParts) [R.redTileStatus, R.redTileWinSerial, R.redTileRefused, R.halPortCredit l.val] ∧
      t.get R.redTileRefused F.redTileRefused_NOT_CLAIM = min 65535 (s.get R.redTileRefused F.redTileRefused_NOT_CLAIM + 1)) ∧
    (u.fromWinner l.val p.hdr.claim.toNat = true → off % 4 ≠ 0 ∨ 0x01FFFFFC < off → ∃ t k, exec (.write l p) s = .next t ∧
      t.egress = s.egress ++ [(l.val, k)] ∧ payloadBytes k = leBytes 4 off ++ [2, 0, 0, 0] ∧
      s.Frame t ([.red, .bus] ++ sendParts) [R.redTileStatus, R.redTileWinSerial, R.halPortCredit l.val]) ∧
    (u.fromWinner l.val p.hdr.claim.toNat = true → off % 4 = 0 → off ≤ 0x01FFFFFC → exec (.write l p) s =
      .next ((u.busWrite off (payField p 4 4) (u.claimRequester p.hdr.claim.toNat)).answerCtl l.val p 3 (leBytes 4 off ++ [0, 0, 0, 0])))) ∧
  (∀ (l : Fin 96) (p : Packet) (u : State) (x : BlkTransfer) (bs : List Nat) (s : State), s.isTile = true → s.takes l.val p 4 1 = true →
      u = s.noteClaim p.hdr.claim.toNat none → u.fromWinner l.val p.hdr.claim.toNat = true →
      s.hal.transfers.find? (fun y => y.transfer == p.hdr.arg.toNat % 65536 && y.claim == p.hdr.claim.toNat) = some x →
      x.failed = false → x.target = 1 → x.total ≤ 0x1000000 → 0 < payField p 4 4 →
    (payField p 4 4 = x.bytes → p.hdr.last = true → bs = ((payloadBytes p).drop 16).take (x.total - x.bytes) →
        x.bytes + bs.length ≤ x.total →
      ∃ t k, exec (.writeBlock l p true) s = .next t ∧ t.egress = s.egress ++ [(l.val, k)] ∧ pktIs k 6 4 = true ∧
        payloadBytes k = leBytes 2 x.transfer ++ [0, 0] ++ leBytes 4 (x.bytes + bs.length) ∧
        t.flash.forjo s.inactiveImage = .bytes (putBytes (slotBytes (s.flash.forjo s.inactiveImage)) x.bytes bs)) ∧
    (payField p 4 4 ≠ x.bytes → ∃ t k, exec (.writeBlock l p true) s = .next t ∧ t.egress = s.egress ++ [(l.val, k)] ∧ pktIs k 6 4 = true ∧
      payloadBytes k = leBytes 2 x.transfer ++ [2, 0] ++ leBytes 4 x.bytes ∧ t.flash = s.flash)) ∧
  (∀ (l : Fin 96) (p : Packet) (s : State), s.isFeed = true → s.takes l.val p 6 4 = true →
    ∃ t, exec (.blkAck l p) s = .next t ∧ s.Frame t [.hal] [] ∧ t.egress = s.egress ∧
      t.hal.blkAcks = (s.hal.blkAcks.filter fun x => x.1 != payField p 0 2) ++ [(payField p 0 2, payField p 2 1, payField p 4 4)]) ∧
  (∀ (l : Fin 96) (p : Packet) (key : Nat × Nat × Nat) (s : State), s.isFeed = true →
      key = (p.hdr.src.toNat, p.hdr.type.toNat, p.hdr.seq.toNat) →
    (s.takes l.val p 6 1 = true → (key ∈ s.hal.accepted → exec (.event l p) s = .next s) ∧
      (key ∉ s.hal.accepted → ∀ r : EventRec, r = { eventOfWords ((List.range 8).map fun i => payField p (4 * i) 4) with
          upstream := true, tile := p.hdr.src.toNat } →
        ∃ t, exec (.event l p) s = .next t ∧ s.Frame t ([.hal, .dsc] ++ evtParts) [R.dscCmd] ∧ key ∈ t.hal.accepted ∧
          t.evt = (s.routeRecord r).evt)) ∧
    (s.takes l.val p 6 5 = true → (key ∈ s.hal.accepted → exec (.heatReq l p) s = .next s) ∧
      (key ∉ s.hal.accepted → ∃ t, exec (.heatReq l p) s = .next t ∧ key ∈ t.hal.accepted ∧
        (∃ h, h ∈ t.thm.heats ∧ h.addr = p.hdr.src.toNat ∧ h.cap = min 4096 (payField p 0 2) ∧ h.live = true) ∧
        t.get R.thmHeatCount F.thmHeatCount_REQUESTS =
          min (2 ^ F.thmHeatCount_REQUESTS.w - 1) (s.get R.thmHeatCount F.thmHeatCount_REQUESTS + 1)))) ∧
  (∀ s : State, (s.evt.upstream = [] ∨ s.isTile = false ∨ s.tileAddr = 0xFFF → exec .upstreamEventSend s = .next s) ∧
    (∀ r rest p, s.evt.upstream = r :: rest → s.isTile = true → s.tileAddr ≠ 0xFFF →
        p = makePacket 6 1 0xFFF s.domain s.tileAddr 0 s.evt.count s.frameNow 0 0 true false r.bytes →
      ((∃ l, l ∈ s.chainPorts ∧ s.portActive l = true ∧ s.hasCredits l p = true) →
        ∃ t, exec .upstreamEventSend s = .next t ∧ s.Frame t (.evt :: sendParts) (R.evtUpStatus :: creditRegs) ∧ t.evt.upstream = rest ∧
          s.Sends t ((s.chainPorts.filter s.portActive).map fun l => (l, p)) ∧
          t.get R.evtUpStatus F.evtUpStatus_QUEUED = rest.length % 2 ^ F.evtUpStatus_QUEUED.w) ∧
      ((∀ l, l ∈ s.chainPorts → s.portActive l = true → s.hasCredits l p = false) → exec .upstreamEventSend s = .next s)))

/-- Walks, binding, release, retries and details (R229, R231 to R234). -/
def Obligations.Walks : Prop :=
  (∀ (req : Requester) (v : Word) (l : Nat) (s : State), s.isTile = false → s.mayWrite req = true → fieldGet v.toNat F.dscCmd_OP = 1 →
      l = fieldGet v.toNat F.dscCmd_LANE → s.isHalPort l = true →
    ((s.walkOf l).phase = .idle → ∃ t, exec (.dscWalkPort req v) s = .next t ∧ s.Frame t [.dsc] [R.dscCmd] ∧
      (t.walkOf l).phase = .hold ∧ ∀ x, x ≠ l → t.walkOf x = s.walkOf x) ∧
    ((s.walkOf l).phase = .hold → exec (.dscWalkPort req v) s = .next s) ∧
    ((s.walkOf l).phase = .walk → ∃ t, exec (.dscWalkPort req v) s = .next t ∧ s.Frame t [.dsc] [R.dscCmd] ∧
      t.walkOf l = { s.walkOf l with trigger := true } ∧ ∀ x, x ≠ l → t.walkOf x = s.walkOf x)) ∧
  (∀ (req : Requester) (v : Word) (s : State), s.isTile = false → s.mayWrite req = true → fieldGet v.toNat F.dscCmd_OP = 2 →
    ∃ t, exec (.dscWalkAll req v) s = .next t ∧ s.Frame t [.dsc] [R.dscCmd] ∧ ∀ l, l ∈ s.halPorts →
      ((s.walkOf l).phase = .idle → (t.walkOf l).phase = .hold) ∧ ((s.walkOf l).phase = .hold → t.walkOf l = s.walkOf l) ∧
      ((s.walkOf l).phase = .walk → t.walkOf l = { s.walkOf l with trigger := true })) ∧
  (∀ (req : Requester) (v : Word) (a : Nat) (s : State), s.isTile = false → s.mayWrite req = true → fieldGet v.toNat F.dscCmd_OP = 3 →
      a = fieldGet v.toNat F.dscCmd_ADDR →
    (a < 4095 → s.boundAt a = none → s.topoState a = 4 → s.admitted a = false → ∃ t, exec (.dscRelease req v) s = .next t ∧
      s.Frame t [.dsc] (R.dscTopo a :: R.dscInfo :: (List.range 12).map R.dscMeas) ∧ t.reg (R.dscTopo a) = regReset (R.dscTopo a) ∧
      ∀ e, e ∈ t.dsc.table ↔ e ∈ s.dsc.table ∧ e.addr ≠ a) ∧
    (a = 4095 ∨ s.boundAt a ≠ none ∨ s.topoState a ≠ 4 ∨ s.admitted a = true →
      exec (.dscRelease req v) s = .next (s.progErrorIn .dsc R.dscCmd v.toNat req))) ∧
  (∀ (req : Requester) (v : Word) (s : State), s.isTile = true → s.mayWrite req = true → exec (.dscWalkPort req v) s = .next s ∧
    exec (.dscWalkAll req v) s = .next s ∧ exec (.dscRelease req v) s = .next s) ∧
  (∀ (l : Fin 96) (s : State),
    ((s.walkOf l.val).phase ≠ .hold → exec (.walkHoldExpire l) s = .next s) ∧
    ((s.walkOf l.val).phase = .hold → s.portActive l.val = true → s.dsc.nextWalk < 2 ^ 32 → ∃ t k, exec (.walkHoldExpire l) s = .next t ∧
      s.Frame t (.dsc :: sendParts) [R.dscCmd, R.halPortCredit l.val] ∧ s.Sends t [(l.val, k)] ∧ pktIs k 5 1 = true ∧
      payField k 0 4 = s.dsc.nextWalk ∧ t.dsc.nextWalk ≠ s.dsc.nextWalk ∧
      t.walkOf l.val = { port := l.val, phase := .walk, id := s.dsc.nextWalk, answers := [], trigger := false, again := false }) ∧
    ((s.walkOf l.val).phase ≠ .walk → exec (.walkQuiet l) s = .next s ∧ exec (.walkTimeout l) s = .next s)) ∧
  (∀ (l : Fin 96) (c : Instr) (s : State), (s.walkOf l.val).phase = .walk → c = .walkQuiet l ∨ c = .walkTimeout l →
    ((s.walkOf l.val).answers = [] → ∃ t, exec c s = .next t ∧ t.mem = s.mem ∧
      ((∀ e, e ∈ s.dsc.table → s.topoLane e.addr = l.val → s.topoState e.addr ≠ 2 ∧ s.topoState e.addr ≠ 3 ∧ s.topoState e.addr ≠ 5) →
        s.Frame t [.dsc] [R.dscCmd] ∧ (t.walkOf l.val).phase = (if (s.walkOf l.val).trigger then .hold else .idle)) ∧
      (∀ a, a ∈ s.dsc.table.map (·.addr) → a < 4095 → s.topoLane a = l.val → s.topoState a = 2 ∨ s.topoState a = 3 →
        1 ≤ (s.tileEntry a).missed → t.topoState a = 4) ∧
      (∀ a, (s.dsc.table.map (·.addr)).Nodup → a ∈ s.dsc.table.map (·.addr) → a < 4095 → s.topoLane a = l.val →
          s.topoState a = 2 ∨ s.topoState a = 3 ∨ s.topoState a = 5 → (s.tileEntry a).missed = 0 → (s.walkOf l.val).again = false →
          s.portActive l.val = true →
        t.topoState a = s.topoState a ∧ (t.tileEntry a).missed = 1 ∧ (t.walkOf l.val).phase = .walk ∧ (t.walkOf l.val).again = true ∧
          ∃ k, s.Sends t [(l.val, k)] ∧ pktIs k 5 1 = true ∧ payField k 0 4 = s.dsc.nextWalk % 2 ^ 32)) ∧
    (∀ r, (s.walkOf l.val).answers = [r] → r.cycle = false → s.portWins l.val = true → s.holders r.serial = [] →
      (∀ b, s.bindings.find? (fun b => b.serial.toNat == r.serial) = some b → b.addr < 4095 → s.topoState b.addr = 1 →
        ∃ t, exec c s = .next t ∧ t.mem = s.mem ∧ t.get (R.dscTopo b.addr) F.dscTopo_LANE = l.val ∧
          (t.tileEntry b.addr).serial = r.serial ∧ (s.admitted b.addr = false → t.topoState b.addr = 2) ∧
          (s.admitted b.addr = true → (s.tileEntry b.addr).recorded = none → t.topoState b.addr = 3)) ∧
      (∀ x, s.bindings.find? (fun b => b.serial.toNat == r.serial) = none → r.addr = 4095 →
          (List.range 4095).find? (fun x => !s.addrHeld x) = some x → s.topoState x = 0 →
        ∃ t, exec c s = .next t ∧ t.mem = s.mem ∧ t.topoState x = (if s.admitted x then 3 else 2) ∧
          (t.tileEntry x).serial = r.serial ∧ t.get (R.dscTopo x) F.dscTopo_LANE = l.val)) ∧
    (∀ n, (∀ x, x ∈ (s.walkOf l.val).answers → x.serial = n) → 1 < ((s.walkOf l.val).answers.filter fun x => !x.cycle).length →
        s.portWins l.val = true →
      ∃ t, exec c s = .next t ∧ ∀ a, a ∈ s.holders n → a < 4095 → t.topoState a = 5)) ∧
  (∀ (a : BitVec 12) (s : State),
    (s.isFeed = false ∨ (∀ w, w ∈ s.dsc.waits → w.addr ≠ a.toNat) → exec (.assignRetry a) s = .next s) ∧
    (∀ w, s.isFeed = true → s.dsc.waits.find? (fun w => w.addr == a.toNat) = some w →
      (w.sends < 3 → ∃ t, exec (.assignRetry a) s = .next t ∧ s.Frame t (.dsc :: sendParts) [R.halPortCredit w.port] ∧
        s.Sends t [(w.port, w.pkt)] ∧ { w with sends := w.sends + 1 } ∈ t.dsc.waits) ∧
      (3 ≤ w.sends → ∃ t, exec (.assignRetry a) s = .next t ∧ s.Frame t (.dsc :: evtParts) [R.dscTopo a.toNat] ∧
        t.get (R.dscTopo a.toNat) F.dscTopo_UNCONFIRMED = 1 ∧ t.dsc.waits = s.dsc.waits.erase w ∧
        t.dsc.failed = s.dsc.failed ++ [w]))) ∧
  (∀ (a : BitVec 12) (self peer : BitVec 64) (info cfg : Word) (s : State),
    (s.isFeed = true → s.topoState a.toNat = 2 ∨ s.topoState a.toNat = 3 → (s.dsc.table.map (·.addr)).Nodup →
        a.toNat ∈ s.dsc.table.map (·.addr) →
      ∃ t, exec (.tileDetailsRead a self peer info cfg) s = .next t ∧ t.mem = s.mem ∧ t.topoState a.toNat = s.topoState a.toNat ∧
        (t.tileEntry a.toNat).width = fieldGet self.toNat F.dscSelf_WIDTH ∧ (t.tileEntry a.toNat).height = fieldGet self.toNat F.dscSelf_HEIGHT ∧
        (t.tileEntry a.toNat).hop = cfg.toNat ∧ (s.holders peer.toNat = [] ∨ peer.toNat = s.serial → t.get (R.dscTopo a.toNat) F.dscTopo_PARENT = 0xFFF ∧
          t.get (R.dscTopo a.toNat) F.dscTopo_PARENT_PORT = 0) ∧
        (∀ x, s.holders peer.toNat = [x] → peer.toNat ≠ s.serial → x < 4096 → t.get (R.dscTopo a.toNat) F.dscTopo_PARENT = x ∧
          t.get (R.dscTopo a.toNat) F.dscTopo_PARENT_PORT = fieldGet info.toNat F.lanePeerInfo_PORT % 8)) ∧
    (s.isFeed = false ∨ (s.topoState a.toNat ≠ 2 ∧ s.topoState a.toNat ≠ 3) → exec (.tileDetailsRead a self peer info cfg) s = .next s))

/-- Discovery in a tile, and the answers in a feed unit (R229, R230, R233, R237). -/
def Obligations.DiscoveryPackets : Prop :=
  (∀ (l : Fin 96) (p : Packet) (id : Nat) (s : State), s.isTile = true → s.takes l.val p 5 1 = true → id = payField p 0 4 →
    ((∀ w, w ∈ s.dsc.seen → ¬(w.id = id ∧ w.claim = p.hdr.claim.toNat)) → ∃ t k, exec (.walk l p) s = .next t ∧
      s.Frame t ([.red, .bus, .dsc] ++ sendParts) [R.redTileStatus, R.redTileWinSerial, R.halPortCredit l.val] ∧ s.Sends t [(l.val, k)] ∧
      pktIs k 5 2 = true ∧ k.hdr.up = true ∧ k.hdr.src.toNat = s.tileAddr % 4096 ∧ payField k 0 4 = id ∧ payField k 4 8 = s.serial ∧
      payField k 0x24 1 = p.hdr.hops.toNat ∧ payField k 0x25 1 = 0) ∧
    (∀ w, s.dsc.seen.find? (fun w => w.id == id && w.claim == p.hdr.claim.toNat) = some w →
      (w.port ≠ l.val → w.cycle = false → s.clock.now ≤ w.time + 100000000 → ∃ t k, exec (.walk l p) s = .next t ∧
        s.Sends t [(l.val, k)] ∧ pktIs k 5 2 = true ∧ payField k 0 4 = id ∧ payField k 0x25 1 = 1 ∧
        { w with cycle := true } ∈ t.dsc.seen) ∧
      (w.port = l.val ∨ w.cycle = true ∨ w.time + 100000000 < s.clock.now → ∃ t, exec (.walk l p) s = .next t ∧
        s.Frame t [.red, .bus] [R.redTileStatus, R.redTileWinSerial]))) ∧
  (∀ (l : Fin 96) (p : Packet) (u : State) (s : State), s.isTile = true → s.takes l.val p 5 3 = true →
      u = s.noteClaim p.hdr.claim.toNat none →
    (payField p 0 8 = s.serial → u.fromWinner l.val p.hdr.claim.toNat = true → ∃ t, exec (.assign l p) s = .next t ∧
      s.Frame t ([.red, .bus, .dsc] ++ sendParts) (R.redTileStatus :: R.redTileWinSerial :: R.dscSelf :: creditRegs) ∧
      t.get R.dscSelf F.dscSelf_ADDR = payField p 8 2 % 4096 ∧ t.get R.dscSelf F.dscSelf_DOMAIN = payField p 8 2 / 4096 % 16 ∧
      t.get R.dscSelf F.dscSelf_ADMITTED = s.get R.dscSelf F.dscSelf_ADMITTED ∧
      t.dsc.origin = (if payField p 0xA 2 = 0xFFFF ∧ payField p 0xC 2 = 0xFFFF then none else some (payField p 0xA 2, payField p 0xC 2)) ∧
      ∃ k, s.Sends t (s.chainPorts.map fun x => (x, k)) ∧ pktIs k 5 2 = true ∧ payField k 0 4 = 0) ∧
    (payField p 0 8 = s.serial → u.fromWinner l.val p.hdr.claim.toNat = false → ∃ t, exec (.assign l p) s = .next t ∧
      s.Frame t [.red, .bus] [R.redTileStatus, R.redTileWinSerial, R.redTileRefused] ∧
      t.get R.redTileRefused F.redTileRefused_NOT_CLAIM = min 65535 (s.get R.redTileRefused F.redTileRefused_NOT_CLAIM + 1)) ∧
    (payField p 0 8 ≠ s.serial → ∃ t, exec (.assign l p) s = .next t ∧ s.Frame t [.red, .bus] [R.redTileStatus, R.redTileWinSerial])) ∧
  (∀ (l : Fin 96) (p : Packet) (u : State) (s : State), s.isTile = true → s.takes l.val p 5 4 = true → s.isMine p = true →
      u = s.noteClaim p.hdr.claim.toNat none →
    (u.fromWinner l.val p.hdr.claim.toNat = true → ∃ t, exec (.admitTile l p) s = .next t ∧
      s.Frame t ([.red, .bus, .dsc, .seq] ++ sendParts) (R.redTileStatus :: R.redTileWinSerial :: R.dscSelf :: creditRegs) ∧
      t.get R.dscSelf F.dscSelf_ADMITTED = (if payField p 0 1 = 1 then 1 else 0) ∧
      t.get R.dscSelf F.dscSelf_ADDR = s.get R.dscSelf F.dscSelf_ADDR ∧
      ∃ k, s.Sends t (s.chainPorts.map fun x => (x, k)) ∧ pktIs k 5 2 = true ∧ payField k 0 4 = 0) ∧
    (u.fromWinner l.val p.hdr.claim.toNat = false → ∃ t, exec (.admitTile l p) s = .next t ∧
      s.Frame t [.red, .bus] [R.redTileStatus, R.redTileWinSerial, R.redTileRefused])) ∧
  (∀ (l : Fin 96) (p : Packet) (r : AnswerRec) (id : Nat) (s : State), s.isFeed = true → s.takes l.val p 5 2 = true → r = answerOf p →
      id = payField p 0 4 →
    (id ≠ 0 → (s.walkOf l.val).phase ≠ .walk ∨ (s.walkOf l.val).id ≠ id → exec (.answer l p) s = .next s) ∧
    (id ≠ 0 → (s.walkOf l.val).phase = .walk → (s.walkOf l.val).id = id → ∃ t, exec (.answer l p) s = .next t ∧ s.Frame t [.dsc] [R.dscCmd] ∧
      t.walkOf l.val = { s.walkOf l.val with answers := (s.walkOf l.val).answers ++ [r] } ∧ ∀ x, x ≠ l.val → t.walkOf x = s.walkOf x) ∧
    (∀ a, id = 0 → ((s.holders r.serial).filter fun x => s.topoState x != 5).head? = some a → r.addr = a → r.domain = s.domain →
      ∀ w, s.dsc.waits.find? (fun w => w.addr == a) = some w → ∃ t, exec (.answer l p) s = .next t ∧ s.Frame t [.dsc] [R.dscTopo a] ∧
        t.dsc.waits = s.dsc.waits.erase w ∧ ((∀ x, x ∈ t.dsc.waits ∨ x ∈ s.dsc.failed → x.addr ≠ a) →
          t.get (R.dscTopo a) F.dscTopo_UNCONFIRMED = 0)) ∧
    (id = 0 → (∀ a, ((s.holders r.serial).filter fun x => s.topoState x != 5).head? = some a → r.addr ≠ a ∨ r.domain ≠ s.domain) →
        s.portWins l.val = true → exec (.answer l p) s = .next s) ∧
    (id = 0 → s.portWins l.val = false → s.holders r.serial = [] → r.addr < 4095 → r.domain = s.domain → s.topoState r.addr = 0 →
      ∃ t, exec (.answer l p) s = .next t ∧ t.mem = s.mem ∧ t.egress = s.egress ∧ t.topoState r.addr = (if s.admitted r.addr then 3 else 2) ∧
        (t.tileEntry r.addr).serial = r.serial ∧ t.get (R.dscTopo r.addr) F.dscTopo_LANE = l.val))

/-- Correction, board sensors and the light-sensor loop (R242, R245, R250, R255 to R258, R264, R265). -/
def Obligations.Correction : Prop :=
  (∀ (cs : CorrSet) (m : LampMap) (l : LampAt) (q : Rgb) (s : State),
    (s.correctLamp cs m l q true).grey = ⟨0, 0, 0⟩ ∧
    (∀ off, cs.cap ≤ 4096 → cs.tf ≤ 4096 → cs.depth ≤ 16 → ∀ g, g = (s.correctLamp cs m l q off).grey →
      g.r < 65536 ∧ g.g < 65536 ∧ g.b < 65536 ∧ g.r % 2 ^ (16 - cs.depth) = 0 ∧ g.g % 2 ^ (16 - cs.depth) = 0 ∧ g.b % 2 ^ (16 - cs.depth) = 0 ∧
      (s.correctLamp cs m l q off).l6.r < 2 ^ 20)) ∧
  (∀ (q : Fin 4) (ecc : List (Fin 512 × Fin 512)) (errors : List MemError) (m : LampMap) (u v : State) (f k : Nat) (p : PatternRec) (n : Int)
      (s : State), s.isTile = true → s.rst.inReset = false → u = s.memErrors errors → u.lampMap = some m → u.deadlineSlot = some (v, f, k) →
      v.pattern = some p → n = frameAt v.origin p ((u.clock.now : Int) + 200000) →
    s.Frame u evtParts [R.hbmEcc] ∧ (errors = [] → u = s) ∧
    (v.corrState n k = none → exec (.correctionStart q ecc errors) s = .next u) ∧
    (∀ st g pic cs, v.corrState n k = some st → v.corrPicture st m n k = some (g, pic) →
        cs = State.corrSet { v with cor := (u.takeGain n).cor } n k g →
      ∃ t, exec (.correctionStart q ecc errors) s = .next t ∧ u.Frame t [.cor] [R.corQstat q.val] ∧ t.cor.recs = s.cor.recs ∧
        t.cor.heat = s.cor.heat ∧
        ∀ l, l ∈ u.quarterOrder q.val → (∀ x, x ∈ u.quarterOrder q.val → x.key = l.key → x = l) →
          sRead (fun _ => ⟨0, 0, 0⟩) t.cor.greys l.key =
            (u.correctLamp cs m l (pic l) ((ecc.map fun e => (e.1.val, e.2.val)).contains (l.channel, l.pos) || u.lampOff l.key)).grey)) ∧
  (∀ (q : Fin 4) (ecc : List (Fin 512 × Fin 512)) (errors : List MemError) (bs : List (Fin 32 × Option (BitVec 16))) (ls : List (Fin 4 × Option (BitVec 48))) (s : State),
    s.isTile = false ∨ s.rst.inReset = true → exec (.correctionStart q ecc errors) s = .next s ∧ exec (.boardSensorPoll bs) s = .next s ∧
      exec (.lightSensorLoop ls) s = .next s) ∧
  (∀ (bs : List (Fin 32 × Option (BitVec 16))) (s : State), s.isTile = true → s.rst.inReset = false → (∀ b, b ∈ s.cor.boards → b.idx < 32) →
    ∃ t, exec (.boardSensorPoll bs) s = .next t ∧ s.Frame t (.cor :: evtParts) (R.corStatus :: (List.range 32).map R.corBsens) ∧
      ∀ b a, b ∈ s.cor.boards → (∀ x, x ∈ s.cor.boards → x.idx = b.idx → x = b) →
          a = (sLookup (bs.map fun r => (r.1.val, r.2.map (·.toNat))) b.idx).getD none →
        (∀ x, a = some x → -640 ≤ toSigned 16 x / 16 → toSigned 16 x / 16 ≤ 2400 →
          toSigned 16 (t.get (R.corBsens b.idx) F.corBsens_TEMP) = toSigned 16 x / 16 ∧
          (9 ≤ b.good → s.get (R.corBsens b.idx) F.corBsens_STATE = 2 → t.get (R.corBsens b.idx) F.corBsens_STATE = 1)) ∧
        (a = none → t.get (R.corBsens b.idx) F.corBsens_TEMP = s.get (R.corBsens b.idx) F.corBsens_TEMP ∧
          (2 ≤ b.nack → s.get (R.corBsens b.idx) F.corBsens_STATE = 1 → t.get (R.corBsens b.idx) F.corBsens_STATE = 2) ∧
          (b.nack < 2 → b.range < 3 → t.get (R.corBsens b.idx) F.corBsens_STATE = s.get (R.corBsens b.idx) F.corBsens_STATE))) ∧
  (∀ (ls : List (Fin 4 × Option (BitVec 48))) (s : State), s.isTile = true → s.rst.inReset = false → (∀ a, a ∈ s.cor.lights → a.idx < 4) →
    ∃ t, exec (.lightSensorLoop ls) s = .next t ∧
      s.Frame t (.cor :: .freeCount :: evtParts) (R.corStatus :: ((List.range 3).map R.corGain ++ (List.range 4).map R.corLsensStatus ++
        (List.range 4).map R.corLsensRead)) ∧
      (∀ a, a ∈ t.cor.lights → a.n = 0 ∧ a.acc = [0, 0, 0]) ∧
      (∀ a, a ∈ s.cor.lights → (∀ x, x ∈ s.cor.lights → x.idx = a.idx → x = a) → s.cor.lights.count a = 1 →
          (sLookup (ls.map fun r => (r.1.val, r.2.map (·.toNat))) a.idx).getD none = none →
        t.get (R.corLsensStatus a.idx) F.corLsensStatus_SKIPS = min 15 (s.get (R.corLsensStatus a.idx) F.corLsensStatus_SKIPS + 1)) ∧
      (∀ c g, c < 3 → g = s.get (R.corGain c) F.corGain_G4 →
        (s.actGet R.corCfg F.corCfg_MODE = 0 → t.get (R.corGain c) F.corGain_G4 = g) ∧
        (s.get R.corGainLimit F.corGainLimit_GMIN ≤ g → g ≤ s.get R.corGainLimit F.corGainLimit_GMAX →
          t.get (R.corGain c) F.corGain_G4 ≤ g + g * 5 / 1000 ∧ g ≤ t.get (R.corGain c) F.corGain_G4 + g * 5 / 1000 ∧
          s.get R.corGainLimit F.corGainLimit_GMIN ≤ t.get (R.corGain c) F.corGain_G4 ∧
          t.get (R.corGain c) F.corGain_G4 ≤ s.get R.corGainLimit F.corGainLimit_GMAX)))

/-- Lamp records, EOTF, calibration, the board bus, heat requests of lamps (R244, R246, R262, R263, R267, R269, R368). -/
def Obligations.CalibrationAndLampHeat : Prop :=
  (∀ (req : Requester) (q : Fin 4) (w : Fin 524288) (v : Word) (key : Nat) (s : State), s.mayWrite req = true → s.live .cor = true → key = q.val * 65536 + w.val / 8 →
    ∃ t, exec (.lampRecordWrite req q w v) s = .next t ∧ s.Frame t (.cor :: evtParts) [] ∧ (∀ k, k ≠ key → t.lampRec k = s.lampRec k) ∧
      (w.val % 8 ≠ 7 → t.lampRec key = s.lampRec key ∧ ∃ b, b ∈ t.cor.bufs ∧ b.quarter = q.val ∧ b.record = w.val / 8 ∧
        sLookup b.words (w.val % 8) = some v.toNat) ∧
      (w.val % 8 = 7 → (∀ b, b ∈ t.cor.bufs → b.quarter ≠ q.val)) ∧
      (∀ b, w.val % 8 = 7 → s.cor.bufs.find? (fun b => b.quarter == q.val) = some b → b.record = w.val / 8 → (∀ e, e ∈ b.words → e.1 < 7) →
        s.Frame t [.cor] [] ∧ fieldGet (t.lampRec key) ⟨224, 32⟩ = v.toNat ∧
        ∀ i x, i < 7 → (i, x) ∈ b.words → (∀ e, e ∈ b.words → e.1 = i → e.2 = x) → fieldGet (t.lampRec key) ⟨32 * i, 32⟩ = x % 2 ^ 32)) ∧
  (∀ (req : Requester) (q : Fin 4) (w : Fin 524288) (v : Word) (s : State), s.mayWrite req = true → s.live .cor = false → exec (.lampRecordWrite req q w v) s = .next s) ∧
  (∀ (req : Requester) (b : Fin 2) (c : Fin 3) (i : Fin 4096) (v : Word) (s : State), s.mayWrite req = true → s.live .cor = true →
    (s.actGet R.corCfg F.corCfg_EOTF_BANK ≠ b.val → s.committing = false → ∃ t, exec (.corEotfWrite req b c i v) s = .next t ∧
      s.Frame t [] [R.corEotf b.val c.val i.val] ∧ t.reg (R.corEotf b.val c.val i.val) = v.toNat % 2 ^ 20) ∧
    (s.actGet R.corCfg F.corCfg_EOTF_BANK = b.val ∨ (s.committing = true ∧ s.get R.corCfg F.corCfg_EOTF_BANK = b.val) →
      exec (.corEotfWrite req b c i v) s = .next (s.raise .cor 0 1 0 [R.corEotf b.val c.val i.val, v.toNat, reqCode req]))) ∧
  (∀ (req : Requester) (v : Word) (s : State), s.mayWrite req = true → s.live .cor = true →
    (s.calOpen = true → ∃ t, exec (.calApply req v) s = .next t ∧ s.Frame t [.cor] [R.corCalCtrl, R.corCalStatus] ∧
      t.get R.corCalCtrl F.corCalCtrl_UNLOCK = fieldGet v.toNat F.corCalCtrl_UNLOCK ∧
      (fieldGet v.toNat F.corCalCtrl_APPLY = 1 → s.cor.applying = none → t.cor = { s.cor with applying := some s.spareCopy } ∧
        t.get R.corCalStatus F.corCalStatus_STATE = 2) ∧
      (fieldGet v.toNat F.corCalCtrl_APPLY = 0 → t.cor = s.cor ∧ t.reg R.corCalStatus = s.reg R.corCalStatus)) ∧
    (s.calOpen = false → fieldGet v.toNat F.corCalCtrl_UNLOCK = 1 →
      exec (.calApply req v) s = .next (s.raise .cor 0 1 0 [R.corCalCtrl, v.toNat, reqCode req]))) ∧
  (∀ (i : Nat) (m : LampMap) (cause : Nat) (c : List Nat) (s : State), s.isTile = true → s.rst.inReset = false → s.cor.applying = some i → i ≤ 1 →
      s.lampMap = some m → cause = calCause s.serial m (s.calCopy i) → c = (s.calCopy i).getD [] →
    (cause ≠ 0 → ∃ t, exec .calApplyDone s = .next t ∧ s.Frame t [.cor, .seq] [R.corCalStatus] ∧ t.cor = { s.cor with applying := none } ∧
      t.get R.corCalStatus (if i = 0 then F.corCalStatus_CAUSE0 else F.corCalStatus_CAUSE1) = cause % 16 ∧
      t.get R.corCalStatus F.corCalStatus_COPY = s.get R.corCalStatus F.corCalStatus_COPY ∧ t.get R.corCalStatus F.corCalStatus_STATE ≠ 2) ∧
    (cause = 0 → s.reg R.corCalSeq < calField c 0x18 4 → ∃ t, exec .calApplyDone s = .next t ∧ t.cor.applying = none ∧
      t.get R.corCalStatus F.corCalStatus_COPY = i ∧ t.get R.corCalStatus F.corCalStatus_STATE = 1 ∧ t.reg R.corCalSeq = calField c 0x18 4 ∧
      t.mem = s.mem ∧ t.hold = s.hold ∧ ∀ l, l ∈ s.lamps → (∀ x, x ∈ s.lamps → x.key = l.key → x = l) →
        t.lampRec l.key = calField c (0x3000 + 32 * l.index) 32)) ∧
  (∀ s : State, s.isTile = false ∨ s.rst.inReset = true ∨ s.cor.applying = none → exec .calApplyDone s = .next s) ∧
  (∀ (a : Option (BitVec 8)) (s : State), s.isTile = true → s.rst.inReset = false →
    (s.get R.corI2c F.corI2c_BUSY = 1 → ∃ t, exec (.i2cTransaction a) s = .next t ∧ s.Frame t [] [R.corI2c] ∧
      t.get R.corI2c F.corI2c_BUSY = 0 ∧ t.get R.corI2c F.corI2c_NACK = a.isNone.toNat ∧
      (∀ x, a = some x → s.get R.corI2c F.corI2c_READ = 1 → t.get R.corI2c F.corI2c_DATA = x.toNat) ∧
      (a = none ∨ s.get R.corI2c F.corI2c_READ = 0 → t.get R.corI2c F.corI2c_DATA = s.get R.corI2c F.corI2c_DATA)) ∧
    (s.get R.corI2c F.corI2c_BUSY = 0 → exec (.i2cTransaction a) s = .next s)) ∧
  (∀ s : State, s.isTile = true →
    (toSigned 16 (s.get R.corLampLimit F.corLampLimit_LIMIT) < toSigned 16 (s.get R.corStatus F.corStatus_HOTTEST) → s.dieReq = false →
      ∃ t k, exec .lampHeatReq s = .next t ∧ s.Frame t ([.thm, .evt, .cor] ++ sendParts) (R.corStatus :: R.thmCap :: creditRegs) ∧
        t.get R.corStatus F.corStatus_LAMP_REQ = 1 ∧ t.get R.thmCap F.thmCap_CAP_WANTED = s.capEff s.frameInt * 15 / 16 ∧
        s.Sends t (if s.tileAddr = 0xFFF then [] else s.chainPorts.map fun l => (l, k)) ∧ pktIs k 6 5 = true ∧ payField k 0 2 = s.capEff s.frameInt * 15 / 16 ∧
        payField k 4 2 = s.get R.corStatus F.corStatus_HOTTEST) ∧
    (∀ c, toSigned 16 (s.get R.corStatus F.corStatus_HOTTEST) ≤ toSigned 16 (s.get R.corLampLimit F.corLampLimit_LIMIT) →
      s.lampReq = true → s.dieReq = false → s.cor.coolFrom = some c → c + 10000000000 ≤ s.clock.now →
      ∃ t k, exec .lampHeatReq s = .next t ∧ t.get R.corStatus F.corStatus_LAMP_REQ = 0 ∧
        s.Sends t (if s.tileAddr = 0xFFF then [] else s.chainPorts.map fun l => (l, k)) ∧ pktIs k 6 5 = true ∧ payField k 0 2 = 4096 ∧ t.cor.locCap.cap = 4096) ∧
    (toSigned 16 (s.get R.corStatus F.corStatus_HOTTEST) ≤ toSigned 16 (s.get R.corLampLimit F.corLampLimit_LIMIT) → s.lampReq = false →
      exec .lampHeatReq s = .next s) ∧
    (s.dieReq = true ∨ s.lampReq = true → s.get R.thmCap F.thmCap_ANSWERED = 0 → s.get R.thmCap F.thmCap_LOCAL = 0 →
      ∃ t, exec .heatGraceExpire s = .next t ∧ s.Frame t [.cor] [R.thmCap] ∧ t.get R.thmCap F.thmCap_LOCAL = 1 ∧
        t.cor.locCap.cap = s.get R.thmCap F.thmCap_CAP_WANTED) ∧
    (s.get R.thmCap F.thmCap_ANSWERED = 1 ∨ s.get R.thmCap F.thmCap_LOCAL = 1 → exec .heatGraceExpire s = .next s)) ∧
  (∀ s : State, s.isTile = false → exec .lampHeatReq s = .next s ∧ exec .heatGraceExpire s = .next s)

/-- The Lervis bus (R273, R277, R280, R282, R288 to R291, R423). -/
def Obligations.LervisBus : Prop :=
  (∀ (q : Fin 4) (late : List (Fin 512)) (blocked : List (Fin 64)) (v : State) (n : Int) (k : Nat) (s : State),
      s.isTile = true → s.rst.inReset = false → s.transferSlot = some (v, n, k) → (v.corrState n k).isSome = true →
    ∃ t, exec (.transferStart q late blocked) s = .next t ∧
      s.Frame t (.lmp :: .cor :: evtParts) [R.lmpQstat q.val, R.corQstat q.val] ∧ t.lmp.wbank = s.lmp.wbank ∧ t.lmp.disp = s.lmp.disp ∧
      t.get (R.lmpQstat q.val) F.lmpQstat_SKIPPED = min 65535 (s.get (R.lmpQstat q.val) F.lmpQstat_SKIPPED +
        (s.bankGroups q.val).countP fun g => decide (2 ≤ s.groupState g) && (blocked.map (·.val)).contains g) ∧
      t.get (R.corQstat q.val) F.corQstat_LATE = min 65535 (s.get (R.corQstat q.val) F.corQstat_LATE +
        late.countP fun c => c.val / 128 == q.val) ∧
      ∀ g, g ∈ s.bankGroups q.val → 2 ≤ s.groupState g →
        ((t.groupSt g).sent = !(blocked.map (·.val)).contains g) ∧
        ((blocked.map (·.val)).contains g = false → ∀ l, l ∈ s.groupLamps g → (∀ x, x ∈ s.lamps → x.key = l.key → x = l) →
          greyOf t.lmp.shift l.key = if s.groupState g = 2 then ⟨0, 0, 0⟩
            else if (late.map (·.val)).contains l.channel then greyOf s.lmp.wbank l.key else greyOf s.cor.greys l.key) ∧
        ((blocked.map (·.val)).contains g = true → ∀ l, l ∈ s.groupLamps g → (∀ x, x ∈ s.lamps → x.key = l.key → x = l) →
          greyOf t.lmp.shift l.key = greyOf s.lmp.shift l.key)) ∧
  (∀ (q : Fin 4) (late : List (Fin 512)) (blocked : List (Fin 64)) (v : State) (n : Int) (k : Nat) (s : State),
      s.isTile = true → s.rst.inReset = false → s.transferSlot = some (v, n, k) → v.corrState n k = none →
    ∃ t, exec (.transferStart q late blocked) s = .next t ∧ s.Frame t [.lmp] [R.lmpQstat q.val] ∧ t.lmp.wbank = s.lmp.wbank ∧
      t.lmp.disp = s.lmp.disp ∧ ∀ g, g ∈ s.bankGroups q.val →
        (s.groupState g ≠ 2 → t.groupSt g = s.groupSt g) ∧
        (s.groupState g = 2 → (t.groupSt g).sent = !(blocked.map (·.val)).contains g) ∧
        (s.groupState g = 2 → (blocked.map (·.val)).contains g = false → ∀ l, l ∈ s.groupLamps g → greyOf t.lmp.shift l.key = ⟨0, 0, 0⟩)) ∧
  (∀ (q : Fin 4) (late : List (Fin 512)) (blocked : List (Fin 64)) (s : State),
    s.isTile = false ∨ s.rst.inReset = true ∨ s.transferSlot = none → exec (.transferStart q late blocked) s = .next s) ∧
  (∀ (g : Fin 64) (s : State), s.isTile = true → s.rst.inReset = false → 2 ≤ s.groupState g.val →
    ((s.groupSt g.val).sent = true → ∃ t, exec (.wrGray g) s = .next t ∧ s.Frame t [.lmp] [] ∧ (t.groupSt g.val).sent = false ∧
      (t.groupSt g.val).scanning = true ∧
      (t.groupSt g.val).strobes = (s.groupSt g.val).strobes ++ (if (s.groupSt g.val).scanning then [4] else [4, 3]) ∧ t.lmp.shift = s.lmp.shift ∧ t.lmp.disp = s.lmp.disp ∧
      (∀ l, l ∈ s.groupLamps g.val → greyOf t.lmp.wbank l.key = greyOf s.lmp.shift l.key) ∧
      ∀ k, (∀ l, l ∈ s.groupLamps g.val → l.key ≠ k) → greyOf t.lmp.wbank k = greyOf s.lmp.wbank k) ∧
    ((s.groupSt g.val).sent = false → exec (.wrGray g) s = .next s)) ∧
  (∀ (g : Fin 64) (s : State), s.isTile = true → 2 ≤ s.groupState g.val → ∃ t, exec (.wrCfg g) s = .next t ∧
    s.Frame t [.lmp] [R.lmpQstat (g.val / 16)] ∧
    t.get (R.lmpQstat (g.val / 16)) F.lmpQstat_CFG_SENT = min 65535 (s.get (R.lmpQstat (g.val / 16)) F.lmpQstat_CFG_SENT + 1) ∧
    (t.groupSt g.val).strobes = (s.groupSt g.val).strobes ++ [6] ∧ (t.groupSt g.val).cfg = (s.groupSt g.val).cfg ∧
    (s.cfgWords.repeats % 256 = 0 → (t.groupSt g.val).pendCfg = (s.groupSt g.val).pendCfg) ∧
    (g.val ∈ s.usedGroups → 12 ≤ s.cfgWords.depth → s.cfgWords.depth ≤ 16 → s.cfgWords.seg < 8 → 0 < s.cfgWords.repeats → s.cfgWords.repeats < 256 →
      (t.groupSt g.val).pendCfg = some s.cfgWords) ∧
    ∀ h, h ≠ g.val → t.groupSt h = s.groupSt h) ∧
  (∀ (g : Fin 64) (s : State), s.isTile = false ∨ s.groupState g.val < 2 → exec (.wrGray g) s = .next s ∧ exec (.wrCfg g) s = .next s) ∧
  (∀ (g : Fin 64) (s : State), s.isTile = true → s.groupState g.val = 2 →
    (10 ≤ (s.groupSt g.val).scans → (s.groupSt g.val).failed = false →
      exec (.cfgFailed g) s = .next ((s.setGroup { s.groupSt g.val with failed := true }).raise .lmp 5 3 g.val)) ∧
    ((s.groupSt g.val).scans < 10 ∨ (s.groupSt g.val).failed = true → exec (.cfgFailed g) s = .next s)) ∧
  (∀ (q : Fin 4) (v : BitVec 2) (s : State),
    (s.isTile = true → s.bankValid q.val = true → v ≠ 1 → v ≠ 2 → s.bankGroups q.val ≠ [] →
      ∃ t, exec (.bankSupplyChange q v) s = .next t ∧ s.Frame t (.lmp :: evtParts) (R.lmpBank q.val :: (s.bankGroups q.val).map groupKey) ∧
        t.reg (R.lmpBank q.val) = v.toNat ∧ t.bankValid q.val = false ∧
        ∀ g, g ∈ s.bankGroups q.val → t.groupState g = 1 ∧ (t.groupSt g).lit = false ∧ (t.groupSt g).sent = false) ∧
    (s.isTile = true → s.bankValid q.val = false ∨ v = 1 ∨ v = 2 ∨ s.bankGroups q.val = [] →
      ∃ t, exec (.bankSupplyChange q v) s = .next t ∧ s.Frame t [.lmp] [R.lmpBank q.val] ∧ t.reg (R.lmpBank q.val) = v.toNat ∧
        t.lmp = { s.lmp with volts := s.lmp.volts.set q.val v.toNat }) ∧
    (s.isTile = false → exec (.bankSupplyChange q v) s = .next { s with lmp := { s.lmp with volts := s.lmp.volts.set q.val v.toNat } })) ∧
  (∀ (q : Fin 4) (s : State),
    (s.isTile = true → s.bankValid q.val = true → ∃ t, exec (.bankSupplyValid q) s = .next t ∧
      s.Frame t [.lmp] ((s.bankGroups q.val).map groupKey) ∧
      ∀ g, g ∈ s.bankGroups q.val →
        (s.groupState g = 1 → t.groupState g = 2 ∧ (t.groupSt g).scans = 0 ∧ (t.groupSt g).failed = false ∧ (t.groupSt g).strobes = [7]) ∧
        (s.groupState g ≠ 1 → t.groupState g = s.groupState g ∧ t.groupSt g = s.groupSt g)) ∧
    (s.isTile = false ∨ s.bankValid q.val = false → exec (.bankSupplyValid q) s = .next s)) ∧
  (∀ (req : Requester) (v : Word) (c : Instr) (s : State), s.mayWrite req = true → c = .forceBlank req v ∨ c = .rescan req v →
    (s.live .lmp = false → exec c s = .next s) ∧
    (s.live .lmp = true → ∃ t, exec c s = .next t ∧ s.Frame t [.lmp] (R.lmpCtrl :: s.usedGroups.map groupKey) ∧
      t.get R.lmpCtrl F.lmpCtrl_FORCE_BLANK = fieldGet v.toNat F.lmpCtrl_FORCE_BLANK ∧
      ∀ g, g ∈ s.usedGroups →
        (fieldGet v.toNat F.lmpCtrl_RESCAN = 1 → 2 ≤ s.groupState g → (t.groupSt g).scanning = false ∧
          (t.groupSt g).strobes = (s.groupSt g).strobes ++ [7]) ∧
        (fieldGet v.toNat F.lmpCtrl_RESCAN = 0 → (t.groupSt g).scanning = (s.groupSt g).scanning) ∧
        (fieldGet v.toNat F.lmpCtrl_FORCE_BLANK = 1 → s.groupState g = 3 → t.groupState g = 4 ∧ (t.groupSt g).lit = false) ∧
        (fieldGet v.toNat F.lmpCtrl_FORCE_BLANK = 0 → s.get R.lmpStatus F.lmpStatus_PWM_FIT = 0 → s.groupState g = 4 → t.groupState g = 3) ∧
        (s.groupState g < 3 → t.groupState g = s.groupState g))) ∧
  (∀ (req : Requester) (v : Word) (s : State), s.mayWrite req = true → s.live .lmp = true →
    (s.seq.state = .idle → s.transfersFit (fieldGet v.toNat F.lmpClk_LCK_DIV) = true → ∃ t, exec (.lmpClkWrite req v) s = .next t ∧
      s.Frame t [] [R.lmpClk] ∧ t.reg R.lmpClk = v.toNat % 16) ∧
    (s.seq.state ≠ .idle ∨ s.transfersFit (fieldGet v.toNat F.lmpClk_LCK_DIV) = false →
      exec (.lmpClkWrite req v) s = .next (s.raise .lmp 0 1 0 [R.lmpClk, v.toNat, reqCode req]))) ∧
  (∀ (req : Requester) (v : Word) (s : State), s.mayWrite req = true → s.live .lmp = false →
    exec (.lmpClkWrite req v) s = .next s)

/-- The enable of current placement (R312). -/
def Obligations.PlacementEnable : Prop :=
  (∀ (req : Requester) (v : Word) (s : State), s.mayWrite req = true → s.live .lmp = true →
    ∃ t, exec (.sagLoopEnable req v) s = .next t ∧
      (∀ f, f ∈ [F.lmpSagCfg_EN, F.lmpSagCfg_SPREAD_INIT, F.lmpSagCfg_SAG_TRIG, F.lmpSagCfg_GAP] → t.get R.lmpSagCfg f = fieldGet v.toNat f) ∧
      (s.sagOn = true ∨ fieldGet v.toNat F.lmpSagCfg_EN = 0 → s.Frame t [] [R.lmpSagCfg]) ∧
      (s.sagOn = false → fieldGet v.toNat F.lmpSagCfg_EN = 1 → s.Frame t [] (R.lmpSagCfg :: (List.range 64).map sagKey) ∧
        ∀ (sup i g : Nat), sup < 8 → (s.supplyGroups sup)[i]? = some g →
          t.get (sagKey g) F.lmpSagMap_PLACE = (if fieldGet v.toNat F.lmpSagCfg_SPREAD_INIT = 1 then i % 8 else 0) ∧
          t.get (sagKey g) F.lmpSagMap_SUPPLY = sup ∧ t.get (sagKey g) F.lmpSagMap_LOAD = s.get (sagKey g) F.lmpSagMap_LOAD)) ∧
  (∀ (sag : List (Nat × Nat)) (s : State), s.sagOn = false →
    (∀ p g k, s.syncOffset p g k = 0) ∧
    s.Frame (s.placement sag) [.lmp] ((List.range 64).map sagKey ++ (List.range 8).map R.lmpSagStatus) ∧
    (∀ g, g < 64 → (s.placement sag).get (sagKey g) F.lmpSagMap_PLACE = s.get (sagKey g) F.lmpSagMap_PLACE) ∧
    (∀ x, x < 8 → (s.placement sag).get (R.lmpSagStatus x) F.lmpSagStatus_MOVES = s.get (R.lmpSagStatus x) F.lmpSagStatus_MOVES)) ∧
  (∀ (req : Requester) (g : Fin 64) (v : Word) (s : State), s.mayWrite req = true → s.live .lmp = true → s.sagOn = true →
    exec (.registerWrite req (BitVec.ofNat 26 (sagKey g.val)) .word v) s =
      .next (s.raise .lmp 0 1 0 [sagKey g.val, v.toNat, reqCode req]))

/-- Status scans, lamp fault states and their clearing (R281, R282, R291, R297, R300 to R305). -/
def Obligations.LampFaults : Prop :=
  (∀ (g : Fin 64) (delay : Option (Fin 32)) (records : List (List (BitVec 16))) (m : LampMap) (rs : List (List Nat)) (s : State),
      s.isTile = true → s.lampMap = some m → 2 ≤ s.groupState g.val → (s.groupSt g.val).scanning = true →
      rs = records.map (fun row => row.map (·.toNat)) →
    (delay = none ∨ rs.length ≠ (groupDrivers m g.val).length ∨ rs.all recordGood = false →
      ∃ t, exec (.statusScanDone g delay records) s = .next t ∧ s.Frame t (.lmp :: evtParts) [groupKey g.val] ∧
        t.get (groupKey g.val) F.lmpGroupStatus_LFB_LOCK = 0 ∧ t.groupState g.val = s.groupState g.val ∧
        (t.groupSt g.val).scanning = false ∧
        (t.groupSt g.val).scans = (s.groupSt g.val).scans + (if s.groupState g.val = 2 then 1 else 0)) ∧
    (∀ (d : Fin 32) (sc : Scan), delay = some d → rs.length = (groupDrivers m g.val).length → rs.all recordGood = true →
        (∀ x, x ∈ groupDrivers m g.val → x.2 < 32) → sc = (groupDrivers m g.val).zip rs →
      ∃ t, exec (.statusScanDone g delay records) s = .next t ∧
        s.Frame t (.lmp :: .cor :: .freeCount :: evtParts) ([groupKey g.val, R.lmpFaultStatus, R.lmpFaultCounts, R.lmpFaultLast] ++
          (groupDrivers m g.val).flatMap (fun x => (List.range 13).map fun w => R.lmpDrvStatus (x.1 / 128) (x.1 % 128) x.2 w) ++
          (s.groupLamps g.val).map fun l => R.lmpFaultMap (l.key / 65536) (l.key % 65536 / 4)) ∧
        t.get (groupKey g.val) F.lmpGroupStatus_LFB_LOCK = 1 ∧ t.get (groupKey g.val) F.lmpGroupStatus_FB_DELAY = d.val ∧
        t.get (groupKey g.val) F.lmpGroupStatus_SCANS = (s.get (groupKey g.val) F.lmpGroupStatus_SCANS + 1) % 65536 ∧
        (t.groupSt g.val).scanning = false ∧
        (∀ (x : Nat × Nat) (r : List Nat) (w : Nat), (x, r) ∈ sc → w < 13 →
          t.reg (R.lmpDrvStatus (x.1 / 128) (x.1 % 128) x.2 w) = r.getD (2 * w) 0 + 65536 * r.getD (2 * w + 1) 0) ∧
        (s.groupState g.val = 2 → t.groupState g.val =
          if sc.all (fun x => recordValid x.2) then (if s.mustBlank then 4 else 3) else 2) ∧
        (s.groupState g.val ≠ 2 → t.groupState g.val = s.groupState g.val) ∧
        ∀ l v, l ∈ s.groupLamps g.val → (∀ x, x ∈ s.lamps → x.key = l.key → x = l) → s.lamps.count l = 1 →
            v = s.verdictOf sc (sortBy (fun a b => decide (a.key ≤ b.key)) (s.groupLamps g.val)) l →
          (fbConfirmed (s.faultByte l.key) = true ∨ recDead (s.lampRec l.key) = true ∨ recDisabled (s.lampRec l.key) = true →
            t.faultByte l.key % 32 = s.faultByte l.key % 32 ∧ t.faultByte l.key / 64 = s.faultByte l.key / 64) ∧
          (fbConfirmed (s.faultByte l.key) = false → recDead (s.lampRec l.key) = false → recDisabled (s.lampRec l.key) = false →
            t.faultByte l.key % 16 = nextFault (s.faultByte l.key) v % 16 ∧ t.faultByte l.key / 64 = nextFault (s.faultByte l.key) v / 64 ∧
            fbConfirmed (t.faultByte l.key) =
              (v.meas && v.kinds != 0 && decide (s.confirmScans ≤ nextFault (s.faultByte l.key) v / 64))))) ∧
  (∀ (g : Fin 64) (delay : Option (Fin 32)) (records : List (List (BitVec 16))) (s : State),
    s.isTile = false ∨ s.groupState g.val < 2 ∨ (s.groupSt g.val).scanning = false →
      exec (.statusScanDone g delay records) s = .next s) ∧
  (∀ (b : Nat) (v : Verdict), b < 256 →
    (v.meas = false → nextFault b v = b) ∧
    (v.meas = true → v.kinds = 0 → nextFault b v % 16 = 0 ∧ nextFault b v / 64 = 0) ∧
    (v.meas = true → v.kinds ≠ 0 → v.kinds < 16 → nextFault b v % 16 = v.kinds ∧ nextFault b v / 16 % 4 = b / 16 % 4 ∧
      nextFault b v / 64 = if v.kinds = b % 16 then min 3 (b / 64 + 1) else 1)) ∧
  (∀ (req : Requester) (v : Word) (c : Instr) (s : State), s.mayWrite req = true → c = .strikeClear req v ∨ c = .clearAll req v ∨ c = .clearOne req v →
    (s.live .lmp = false → exec c s = .next s) ∧
    (s.live .lmp = true → ∃ t, exec c s = .next t ∧ (∀ p, p ≠ .cor → s.agree t p) ∧
      (∀ k, k ≠ R.lmpFaultStatus → inFaultMap k = false → t.reg k = s.reg k) ∧
      (fieldGet v.toNat F.lmpFaultCtrl_CLEAR_ALL = 1 → (∀ k, k < 262144 → t.faultByte k = 0) ∧
        t.get R.lmpFaultStatus F.lmpFaultStatus_CONFIRMED = 0) ∧
      (fieldGet v.toNat F.lmpFaultCtrl_CLEAR_ALL = 0 → ∀ k, k < 262144 → t.faultByte k =
        if fieldGet v.toNat F.lmpFaultCtrl_CLEAR_ONE = 1 ∧
            k = fieldGet v.toNat F.lmpFaultCtrl_CHANNEL * 512 + fieldGet v.toNat F.lmpFaultCtrl_POSITION then 0 else s.faultByte k) ∧
      (fieldGet v.toNat F.lmpFaultCtrl_CLEAR_ALL = 0 → fieldGet v.toNat F.lmpFaultCtrl_CLEAR_ONE = 1 →
        t.get R.lmpFaultStatus F.lmpFaultStatus_CONFIRMED = min 65535 (s.lamps.countP fun l => fbConfirmed (t.faultByte l.key))) ∧
      t.get R.lmpFaultStatus F.lmpFaultStatus_STRIKE = s.get R.lmpFaultStatus F.lmpFaultStatus_STRIKE ∧
      (fieldGet v.toNat F.lmpFaultCtrl_STRIKE_CLEAR = 0 ∨ s.flag R.lmpFaultStatus F.lmpFaultStatus_STRIKE = false → t.cor = s.cor) ∧
      (fieldGet v.toNat F.lmpFaultCtrl_STRIKE_CLEAR = 1 → s.flag R.lmpFaultStatus F.lmpFaultStatus_STRIKE = true →
        t.cor = { s.cor with releasing := true, tstrike := ⟨s.cor.tstrike.value s.frameInt, 4096, s.frameInt + 1,
          max 1 (s.actGet R.lmpStrikeCfg F.lmpStrikeCfg_STRIKE_FRAMES), s.actGet R.lmpStrikeCfg F.lmpStrikeCfg_STRIKE_CURVE⟩ })))

/-- Claims (R65, R314 to R316, R318, R320 to R323). -/
def Obligations.Claims : Prop :=
  (∀ s : State, ∃ t, t = s.updateRole ∧
    s.Frame t [.time] ([R.redStatus, R.timeStatus, R.topStatus, R.timeAddend] ++ s.halPorts.map R.redPort) ∧
    t.role = (if !s.paired then 0 else if s.unitWins then 1 else if s.flag R.redStatus F.redStatus_SYNCED then 2 else 3) ∧
    (t.flag R.redStatus F.redStatus_PARTNER_HEARD = s.hears) ∧
    (t.flag R.redStatus F.redStatus_TIE = (s.paired && s.hears && s.cur == s.partnerClaim)) ∧
    t.get R.redStatus F.redStatus_SYNCED = s.get R.redStatus F.redStatus_SYNCED ∧
    ∀ l, l ∈ s.halPorts → (t.flag (R.redPort l) F.redPort_PORT_WINNER = (s.unitWins || !s.red.hearing.contains l)) ∧
      (s.red.hearing.contains l = true → t.get (R.redPort l) F.redPort_PAIRING = 1) ∧
      (s.red.hearing.contains l = false → s.get (R.redPort l) F.redPort_PAIRING ≠ 0 → t.get (R.redPort l) F.redPort_PAIRING = 2)) ∧
  (∀ s : State, s.unitWins = true ↔ s.paired = false ∨ s.hears = false ∨ s.partnerClaim < s.cur ∨
    (s.cur = s.partnerClaim ∧ s.reg R.redPartner < s.serial)) ∧
  (∀ (s : State) (l : Nat) (p : Packet), s.isFeed = true → s.flag R.redStatus F.redStatus_TIE = true → s.serial < s.reg R.redPartner →
    1 < s.cur → tieHeld p = true → s.carries l p = false) ∧
  (∀ (req : Requester) (w : Word) (v : Nat) (u : State) (s : State), v = fieldGet w.toNat F.redClaim_CFG →
      u = (s.put R.redClaim F.redClaim_CFG v).put R.redClaim F.redClaim_CUR (max 1 v) →
    (s.isTile = true → s.mayWrite req = true → exec (.claimCfgWrite req w) s = .next s) ∧
    (s.isTile = false → s.mayWrite req = true → max 1 v ≠ s.cur → exec (.claimCfgWrite req w) s = .next (u.raise .red 1 1 0 [s.cur, max 1 v]).updateRole) ∧
    (s.isTile = false → s.mayWrite req = true → max 1 v = s.cur → exec (.claimCfgWrite req w) s = .next (s.put R.redClaim F.redClaim_CFG v).updateRole) ∧
    u.get R.redClaim F.redClaim_CFG = v ∧ u.cur = max 1 v) ∧
  (∀ s : State,
    (s.isFeed = true → s.paired = true → s.hears = true → s.unitWins = false → ∃ t, exec .takeover s = .next t ∧
      s.Frame t (.red :: .pen :: .time :: evtParts)
        ([R.redClaim, R.redStatus, R.redTakeovers, R.timeStatus, R.topStatus, R.timeAddend] ++ s.halPorts.map R.redPort) ∧
      t.cur = min 65535 (s.partnerClaim + 1) ∧ t.hears = false ∧ t.role = 1 ∧ t.flag R.redStatus F.redStatus_TIE = false ∧
      t.get R.redTakeovers F.redTakeovers_COUNT = min 65535 (s.get R.redTakeovers F.redTakeovers_COUNT + 1) ∧
      (∀ l, l ∈ s.halPorts → t.get (R.redPort l) F.redPort_PORT_WINNER = 1) ∧
      t.flag R.timeStatus F.timeStatus_STANDBY = false ∧ t.time.inUse = t.get R.timeCtrl F.timeCtrl_REF ∧
      t.pen.caps = s.pen.caps ∧
      t.pen.nextId = (s.pen.nextId + s.pen.out.countP fun p => p.type == 0x10 || p.type == 0x11) % 2 ^ 32 ∧
      (∀ p, p ∈ s.pen.out → p.type ≠ 0x10 → p.type ≠ 0x11 → p ∈ t.pen.out) ∧
      (∀ (i : Nat) (p : PennantOut), (s.pen.out.filter fun p => p.type == 0x10 || p.type == 0x11)[i]? = some p →
        { p with id := (s.pen.nextId + i) % 2 ^ 32, copies := 0 } ∈ t.pen.out) ∧
      ∀ p, p ∈ t.pen.out → p.type = 0x10 ∨ p.type = 0x11 → p.copies = 0 ∧
        ∃ i, i < (s.pen.out.countP fun p => p.type == 0x10 || p.type == 0x11) ∧ p.id = (s.pen.nextId + i) % 2 ^ 32) ∧
    (s.isFeed = false ∨ s.paired = false ∨ s.hears = false ∨ s.unitWins = true → exec .takeover s = .next s)) ∧
  (∀ (l : Fin 96) (s : State),
    (s.red.hearing.contains l.val = false → exec (.portPartnerLost l) s = .next s) ∧
    (s.red.hearing.contains l.val = true → s.red.hearing.all (· == l.val) = true → s.isFeed = true → s.paired = true → s.unitWins = false →
      exec (.portPartnerLost l) s = exec .takeover s) ∧
    (s.red.hearing.contains l.val = true → s.red.hearing.all (· == l.val) = false ∨ s.unitWins = true ∨ s.isFeed = false →
      ∃ t, exec (.portPartnerLost l) s = .next t ∧ t.red.hearing = s.red.hearing.filter (· != l.val) ∧
        s.Frame t [.red, .time] ([R.redStatus, R.timeStatus, R.topStatus, R.timeAddend] ++ s.halPorts.map R.redPort) ∧
        (l.val ∈ s.halPorts → t.get (R.redPort l.val) F.redPort_PORT_WINNER = 1 ∧
          (s.get (R.redPort l.val) F.redPort_PAIRING ≠ 0 → t.get (R.redPort l.val) F.redPort_PAIRING = 2)))) ∧
  (∀ (s : State) (w : ClaimEntry), s.claimWinner = some w → w ∈ s.red.claims ∧ w.live = true ∧
    ∀ e, e ∈ s.red.claims → e.live = true → e.claim ≤ w.claim ∧ (e.claim = w.claim → e.serial.getD 0 ≤ w.serial.getD 0)) ∧
  (∀ (c : BitVec 16) (s : State),
    (s.isTile = false → exec (.claimAgeOut c) s = .next s) ∧
    (s.isTile = true → ∃ t, exec (.claimAgeOut c) s = .next t ∧ s.Frame t [.red] [R.redTileStatus, R.redTileWinSerial] ∧
      t.red = { s.red with claims := s.red.claims.map fun e => if e.claim = c.toNat then { e with live := false } else e } ∧
      t.reg R.redTileWinSerial = (match t.claimWinner with | some w => w.serial.getD 0 | none => 0) ∧
      (∀ w, t.claimWinner = some w → w.claim < 65536 → t.get R.redTileStatus F.redTileStatus_WIN_CLAIM = w.claim) ∧
      (t.claimWinner = none → t.reg R.redTileStatus = 0) ∧
      ∀ a b, (s.red.claims = [a, b] ∨ s.red.claims = [b, a]) → a.claim = c.toNat → b.claim ≠ c.toNat → b.live = true → t.claimWinner = some b)) ∧
  (∀ (req : Requester) (v : Word) (x : BitVec 64) (y : BitVec 96) (c : Instr) (s : State),
      s.isTile = true → s.mayWrite req = false → s.claimOf req ≠ none →
      (c ∈ ([.rstCmdWrite req v, .wdtKick req v, .fwRevert req v, .mbxSubmit req v, .mbxRelease req v, .spdmRelayGo req v, .topCommit req v,
          .timeRefWrite req v, .rearm req v, .setGo req v, .slewPpmWrite req v, .ptpCfgWrite req v, .alignOriginWrite req y,
          .timeModeCommit req v, .trigSwPulse req v, .queueEnable req v, .queueDisable req v, .qmConsume req x, .dscWalkPort req v,
          .dscWalkAll req v, .dscRelease req v, .calApply req v, .forceBlank req v, .rescan req v, .lmpClkWrite req v, .strikeClear req v,
          .clearAll req v, .clearOne req v, .sagLoopEnable req v, .claimCfgWrite req v, .clpCreate req v, .clpDelete req v,
          .clpFormat req v, .capCommand req v] : List Instr)) ∨
        (∃ f : Option FwImage, c = .fwVerify req v f ∨ c = .fwStage req v f) ∨
        (∃ f : Option ForjoImage, c = .imageVerify req v f ∨ c = .imageStage req v f ∨ c = .loadNow req v f) ∨
        (∃ (o : BitVec 26) (w : AccessWidth) (vs : List Word), c = .registerWrite req o w v ∨ c = .multiwordWrite req o vs ∨
          c = .shadowWrite req o v) ∨
        (∃ n, c = .frameFence req n v) ∨ (∃ n, c = .filterEnable req n v) ∨ (∃ n, c = .idrRequest req n v) ∨ (∃ n, c = .refmodeWrite req n v) ∨
        (∃ n, c = .evtRingBindWrite req n v) ∨
        (∃ n, c = .dmaRun req n v ∨ c = .dmaStop req n v ∨ c = .dmaReset req n v ∨ c = .dmaResetSkip req n v) ∨
        (∃ q l e, c = .cmpLutWrite req q l e v) ∨ (∃ q a b t, c = .sclCoefWrite req q a b t v) ∨ (∃ q w, c = .lampRecordWrite req q w v) ∨
        (∃ b k e, c = .corEotfWrite req b k e v) ∨
        (∃ l, c = .laneRetrain req l v ∨ c = .laneDisable req l v ∨ c = .adaptFreeze req l v ∨ c = .laneTestEnable req l v ∨ c = .testExit req l v ∨
          c = .inject req l v ∨ c = .slip req l v ∨ c = .prbsClear req l v) →
    exec c s = .next s.refuseClaim ∧ s.Frame s.refuseClaim [] [R.redTileRefused] ∧
      s.refuseClaim.get R.redTileRefused F.redTileRefused_NOT_CLAIM = min 65535 (s.get R.redTileRefused F.redTileRefused_NOT_CLAIM + 1))

/-- The codec (R334 to R346, R356). -/
def Obligations.Codec : Prop :=
  (∀ (d : Fin 16) (au : AccessUnit) (i : Nat) (s : State), s.live .cdc = true → s.rst.inReset = false → decodeSource s.active d.val = some i →
    (s.takeUnit d.val i = none → exec (.accessUnit d au) s = .next s) ∧
    (∀ u : State, s.takeUnit d.val i = some u →
      (u.decState d.val = 0 ∨ (u.dec d.val).stopped = true → exec (.accessUnit d au) s = .next u) ∧
      (u.decState d.val ≠ 0 → (u.dec d.val).stopped = false → au.spsRefused = true → au.irap = true ∨ u.decState d.val = 2 →
        exec (.accessUnit d au) s = .next ((u.put (R.cdcDecStatus d.val) F.cdcDecStatus_STATE 3).raise .cdc 1 3 d.val)) ∧
      (u.decState d.val = 2 → (u.dec d.val).stopped = false → au.spsRefused = false → au.setsOk = false →
        exec (.accessUnit d au) s = .next (u.put (R.cdcDecStatus d.val) F.cdcDecStatus_STATE 1)) ∧
      (u.decState d.val = 1 ∨ u.decState d.val = 3 → (u.dec d.val).stopped = false → au.irap = false ∨ (au.spsRefused = false ∧ au.setsOk = false) →
        exec (.accessUnit d au) s = .next u) ∧
      (∀ conceal shown : Bool, (u.dec d.val).stopped = false → au.spsRefused = false → au.setsOk = true →
          u.decState d.val = 2 ∨ (u.decState d.val ≠ 0 ∧ au.irap = true) →
          conceal = ((!au.irap && (u.dec d.val).conceal) || au.refMissing || decide (0 < au.badSlices)) →
          shown = (au.outputFlag && !(au.rasl && !au.irap && (u.dec d.val).first)) →
        ∃ t, exec (.accessUnit d au) s = .next t ∧ t.decState d.val = 2 ∧ t.flag (R.cdcDecStatus d.val) F.cdcDecStatus_CONCEALING = conceal ∧
          (t.dec d.val).conceal = conceal ∧
          t.get (R.cdcDecStatus d.val) F.cdcDecStatus_ERRORS =
            min 255 (u.get (R.cdcDecStatus d.val) F.cdcDecStatus_ERRORS + au.badSlices) ∧
          t.get (R.cdcDecStatus d.val) F.cdcDecStatus_CONCEALED =
            min 255 (u.get (R.cdcDecStatus d.val) F.cdcDecStatus_CONCEALED + (conceal && shown).toNat) ∧
          (t.dec d.val).first = (if u.decState d.val ≠ 2 then true else !au.irap && (u.dec d.val).first) ∧
          (u.decState d.val ≠ 2 → t.get (R.cdcDecStatus d.val) F.cdcDecStatus_PROFILE = au.profile.toNat ∧
            t.get (R.cdcDecStatus d.val) F.cdcDecStatus_LEVEL = au.level.toNat) ∧
          (au.outputs = [] → u.Frame t (.cdc :: evtParts) [R.cdcDecStatus d.val] ∧
            (shown = true → (au.unit, conceal) ∈ (t.dec d.val).marks))))) ∧
  (∀ (d : Fin 16) (au : AccessUnit) (s : State), s.live .cdc = false ∨ s.rst.inReset = true ∨ decodeSource s.active d.val = none →
    exec (.accessUnit d au) s = .next s) ∧
  (∀ row : List Nat, ∀ i, i < row.length / 2 → (decimateRow row)[i]? =
    some ((row.getD (2 * i - 1) 0 + 2 * row.getD (2 * i) 0 + row.getD (min (2 * i + 1) (row.length - 1)) 0 + 2) / 4)) ∧
  (∀ (rows : List (List Nat)) (j i a b : Nat), (rows.getD (2 * j) [])[i]? = some a → (rows.getD (2 * j + 1) [])[i]? = some b →
    ((decimateRows rows).getD j [])[i]? = some ((a + b + 1) / 2)) ∧
  (∀ v, v < 256 → toTen 8 v = 4 * v) ∧ (∀ v, v < 1024 → toTen 10 v = v) ∧ (∀ v, toTen 12 v = min 1023 ((v + 2) / 4)) ∧
  (∀ (e : Fin 8) (s : State), (e.val ∉ s.cdc.due → exec (.encodeStart e) s = .next s) ∧
    (e.val ∈ s.cdc.due → s.live .cdc = false ∨ s.rst.inReset = true ∨ (s.encNow e.val).en = false →
      exec (.encodeStart e) s = .next { s with cdc := { s.cdc with due := s.cdc.due.erase e.val } })) ∧
  (∀ (e : Fin 8) (c : EncCfg) (x y : EncSt) (v s : State), e.val ∈ s.cdc.due → v = { s with cdc := { s.cdc with due := s.cdc.due.erase e.val } } →
      s.live .cdc = true → s.rst.inReset = false → c = s.encNow e.val → x = s.enc e.val →
      y = { x with stopped := false, idrReq := x.idrReq || x.stopped } → c.en = true →
    (shedStops s.shed c.mode = true → x.stopped = false →
      exec (.encodeStart e) s = .next ((v.setEnc { x with stopped := true }).raise .cdc 7 1 (16 + e.val))) ∧
    (shedStops s.shed c.mode = true → x.stopped = true → exec (.encodeStart e) s = .next v) ∧
    (shedStops s.shed c.mode = false → s.encInput e.val = none → ∃ t, exec (.encodeStart e) s = .next t ∧ s.Frame t [.cdc] [] ∧
      t.enc e.val = y ∧ t.cdc.due = v.cdc.due) ∧
    (∀ inp, shedStops s.shed c.mode = false → s.encInput e.val = some inp →
      (x.run.isSome = true ∨ x.skipNext = true → ∃ t, exec (.encodeStart e) s = .next t ∧ s.Frame t [.cdc] [] ∧
        t.enc e.val = { y with skipped := true, skipNext := false }) ∧
      (x.run = none → x.skipNext = false → s.encSpace c y (encBudget c x.bits) = false → ∃ t, exec (.encodeStart e) s = .next t ∧
        s.Frame t (.cdc :: evtParts) [R.cdcEncStatus e.val] ∧ t.enc e.val = y ∧
        t.get (R.cdcEncStatus e.val) F.cdcEncStatus_FULL = min 255 (s.get (R.cdcEncStatus e.val) F.cdcEncStatus_FULL + 1)) ∧
      (x.run = none → x.skipNext = false → s.encSpace c y (encBudget c x.bits) = true → ∃ t r, exec (.encodeStart e) s = .next t ∧
        s.Frame t [.cdc, .freeCount] [R.cdcEncStatus e.val, R.ingSrcStatus c.src] ∧ (t.enc e.val).run = some r ∧
        r.start = s.clock.now ∧ r.frame = inp.frame ∧ r.budget = encBudget c x.bits ∧ r.skippedBefore = x.skipped ∧
        r.incomplete = inp.incomplete ∧ r.gen = s.genFor inp.frame ∧ r.late = false ∧ (t.enc e.val).idrReq = false ∧
        (r.idr = true ↔ y.idrReq = true ∨ x.sinceIdr = none ∨ (c.idrPeriod ≠ 0 ∧ x.sinceIdr = some (c.idrPeriod - 1))) ∧
        (r.search = true ↔ r.idr = false ∧ (s.setEnc y).searching < 4) ∧ r.reach = s.motionReach ∧ t.cdc.due = v.cdc.due ∧
        (t.enc e.val).sinceIdr = some (if r.idr then 0 else x.sinceIdr.getD 0 + 1)))) ∧
  (∀ (c : EncCfg) (bits : List Nat), bits.length < c.window → encBudget c bits = (c.maxBits : Int) - (bits.sum : Nat)) ∧
  (∀ (req : Requester) (e : Fin 8) (v : Word) (s : State), s.mayWrite req = true → s.live .cdc = true →
    (fieldGet v.toNat F.cdcEncCmd_IDR = 1 → ∃ t, exec (.idrRequest req e v) s = .next t ∧ s.Frame t [.cdc] [] ∧
      t.enc e.val = { s.enc e.val with idrReq := true } ∧ ∀ o, o ≠ e.val → t.enc o = s.enc o) ∧
    (fieldGet v.toNat F.cdcEncCmd_IDR = 0 → exec (.idrRequest req e v) s = .next s)) ∧
  (∀ (req : Requester) (e : Fin 8) (v : Word) (s : State), s.mayWrite req = true → s.live .cdc = false → exec (.idrRequest req e v) s = .next s) ∧
  (∀ (e : Fin 8) (r : EncRun) (s : State), s.live .cdc = true → (s.enc e.val).run = some r →
    (r.late = false → ∃ t, exec (.encodeDeadline e) s = .next t ∧ s.Frame t (.cdc :: evtParts) [R.cdcEncStatus e.val] ∧
      t.enc e.val = { s.enc e.val with run := some { r with late := true }, skipNext := true } ∧
      t.get (R.cdcEncStatus e.val) F.cdcEncStatus_LATE = min 255 (s.get (R.cdcEncStatus e.val) F.cdcEncStatus_LATE + 1)) ∧
    (r.late = true → exec (.encodeDeadline e) s = .next s)) ∧
  (∀ (bits : List Nat) (n : Nat) (b : Int), rowsExhausted bits n b = true ↔
    ∃ r, 0 < r ∧ r < bits.length ∧ b < (((bits.take r).sum + 32 * n * (bits.length - r) : Nat) : Int)) ∧
  (∀ (e : Fin 8) (pic : CodedPic) (r : EncRun) (c : EncCfg) (at_ : Nat) (au : List Nat) (full : Bool) (s : State),
      s.live .cdc = true → s.rst.inReset = false → (s.enc e.val).run = some r → c = s.encNow e.val → at_ = (s.enc e.val).wpos % 2 ^ c.log2 →
      au = pic.head.map (·.toNat) ++ (if c.mode = 0 then s.seiUnit r (nextChain (s.enc e.val)) else []) ++ pic.body.map (·.toNat) →
      full = rowsExhausted pic.rowBits (ceilDiv r.input.width 64) r.budget →
    ∃ t u, exec (.encodeDone e pic) s = .next t ∧
      s.Frame u (.cdc :: .mem :: evtParts) [R.cdcEncStatus e.val, R.cdcEncOvershoot e.val, R.hbmStatus] ∧
      (∀ i, i < au.length → au.length ≤ 2 ^ c.log2 → c.base + 2 ^ c.log2 ≤ s.memSize → u.rd (c.base + (at_ + i) % 2 ^ c.log2) = au.getD i 0 % 256) ∧
      (∀ a, a < c.base ∨ c.base + 2 ^ c.log2 ≤ a → au.length ≤ 2 ^ c.log2 → u.rd a = s.rd a) ∧
      (u.enc e.val).run = none ∧ (6 ≤ c.log2 → (u.enc e.val).wpos % 64 = 0) ∧
      (u.enc e.val).exhausted = full ∧
      u.get (R.cdcEncStatus e.val) F.cdcEncStatus_EXHAUSTED =
        min 255 (s.get (R.cdcEncStatus e.val) F.cdcEncStatus_EXHAUSTED + full.toNat) ∧
      (full = true → r.budget < 8 * au.length → u.reg (R.cdcEncOvershoot e.val) = ((8 * au.length : Nat) - r.budget).toNat % 2 ^ 32) ∧
      (u.produce c.queue (auEntry (c.base + at_) au.length r e.val full (pic.inputLate && c.mode != 2) (decide (c.mode = 0) && r.idr)
        (qpTop c full pic.qpTop.toNat))).Frame t []
        (if c.mode = 2 then [R.ingSrcStatus c.src] else [])) ∧
  (∀ (e : Fin 8) (pic : CodedPic) (s : State), (s.enc e.val).run = none →
    exec (.encodeDone e pic) s = .next s ∧ exec (.encodeDeadline e) s = .next s)

/-- The clip store (R348 to R354). That the first labelled drive names the store is the model's choice (log entry 81). -/
def Obligations.ClipStore : Prop :=
  (∀ (left : Nat) (bs : List Nat), (managed left bs).length = bs.length ∧ (managed left bs).sum = min left bs.sum ∧
    ∀ i, i < bs.length → (managed left bs).getD i 0 = min (bs.getD i 0) (left - (bs.take i).sum)) ∧
  (∀ (p : Fin 4) (d : DriveInfo) (s : State), s.live .clp = true → s.drvState p.val = 1 → (∀ r, r ∈ s.clp.rings → r.ring < 256) →
    ∃ t, exec (.nvmeDriveInit p d) s = .next t ∧
      s.Frame t (.clp :: evtParts) (R.clpPortStatus p.val :: (List.range 4).map R.clpPortBlocks ++
        (List.range 256).flatMap fun r => [R.clpRingCfg r, R.clpRingBase r, R.clpRingLen r, R.clpRingWpos r]) ∧
      (t.drive p.val).blocks = d.blocks ∧ (t.drive p.val).failed = 0 ∧ (t.drive p.val).resetting = false ∧
      (t.drive p.val).cmds.map (·.2) = .createQueues :: List.replicate 4 .asyncEvent ∧
      (t.flag (R.clpPortStatus p.val) F.clpPortStatus_LBA4K = d.lba4k) ∧
      (∀ q, q < 4 → t.reg (R.clpPortBlocks q) = (managed (2 ^ 33) t.driveBlocks).getD q 0) ∧
      (d.label = none → t.drvState p.val = 3 ∧ t.clp.rings = s.clp.rings ∧ t.clp.store = s.clp.store) ∧
      (∀ l, d.label = some l →
        (s.clp.store ≠ none → s.clp.store ≠ some l.store.toNat → t.drvState p.val = 3 ∧ t.clp.rings = s.clp.rings ∧
          t.clp.store = s.clp.store) ∧
        (s.clp.store = none ∨ s.clp.store = some l.store.toNat → t.drvState p.val = 2 ∧ t.clp.store = some l.store.toNat ∧
          ∀ r, r ∈ l.rings → (∀ x, x ∈ l.rings → x.ring = r.ring → x = r) →
            t.ring r.ring.val = some (ringOfLabel p.val r) ∧ t.get (R.clpRingCfg r.ring.val) F.clpRingCfg_STATE = 1 ∧
            t.get (R.clpRingCfg r.ring.val) F.clpRingCfg_PORT = p.val ∧ t.reg (R.clpRingBase r.ring.val) = r.base ∧
            t.reg (R.clpRingLen r.ring.val) = r.len ∧ t.reg (R.clpRingWpos r.ring.val) = r.wpos))) ∧
  (∀ (p : Fin 4) (d : DriveInfo) (s : State), s.live .clp = false ∨ s.drvState p.val ≠ 1 → exec (.nvmeDriveInit p d) s = .next s) ∧
  (∀ (p : Fin 4) (n : Nat) (ok warning : Bool) (c : DriveCmd) (s : State), s.live .clp = true → sLookup (s.drive p.val).cmds n = some c →
    ∃ t, exec (.nvmeCompletion p n ok warning) s = .next t ∧ s.Frame t (.clp :: evtParts) [] ∧
      (n < (s.drive p.val).nextCmd → sLookup (t.drive p.val).cmds n = none) ∧
      (c = .asyncEvent → ((s.drive p.val).nextCmd, DriveCmd.asyncEvent) ∈ (t.drive p.val).cmds) ∧
      (ok = false → c ≠ .errorLog → ∃ k, (s.drive p.val).nextCmd ≤ k ∧ (k, DriveCmd.errorLog) ∈ (t.drive p.val).cmds) ∧
      (warning = true → c = .smart ∨ c = .asyncEvent → ∃ u, t = State.raise u .clp 2 2 p.val) ∧
      (warning = false → s.Frame t [.clp] [])) ∧
  (∀ (p : Fin 4) (n : Nat) (ok warning : Bool) (s : State), s.live .clp = false ∨ sLookup (s.drive p.val).cmds n = none →
    exec (.nvmeCompletion p n ok warning) s = .next s) ∧
  (∀ (p : Fin 4) (s : State),
    (s.live .clp = true → (s.drive p.val).resetting = false → (∃ x, x ∈ (s.drive p.val).cmds ∧ x.2 ≠ .asyncEvent) →
      exec (.driveTimeout p) s = .next ((s.setDrive { s.drive p.val with cmds := [], resetting := true }).raise .clp 1 3 p.val)) ∧
    (s.live .clp = false ∨ (s.drive p.val).resetting = true ∨ (∀ x, x ∈ (s.drive p.val).cmds → x.2 = .asyncEvent) →
      exec (.driveTimeout p) s = .next s) ∧
    (s.live .clp = true → (s.drive p.val).resetting = true →
      (∃ t, exec (.controllerResetDone p true) s = .next t ∧ s.Frame t [.clp] [] ∧ (t.drive p.val).resetting = false ∧
        (t.drive p.val).failed = 0) ∧
      ((s.drive p.val).failed < 2 → exec (.controllerResetDone p false) s =
        .next (s.setDrive { s.drive p.val with failed := (s.drive p.val).failed + 1 })) ∧
      (2 ≤ (s.drive p.val).failed → ∃ t, exec (.controllerResetDone p false) s = .next t ∧
        s.Frame t [.clp] (R.clpPortStatus p.val :: (s.ringsOf p.val).map fun r => R.clpRingCfg r.ring) ∧ t.drvState p.val = 4 ∧
        (t.drive p.val).cmds = [] ∧
        ∀ r, r ∈ s.ringsOf p.val → r.ring < 256 → t.get (R.clpRingCfg r.ring) F.clpRingCfg_STATE = 2)) ∧
    (s.live .clp = false ∨ (s.drive p.val).resetting = false → ∀ ok, exec (.controllerResetDone p ok) s = .next s) ∧
    (s.driveReady p.val = true → exec (.nvmeFlush p) s = .next (s.setDrive ((s.drive p.val).issue .flush)) ∧
      exec (.smartPoll p) s = .next (s.setDrive ((s.drive p.val).issue .smart)) ∧
      ∃ t, exec (.labelSave p) s = .next t ∧ s.Frame t [.clp] [] ∧ t.drive p.val = (s.drive p.val).issue .labelWrite ∧
        t.clp.rings = s.clp.rings.map fun r => if r.drive = p.val then { r with savedPos := r.wpos, savedWrap := r.wrap } else r) ∧
    (s.driveReady p.val = false → exec (.nvmeFlush p) s = .next s ∧ exec (.smartPoll p) s = .next s ∧ exec (.labelSave p) s = .next s)) ∧
  (∀ (req : Requester) (v : Word) (c : Instr) (n p q base len : Nat) (s : State), s.mayWrite req = true →
      c = .clpCreate req v ∨ c = .clpDelete req v ∨ c = .clpFormat req v →
      n = fieldGet v.toNat F.clpCmd_RING → p = s.get (R.clpRingCfg n) F.clpRingCfg_PORT → q = fieldGet v.toNat F.clpCmd_PORT →
      base = s.get (R.clpRingBase n) F.clpRingBase_BLOCK → len = s.get (R.clpRingLen n) F.clpRingLen_BLOCKS →
    (s.live .clp = false ∨ fieldGet v.toNat F.clpCmd_OP = 0 → exec c s = .next s) ∧
    (s.live .clp = true → fieldGet v.toNat F.clpCmd_OP = 1 →
      (s.driveReady p = true → s.ring n = none → 256 ≤ base → 0 < len → base + len ≤ s.reg (R.clpPortBlocks p) →
          (∀ r, r ∈ s.ringsOf p → base + len ≤ r.base ∨ r.base + r.len ≤ base) →
        ∃ t, exec c s = .next t ∧ s.Frame t [.clp] [R.clpCmd, R.clpRingCfg n, R.clpRingBase n, R.clpRingLen n, R.clpRingWpos n] ∧
          t.get R.clpCmd F.clpCmd_RESULT = 1 ∧ t.ring n = some ⟨n, p, base, len, 0, 0, 0, 0, 0⟩ ∧
          t.get (R.clpRingCfg n) F.clpRingCfg_STATE = 1 ∧ t.reg (R.clpRingWpos n) = 0 ∧
          ((s.drive p).nextCmd + 1, DriveCmd.deallocate n) ∈ (t.drive p).cmds) ∧
      (s.driveReady p = false ∨ s.ring n ≠ none ∨ base < 256 ∨ len = 0 ∨ s.reg (R.clpPortBlocks p) < base + len ∨
          (∃ r, r ∈ s.ringsOf p ∧ base < r.base + r.len ∧ r.base < base + len) →
        exec c s = .next (s.put R.clpCmd F.clpCmd_RESULT 2))) ∧
    (s.live .clp = true → fieldGet v.toNat F.clpCmd_OP = 2 →
      (s.driveReady p = true → s.ringInUse n = false → ∃ t, exec c s = .next t ∧
        s.Frame t [.clp] [R.clpCmd, R.clpRingCfg n, R.clpRingWpos n] ∧ t.get R.clpCmd F.clpCmd_RESULT = 1 ∧ t.ring n = none ∧
        (s.ring n ≠ none → t.get (R.clpRingCfg n) F.clpRingCfg_STATE = 0)) ∧
      (s.driveReady p = false ∨ s.ringInUse n = true → exec c s = .next (s.put R.clpCmd F.clpCmd_RESULT 2))) ∧
    (s.live .clp = true → fieldGet v.toNat F.clpCmd_OP = 3 →
      (s.drvState q = 2 ∨ s.drvState q = 3 → (s.drive q).resetting = false → (∀ r, r ∈ s.ringsOf q → s.ringInUse r.ring = false) →
        ∃ t, exec c s = .next t ∧ t.get R.clpCmd F.clpCmd_RESULT = 1 ∧ t.ringsOf q = [] ∧ t.clp.store.isSome = true ∧
          (s.clp.store.isSome = true → t.clp.store = s.clp.store) ∧ s.agree t .mem ∧ s.agree t .cdc ∧ s.agree t .queues ∧
          ((∀ r, r ∈ s.ringsOf q → r.ring < 256) → t.drvState q = 2 ∧
            ∀ r, r ∈ s.ringsOf q → t.get (R.clpRingCfg r.ring) F.clpRingCfg_STATE = 0)) ∧
      (s.drvState q ≠ 2 ∧ s.drvState q ≠ 3 ∨ (s.drive q).resetting = true ∨ (∃ r, r ∈ s.ringsOf q ∧ s.ringInUse r.ring = true) →
        exec c s = .next (s.put R.clpCmd F.clpCmd_RESULT 2)))) ∧
  (∀ (e : Fin 8) (ok : Bool) (c : EncCfg) (x : QueueCtx) (entry bytes : List Nat) (n : Nat) (s : State), s.live .clp = true → s.live .qm = true →
      c = s.encNow e.val → x = s.queue c.queue → c.ringEn = true → x.enabled = true → x.isEmpty = false → entry = s.headEntry c.queue →
      bytes = s.auBytes c (leVal (entry.take 8)) (leVal ((entry.drop 8).take 4)) → n = ceilDiv (64 + bytes.length) 4096 →
    (∀ r, s.ring c.ring = some r → s.get (R.clpRingCfg c.ring) F.clpRingCfg_STATE = 1 → ok = true → n ≤ r.len →
      ∃ (t : State) (at_ : Nat), exec (.recordAppend e ok) s = .next t ∧ s.Frame t [.clp, .queues, .qmCache] [R.clpRingWpos c.ring] ∧
        at_ = (if r.wpos + n ≤ r.len then r.wpos else 0) ∧ t.queue c.queue = { x with c := (x.c + 1) % x.size } ∧
        (⟨c.ring, at_, r.seq, entry, bytes⟩ : ClipRecord) ∈ t.clp.written ∧ t.reg (R.clpRingWpos c.ring) = at_ + n ∧
        t.ring c.ring = some { r with wpos := at_ + n, wrap := r.wrap + (if r.wpos + n ≤ r.len then 0 else 1), seq := r.seq + 1 }) ∧
    (s.ring c.ring = none ∨ s.get (R.clpRingCfg c.ring) F.clpRingCfg_STATE ≠ 1 ∨ ok = false ∨
        (∃ r, s.ring c.ring = some r ∧ r.len < n) →
      ∃ t, exec (.recordAppend e ok) s = .next t ∧ s.Frame t (.queues :: .qmCache :: evtParts) [R.clpRingCfg c.ring] ∧
        t.queue c.queue = { x with c := (x.c + 1) % x.size } ∧
        t.get (R.clpRingCfg c.ring) F.clpRingCfg_LOST = min 65535 (s.get (R.clpRingCfg c.ring) F.clpRingCfg_LOST + 1))) ∧
  (∀ (e : Fin 8) (ok : Bool) (s : State), s.live .clp = false ∨ s.live .qm = false ∨ (s.encNow e.val).ringEn = false ∨
      (s.queue (s.encNow e.val).queue).enabled = false ∨ (s.queue (s.encNow e.val).queue).isEmpty = true →
    exec (.recordAppend e ok) s = .next s) ∧
  (∀ (q : BitVec 18) (rs : List (Option (List Byte))) (entry : List Nat) (x : QueueCtx) (s : State), s.live .clp = true → s.live .qm = true →
      s.queueClass q.toNat = some 4 → x = s.queue q.toNat → x.enabled = true → x.isEmpty = false → entry = s.headEntry q.toNat →
    ∃ t, exec (.playEntry q rs) s = .next t ∧ s.Frame t (.clp :: .queues :: .qmCache :: evtParts) [] ∧
      t.queue q.toNat = { x with c := (x.c + 1) % x.size } ∧ t.clp.rings = s.clp.rings ∧
      (entry.getD 0 0 = 1 → s.get (R.clpRingCfg (entry.getD 1 0)) F.clpRingCfg_STATE = 1 → ∀ d, d = entry.getD 2 0 → d < 16 →
        t.playOf d = s.playOf d ++ (playRead s.clp.written (entry.getD 1 0) (s.clp.written.length + rs.length + 1) (leVal ((entry.drop 4).take 4))
          (leVal ((entry.drop 8).take 8)) rs).filterMap id) ∧
      (entry.getD 0 0 ≠ 1 ∨ s.get (R.clpRingCfg (entry.getD 1 0)) F.clpRingCfg_STATE ≠ 1 → t.clp = s.clp)) ∧
  (∀ (q : BitVec 18) (rs : List (Option (List Byte))) (s : State), s.live .clp = false ∨ s.live .qm = false ∨
      s.queueClass q.toNat ≠ some 4 ∨ (s.queue q.toNat).enabled = false ∨ (s.queue q.toNat).isEmpty = true →
    exec (.playEntry q rs) s = .next s) ∧
  (∀ (d : Fin 16) (s : State),
    (∀ a r, s.live .clp = true → s.live .cdc = true → s.rst.inReset = false → s.playOf d.val = a :: r →
        s.actGet (R.cdcDecCtrl d.val) F.cdcDecCtrl_INPUT = 1 → (decodeSource s.active d.val).isSome = true →
      ∃ t, exec (.playDeliver d) s = .next t ∧ s.Frame t [.clp, .cdc] [] ∧ t.playOf d.val = r ∧
        t.dec d.val = { s.dec d.val with waiting := (s.dec d.val).waiting ++ [a] }) ∧
    (s.live .clp = false ∨ s.live .cdc = false ∨ s.rst.inReset = true ∨ s.playOf d.val = [] ∨
        s.actGet (R.cdcDecCtrl d.val) F.cdcDecCtrl_INPUT ≠ 1 ∨ decodeSource s.active d.val = none →
      exec (.playDeliver d) s = .next s)) ∧
  (∀ (req : Requester) (p : Fin 4) (v : Word) (u : State) (s : State), s.mayWrite req = true → u = s.put (R.clpPortCfg p.val) F.clpPortCfg_REFMODE (v.toNat % 2) →
    (s.live .clp = true → u.nvmeLane p.val = none → exec (.refmodeWrite req p v) s = .next u) ∧
    (∀ l, s.live .clp = true → u.nvmeLane p.val = some l →
      ((∃ x, x ∈ u.portLanes (u.portFirst l) ∧ (u.laneState x = 0 ∨ u.laneState x = 1 ∨ u.laneState x = 8)) →
        exec (.refmodeWrite req p v) s = .next u) ∧
      ((∀ x, x ∈ u.portLanes (u.portFirst l) → x < 96 ∧ u.laneState x ≠ 0 ∧ u.laneState x ≠ 1 ∧ u.laneState x ≠ 8) →
          (∀ r, r ∈ s.clp.rings → r.ring < 256) →
        ∃ t, exec (.refmodeWrite req p v) s = .next t ∧ t.get (R.clpPortCfg p.val) F.clpPortCfg_REFMODE = v.toNat % 2 ∧
          ∀ x, x ∈ u.portLanes (u.portFirst l) → t.laneState x = 2)) ∧
    (s.live .clp = false → exec (.refmodeWrite req p v) s = .next s))

/-- Thermal sensors and states (R224, R357 to R360, R362 to R367). -/
def Obligations.Thermal : Prop :=
  (∀ (rs : List Nat) (u : State) (s : State), u = s.takeReadings rs →
    (exec (.sensorSample rs) s = .next (if u.rst.inReset = true ∧ u.rst.reach ≠ 1 then u else u.judgeTherm).shutdown) ∧
    s.Frame u (.thm :: evtParts) ((List.range 64).map R.thmSensor) ∧
    ∀ i, i < 64 →
      (∀ r, rs[i]? = some r → u.sensRaw i = s.tempOf i r) ∧ (rs.length ≤ i → u.sensRaw i = s.sensRaw i) ∧
      (u.sensRaw i < -960 ∨ 2560 < u.sensRaw i → u.sensState i = 2) ∧
      (u.sensState i = 0 → u.sensCounted i = u.sensRaw i) ∧
      (u.sensState i = 2 ∨ (u.sensState i = 1 ∧ u.validNear i = []) → u.sensCounted i = u.throttleLevel + 16) ∧
      (u.sensState i = 1 → ∀ j, j ∈ u.validNear i → u.sensRaw j + 64 ≤ u.sensCounted i) ∧
      (u.sensState i = 1 → u.validNear i ≠ [] → ∃ j, j ∈ u.validNear i ∧ u.sensCounted i = u.sensRaw j + 64) ∧
      (∀ m, -960 ≤ u.sensRaw i → u.sensRaw i ≤ 2560 → 2 ≤ (s.validNear i).length → m = lowerMedian ((s.validNear i).map u.sensRaw) →
        (s.sensState i = 0 → ((u.sensRaw i - m).natAbs ≤ 96 ∨ (s.sens i).far < 9 → u.sensState i = 0) ∧
          (96 < (u.sensRaw i - m).natAbs → 9 ≤ (s.sens i).far → u.sensState i = 1)) ∧
        (s.sensState i = 1 → (48 < (u.sensRaw i - m).natAbs ∨ (s.sens i).near < 999 → u.sensState i = 1) ∧
          ((u.sensRaw i - m).natAbs ≤ 48 → 999 ≤ (s.sens i).near → u.sensState i = 0))) ∧
      (-960 ≤ u.sensRaw i → u.sensRaw i ≤ 2560 → (s.validNear i).length < 2 → s.sensState i ≠ 2 → u.sensState i = s.sensState i) ∧
      (-960 ≤ u.sensRaw i → u.sensRaw i ≤ 2560 → s.sensState i = 2 →
        u.sensState i = if (s.sens i).inRange < 9999 then 2 else 0)) ∧
  (∀ (i a b : Nat) (s : State), s.trimOf i = (a, b) → a < b → s.tempOf i a = 400 ∧ s.tempOf i b = 1680) ∧
  (∀ s t : State, t = s.judgeTherm →
    (∀ i, i < 64 → s.sensCounted i ≤ t.hottest) ∧ t.get R.thmStatus F.thmStatus_HOTTEST_TS < 64 ∧
    t.hottest = s.sensCounted (t.get R.thmStatus F.thmStatus_HOTTEST_TS) ∧
    (t.flag R.thmStatus F.thmStatus_RISE = (List.range 64).any s.rises) ∧
    (s.thermState = 2 → t.thermState = 2 ∧ s.Frame t [.thm] [R.thmStatus]) ∧
    (s.thermState ≠ 2 → (s.throttleLevel ≤ t.hottest ∨ t.flag R.thmStatus F.thmStatus_RISE = true) →
      t.thermState = 2 ∧ t.get R.topStatus F.topStatus_THROTTLE = 1 ∧
      (s.isTile = true → t.get R.thmCap F.thmCap_REQ = 1)) ∧
    (s.thermState = 0 → t.hottest < s.throttleLevel → t.flag R.thmStatus F.thmStatus_RISE = false →
      t.thermState = if 16 * (s.get R.thmLimits F.thmLimits_WARN : Int) ≤ t.hottest then 1 else 0) ∧
    (s.thermState = 1 → t.hottest < s.throttleLevel → t.flag R.thmStatus F.thmStatus_RISE = false →
      t.thermState = if t.hottest < 16 * (s.get R.thmLimits F.thmLimits_WARN : Int) - 48 then 0 else 1) ∧
    (t.flag R.thmStatus F.thmStatus_HOLD = true ↔ (t.thermState = 2 ∧
      ∀ i, i < 64 → s.sensCounted i = t.hottest → s.sensState i ≠ 0))) ∧
  (∀ s : State,
    ((∃ x, x ∈ s.thm.sens ∧ 3 ≤ x.hot) → 4 ∉ s.rst.asserted → s.shutdown.get R.thmStatus F.thmStatus_SHUTDOWN_SEEN = 1 ∧
      4 ∈ s.shutdown.rst.asserted ∧ s.shutdown.rst.inReset = true ∧ 2 ≤ s.shutdown.rst.reach) ∧
    ((∀ x, x ∈ s.thm.sens → x.hot < 3) ∨ 4 ∈ s.rst.asserted → s.shutdown = s)) ∧
  (∀ s : State,
    (4 ∈ s.rst.asserted → (∀ i, i < 64 → s.sensState i = 0 → s.sensRaw i < 1760) →
      exec .shutdownRelease s = .next (s.releaseSource 4) ∧ 4 ∉ (s.releaseSource 4).rst.asserted ∧ s.Frame (s.releaseSource 4) [.rst] []) ∧
    (4 ∉ s.rst.asserted ∨ (∃ i, i < 64 ∧ s.sensState i = 0 ∧ 1760 ≤ s.sensRaw i) → exec .shutdownRelease s = .next s)) ∧
  (∀ s : State,
    (s.thermState = 2 → s.hottest ≤ s.throttleLevel - 80 → s.flag R.thmStatus F.thmStatus_RISE = false → s.thm.relFrom.isSome = true →
      ∃ t, exec .throttleRelease s = .next t ∧ s.Frame t (.thm :: evtParts) [R.thmStatus, R.topStatus] ∧ t.thermState = 1 ∧
        t.get R.thmStatus F.thmStatus_HOLD = 0 ∧ t.get R.topStatus F.topStatus_THROTTLE = 0 ∧ t.thm.relFrom = none) ∧
    (s.thermState ≠ 2 ∨ s.throttleLevel - 80 < s.hottest ∨ s.flag R.thmStatus F.thmStatus_RISE = true ∨ s.thm.relFrom = none →
      exec .throttleRelease s = .next s)) ∧
  (∀ s : State,
    (s.isFeed = true → s.thermState = 2 → s.throttleCond = true → s.flag R.thmStatus F.thmStatus_HOLD = false → s.shed < 4 →
      ∃ t, exec .shedStep s = .next t ∧ t.shed = s.shed + 1 ∧ t.get R.cdcStatus F.cdcStatus_SHED = s.shed + 1 ∧
        s.Frame t (.cdc :: evtParts) (R.thmStatus :: R.cdcStatus :: (List.range 16).map R.cdcDecStatus) ∧
        (s.shed < 3 → s.Frame t (.cdc :: evtParts) [R.thmStatus, R.cdcStatus]) ∧
        (s.shed = 3 → ∀ d, d < 16 → s.decState d ≠ 0 → (t.dec d).stopped = true ∧ t.decState d ≠ 2) ∧
        (s.shed = 3 → ∀ e, e < 8 → (s.encNow e).en = true → (s.encNow e).mode = 1 → (t.enc e).stopped = true)) ∧
    (s.isFeed = false ∨ s.thermState ≠ 2 ∨ s.throttleCond = false ∨ s.flag R.thmStatus F.thmStatus_HOLD = true ∨ 4 ≤ s.shed →
      exec .shedStep s = .next s) ∧
    (s.isFeed = true → s.thermState ≠ 2 → 0 < s.shed → s.shed ≤ 4 → ∃ t, exec .shedWithdraw s = .next t ∧ t.shed = s.shed - 1 ∧
      t.get R.cdcStatus F.cdcStatus_SHED = s.shed - 1 ∧ (s.shed = 4 → ∀ d, d < 16 → (t.dec d).stopped = false)) ∧
    (s.isFeed = false ∨ s.thermState = 2 ∨ s.shed = 0 → exec .shedWithdraw s = .next s)) ∧
  (∀ s : State, s.isTile = true →
    (s.thermState = 2 → s.lampReq = false → ∀ cap, cap = (if s.mayShed then s.capEff s.frameInt * 15 / 16 else s.thm.dieCap) →
      ∃ t k, exec .dieHeatReq s = .next t ∧ s.Frame t ([.thm, .evt, .cor] ++ sendParts) (R.thmCap :: creditRegs) ∧
        t.get R.thmCap F.thmCap_REQ = 1 ∧ t.get R.thmCap F.thmCap_CAP_WANTED = cap % 8192 ∧ t.thm.dieCap = cap ∧
        s.Sends t (if s.tileAddr = 0xFFF then [] else s.chainPorts.map fun l => (l, k)) ∧ pktIs k 6 5 = true ∧ payField k 0 2 = cap % 65536 ∧
        payField k 4 2 = s.get R.thmStatus F.thmStatus_HOTTEST) ∧
    (s.thermState ≠ 2 → s.dieReq = true → s.lampReq = false →
      ∃ t k, exec .dieHeatReq s = .next t ∧ s.Frame t ([.thm, .evt, .cor] ++ sendParts) (R.thmCap :: creditRegs) ∧
        t.get R.thmCap F.thmCap_REQ = 0 ∧ t.get R.thmCap F.thmCap_ANSWERED = 0 ∧ t.get R.thmCap F.thmCap_LOCAL = 0 ∧
        t.cor.locCap.cap = 4096 ∧ s.Sends t (if s.tileAddr = 0xFFF then [] else s.chainPorts.map fun l => (l, k)) ∧ pktIs k 6 5 = true ∧ payField k 0 2 = 4096) ∧
    (s.thermState ≠ 2 → s.dieReq = false → exec .dieHeatReq s = .next s)) ∧
  (∀ s : State, s.isTile = false → exec .dieHeatReq s = .next s)

/-- Caps, droop and the voltage loop (R260, R261, R369 to R374). -/
def Obligations.CapsAndVoltage : Prop :=
  (∀ (a : BitVec 12) (s : State), s.isFeed = true → ∃ t, exec (.heatReqAge a) s = .next t ∧
    s.Frame t [.thm, .pen] (R.thmHeatCount :: (List.range 16).map R.thmZoneStatus) ∧
    t.thm = { s.thm with heats := s.thm.heats.map fun h => if h.addr = a.toNat then { h with live := false } else h } ∧
    ∀ z, z ∈ s.zones → t.get (R.thmZoneStatus z) F.thmZoneStatus_TARGET = t.zoneTarget z ∧
      t.get (R.thmZoneStatus z) F.thmZoneStatus_SENT =
        (if s.flag R.thmHeatCfg F.thmHeatCfg_AUTO ∧ t.zoneTarget z < s.get (R.thmZoneStatus z) F.thmZoneStatus_SENT then t.zoneTarget z
          else s.get (R.thmZoneStatus z) F.thmZoneStatus_SENT)) ∧
  (∀ (s : State) (z : Nat), s.zoneTarget z ≤ 4096 ∧ ∀ h, h ∈ s.thm.heats → h.live = true → s.isAdmitted h.addr = true → s.zoneOf h.addr = z →
    s.zoneTarget z ≤ h.cap) ∧
  (∀ (a : BitVec 12) (s : State), s.isFeed = false → exec (.heatReqAge a) s = .next s) ∧
  (∀ (z : Fin 16) (s : State),
    (s.isFeed = true → s.rst.inReset = false → s.flag R.thmHeatCfg F.thmHeatCfg_AUTO = true → z.val ∈ s.zones →
        s.get (R.thmZoneStatus z.val) F.thmZoneStatus_SENT < s.zoneTarget z.val →
      ∃ t, exec (.capRaise z) s = .next t ∧ s.Frame t [.pen] [R.thmHeatCount, R.thmZoneStatus z.val] ∧
        t.get (R.thmZoneStatus z.val) F.thmZoneStatus_SENT = s.zoneTarget z.val ∧
        t.get (R.thmZoneStatus z.val) F.thmZoneStatus_TARGET = s.zoneTarget z.val ∧
        t.get R.thmHeatCount F.thmHeatCount_PENNANTS = min 65535 (s.get R.thmHeatCount F.thmHeatCount_PENNANTS + 1) ∧
        ∀ d, d ∈ (if s.oneZone then [0xFFF] else s.zoneTiles z.val) → ∃ p, p ∈ t.pen.out ∧ p.type = 0x12 ∧ p.dst = d ∧ p.copies = 0 ∧
          p.body = leBytes 2 (s.zoneTarget z.val) ++ leBytes 2 (max 1 (s.get R.thmHeatCfg F.thmHeatCfg_FADE)) ++
            leBytes 6 ((s.nextSampled + 1) % 2 ^ 48) ++ List.replicate 6 0) ∧
    (s.isFeed = false ∨ s.rst.inReset = true ∨ s.flag R.thmHeatCfg F.thmHeatCfg_AUTO = false ∨ z.val ∉ s.zones ∨
        s.zoneTarget z.val ≤ s.get (R.thmZoneStatus z.val) F.thmZoneStatus_SENT → exec (.capRaise z) s = .next s)) ∧
  (∀ (req : Requester) (v : Word) (cap z : Nat) (s : State), s.mayWrite req = true → cap = min 4096 (fieldGet v.toNat F.thmCapCmd_CAP) →
      z = fieldGet v.toNat F.thmCapCmd_ZONE →
    (s.isFeed = true → s.flag R.thmHeatCfg F.thmHeatCfg_AUTO = true →
      exec (.capCommand req v) s = .next (s.raise .thm 0 1 0 [R.thmCapCmd, v.toNat, reqCode req])) ∧
    (s.isFeed = true → s.flag R.thmHeatCfg F.thmHeatCfg_AUTO = false → fieldGet v.toNat F.thmCapCmd_GO = 1 →
      ∃ t, exec (.capCommand req v) s = .next t ∧ s.Frame t [.pen] (R.thmHeatCount :: (List.range 16).map R.thmZoneStatus) ∧
        (fieldGet v.toNat F.thmCapCmd_ALL = 1 → (∃ p, p ∈ t.pen.out ∧ p.type = 0x12 ∧ p.dst = 0xFFF ∧ p.copies = 0 ∧
            p.body.take 2 = leBytes 2 cap) ∧ ∀ i, i ∈ s.zones → t.get (R.thmZoneStatus i) F.thmZoneStatus_SENT = cap) ∧
        (fieldGet v.toNat F.thmCapCmd_ALL = 0 → t.get (R.thmZoneStatus z) F.thmZoneStatus_SENT = cap ∧
          ∀ a, a ∈ s.zoneTiles z → ∃ p, p ∈ t.pen.out ∧ p.type = 0x12 ∧ p.dst = a ∧ p.copies = 0 ∧ p.body.take 2 = leBytes 2 cap)) ∧
    (s.isFeed = false ∨ (s.flag R.thmHeatCfg F.thmHeatCfg_AUTO = false ∧ fieldGet v.toNat F.thmCapCmd_GO = 0) →
      exec (.capCommand req v) s = .next s)) ∧
  (∀ (mv : Nat) (s : State), (s.droops mv = true ↔ mv + s.droopThresh < s.get R.pwrAvsStatus F.pwrAvsStatus_TARGET) ∧
    20 ≤ s.droopThresh ∧ s.droopThresh ≤ 80) ∧
  (∀ (ds : List (Fin 16 × Nat)) (sees : Nat → Bool) (acts : Bool) (s : State), sees = (fun i => ds.any fun x => x.1.val == i && s.droops x.2) →
      acts = ((List.range 16).any fun i => sees i && !bitOf (s.get R.pwrDroopMask F.pwrDroopMask_MASK) i) →
    ∃ t, exec (.droopDetect ds) s = .next t ∧ s.Frame t [.pwr] ((List.range 16).map R.pwrDroopCount) ∧
      (∀ d, d < 16 → t.get (R.pwrDroopCount d) F.pwrDroopCount_COUNT =
        min (2 ^ 32 - 1) (s.get (R.pwrDroopCount d) F.pwrDroopCount_COUNT + (sees d).toNat)) ∧
      t.pwr.stretched = (s.pwr.stretched || acts) ∧ t.pwr.stretches = s.pwr.stretches + (acts && !s.pwr.stretched).toNat) ∧
  (∀ s : State, exec .stretchEnd s = .next { s with pwr := { s.pwr with stretched := false } }) ∧
  (∀ (d : BitVec 10) (n : Nat) (s : State), n = min 1000 d.toNat → ∃ t, exec (.stretchDuty d) s = .next t ∧
    s.Frame t (.pwr :: evtParts) [R.pwrStretch] ∧ t.get R.pwrStretch F.pwrStretch_DUTY = n ∧
    t.get R.pwrStretch F.pwrStretch_PEAK = max n (s.get R.pwrStretch F.pwrStretch_PEAK) ∧
    (n ≤ 250 → t.pwr.highMs = 0) ∧ (250 < n → t.pwr.highMs = min 11 (s.pwr.highMs + 1)) ∧
    (250 < n → s.pwr.highMs = 9 → ∃ u, t = State.raise u .pwr 1 2) ∧ (n ≤ 250 ∨ s.pwr.highMs ≠ 9 → s.Frame t [.pwr] [R.pwrStretch])) ∧
  (∀ (ms : List Int) (low high acked : Bool) (rb : BitVec 10) (v run : Nat) (s : State),
      low = (ms.any fun m => decide (m < s.fuses.marginLow)) →
      high = (!ms.isEmpty && ms.all fun m => decide (s.fuses.marginHigh < m)) → s.fwRuns = true → s.rst.inReset = false →
      s.flag R.pwrAvsCfg F.pwrAvsCfg_EN = true → s.flag R.pwrAvsStatus F.pwrAvsStatus_LOST = false →
      run = (if high = true ∧ s.pwr.stretches = 0 then s.pwr.highRun + 1 else 0) →
      v = (if low = true ∨ 16 ≤ s.pwr.stretches then min (s.get R.pwrAvsLimits F.pwrAvsLimits_VMAX) (s.get R.pwrAvsStatus F.pwrAvsStatus_TARGET + 5)
        else if 100 ≤ run then max (s.get R.pwrAvsLimits F.pwrAvsLimits_VMIN) (s.get R.pwrAvsStatus F.pwrAvsStatus_TARGET - 5)
        else s.get R.pwrAvsStatus F.pwrAvsStatus_TARGET) →
    ∃ t, exec (.avsUpdate ms acked rb) s = .next t ∧ s.Frame t (.pwr :: evtParts) [R.pwrAvsStatus] ∧
      t.get R.pwrAvsStatus F.pwrAvsStatus_READBACK = rb.toNat ∧ t.pwr.stretches = 0 ∧
      (acked = true ∨ v = s.pwr.ackedTarget ∨ s.pwr.nacks < 2 → t.get R.pwrAvsStatus F.pwrAvsStatus_TARGET = v ∧
        t.get R.pwrAvsStatus F.pwrAvsStatus_LOST = 0) ∧
      (acked = true → t.pwr.ackedTarget = v ∧ t.pwr.nacks = 0) ∧
      (acked = false → v ≠ s.pwr.ackedTarget → 2 ≤ s.pwr.nacks → t.get R.pwrAvsStatus F.pwrAvsStatus_LOST = 1 ∧
        t.get R.pwrAvsStatus F.pwrAvsStatus_TARGET = s.pwr.ackedTarget % 1024)) ∧
  (∀ (ms : List Int) (acked : Bool) (rb : BitVec 10) (s : State), s.fwRuns = false ∨ s.rst.inReset = true ∨
      s.flag R.pwrAvsCfg F.pwrAvsCfg_EN = false ∨ s.flag R.pwrAvsStatus F.pwrAvsStatus_LOST = true →
    exec (.avsUpdate ms acked rb) s = .next s)

/-- Events (R401, R402, R406 to R414, R438). That EVT's own programming errors carry the identifier of MBX is the model's reading (log
entry 82). -/
def Obligations.Events : Prop :=
  (∀ (b : Block) (cause sev unit : Nat) (d : List Nat) (r : EventRec) (slot : Nat) (s t : State), t = s.raise b cause sev unit d →
      r = s.record b cause sev unit d → slot = capSlot b.id sev →
    s.Frame t evtParts [] ∧
    (sev < 8 → cause < 256 → b.id < 256 → r.words.getD 0 0 = b.id * 256 + cause + sev * 2 ^ 16 + (if cause = 0 then 2 ^ 19 else 0) ∧
      r.words.getD 1 0 = s.clock.now % 2 ^ 32 ∧ r.words.getD 2 0 = s.tileAddr + s.domain * 2 ^ 12 + unit % 65536 * 2 ^ 16 ∧
      ∀ i, i < 4 → r.words.getD (3 + i) 0 = d.getD i 0 % 2 ^ 32) ∧
    (1 ≤ b.id → b.id ≤ 23 → 2 ≤ sev → sev ≤ 4 →
      (s.get (R.evtCapCtrl slot) F.evtCapCtrl_VALID = 0 → t.get (R.evtCapCtrl slot) F.evtCapCtrl_VALID = 1 ∧
        t.get (R.evtCapCtrl slot) F.evtCapCtrl_COUNT = 0 ∧ t.get (R.evtCapCtrl slot) F.evtCapCtrl_OVERFLOW = 0 ∧
        t.get (R.evtCapPending (sev - 2)) ⟨b.id, 1⟩ = 1 ∧ ∀ i, i < 8 → t.reg (R.evtCapRecord slot i) = r.words.getD i 0) ∧
      (s.get (R.evtCapCtrl slot) F.evtCapCtrl_VALID = 1 → t.get (R.evtCapCtrl slot) F.evtCapCtrl_VALID = 1 ∧
        t.get (R.evtCapCtrl slot) F.evtCapCtrl_COUNT = min 65535 (s.get (R.evtCapCtrl slot) F.evtCapCtrl_COUNT + 1) ∧
        t.get (R.evtCapCtrl slot) F.evtCapCtrl_OVERFLOW = 1 ∧ t.hif.msix = s.hif.msix ∧
        ∀ i, i < 8 → t.reg (R.evtCapRecord slot i) = s.reg (R.evtCapRecord slot i))) ∧
    (∀ o, o < 69 → o ≠ slot ∨ sev < 2 → t.reg (R.evtCapCtrl o) = s.reg (R.evtCapCtrl o)) ∧
    t.rst.fatals = s.rst.fatals ++ (if sev = 4 then [(b.id, s.clock.now)] else [])) ∧
  (∀ (r : EventRec) (ring n : Nat) (q : QueueCtx) (s : State), ring < 64 → n = s.get (R.evtRingBind ring) F.evtRingBind_QUEUE →
      q = s.queue n →
    (s.get (R.evtRingBind ring) F.evtRingBind_EN = 0 → s.toRing ring r = s) ∧
    (s.get (R.evtRingBind ring) F.evtRingBind_EN = 1 → q.enabled = false ∨ q.isFull (s.inFlight n) = true →
      s.Frame (s.toRing ring r) [.evt] [R.evtRingLost ring] ∧ (s.toRing ring r).evt.landing = s.evt.landing ∧
      (s.toRing ring r).get (R.evtRingLost ring) F.evtRingLost_LOST = min 65535 (s.get (R.evtRingLost ring) F.evtRingLost_LOST + 1) ∧
      ring ∈ (s.toRing ring r).evt.lostNext) ∧
    (s.get (R.evtRingBind ring) F.evtRingBind_EN = 1 → q.enabled = true → q.isFull (s.inFlight n) = false →
      (s.toRing ring r).evt.landing = s.evt.landing ++ [(ring, { r with lost := r.lost || s.evt.lostNext.contains ring })] ∧
      ring ∉ (s.toRing ring r).evt.lostNext)) ∧
  (∀ (r : EventRec) (s : State), 1 ≤ r.block → r.block ≤ 23 →
    (s.isTile = false → r.sev < 2 → s.get (R.evtRoute (r.block - 1)) F.evtRoute_LOW_EN = 1 →
      s.emit r = s.toRing (s.get (R.evtRoute (r.block - 1)) F.evtRoute_LOW_RING) r) ∧
    (s.isTile = false → 2 ≤ r.sev → s.get (R.evtRoute (r.block - 1)) F.evtRoute_HIGH_EN = 1 →
      s.emit r = s.toRing (s.get (R.evtRoute (r.block - 1)) F.evtRoute_HIGH_RING) r) ∧
    (s.isTile = false → s.get (R.evtRoute (r.block - 1)) F.evtRoute_LOW_EN = 0 → s.get (R.evtRoute (r.block - 1)) F.evtRoute_HIGH_EN = 0 →
      s.emit r = s) ∧
    (s.isTile = true → r.sev < s.get R.evtUpCfg F.evtUpCfg_MIN_SEV → s.emit r = s) ∧
    (s.isTile = true → s.get R.evtUpCfg F.evtUpCfg_MIN_SEV ≤ r.sev → s.evt.upstream.length < 64 →
      (s.emit r).evt.upstream = s.evt.upstream ++ [{ r with lost := r.lost || s.evt.upLost }] ∧ (s.emit r).evt.upLost = false ∧
      (s.emit r).get R.evtUpStatus F.evtUpStatus_QUEUED = s.evt.upstream.length + 1) ∧
    (s.isTile = true → s.get R.evtUpCfg F.evtUpCfg_MIN_SEV ≤ r.sev → 64 ≤ s.evt.upstream.length →
      (s.emit r).evt.upstream = s.evt.upstream ∧ (s.emit r).evt.upLost = true ∧
      (s.emit r).get R.evtUpStatus F.evtUpStatus_LOST = min 65535 (s.get R.evtUpStatus F.evtUpStatus_LOST + 1))) ∧
  (∀ (b : Block) (cause unit : Nat) (d : List Nat) (r : EventRec) (m : MergeRec) (s : State), r = s.record b cause 3 unit d →
      s.evt.merges.find? (fun m => m.code == r.block * 256 + r.cause && m.tile == r.tile && m.unit == r.unit) = some m →
    (s.clock.now < m.last + 10000000 → (s.raiseDeadline b cause unit d).evt.landing = s.evt.landing ∧
      (s.raiseDeadline b cause unit d).evt.upstream = s.evt.upstream ∧
      { m with count := m.count + 1 } ∈ (s.raiseDeadline b cause unit d).evt.merges) ∧
    (m.last + 10000000 ≤ s.clock.now → { m with last := s.clock.now, count := 0 } ∈ (s.raiseDeadline b cause unit d).evt.merges ∧
      (s.isTile = true → s.get R.evtUpCfg F.evtUpCfg_MIN_SEV ≤ 3 → s.evt.upstream.length < 64 →
        (s.raiseDeadline b cause unit d).evt.upstream = s.evt.upstream ++
          [{ r with lost := s.evt.upLost, merged := decide (0 < m.count), d7 := min 65535 m.count }]))) ∧
  (∀ (b : Block) (n cause sev unit : Nat) (d : List Nat) (s : State),
    (n ≤ s.limitCount (b.id * 256 + cause) unit → s.raiseLimited n b cause sev unit d = s) ∧
    (s.limitCount (b.id * 256 + cause) unit < n → s.Frame (s.raiseLimited n b cause sev unit d) evtParts [] ∧
      (b.id * 256 + cause, unit, s.clock.now) ∈ (s.raiseLimited n b cause sev unit d).evt.limits)) ∧
  (∀ s : State, s.evt.landing = [] → exec .eventRecordLanded s = .next s) ∧
  (∀ (ring qn : Nat) (r : EventRec) (rest : List (Nat × EventRec)) (x : QueueCtx) (s : State), s.evt.landing = (ring, r) :: rest → ring < 64 →
      qn = s.get (R.evtRingBind ring) F.evtRingBind_QUEUE → x = s.queue qn →
    (x.enabled = true → x.isFull = false → ∃ t, exec .eventRecordLanded s = .next t ∧
      s.Frame t [.evt, .msix, .hif, .mem, .queues, .qmCache] [R.hbmStatus] ∧
      t.evt.landing = rest ∧ t.queue qn = { x with p := (x.p + 1) % x.size } ∧
      (x.hostSpace = false → t.hif.hostWrites = s.hif.hostWrites ∧ ∀ i, i < 32 → x.base + x.p * x.entryBytes + i < s.memSize →
        t.rd (x.base + x.p * x.entryBytes + i) = r.bytes.getD i 0 % 256) ∧
      (x.hostSpace = true → t.mem = s.mem ∧ t.hif.hostWrites = s.hif.hostWrites ++ [(x.base + x.p * x.entryBytes, r.bytes)]) ∧
      (s.get (R.evtRingBind ring) F.evtRingBind_COALESCE = 0 ∨ 3 ≤ r.sev → s.roleLive .hif = true →
        s.get (R.hifMsixCtrl x.vector) F.hifMsixCtrl_MASK = 0 → t.hif.msix = s.hif.msix ++ [x.vector])) ∧
    (x.enabled = false ∨ x.isFull = true → ∃ t, exec .eventRecordLanded s = .next t ∧ s.Frame t [.evt] [R.evtRingLost ring] ∧ t.evt.landing = rest ∧
      t.get (R.evtRingLost ring) F.evtRingLost_LOST = min 65535 (s.get (R.evtRingLost ring) F.evtRingLost_LOST + 1))) ∧
  (∀ r : EventRec, r.bytes.length = 32 ∧ ∀ i j, i < 8 → j < 4 → r.bytes.getD (4 * i + j) 0 = r.words.getD i 0 / 256 ^ j % 256) ∧
  (∀ (ring : Fin 64) (v : Nat) (s : State), v = (s.queue (s.get (R.evtRingBind ring.val) F.evtRingBind_QUEUE)).vector →
    (s.evt.coalesced.contains ring.val = false → exec (.coalesceExpire ring) s = .next s) ∧
    (s.evt.coalesced.contains ring.val = true → ∃ t, exec (.coalesceExpire ring) s = .next t ∧ s.Frame t [.evt, .msix] [] ∧
      t.evt.coalesced = s.evt.coalesced.filter (· != ring.val) ∧ t.evt.landing = s.evt.landing ∧
      (s.roleLive .hif = true → s.get (R.hifMsixCtrl v) F.hifMsixCtrl_MASK = 0 → t.hif.msix = s.hif.msix ++ [v]))) ∧
  (∀ (slot : Fin 69) (v : Word) (s : State),
    (fieldGet v.toNat F.evtCapCtrl_VALID = 1 → ∃ t, exec (.captureAck slot v) s = .next t ∧
      (∀ p, s.agree t p) ∧ (∀ k, k ≠ R.evtCapCtrl slot.val → k ≠ R.evtCapPending (slot.val % 3) → t.reg k = s.reg k) ∧
      t.reg (R.evtCapCtrl slot.val) = 0 ∧ t.get (R.evtCapPending (slot.val % 3)) ⟨slot.val / 3 + 1, 1⟩ = 0 ∧
      ∀ o, 1 ≤ o → o ≤ 23 → o ≠ slot.val / 3 + 1 →
        t.get (R.evtCapPending (slot.val % 3)) ⟨o, 1⟩ = s.get (R.evtCapPending (slot.val % 3)) ⟨o, 1⟩) ∧
    (fieldGet v.toNat F.evtCapCtrl_VALID = 0 → exec (.captureAck slot v) s = .next s)) ∧
  (∀ (req : Requester) (ring : Fin 64) (v : Word) (s : State), s.mayWrite req = true →
    (fieldGet v.toNat F.evtRingBind_EN = 1 → s.queueClass (fieldGet v.toNat F.evtRingBind_QUEUE) ≠ some 1 →
      exec (.evtRingBindWrite req ring v) s = .next (s.raise .mbx 0 1 0 [R.evtRingBind ring.val, v.toNat, reqCode req])) ∧
    (fieldGet v.toNat F.evtRingBind_EN = 0 ∨ s.queueClass (fieldGet v.toNat F.evtRingBind_QUEUE) = some 1 →
      ∃ t, exec (.evtRingBindWrite req ring v) s = .next t ∧ s.Frame t [] [R.evtRingBind ring.val] ∧
        t.reg (R.evtRingBind ring.val) = v.toNat % 2 ^ 27))
end

