-- ==== Sys2Proof/Laws/Fields.lean ====
section
/-! SUPPORT. Bit fields of register values: a field set reads as set, another field reads as before. -/

namespace Sys2Proof.Machine

theorem fieldGet_lt (v : Nat) (f : Fld) : fieldGet v f < 2 ^ f.w := Nat.mod_lt _ (Nat.two_pow_pos _)

/-- The value without the field, in two parts. -/
theorem fieldSet_eq (v : Nat) (f : Fld) (x : Nat) :
    fieldSet v f x = v % 2 ^ f.lo + 2 ^ f.lo * (x % 2 ^ f.w + 2 ^ f.w * (v / 2 ^ (f.lo + f.w))) := by
  unfold fieldSet
  rw [Nat.mul_add, ← Nat.mul_assoc, ← Nat.pow_add, Nat.mul_comm (2 ^ f.lo) (x % 2 ^ f.w),
    Nat.mul_comm (2 ^ (f.lo + f.w)) (v / 2 ^ (f.lo + f.w)), Nat.add_assoc]

theorem fieldSet_div (v : Nat) (f : Fld) (x : Nat) :
    fieldSet v f x / 2 ^ f.lo = x % 2 ^ f.w + 2 ^ f.w * (v / 2 ^ (f.lo + f.w)) := by
  rw [fieldSet_eq, Nat.add_mul_div_left _ _ (Nat.two_pow_pos _), Nat.div_eq_of_lt (Nat.mod_lt _ (Nat.two_pow_pos _)), Nat.zero_add]

/-- A field set reads as what was set, cut to its width. -/
@[simp] theorem fieldGet_fieldSet_same (v : Nat) (f : Fld) (x : Nat) : fieldGet (fieldSet v f x) f = x % 2 ^ f.w := by
  unfold fieldGet
  rw [fieldSet_div, Nat.add_mul_mod_self_left, Nat.mod_mod]

/-- A field beside the one set reads as before. -/
theorem fieldGet_fieldSet_of_disjoint (v : Nat) (f g : Fld) (x : Nat) (h : f.lo + f.w ≤ g.lo ∨ g.lo + g.w ≤ f.lo) :
    fieldGet (fieldSet v f x) g = fieldGet v g := by
  unfold fieldGet
  rcases h with h | h
  · obtain ⟨d, hd⟩ := Nat.le.dest h
    rw [← hd, Nat.pow_add 2 (f.lo + f.w) d, ← Nat.div_div_eq_div_mul, ← Nat.div_div_eq_div_mul, Nat.pow_add,
      ← Nat.div_div_eq_div_mul, fieldSet_div, Nat.add_mul_div_left _ _ (Nat.two_pow_pos _),
      Nat.div_eq_of_lt (Nat.mod_lt _ (Nat.two_pow_pos _)), Nat.zero_add, Nat.pow_add, Nat.div_div_eq_div_mul]
  · obtain ⟨d, hd⟩ := Nat.le.dest h
    have key : ∀ a, a / 2 ^ g.lo % 2 ^ g.w = a % 2 ^ (g.lo + g.w) / 2 ^ g.lo := fun a => by
      rw [Nat.pow_add, Nat.mod_mul_right_div_self]
    rw [key, key, fieldSet_eq, ← hd, Nat.pow_add 2 (g.lo + g.w) d, Nat.mul_assoc, Nat.add_mul_mod_self_left]
    rw [Nat.mod_mul_right_mod]

/-- A field set to what it holds changes nothing of it. -/
theorem fieldGet_zero (f : Fld) : fieldGet 0 f = 0 := by simp [fieldGet]

end Sys2Proof.Machine
end

