-- ==== Sys2Proof/Laws/Sparse.lean ====
section
/-! SUPPORT. Sparse maps: what a write leaves to be read, and that every operation keeps the canonical form. -/

namespace Sys2Proof.Machine

variable {β : Type}

theorem sLookup_sErase (m : List (Nat × β)) (k x : Nat) : sLookup (sErase m k) x = if k = x then none else sLookup m x := by
  induction m with
  | nil => simp [sErase, sLookup]
  | cons e r ih =>
    obtain ⟨a, v⟩ := e
    by_cases h : a = k
    · subst h; simp only [sErase, if_true, ih, sLookup]
      by_cases h2 : a = x <;> simp [h2]
    · simp only [sErase, h, if_false, sLookup, ih]
      by_cases h2 : a = x
      · subst h2; simp [Ne.symm h]
      · simp [h2]

theorem sLookup_sInsert (m : List (Nat × β)) (k x : Nat) (v : β) (h : sLookup m k = none) :
    sLookup (sInsert m k v) x = if k = x then some v else sLookup m x := by
  induction m with
  | nil => simp [sInsert, sLookup]
  | cons e r ih =>
    obtain ⟨a, w⟩ := e
    have ha : a ≠ k := by intro h'; simp [sLookup, h'] at h
    have hr : sLookup r k = none := by simpa [sLookup, ha] using h
    by_cases hk : k < a
    · simp [sInsert, hk, sLookup]
    · simp only [sInsert, hk, if_false, sLookup, ih hr]
      by_cases h2 : a = x
      · subst h2; simp [Ne.symm ha]
      · simp [h2]

variable [DecidableEq β]

/-- What a key reads as after a write. -/
theorem sRead_sWrite (d : Nat → β) (m : List (Nat × β)) (k x : Nat) (v : β) :
    sRead d (sWrite d m k v) x = if k = x then v else sRead d m x := by
  unfold sRead sWrite
  by_cases hv : v = d k
  · subst hv
    simp only [if_true, sLookup_sErase]
    by_cases h : k = x
    · subst h; simp
    · simp [h]
  · simp only [hv, if_false]
    rw [sLookup_sInsert _ _ _ _ (by simp [sLookup_sErase]), sLookup_sErase]
    by_cases h : k = x <;> simp [h]

@[simp] theorem sRead_sWrite_same (d : Nat → β) (m : List (Nat × β)) (k : Nat) (v : β) : sRead d (sWrite d m k v) k = v := by
  simp [sRead_sWrite]

theorem sRead_sWrite_ne (d : Nat → β) (m : List (Nat × β)) {k x : Nat} (v : β) (h : k ≠ x) :
    sRead d (sWrite d m k v) x = sRead d m x := by simp [sRead_sWrite, h]

/-! ### The canonical form -/

/-- A key lies above a bound. -/
def above : Option Nat → Nat → Bool
  | none, _ => true
  | some b, k => decide (b < k)

omit [DecidableEq β] in
theorem sRising_cons (b : Option Nat) (k : Nat) (v : β) (r : List (Nat × β)) :
    sRising b ((k, v) :: r) = (above b k && sRising (some k) r) := by
  cases b <;> rfl

omit [DecidableEq β] in
theorem sRising_mono {b c : Option Nat} {m : List (Nat × β)} (hbc : ∀ k, above c k = true → above b k = true)
    (h : sRising c m = true) : sRising b m = true := by
  cases m with
  | nil => simp [sRising]
  | cons e r =>
    obtain ⟨k, v⟩ := e
    rw [sRising_cons, Bool.and_eq_true] at *
    exact ⟨hbc k h.1, h.2⟩

omit [DecidableEq β] in
theorem above_trans {b : Option Nat} {a k : Nat} (h : above b a = true) (hk : above (some a) k = true) : above b k = true := by
  cases b with
  | none => rfl
  | some x => simp only [above, decide_eq_true_eq] at *; omega

omit [DecidableEq β] in
theorem sRising_sErase {b : Option Nat} {m : List (Nat × β)} (k : Nat) (h : sRising b m = true) : sRising b (sErase m k) = true := by
  induction m generalizing b with
  | nil => simp [sErase, sRising]
  | cons e r ih =>
    obtain ⟨a, v⟩ := e
    rw [sRising_cons, Bool.and_eq_true] at h
    by_cases ha : a = k
    · simp only [sErase, ha, if_true]
      exact ih (sRising_mono (fun x hx => above_trans h.1 hx) h.2)
    · simp only [sErase, ha, if_false]
      rw [sRising_cons, Bool.and_eq_true]
      exact ⟨h.1, ih h.2⟩

omit [DecidableEq β] in
theorem sRising_sInsert {b : Option Nat} {m : List (Nat × β)} (k : Nat) (v : β) (h : sRising b m = true)
    (hk : sLookup m k = none) (hb : above b k = true) : sRising b (sInsert m k v) = true := by
  induction m generalizing b with
  | nil => simp [sInsert, sRising_cons, hb, sRising]
  | cons e r ih =>
    obtain ⟨a, w⟩ := e
    rw [sRising_cons, Bool.and_eq_true] at h
    have ha : a ≠ k := by intro h'; simp [sLookup, h'] at hk
    have hr : sLookup r k = none := by simpa [sLookup, ha] using hk
    by_cases hlt : k < a
    · simp only [sInsert, hlt, if_true, sRising_cons, Bool.and_eq_true]
      exact ⟨hb, by simp [above, hlt], h.2⟩
    · simp only [sInsert, hlt, if_false, sRising_cons, Bool.and_eq_true]
      exact ⟨h.1, ih h.2 hr (by simp only [above, decide_eq_true_eq]; omega)⟩

omit [DecidableEq β] in
theorem mem_sErase {m : List (Nat × β)} {k : Nat} {e : Nat × β} (h : e ∈ sErase m k) : e ∈ m := by
  induction m with
  | nil => simp [sErase] at h
  | cons x r ih =>
    obtain ⟨a, v⟩ := x
    by_cases ha : a = k
    · simp only [sErase, ha, if_true] at h; exact List.mem_cons_of_mem _ (ih h)
    · simp only [sErase, ha, if_false, List.mem_cons] at h
      rcases h with h | h
      · exact h ▸ List.mem_cons_self
      · exact List.mem_cons_of_mem _ (ih h)

omit [DecidableEq β] in
theorem mem_sInsert {m : List (Nat × β)} {k : Nat} {v : β} {e : Nat × β} (h : e ∈ sInsert m k v) : e = (k, v) ∨ e ∈ m := by
  induction m with
  | nil => simpa [sInsert] using h
  | cons x r ih =>
    obtain ⟨a, w⟩ := x
    by_cases hlt : k < a
    · simpa only [sInsert, hlt, if_true, List.mem_cons] using h
    · simp only [sInsert, hlt, if_false, List.mem_cons] at h ⊢
      rcases h with h | h
      · exact Or.inr (Or.inl h)
      · rcases ih h with h | h
        · exact Or.inl h
        · exact Or.inr (Or.inr h)

/-- A write keeps the canonical form. -/
theorem sWf_sWrite {d : Nat → β} {m : List (Nat × β)} (k : Nat) (v : β) (h : sWf d m = true) : sWf d (sWrite d m k v) = true := by
  unfold sWf at *
  rw [Bool.and_eq_true, List.all_eq_true] at *
  unfold sWrite
  by_cases hv : v = d k
  · simp only [hv, if_true]
    exact ⟨sRising_sErase k h.1, fun e he => h.2 e (mem_sErase he)⟩
  · simp only [hv, if_false]
    refine ⟨sRising_sInsert k v (sRising_sErase k h.1) (by simp [sLookup_sErase]) rfl, fun e he => ?_⟩
    rcases mem_sInsert he with rfl | he
    · simp [hv]
    · exact h.2 e (mem_sErase he)

@[simp] theorem sWf_nil (d : Nat → β) : sWf d [] = true := rfl

omit [DecidableEq β] in
theorem sRising_filter {b : Option Nat} {m : List (Nat × β)} (p : Nat × β → Bool) (h : sRising b m = true) :
    sRising b (m.filter p) = true := by
  induction m generalizing b with
  | nil => simp [sRising]
  | cons e r ih =>
    obtain ⟨a, v⟩ := e
    rw [sRising_cons, Bool.and_eq_true] at h
    by_cases hp : p (a, v) = true
    · rw [List.filter_cons_of_pos hp, sRising_cons, Bool.and_eq_true]
      exact ⟨h.1, ih h.2⟩
    · rw [List.filter_cons_of_neg hp]
      exact ih (sRising_mono (fun x hx => above_trans h.1 hx) h.2)

/-- Dropping entries keeps the canonical form. -/
theorem sWf_filter {d : Nat → β} {m : List (Nat × β)} (p : Nat × β → Bool) (h : sWf d m = true) : sWf d (m.filter p) = true := by
  unfold sWf at *
  rw [Bool.and_eq_true, List.all_eq_true] at *
  exact ⟨sRising_filter p h.1, fun e he => h.2 e ((List.mem_filter.mp he).1)⟩

/-- Writing bytes keeps the canonical form of the memory. -/
theorem memWf_writeBytes {m : List Host.Cell} (a : Nat) (bs : List Byte) (h : memWf m = true) : memWf (writeBytes m a bs) = true := by
  induction bs generalizing m a with
  | nil => exact h
  | cons b r ih => exact ih (a + 1) (sWf_sWrite a b h)

/-- A byte outside the bytes written reads as before; a byte written reads as written. -/
theorem sRead_writeBytes (m : List Host.Cell) (a : Nat) (bs : List Byte) (x : Nat) :
    sRead memDefault (writeBytes m a bs) x = if a ≤ x ∧ x < a + bs.length then bs.getD (x - a) 0 else sRead memDefault m x := by
  induction bs generalizing m a with
  | nil =>
    have h : ¬(a ≤ x ∧ x < a + ([] : List Byte).length) := by simp only [List.length_nil]; omega
    simp only [writeBytes, h, if_false]
  | cons b r ih =>
    simp only [writeBytes, ih, sRead_sWrite, List.length_cons]
    by_cases h1 : a = x
    · subst h1
      have h5 : ¬(a + 1 ≤ a ∧ a < a + 1 + r.length) := by omega
      have h6 : a ≤ a ∧ a < a + (r.length + 1) := by omega
      have h7 : a - a = 0 := by omega
      rw [if_neg h5, if_pos h6, if_pos rfl, h7]
      rfl
    · by_cases h2 : a + 1 ≤ x ∧ x < a + 1 + r.length
      · have h3 : a ≤ x ∧ x < a + (r.length + 1) := by omega
        have h4 : x - a = (x - (a + 1)) + 1 := by omega
        simp [h2, h3, h4]
      · have h3 : ¬(a ≤ x ∧ x < a + (r.length + 1)) := by omega
        rw [if_neg h2, if_neg h3, if_neg h1]

end Sys2Proof.Machine
end

