-- ==== Sys2Proof/Laws/State.lean ====
section
/-! SUPPORT. The state: what setting a register or a field leaves of every part, and what is read back. -/

namespace Sys2Proof.Machine

/-! ### Registers -/

@[simp] theorem State.reg_setReg_same (s : State) (k v : Nat) : (s.setReg k v).reg k = v := sRead_sWrite_same _ _ _ _

theorem State.reg_setReg (s : State) (k v x : Nat) : (s.setReg k v).reg x = if k = x then v else s.reg x := sRead_sWrite _ _ _ _ _

theorem State.reg_setReg_ne (s : State) {k x : Nat} (v : Nat) (h : k ≠ x) : (s.setReg k v).reg x = s.reg x := by
  simp [State.reg_setReg, h]

@[simp] theorem State.get_setReg_same (s : State) (k v : Nat) (f : Fld) : (s.setReg k v).get k f = fieldGet v f := by
  simp [State.get]

theorem State.get_setReg_ne (s : State) {k x : Nat} (v : Nat) (f : Fld) (h : k ≠ x) : (s.setReg k v).get x f = s.get x f := by
  simp [State.get, State.reg_setReg_ne s v h]

@[simp] theorem State.get_put_same (s : State) (k : Nat) (f : Fld) (v : Nat) : (s.put k f v).get k f = v % 2 ^ f.w := by
  simp [State.put, State.get]

theorem State.get_put_ne (s : State) {k x : Nat} (f g : Fld) (v : Nat) (h : k ≠ x) : (s.put k f v).get x g = s.get x g :=
  State.get_setReg_ne s _ g h

theorem State.reg_put_ne (s : State) {k x : Nat} (f : Fld) (v : Nat) (h : k ≠ x) : (s.put k f v).reg x = s.reg x :=
  State.reg_setReg_ne s _ h

/-- A field of the same register, beside the one set. -/
theorem State.get_put_disjoint (s : State) (k : Nat) (f g : Fld) (v : Nat) (h : f.lo + f.w ≤ g.lo ∨ g.lo + g.w ≤ f.lo) :
    (s.put k f v).get k g = s.get k g := by
  simp [State.put, State.get, fieldGet_fieldSet_of_disjoint _ _ _ _ h]

theorem State.get_lt (s : State) (k : Nat) (f : Fld) : s.get k f < 2 ^ f.w := fieldGet_lt _ _

@[simp] theorem State.act_setAct_same (s : State) (k v : Nat) : (s.setAct k v).act k = v := sRead_sWrite_same _ _ _ _

theorem State.act_setAct_ne (s : State) {k x : Nat} (v : Nat) (h : k ≠ x) : (s.setAct k v).act x = s.act x := by
  simp [State.act, State.setAct, sRead_sWrite, h]

/-! ### The other parts -/

@[simp] theorem State.setReg_pending (s : State) (k v : Nat) : (s.setReg k v).pending = s.pending := rfl
@[simp] theorem State.setReg_active (s : State) (k v : Nat) : (s.setReg k v).active = s.active := rfl
@[simp] theorem State.setReg_shWritten (s : State) (k v : Nat) : (s.setReg k v).shWritten = s.shWritten := rfl
@[simp] theorem State.setReg_freeCount (s : State) (k v : Nat) : (s.setReg k v).freeCount = s.freeCount := rfl
@[simp] theorem State.setReg_fuses (s : State) (k v : Nat) : (s.setReg k v).fuses = s.fuses := rfl
@[simp] theorem State.setReg_flash (s : State) (k v : Nat) : (s.setReg k v).flash = s.flash := rfl
@[simp] theorem State.setReg_rst (s : State) (k v : Nat) : (s.setReg k v).rst = s.rst := rfl
@[simp] theorem State.setReg_boot (s : State) (k v : Nat) : (s.setReg k v).boot = s.boot := rfl
@[simp] theorem State.setReg_ldr (s : State) (k v : Nat) : (s.setReg k v).ldr = s.ldr := rfl
@[simp] theorem State.setReg_bus (s : State) (k v : Nat) : (s.setReg k v).bus = s.bus := rfl
@[simp] theorem State.setReg_evt (s : State) (k v : Nat) : (s.setReg k v).evt = s.evt := rfl
@[simp] theorem State.setReg_hif (s : State) (k v : Nat) : (s.setReg k v).hif = s.hif := rfl
@[simp] theorem State.setReg_mbx (s : State) (k v : Nat) : (s.setReg k v).mbx = s.mbx := rfl
@[simp] theorem State.setReg_spdm (s : State) (k v : Nat) : (s.setReg k v).spdm = s.spdm := rfl
@[simp] theorem State.setReg_clock (s : State) (k v : Nat) : (s.setReg k v).clock = s.clock := rfl
@[simp] theorem State.setReg_queues (s : State) (k v : Nat) : (s.setReg k v).queues = s.queues := rfl
@[simp] theorem State.setReg_mem (s : State) (k v : Nat) : (s.setReg k v).mem = s.mem := rfl
@[simp] theorem State.setReg_time (s : State) (k v : Nat) : (s.setReg k v).time = s.time := rfl
@[simp] theorem State.setReg_seq (s : State) (k v : Nat) : (s.setReg k v).seq = s.seq := rfl
@[simp] theorem State.setReg_pen (s : State) (k v : Nat) : (s.setReg k v).pen = s.pen := rfl
@[simp] theorem State.setReg_ing (s : State) (k v : Nat) : (s.setReg k v).ing = s.ing := rfl
@[simp] theorem State.setReg_dma (s : State) (k v : Nat) : (s.setReg k v).dma = s.dma := rfl
@[simp] theorem State.setReg_qmCache (s : State) (k v : Nat) : (s.setReg k v).qmCache = s.qmCache := rfl
@[simp] theorem State.setReg_qmWait (s : State) (k v : Nat) : (s.setReg k v).qmWait = s.qmWait := rfl
@[simp] theorem State.setReg_cmp (s : State) (k v : Nat) : (s.setReg k v).cmp = s.cmp := rfl
@[simp] theorem State.setReg_lan (s : State) (k v : Nat) : (s.setReg k v).lan = s.lan := rfl
@[simp] theorem State.setReg_hal (s : State) (k v : Nat) : (s.setReg k v).hal = s.hal := rfl
@[simp] theorem State.setReg_pix (s : State) (k v : Nat) : (s.setReg k v).pix = s.pix := rfl
@[simp] theorem State.setReg_dsc (s : State) (k v : Nat) : (s.setReg k v).dsc = s.dsc := rfl
@[simp] theorem State.setReg_hold (s : State) (k v : Nat) : (s.setReg k v).hold = s.hold := rfl
@[simp] theorem State.setReg_cor (s : State) (k v : Nat) : (s.setReg k v).cor = s.cor := rfl
@[simp] theorem State.setReg_lmp (s : State) (k v : Nat) : (s.setReg k v).lmp = s.lmp := rfl
@[simp] theorem State.setReg_red (s : State) (k v : Nat) : (s.setReg k v).red = s.red := rfl
@[simp] theorem State.setReg_clp (s : State) (k v : Nat) : (s.setReg k v).clp = s.clp := rfl
@[simp] theorem State.setReg_cdc (s : State) (k v : Nat) : (s.setReg k v).cdc = s.cdc := rfl
@[simp] theorem State.setReg_thm (s : State) (k v : Nat) : (s.setReg k v).thm = s.thm := rfl
@[simp] theorem State.setReg_pwr (s : State) (k v : Nat) : (s.setReg k v).pwr = s.pwr := rfl
@[simp] theorem State.put_pending (s : State) (k : Nat) (f : Fld) (v : Nat) : (s.put k f v).pending = s.pending := rfl
@[simp] theorem State.put_active (s : State) (k : Nat) (f : Fld) (v : Nat) : (s.put k f v).active = s.active := rfl
@[simp] theorem State.put_shWritten (s : State) (k : Nat) (f : Fld) (v : Nat) : (s.put k f v).shWritten = s.shWritten := rfl
@[simp] theorem State.put_freeCount (s : State) (k : Nat) (f : Fld) (v : Nat) : (s.put k f v).freeCount = s.freeCount := rfl
@[simp] theorem State.put_fuses (s : State) (k : Nat) (f : Fld) (v : Nat) : (s.put k f v).fuses = s.fuses := rfl
@[simp] theorem State.put_flash (s : State) (k : Nat) (f : Fld) (v : Nat) : (s.put k f v).flash = s.flash := rfl
@[simp] theorem State.put_rst (s : State) (k : Nat) (f : Fld) (v : Nat) : (s.put k f v).rst = s.rst := rfl
@[simp] theorem State.put_boot (s : State) (k : Nat) (f : Fld) (v : Nat) : (s.put k f v).boot = s.boot := rfl
@[simp] theorem State.put_ldr (s : State) (k : Nat) (f : Fld) (v : Nat) : (s.put k f v).ldr = s.ldr := rfl
@[simp] theorem State.put_bus (s : State) (k : Nat) (f : Fld) (v : Nat) : (s.put k f v).bus = s.bus := rfl
@[simp] theorem State.put_evt (s : State) (k : Nat) (f : Fld) (v : Nat) : (s.put k f v).evt = s.evt := rfl
@[simp] theorem State.put_hif (s : State) (k : Nat) (f : Fld) (v : Nat) : (s.put k f v).hif = s.hif := rfl
@[simp] theorem State.put_mbx (s : State) (k : Nat) (f : Fld) (v : Nat) : (s.put k f v).mbx = s.mbx := rfl
@[simp] theorem State.put_spdm (s : State) (k : Nat) (f : Fld) (v : Nat) : (s.put k f v).spdm = s.spdm := rfl
@[simp] theorem State.put_clock (s : State) (k : Nat) (f : Fld) (v : Nat) : (s.put k f v).clock = s.clock := rfl
@[simp] theorem State.put_queues (s : State) (k : Nat) (f : Fld) (v : Nat) : (s.put k f v).queues = s.queues := rfl
@[simp] theorem State.put_mem (s : State) (k : Nat) (f : Fld) (v : Nat) : (s.put k f v).mem = s.mem := rfl
@[simp] theorem State.put_time (s : State) (k : Nat) (f : Fld) (v : Nat) : (s.put k f v).time = s.time := rfl
@[simp] theorem State.put_seq (s : State) (k : Nat) (f : Fld) (v : Nat) : (s.put k f v).seq = s.seq := rfl
@[simp] theorem State.put_pen (s : State) (k : Nat) (f : Fld) (v : Nat) : (s.put k f v).pen = s.pen := rfl
@[simp] theorem State.put_ing (s : State) (k : Nat) (f : Fld) (v : Nat) : (s.put k f v).ing = s.ing := rfl
@[simp] theorem State.put_dma (s : State) (k : Nat) (f : Fld) (v : Nat) : (s.put k f v).dma = s.dma := rfl
@[simp] theorem State.put_qmCache (s : State) (k : Nat) (f : Fld) (v : Nat) : (s.put k f v).qmCache = s.qmCache := rfl
@[simp] theorem State.put_qmWait (s : State) (k : Nat) (f : Fld) (v : Nat) : (s.put k f v).qmWait = s.qmWait := rfl
@[simp] theorem State.put_cmp (s : State) (k : Nat) (f : Fld) (v : Nat) : (s.put k f v).cmp = s.cmp := rfl
@[simp] theorem State.put_lan (s : State) (k : Nat) (f : Fld) (v : Nat) : (s.put k f v).lan = s.lan := rfl
@[simp] theorem State.put_hal (s : State) (k : Nat) (f : Fld) (v : Nat) : (s.put k f v).hal = s.hal := rfl
@[simp] theorem State.put_pix (s : State) (k : Nat) (f : Fld) (v : Nat) : (s.put k f v).pix = s.pix := rfl
@[simp] theorem State.put_dsc (s : State) (k : Nat) (f : Fld) (v : Nat) : (s.put k f v).dsc = s.dsc := rfl
@[simp] theorem State.put_hold (s : State) (k : Nat) (f : Fld) (v : Nat) : (s.put k f v).hold = s.hold := rfl
@[simp] theorem State.put_cor (s : State) (k : Nat) (f : Fld) (v : Nat) : (s.put k f v).cor = s.cor := rfl
@[simp] theorem State.put_lmp (s : State) (k : Nat) (f : Fld) (v : Nat) : (s.put k f v).lmp = s.lmp := rfl
@[simp] theorem State.put_red (s : State) (k : Nat) (f : Fld) (v : Nat) : (s.put k f v).red = s.red := rfl
@[simp] theorem State.put_clp (s : State) (k : Nat) (f : Fld) (v : Nat) : (s.put k f v).clp = s.clp := rfl
@[simp] theorem State.put_cdc (s : State) (k : Nat) (f : Fld) (v : Nat) : (s.put k f v).cdc = s.cdc := rfl
@[simp] theorem State.put_thm (s : State) (k : Nat) (f : Fld) (v : Nat) : (s.put k f v).thm = s.thm := rfl
@[simp] theorem State.put_pwr (s : State) (k : Nat) (f : Fld) (v : Nat) : (s.put k f v).pwr = s.pwr := rfl
@[simp] theorem State.count_pending (s : State) (k : Nat) (f : Fld) (n : Nat) : (s.count k f n).pending = s.pending := rfl
@[simp] theorem State.count_active (s : State) (k : Nat) (f : Fld) (n : Nat) : (s.count k f n).active = s.active := rfl
@[simp] theorem State.count_shWritten (s : State) (k : Nat) (f : Fld) (n : Nat) : (s.count k f n).shWritten = s.shWritten := rfl
@[simp] theorem State.count_freeCount (s : State) (k : Nat) (f : Fld) (n : Nat) : (s.count k f n).freeCount = s.freeCount := rfl
@[simp] theorem State.count_fuses (s : State) (k : Nat) (f : Fld) (n : Nat) : (s.count k f n).fuses = s.fuses := rfl
@[simp] theorem State.count_flash (s : State) (k : Nat) (f : Fld) (n : Nat) : (s.count k f n).flash = s.flash := rfl
@[simp] theorem State.count_rst (s : State) (k : Nat) (f : Fld) (n : Nat) : (s.count k f n).rst = s.rst := rfl
@[simp] theorem State.count_boot (s : State) (k : Nat) (f : Fld) (n : Nat) : (s.count k f n).boot = s.boot := rfl
@[simp] theorem State.count_ldr (s : State) (k : Nat) (f : Fld) (n : Nat) : (s.count k f n).ldr = s.ldr := rfl
@[simp] theorem State.count_bus (s : State) (k : Nat) (f : Fld) (n : Nat) : (s.count k f n).bus = s.bus := rfl
@[simp] theorem State.count_evt (s : State) (k : Nat) (f : Fld) (n : Nat) : (s.count k f n).evt = s.evt := rfl
@[simp] theorem State.count_hif (s : State) (k : Nat) (f : Fld) (n : Nat) : (s.count k f n).hif = s.hif := rfl
@[simp] theorem State.count_mbx (s : State) (k : Nat) (f : Fld) (n : Nat) : (s.count k f n).mbx = s.mbx := rfl
@[simp] theorem State.count_spdm (s : State) (k : Nat) (f : Fld) (n : Nat) : (s.count k f n).spdm = s.spdm := rfl
@[simp] theorem State.count_clock (s : State) (k : Nat) (f : Fld) (n : Nat) : (s.count k f n).clock = s.clock := rfl
@[simp] theorem State.count_queues (s : State) (k : Nat) (f : Fld) (n : Nat) : (s.count k f n).queues = s.queues := rfl
@[simp] theorem State.count_mem (s : State) (k : Nat) (f : Fld) (n : Nat) : (s.count k f n).mem = s.mem := rfl
@[simp] theorem State.count_time (s : State) (k : Nat) (f : Fld) (n : Nat) : (s.count k f n).time = s.time := rfl
@[simp] theorem State.count_seq (s : State) (k : Nat) (f : Fld) (n : Nat) : (s.count k f n).seq = s.seq := rfl
@[simp] theorem State.count_pen (s : State) (k : Nat) (f : Fld) (n : Nat) : (s.count k f n).pen = s.pen := rfl
@[simp] theorem State.count_ing (s : State) (k : Nat) (f : Fld) (n : Nat) : (s.count k f n).ing = s.ing := rfl
@[simp] theorem State.count_dma (s : State) (k : Nat) (f : Fld) (n : Nat) : (s.count k f n).dma = s.dma := rfl
@[simp] theorem State.count_qmCache (s : State) (k : Nat) (f : Fld) (n : Nat) : (s.count k f n).qmCache = s.qmCache := rfl
@[simp] theorem State.count_qmWait (s : State) (k : Nat) (f : Fld) (n : Nat) : (s.count k f n).qmWait = s.qmWait := rfl
@[simp] theorem State.count_cmp (s : State) (k : Nat) (f : Fld) (n : Nat) : (s.count k f n).cmp = s.cmp := rfl
@[simp] theorem State.count_lan (s : State) (k : Nat) (f : Fld) (n : Nat) : (s.count k f n).lan = s.lan := rfl
@[simp] theorem State.count_hal (s : State) (k : Nat) (f : Fld) (n : Nat) : (s.count k f n).hal = s.hal := rfl
@[simp] theorem State.count_pix (s : State) (k : Nat) (f : Fld) (n : Nat) : (s.count k f n).pix = s.pix := rfl
@[simp] theorem State.count_dsc (s : State) (k : Nat) (f : Fld) (n : Nat) : (s.count k f n).dsc = s.dsc := rfl
@[simp] theorem State.count_hold (s : State) (k : Nat) (f : Fld) (n : Nat) : (s.count k f n).hold = s.hold := rfl
@[simp] theorem State.count_cor (s : State) (k : Nat) (f : Fld) (n : Nat) : (s.count k f n).cor = s.cor := rfl
@[simp] theorem State.count_lmp (s : State) (k : Nat) (f : Fld) (n : Nat) : (s.count k f n).lmp = s.lmp := rfl
@[simp] theorem State.count_red (s : State) (k : Nat) (f : Fld) (n : Nat) : (s.count k f n).red = s.red := rfl
@[simp] theorem State.count_clp (s : State) (k : Nat) (f : Fld) (n : Nat) : (s.count k f n).clp = s.clp := rfl
@[simp] theorem State.count_cdc (s : State) (k : Nat) (f : Fld) (n : Nat) : (s.count k f n).cdc = s.cdc := rfl
@[simp] theorem State.count_thm (s : State) (k : Nat) (f : Fld) (n : Nat) : (s.count k f n).thm = s.thm := rfl
@[simp] theorem State.count_pwr (s : State) (k : Nat) (f : Fld) (n : Nat) : (s.count k f n).pwr = s.pwr := rfl
@[simp] theorem State.setAct_regs (s : State) (k v : Nat) : (s.setAct k v).regs = s.regs := rfl
@[simp] theorem State.setAct_pending (s : State) (k v : Nat) : (s.setAct k v).pending = s.pending := rfl
@[simp] theorem State.setAct_shWritten (s : State) (k v : Nat) : (s.setAct k v).shWritten = s.shWritten := rfl
@[simp] theorem State.setAct_freeCount (s : State) (k v : Nat) : (s.setAct k v).freeCount = s.freeCount := rfl
@[simp] theorem State.setAct_fuses (s : State) (k v : Nat) : (s.setAct k v).fuses = s.fuses := rfl
@[simp] theorem State.setAct_flash (s : State) (k v : Nat) : (s.setAct k v).flash = s.flash := rfl
@[simp] theorem State.setAct_rst (s : State) (k v : Nat) : (s.setAct k v).rst = s.rst := rfl
@[simp] theorem State.setAct_boot (s : State) (k v : Nat) : (s.setAct k v).boot = s.boot := rfl
@[simp] theorem State.setAct_ldr (s : State) (k v : Nat) : (s.setAct k v).ldr = s.ldr := rfl
@[simp] theorem State.setAct_bus (s : State) (k v : Nat) : (s.setAct k v).bus = s.bus := rfl
@[simp] theorem State.setAct_evt (s : State) (k v : Nat) : (s.setAct k v).evt = s.evt := rfl
@[simp] theorem State.setAct_hif (s : State) (k v : Nat) : (s.setAct k v).hif = s.hif := rfl
@[simp] theorem State.setAct_mbx (s : State) (k v : Nat) : (s.setAct k v).mbx = s.mbx := rfl
@[simp] theorem State.setAct_spdm (s : State) (k v : Nat) : (s.setAct k v).spdm = s.spdm := rfl
@[simp] theorem State.setAct_clock (s : State) (k v : Nat) : (s.setAct k v).clock = s.clock := rfl
@[simp] theorem State.setAct_queues (s : State) (k v : Nat) : (s.setAct k v).queues = s.queues := rfl
@[simp] theorem State.setAct_mem (s : State) (k v : Nat) : (s.setAct k v).mem = s.mem := rfl
@[simp] theorem State.setAct_time (s : State) (k v : Nat) : (s.setAct k v).time = s.time := rfl
@[simp] theorem State.setAct_seq (s : State) (k v : Nat) : (s.setAct k v).seq = s.seq := rfl
@[simp] theorem State.setAct_pen (s : State) (k v : Nat) : (s.setAct k v).pen = s.pen := rfl
@[simp] theorem State.setAct_ing (s : State) (k v : Nat) : (s.setAct k v).ing = s.ing := rfl
@[simp] theorem State.setAct_dma (s : State) (k v : Nat) : (s.setAct k v).dma = s.dma := rfl
@[simp] theorem State.setAct_qmCache (s : State) (k v : Nat) : (s.setAct k v).qmCache = s.qmCache := rfl
@[simp] theorem State.setAct_qmWait (s : State) (k v : Nat) : (s.setAct k v).qmWait = s.qmWait := rfl
@[simp] theorem State.setAct_cmp (s : State) (k v : Nat) : (s.setAct k v).cmp = s.cmp := rfl
@[simp] theorem State.setAct_lan (s : State) (k v : Nat) : (s.setAct k v).lan = s.lan := rfl
@[simp] theorem State.setAct_hal (s : State) (k v : Nat) : (s.setAct k v).hal = s.hal := rfl
@[simp] theorem State.setAct_pix (s : State) (k v : Nat) : (s.setAct k v).pix = s.pix := rfl
@[simp] theorem State.setAct_dsc (s : State) (k v : Nat) : (s.setAct k v).dsc = s.dsc := rfl
@[simp] theorem State.setAct_hold (s : State) (k v : Nat) : (s.setAct k v).hold = s.hold := rfl
@[simp] theorem State.setAct_cor (s : State) (k v : Nat) : (s.setAct k v).cor = s.cor := rfl
@[simp] theorem State.setAct_lmp (s : State) (k v : Nat) : (s.setAct k v).lmp = s.lmp := rfl
@[simp] theorem State.setAct_red (s : State) (k v : Nat) : (s.setAct k v).red = s.red := rfl
@[simp] theorem State.setAct_clp (s : State) (k v : Nat) : (s.setAct k v).clp = s.clp := rfl
@[simp] theorem State.setAct_cdc (s : State) (k v : Nat) : (s.setAct k v).cdc = s.cdc := rfl
@[simp] theorem State.setAct_thm (s : State) (k v : Nat) : (s.setAct k v).thm = s.thm := rfl
@[simp] theorem State.setAct_pwr (s : State) (k v : Nat) : (s.setAct k v).pwr = s.pwr := rfl

/-! ### A record update of a part leaves the registers and the values in force -/

@[simp] theorem State.reg_with_pending (s : State) x (k : Nat) : ({ s with pending := x } : State).reg k = s.reg k := rfl
@[simp] theorem State.reg_with_active (s : State) x (k : Nat) : ({ s with active := x } : State).reg k = s.reg k := rfl
@[simp] theorem State.reg_with_shWritten (s : State) x (k : Nat) : ({ s with shWritten := x } : State).reg k = s.reg k := rfl
@[simp] theorem State.reg_with_freeCount (s : State) x (k : Nat) : ({ s with freeCount := x } : State).reg k = s.reg k := rfl
@[simp] theorem State.reg_with_fuses (s : State) x (k : Nat) : ({ s with fuses := x } : State).reg k = s.reg k := rfl
@[simp] theorem State.reg_with_flash (s : State) x (k : Nat) : ({ s with flash := x } : State).reg k = s.reg k := rfl
@[simp] theorem State.reg_with_rst (s : State) x (k : Nat) : ({ s with rst := x } : State).reg k = s.reg k := rfl
@[simp] theorem State.reg_with_boot (s : State) x (k : Nat) : ({ s with boot := x } : State).reg k = s.reg k := rfl
@[simp] theorem State.reg_with_ldr (s : State) x (k : Nat) : ({ s with ldr := x } : State).reg k = s.reg k := rfl
@[simp] theorem State.reg_with_bus (s : State) x (k : Nat) : ({ s with bus := x } : State).reg k = s.reg k := rfl
@[simp] theorem State.reg_with_evt (s : State) x (k : Nat) : ({ s with evt := x } : State).reg k = s.reg k := rfl
@[simp] theorem State.reg_with_hif (s : State) x (k : Nat) : ({ s with hif := x } : State).reg k = s.reg k := rfl
@[simp] theorem State.reg_with_mbx (s : State) x (k : Nat) : ({ s with mbx := x } : State).reg k = s.reg k := rfl
@[simp] theorem State.reg_with_spdm (s : State) x (k : Nat) : ({ s with spdm := x } : State).reg k = s.reg k := rfl
@[simp] theorem State.reg_with_clock (s : State) x (k : Nat) : ({ s with clock := x } : State).reg k = s.reg k := rfl
@[simp] theorem State.reg_with_queues (s : State) x (k : Nat) : ({ s with queues := x } : State).reg k = s.reg k := rfl
@[simp] theorem State.reg_with_mem (s : State) x (k : Nat) : ({ s with mem := x } : State).reg k = s.reg k := rfl
@[simp] theorem State.reg_with_time (s : State) x (k : Nat) : ({ s with time := x } : State).reg k = s.reg k := rfl
@[simp] theorem State.reg_with_seq (s : State) x (k : Nat) : ({ s with seq := x } : State).reg k = s.reg k := rfl
@[simp] theorem State.reg_with_pen (s : State) x (k : Nat) : ({ s with pen := x } : State).reg k = s.reg k := rfl
@[simp] theorem State.reg_with_ing (s : State) x (k : Nat) : ({ s with ing := x } : State).reg k = s.reg k := rfl
@[simp] theorem State.reg_with_dma (s : State) x (k : Nat) : ({ s with dma := x } : State).reg k = s.reg k := rfl
@[simp] theorem State.reg_with_qmCache (s : State) x (k : Nat) : ({ s with qmCache := x } : State).reg k = s.reg k := rfl
@[simp] theorem State.reg_with_qmWait (s : State) x (k : Nat) : ({ s with qmWait := x } : State).reg k = s.reg k := rfl
@[simp] theorem State.reg_with_cmp (s : State) x (k : Nat) : ({ s with cmp := x } : State).reg k = s.reg k := rfl
@[simp] theorem State.reg_with_lan (s : State) x (k : Nat) : ({ s with lan := x } : State).reg k = s.reg k := rfl
@[simp] theorem State.reg_with_hal (s : State) x (k : Nat) : ({ s with hal := x } : State).reg k = s.reg k := rfl
@[simp] theorem State.reg_with_pix (s : State) x (k : Nat) : ({ s with pix := x } : State).reg k = s.reg k := rfl
@[simp] theorem State.reg_with_dsc (s : State) x (k : Nat) : ({ s with dsc := x } : State).reg k = s.reg k := rfl
@[simp] theorem State.reg_with_hold (s : State) x (k : Nat) : ({ s with hold := x } : State).reg k = s.reg k := rfl
@[simp] theorem State.reg_with_cor (s : State) x (k : Nat) : ({ s with cor := x } : State).reg k = s.reg k := rfl
@[simp] theorem State.reg_with_lmp (s : State) x (k : Nat) : ({ s with lmp := x } : State).reg k = s.reg k := rfl
@[simp] theorem State.reg_with_red (s : State) x (k : Nat) : ({ s with red := x } : State).reg k = s.reg k := rfl
@[simp] theorem State.reg_with_clp (s : State) x (k : Nat) : ({ s with clp := x } : State).reg k = s.reg k := rfl
@[simp] theorem State.reg_with_cdc (s : State) x (k : Nat) : ({ s with cdc := x } : State).reg k = s.reg k := rfl
@[simp] theorem State.reg_with_thm (s : State) x (k : Nat) : ({ s with thm := x } : State).reg k = s.reg k := rfl
@[simp] theorem State.reg_with_pwr (s : State) x (k : Nat) : ({ s with pwr := x } : State).reg k = s.reg k := rfl
@[simp] theorem State.get_with_pending (s : State) x (k : Nat) (g : Fld) : ({ s with pending := x } : State).get k g = s.get k g := rfl
@[simp] theorem State.get_with_active (s : State) x (k : Nat) (g : Fld) : ({ s with active := x } : State).get k g = s.get k g := rfl
@[simp] theorem State.get_with_shWritten (s : State) x (k : Nat) (g : Fld) : ({ s with shWritten := x } : State).get k g = s.get k g := rfl
@[simp] theorem State.get_with_freeCount (s : State) x (k : Nat) (g : Fld) : ({ s with freeCount := x } : State).get k g = s.get k g := rfl
@[simp] theorem State.get_with_fuses (s : State) x (k : Nat) (g : Fld) : ({ s with fuses := x } : State).get k g = s.get k g := rfl
@[simp] theorem State.get_with_flash (s : State) x (k : Nat) (g : Fld) : ({ s with flash := x } : State).get k g = s.get k g := rfl
@[simp] theorem State.get_with_rst (s : State) x (k : Nat) (g : Fld) : ({ s with rst := x } : State).get k g = s.get k g := rfl
@[simp] theorem State.get_with_boot (s : State) x (k : Nat) (g : Fld) : ({ s with boot := x } : State).get k g = s.get k g := rfl
@[simp] theorem State.get_with_ldr (s : State) x (k : Nat) (g : Fld) : ({ s with ldr := x } : State).get k g = s.get k g := rfl
@[simp] theorem State.get_with_bus (s : State) x (k : Nat) (g : Fld) : ({ s with bus := x } : State).get k g = s.get k g := rfl
@[simp] theorem State.get_with_evt (s : State) x (k : Nat) (g : Fld) : ({ s with evt := x } : State).get k g = s.get k g := rfl
@[simp] theorem State.get_with_hif (s : State) x (k : Nat) (g : Fld) : ({ s with hif := x } : State).get k g = s.get k g := rfl
@[simp] theorem State.get_with_mbx (s : State) x (k : Nat) (g : Fld) : ({ s with mbx := x } : State).get k g = s.get k g := rfl
@[simp] theorem State.get_with_spdm (s : State) x (k : Nat) (g : Fld) : ({ s with spdm := x } : State).get k g = s.get k g := rfl
@[simp] theorem State.get_with_clock (s : State) x (k : Nat) (g : Fld) : ({ s with clock := x } : State).get k g = s.get k g := rfl
@[simp] theorem State.get_with_queues (s : State) x (k : Nat) (g : Fld) : ({ s with queues := x } : State).get k g = s.get k g := rfl
@[simp] theorem State.get_with_mem (s : State) x (k : Nat) (g : Fld) : ({ s with mem := x } : State).get k g = s.get k g := rfl
@[simp] theorem State.get_with_time (s : State) x (k : Nat) (g : Fld) : ({ s with time := x } : State).get k g = s.get k g := rfl
@[simp] theorem State.get_with_seq (s : State) x (k : Nat) (g : Fld) : ({ s with seq := x } : State).get k g = s.get k g := rfl
@[simp] theorem State.get_with_pen (s : State) x (k : Nat) (g : Fld) : ({ s with pen := x } : State).get k g = s.get k g := rfl
@[simp] theorem State.get_with_ing (s : State) x (k : Nat) (g : Fld) : ({ s with ing := x } : State).get k g = s.get k g := rfl
@[simp] theorem State.get_with_dma (s : State) x (k : Nat) (g : Fld) : ({ s with dma := x } : State).get k g = s.get k g := rfl
@[simp] theorem State.get_with_qmCache (s : State) x (k : Nat) (g : Fld) : ({ s with qmCache := x } : State).get k g = s.get k g := rfl
@[simp] theorem State.get_with_qmWait (s : State) x (k : Nat) (g : Fld) : ({ s with qmWait := x } : State).get k g = s.get k g := rfl
@[simp] theorem State.get_with_cmp (s : State) x (k : Nat) (g : Fld) : ({ s with cmp := x } : State).get k g = s.get k g := rfl
@[simp] theorem State.get_with_lan (s : State) x (k : Nat) (g : Fld) : ({ s with lan := x } : State).get k g = s.get k g := rfl
@[simp] theorem State.get_with_hal (s : State) x (k : Nat) (g : Fld) : ({ s with hal := x } : State).get k g = s.get k g := rfl
@[simp] theorem State.get_with_pix (s : State) x (k : Nat) (g : Fld) : ({ s with pix := x } : State).get k g = s.get k g := rfl
@[simp] theorem State.get_with_dsc (s : State) x (k : Nat) (g : Fld) : ({ s with dsc := x } : State).get k g = s.get k g := rfl
@[simp] theorem State.get_with_hold (s : State) x (k : Nat) (g : Fld) : ({ s with hold := x } : State).get k g = s.get k g := rfl
@[simp] theorem State.get_with_cor (s : State) x (k : Nat) (g : Fld) : ({ s with cor := x } : State).get k g = s.get k g := rfl
@[simp] theorem State.get_with_lmp (s : State) x (k : Nat) (g : Fld) : ({ s with lmp := x } : State).get k g = s.get k g := rfl
@[simp] theorem State.get_with_red (s : State) x (k : Nat) (g : Fld) : ({ s with red := x } : State).get k g = s.get k g := rfl
@[simp] theorem State.get_with_clp (s : State) x (k : Nat) (g : Fld) : ({ s with clp := x } : State).get k g = s.get k g := rfl
@[simp] theorem State.get_with_cdc (s : State) x (k : Nat) (g : Fld) : ({ s with cdc := x } : State).get k g = s.get k g := rfl
@[simp] theorem State.get_with_thm (s : State) x (k : Nat) (g : Fld) : ({ s with thm := x } : State).get k g = s.get k g := rfl
@[simp] theorem State.get_with_pwr (s : State) x (k : Nat) (g : Fld) : ({ s with pwr := x } : State).get k g = s.get k g := rfl

/-! ### Memory -/

/-- An access to the HBM sets at most its state (R112). -/
theorem State.hbmTouch_eq (s : State) : s.hbmTouch = s ∨ s.hbmTouch = s.hbmTo 1 := by
  unfold State.hbmTouch; split
  · exact .inr rfl
  · exact .inl rfl

@[simp] theorem State.mem_memWrite (s : State) (a : Nat) (bs : List Byte) :
    (s.memWrite a bs).mem = writeBytes s.mem a (bs.take (s.memSize - a)) := rfl

/-- A byte after a write of memory, which takes the bytes that lie in it. -/
theorem State.memByte_memWrite (s : State) (a : Nat) (bs : List Byte) (x : Nat) : (s.memWrite a bs).memByte x =
    if a ≤ x ∧ x < a + (bs.take (s.memSize - a)).length then (bs.take (s.memSize - a)).getD (x - a) 0 else s.memByte x :=
  sRead_writeBytes _ _ _ _

/-- A write of memory is of no register but the HBM's state, which it wakes (R112). -/
theorem State.reg_memWrite (s : State) (a : Nat) (bs : List Byte) {k : Nat} (h : k ≠ R.hbmStatus) :
    (s.memWrite a bs).reg k = s.reg k := by
  show s.hbmTouch.reg k = s.reg k
  rcases s.hbmTouch_eq with e | e <;> rw [e]
  exact State.reg_put_ne s _ _ (Ne.symm h)

@[simp] theorem State.reg_setQueue (s : State) (q : Nat) (x : QueueCtx) (k : Nat) : (s.setQueue q x).reg k = s.reg k := rfl
@[simp] theorem State.mem_setQueue (s : State) (q : Nat) (x : QueueCtx) : (s.setQueue q x).mem = s.mem := rfl

/-! ### The canonical forms -/

theorem State.Canonical.setReg {s : State} (h : s.Canonical) (k v : Nat) : (s.setReg k v).Canonical :=
  ⟨h.1, sWf_sWrite k v h.2.1, h.2.2⟩

theorem State.Canonical.put {s : State} (h : s.Canonical) (k : Nat) (f : Fld) (v : Nat) : (s.put k f v).Canonical := h.setReg _ _

theorem State.Canonical.count {s : State} (h : s.Canonical) (k : Nat) (f : Fld) (n : Nat) : (s.count k f n).Canonical := h.put _ _ _

theorem State.Canonical.setAct {s : State} (h : s.Canonical) (k v : Nat) : (s.setAct k v).Canonical :=
  ⟨h.1, h.2.1, sWf_sWrite k v h.2.2⟩

theorem State.Canonical.memWrite {s : State} (h : s.Canonical) (a : Nat) (bs : List Byte) : (s.memWrite a bs).Canonical := by
  refine ⟨memWf_writeBytes a _ h.1, ?_⟩
  show sWf regReset s.hbmTouch.regs = true ∧ sWf regReset s.hbmTouch.active = true
  rcases s.hbmTouch_eq with e | e <;> rw [e]
  · exact h.2
  · exact (h.put _ _ _).2

theorem State.Canonical.setQueue {s : State} (h : s.Canonical) (q : Nat) (x : QueueCtx) : (s.setQueue q x).Canonical := h

end Sys2Proof.Machine
end

