-- ==== Sys2Proof/Laws/Frame.lean ====
section
/-! SUPPORT. Frames: how they compose, and the frame of each shared operation: setting a register, raising an event. -/

namespace Sys2Proof.Machine

theorem State.agree_refl (s : State) (p : Part) : s.agree s p := by cases p <;> rfl

theorem State.agree_trans {s t u : State} {p : Part} (h : s.agree t p) (k : t.agree u p) : s.agree u p := by
  cases p <;> exact Eq.trans k h

theorem State.Frame.refl (s : State) (ps : List Part) (ks : List Nat) : s.Frame s ps ks :=
  ⟨fun p _ => s.agree_refl p, fun _ _ _ => rfl⟩

theorem State.Frame.trans {s t u : State} {ps : List Part} {ks : List Nat} (h : s.Frame t ps ks) (k : t.Frame u ps ks) :
    s.Frame u ps ks :=
  ⟨fun p hp => State.agree_trans (h.1 p hp) (k.1 p hp), fun x hx he => (k.2 x hx he).trans (h.2 x hx he)⟩

/-- A frame with more parts and more registers, or without the events, says less. -/
theorem State.Frame.mono {s t : State} {ps qs : List Part} {ks ls : List Nat} (h : s.Frame t ps ks)
    (hp : ∀ p, p ∈ ps → p ∈ qs) (hk : ∀ k, k ∈ ks → k ∈ ls) : s.Frame t qs ls :=
  ⟨fun p hq => h.1 p fun hp' => hq (hp p hp'), fun k hl he => h.2 k (fun h' => hl (hk k h')) fun hv => he (hp _ hv)⟩

/-- A register that the frame names may be set. -/
theorem State.Frame.setReg {s t : State} {ps : List Part} {ks : List Nat} (h : s.Frame t ps ks) {k : Nat} (v : Nat) (hk : k ∈ ks) :
    s.Frame (t.setReg k v) ps ks := by
  refine h.trans ⟨fun p _ => ?_, fun x hx _ => State.reg_setReg_ne _ _ fun e => hx (e ▸ hk)⟩
  cases p <;> rfl

theorem State.Frame.put {s t : State} {ps : List Part} {ks : List Nat} (h : s.Frame t ps ks) {k : Nat} (f : Fld) (v : Nat)
    (hk : k ∈ ks) : s.Frame (t.put k f v) ps ks := h.setReg _ hk

theorem State.Frame.count {s t : State} {ps : List Part} {ks : List Nat} (h : s.Frame t ps ks) {k : Nat} (f : Fld) (n : Nat)
    (hk : k ∈ ks) : s.Frame (t.count k f n) ps ks := h.put _ _ hk

/-- A register of the event delivery may be set where the frame admits events. -/
theorem State.Frame.setEventReg {s t : State} {ps : List Part} {ks : List Nat} (h : s.Frame t ps ks) {k : Nat} (v : Nat)
    (hk : eventReg k = true) (he : Part.evt ∈ ps) : s.Frame (t.setReg k v) ps ks := by
  refine h.trans ⟨fun p _ => ?_, fun x _ hx => State.reg_setReg_ne _ _ fun e => ?_⟩
  · cases p <;> rfl
  · have := hx he; rw [← e, hk] at this; cases this

theorem State.Frame.putEvent {s t : State} {ps : List Part} {ks : List Nat} (h : s.Frame t ps ks) {k : Nat} (f : Fld) (v : Nat)
    (hk : eventReg k = true) (he : Part.evt ∈ ps) : s.Frame (t.put k f v) ps ks := h.setEventReg _ hk he

theorem State.Frame.setAct {s t : State} {ps : List Part} {ks : List Nat} (h : s.Frame t ps ks) (k v : Nat) (hp : Part.active ∈ ps) :
    s.Frame (t.setAct k v) ps ks := by
  refine h.trans ⟨fun p hq => ?_, fun _ _ _ => rfl⟩
  cases p <;> first | rfl | exact absurd hp hq

/-- A fold of steps that each keep a frame keeps it. -/
theorem State.Frame.foldl {α : Type} {s : State} {ps : List Part} {ks : List Nat} (f : State → α → State) (l : List α)
    (hf : ∀ t a, a ∈ l → s.Frame t ps ks → s.Frame (f t a) ps ks) {t : State} (h : s.Frame t ps ks) : s.Frame (l.foldl f t) ps ks := by
  induction l generalizing t with
  | nil => exact h
  | cons a r ih =>
    exact ih (fun t b hb ht => hf t b (List.mem_cons_of_mem _ hb) ht) (hf t a List.mem_cons_self h)

/-! ### A part that the frame names may be set -/

theorem State.Frame.set_pending {s t : State} {ps : List Part} {ks : List Nat} (h : s.Frame t ps ks) (hp : Part.pending ∈ ps) x :
    s.Frame { t with pending := x } ps ks := by
  refine h.trans ⟨fun p hq => ?_, fun _ _ _ => rfl⟩
  cases p <;> first | rfl | exact absurd hp hq

theorem State.Frame.set_active {s t : State} {ps : List Part} {ks : List Nat} (h : s.Frame t ps ks) (hp : Part.active ∈ ps) x :
    s.Frame { t with active := x } ps ks := by
  refine h.trans ⟨fun p hq => ?_, fun _ _ _ => rfl⟩
  cases p <;> first | rfl | exact absurd hp hq

theorem State.Frame.set_shWritten {s t : State} {ps : List Part} {ks : List Nat} (h : s.Frame t ps ks) (hp : Part.shWritten ∈ ps) x :
    s.Frame { t with shWritten := x } ps ks := by
  refine h.trans ⟨fun p hq => ?_, fun _ _ _ => rfl⟩
  cases p <;> first | rfl | exact absurd hp hq

theorem State.Frame.set_freeCount {s t : State} {ps : List Part} {ks : List Nat} (h : s.Frame t ps ks) (hp : Part.freeCount ∈ ps) x :
    s.Frame { t with freeCount := x } ps ks := by
  refine h.trans ⟨fun p hq => ?_, fun _ _ _ => rfl⟩
  cases p <;> first | rfl | exact absurd hp hq

theorem State.Frame.set_fuses {s t : State} {ps : List Part} {ks : List Nat} (h : s.Frame t ps ks) (hp : Part.fuses ∈ ps) x :
    s.Frame { t with fuses := x } ps ks := by
  refine h.trans ⟨fun p hq => ?_, fun _ _ _ => rfl⟩
  cases p <;> first | rfl | exact absurd hp hq

theorem State.Frame.set_flash {s t : State} {ps : List Part} {ks : List Nat} (h : s.Frame t ps ks) (hp : Part.flash ∈ ps) x :
    s.Frame { t with flash := x } ps ks := by
  refine h.trans ⟨fun p hq => ?_, fun _ _ _ => rfl⟩
  cases p <;> first | rfl | exact absurd hp hq

theorem State.Frame.set_boot {s t : State} {ps : List Part} {ks : List Nat} (h : s.Frame t ps ks) (hp : Part.boot ∈ ps) x :
    s.Frame { t with boot := x } ps ks := by
  refine h.trans ⟨fun p hq => ?_, fun _ _ _ => rfl⟩
  cases p <;> first | rfl | exact absurd hp hq

theorem State.Frame.set_ldr {s t : State} {ps : List Part} {ks : List Nat} (h : s.Frame t ps ks) (hp : Part.ldr ∈ ps) x :
    s.Frame { t with ldr := x } ps ks := by
  refine h.trans ⟨fun p hq => ?_, fun _ _ _ => rfl⟩
  cases p <;> first | rfl | exact absurd hp hq

theorem State.Frame.set_bus {s t : State} {ps : List Part} {ks : List Nat} (h : s.Frame t ps ks) (hp : Part.bus ∈ ps) x :
    s.Frame { t with bus := x } ps ks := by
  refine h.trans ⟨fun p hq => ?_, fun _ _ _ => rfl⟩
  cases p <;> first | rfl | exact absurd hp hq

theorem State.Frame.set_evt {s t : State} {ps : List Part} {ks : List Nat} (h : s.Frame t ps ks) (hp : Part.evt ∈ ps) x :
    s.Frame { t with evt := x } ps ks := by
  refine h.trans ⟨fun p hq => ?_, fun _ _ _ => rfl⟩
  cases p <;> first | rfl | exact absurd hp hq

theorem State.Frame.set_mbx {s t : State} {ps : List Part} {ks : List Nat} (h : s.Frame t ps ks) (hp : Part.mbx ∈ ps) x :
    s.Frame { t with mbx := x } ps ks := by
  refine h.trans ⟨fun p hq => ?_, fun _ _ _ => rfl⟩
  cases p <;> first | rfl | exact absurd hp hq

theorem State.Frame.set_spdm {s t : State} {ps : List Part} {ks : List Nat} (h : s.Frame t ps ks) (hp : Part.spdm ∈ ps) x :
    s.Frame { t with spdm := x } ps ks := by
  refine h.trans ⟨fun p hq => ?_, fun _ _ _ => rfl⟩
  cases p <;> first | rfl | exact absurd hp hq

theorem State.Frame.set_clock {s t : State} {ps : List Part} {ks : List Nat} (h : s.Frame t ps ks) (hp : Part.clock ∈ ps) x :
    s.Frame { t with clock := x } ps ks := by
  refine h.trans ⟨fun p hq => ?_, fun _ _ _ => rfl⟩
  cases p <;> first | rfl | exact absurd hp hq

theorem State.Frame.set_queues {s t : State} {ps : List Part} {ks : List Nat} (h : s.Frame t ps ks) (hp : Part.queues ∈ ps) x :
    s.Frame { t with queues := x } ps ks := by
  refine h.trans ⟨fun p hq => ?_, fun _ _ _ => rfl⟩
  cases p <;> first | rfl | exact absurd hp hq

theorem State.Frame.set_mem {s t : State} {ps : List Part} {ks : List Nat} (h : s.Frame t ps ks) (hp : Part.mem ∈ ps) x :
    s.Frame { t with mem := x } ps ks := by
  refine h.trans ⟨fun p hq => ?_, fun _ _ _ => rfl⟩
  cases p <;> first | rfl | exact absurd hp hq

theorem State.Frame.set_time {s t : State} {ps : List Part} {ks : List Nat} (h : s.Frame t ps ks) (hp : Part.time ∈ ps) x :
    s.Frame { t with time := x } ps ks := by
  refine h.trans ⟨fun p hq => ?_, fun _ _ _ => rfl⟩
  cases p <;> first | rfl | exact absurd hp hq

theorem State.Frame.set_seq {s t : State} {ps : List Part} {ks : List Nat} (h : s.Frame t ps ks) (hp : Part.seq ∈ ps) x :
    s.Frame { t with seq := x } ps ks := by
  refine h.trans ⟨fun p hq => ?_, fun _ _ _ => rfl⟩
  cases p <;> first | rfl | exact absurd hp hq

theorem State.Frame.set_pen {s t : State} {ps : List Part} {ks : List Nat} (h : s.Frame t ps ks) (hp : Part.pen ∈ ps) x :
    s.Frame { t with pen := x } ps ks := by
  refine h.trans ⟨fun p hq => ?_, fun _ _ _ => rfl⟩
  cases p <;> first | rfl | exact absurd hp hq

theorem State.Frame.set_ing {s t : State} {ps : List Part} {ks : List Nat} (h : s.Frame t ps ks) (hp : Part.ing ∈ ps) x :
    s.Frame { t with ing := x } ps ks := by
  refine h.trans ⟨fun p hq => ?_, fun _ _ _ => rfl⟩
  cases p <;> first | rfl | exact absurd hp hq

theorem State.Frame.set_dma {s t : State} {ps : List Part} {ks : List Nat} (h : s.Frame t ps ks) (hp : Part.dma ∈ ps) x :
    s.Frame { t with dma := x } ps ks := by
  refine h.trans ⟨fun p hq => ?_, fun _ _ _ => rfl⟩
  cases p <;> first | rfl | exact absurd hp hq

theorem State.Frame.set_qmCache {s t : State} {ps : List Part} {ks : List Nat} (h : s.Frame t ps ks) (hp : Part.qmCache ∈ ps) x :
    s.Frame { t with qmCache := x } ps ks := by
  refine h.trans ⟨fun p hq => ?_, fun _ _ _ => rfl⟩
  cases p <;> first | rfl | exact absurd hp hq

theorem State.Frame.set_qmWait {s t : State} {ps : List Part} {ks : List Nat} (h : s.Frame t ps ks) (hp : Part.qmWait ∈ ps) x :
    s.Frame { t with qmWait := x } ps ks := by
  refine h.trans ⟨fun p hq => ?_, fun _ _ _ => rfl⟩
  cases p <;> first | rfl | exact absurd hp hq

theorem State.Frame.set_cmp {s t : State} {ps : List Part} {ks : List Nat} (h : s.Frame t ps ks) (hp : Part.cmp ∈ ps) x :
    s.Frame { t with cmp := x } ps ks := by
  refine h.trans ⟨fun p hq => ?_, fun _ _ _ => rfl⟩
  cases p <;> first | rfl | exact absurd hp hq

theorem State.Frame.set_lan {s t : State} {ps : List Part} {ks : List Nat} (h : s.Frame t ps ks) (hp : Part.lan ∈ ps) x :
    s.Frame { t with lan := x } ps ks := by
  refine h.trans ⟨fun p hq => ?_, fun _ _ _ => rfl⟩
  cases p <;> first | rfl | exact absurd hp hq

theorem State.Frame.set_hal {s t : State} {ps : List Part} {ks : List Nat} (h : s.Frame t ps ks) (hp : Part.hal ∈ ps) x :
    s.Frame { t with hal := x } ps ks := by
  refine h.trans ⟨fun p hq => ?_, fun _ _ _ => rfl⟩
  cases p <;> first | rfl | exact absurd hp hq

theorem State.Frame.set_pix {s t : State} {ps : List Part} {ks : List Nat} (h : s.Frame t ps ks) (hp : Part.pix ∈ ps) x :
    s.Frame { t with pix := x } ps ks := by
  refine h.trans ⟨fun p hq => ?_, fun _ _ _ => rfl⟩
  cases p <;> first | rfl | exact absurd hp hq

theorem State.Frame.set_dsc {s t : State} {ps : List Part} {ks : List Nat} (h : s.Frame t ps ks) (hp : Part.dsc ∈ ps) x :
    s.Frame { t with dsc := x } ps ks := by
  refine h.trans ⟨fun p hq => ?_, fun _ _ _ => rfl⟩
  cases p <;> first | rfl | exact absurd hp hq

theorem State.Frame.set_hold {s t : State} {ps : List Part} {ks : List Nat} (h : s.Frame t ps ks) (hp : Part.hold ∈ ps) x :
    s.Frame { t with hold := x } ps ks := by
  refine h.trans ⟨fun p hq => ?_, fun _ _ _ => rfl⟩
  cases p <;> first | rfl | exact absurd hp hq

theorem State.Frame.set_cor {s t : State} {ps : List Part} {ks : List Nat} (h : s.Frame t ps ks) (hp : Part.cor ∈ ps) x :
    s.Frame { t with cor := x } ps ks := by
  refine h.trans ⟨fun p hq => ?_, fun _ _ _ => rfl⟩
  cases p <;> first | rfl | exact absurd hp hq

theorem State.Frame.set_lmp {s t : State} {ps : List Part} {ks : List Nat} (h : s.Frame t ps ks) (hp : Part.lmp ∈ ps) x :
    s.Frame { t with lmp := x } ps ks := by
  refine h.trans ⟨fun p hq => ?_, fun _ _ _ => rfl⟩
  cases p <;> first | rfl | exact absurd hp hq

theorem State.Frame.set_red {s t : State} {ps : List Part} {ks : List Nat} (h : s.Frame t ps ks) (hp : Part.red ∈ ps) x :
    s.Frame { t with red := x } ps ks := by
  refine h.trans ⟨fun p hq => ?_, fun _ _ _ => rfl⟩
  cases p <;> first | rfl | exact absurd hp hq

theorem State.Frame.set_clp {s t : State} {ps : List Part} {ks : List Nat} (h : s.Frame t ps ks) (hp : Part.clp ∈ ps) x :
    s.Frame { t with clp := x } ps ks := by
  refine h.trans ⟨fun p hq => ?_, fun _ _ _ => rfl⟩
  cases p <;> first | rfl | exact absurd hp hq

theorem State.Frame.set_cdc {s t : State} {ps : List Part} {ks : List Nat} (h : s.Frame t ps ks) (hp : Part.cdc ∈ ps) x :
    s.Frame { t with cdc := x } ps ks := by
  refine h.trans ⟨fun p hq => ?_, fun _ _ _ => rfl⟩
  cases p <;> first | rfl | exact absurd hp hq

theorem State.Frame.set_thm {s t : State} {ps : List Part} {ks : List Nat} (h : s.Frame t ps ks) (hp : Part.thm ∈ ps) x :
    s.Frame { t with thm := x } ps ks := by
  refine h.trans ⟨fun p hq => ?_, fun _ _ _ => rfl⟩
  cases p <;> first | rfl | exact absurd hp hq

theorem State.Frame.set_pwr {s t : State} {ps : List Part} {ks : List Nat} (h : s.Frame t ps ks) (hp : Part.pwr ∈ ps) x :
    s.Frame { t with pwr := x } ps ks := by
  refine h.trans ⟨fun p hq => ?_, fun _ _ _ => rfl⟩
  cases p <;> first | rfl | exact absurd hp hq

theorem State.Frame.set_rst {s t : State} {ps : List Part} {ks : List Nat} (h : s.Frame t ps ks) (hp : Part.rst ∈ ps)
    (x) (hx : x.fatals = t.rst.fatals ∨ Part.fatals ∈ ps) : s.Frame { t with rst := x } ps ks := by
  refine h.trans ⟨fun p hq => ?_, fun _ _ _ => rfl⟩
  cases p <;> first | rfl | exact absurd hp hq | (rcases hx with hx | hx; exact hx; exact absurd hx hq)

theorem State.Frame.set_hif {s t : State} {ps : List Part} {ks : List Nat} (h : s.Frame t ps ks) (hp : Part.hif ∈ ps)
    (x) (hx : x.msix = t.hif.msix ∨ Part.msix ∈ ps) : s.Frame { t with hif := x } ps ks := by
  refine h.trans ⟨fun p hq => ?_, fun _ _ _ => rfl⟩
  cases p <;> first | rfl | exact absurd hp hq | (rcases hx with hx | hx; exact hx; exact absurd hx hq)


/-! ### Events -/

theorem eventReg_of_evt {k : Nat} (h : 0x50000 ≤ k ∧ k < 0x60000) : eventReg k = true := by simp [eventReg, h]

theorem eventReg_of_pba {v : Nat} (h : v < 2048) : eventReg (R.hifPba (v / 32)) = true := by
  have : v / 32 < 64 := by omega
  unfold eventReg R.hifPba
  rw [Bool.or_eq_true, decide_eq_true_eq, decide_eq_true_eq]; omega

/-- An MSI-X message changes the pending bits or the messages sent. -/
theorem State.Frame.sendMsix {s t : State} {ps : List Part} {ks : List Nat} (h : s.Frame t ps ks) {v : Nat} (hv : v < 2048)
    (he : Part.evt ∈ ps) (hm : Part.msix ∈ ps) : s.Frame (t.sendMsix v) ps ks := by
  unfold State.sendMsix
  dsimp only
  split
  · split
    · exact h.putEvent _ _ (eventReg_of_pba hv) he
    · refine h.trans ⟨fun p hq => ?_, fun _ _ _ => rfl⟩
      cases p <;> first | rfl | exact absurd hm hq
  · exact h

/-- A capture changes the registers of EVT, and may send a message (R406, R407). -/
theorem State.Frame.capture {s t : State} {ps : List Part} {ks : List Nat} (h : s.Frame t ps ks) (r : EventRec) (hb : r.block < 256)
    (he : Part.evt ∈ ps) (hm : Part.msix ∈ ps) : s.Frame (t.capture r) ps ks := by
  unfold State.capture
  dsimp only
  split
  · exact h
  · rename_i hr
    have hslot : capSlot r.block r.sev < 768 := by unfold capSlot; omega
    have hc : eventReg (R.evtCapCtrl (capSlot r.block r.sev)) = true :=
      eventReg_of_evt (by simp only [R.evtCapCtrl]; omega)
    split
    · exact (h.putEvent _ _ hc he).putEvent _ _ hc he
    · have h1 : s.Frame (t.setCapRecord (capSlot r.block r.sev) r.words) ps ks := by
        refine State.Frame.foldl _ _ (fun u i hi hu => hu.setEventReg _ ?_ he) h
        have hi' : i < 8 := List.mem_range.mp hi
        exact eventReg_of_evt (by simp only [R.evtCapRecord]; omega)
      have h2 := (h1.setEventReg (2 ^ 16) hc he).putEvent ⟨r.block, 1⟩ 1
        (k := R.evtCapPending (r.sev - 2)) (eventReg_of_evt (by simp only [R.evtCapPending]; omega)) he
      split
      · exact h2.sendMsix (State.get_lt _ _ _) he hm
      · exact h2

/-- A record on its way to a ring changes the delivery of events (R409 to R411). -/
theorem State.Frame.toRing {s t : State} {ps : List Part} {ks : List Nat} (h : s.Frame t ps ks) {ring : Nat} (hr : ring < 64)
    (r : EventRec) (he : Part.evt ∈ ps) : s.Frame (t.toRing ring r) ps ks := by
  unfold State.toRing
  dsimp only
  split
  · split
    · exact (h.putEvent _ _ (eventReg_of_evt (by simp only [R.evtRingLost]; omega)) he).set_evt he _
    · exact h.set_evt he _
  · exact h

theorem State.Frame.routeRecord {s t : State} {ps : List Part} {ks : List Nat} (h : s.Frame t ps ks) (r : EventRec)
    (he : Part.evt ∈ ps) : s.Frame (t.routeRecord r) ps ks := by
  unfold State.routeRecord
  dsimp only
  split
  · exact h
  · split
    · split
      · exact h.toRing (State.get_lt t _ F.evtRoute_LOW_RING) r he
      · exact h
    · split
      · exact h.toRing (State.get_lt t _ F.evtRoute_HIGH_RING) r he
      · exact h

theorem State.Frame.toUpstream {s t : State} {ps : List Part} {ks : List Nat} (h : s.Frame t ps ks) (r : EventRec)
    (he : Part.evt ∈ ps) : s.Frame (t.toUpstream r) ps ks := by
  have hu : eventReg R.evtUpStatus = true := rfl
  unfold State.toUpstream
  dsimp only
  split
  · exact h
  · split
    · exact (h.putEvent _ _ hu he).set_evt he _
    · exact (h.set_evt he _).putEvent _ _ hu he

theorem State.Frame.emit {s t : State} {ps : List Part} {ks : List Nat} (h : s.Frame t ps ks) (r : EventRec)
    (he : Part.evt ∈ ps) : s.Frame (t.emit r) ps ks := by
  unfold State.emit
  split
  · exact h.toUpstream r he
  · exact h.routeRecord r he

/-- What raising a record changes: the delivery of events, the messages sent, and for a FATAL event the events that wait. -/
theorem State.Frame.raiseRecord {s t : State} {ps : List Part} {ks : List Nat} (h : s.Frame t ps ks) (r : EventRec) (hb : r.block < 256)
    (he : Part.evt ∈ ps) (hm : Part.msix ∈ ps) (hf : Part.fatals ∈ ps) : s.Frame (t.raiseRecord r) ps ks := by
  have h1 := (h.capture r hb he hm).emit r he
  unfold State.raiseRecord
  dsimp only
  split
  · refine h1.trans ⟨fun p hq => ?_, fun _ _ _ => rfl⟩
    cases p <;> first | rfl | exact absurd hf hq
  · exact h1

theorem Block.id_lt (b : Block) : b.id < 256 := by cases b <;> decide

/-- What raising an event changes. -/
theorem State.Frame.raise {s t : State} {ps : List Part} {ks : List Nat} (h : s.Frame t ps ks) (b : Block) (c sev unit : Nat)
    (d : List Nat) (he : Part.evt ∈ ps) (hm : Part.msix ∈ ps) (hf : Part.fatals ∈ ps) : s.Frame (t.raise b c sev unit d) ps ks :=
  h.raiseRecord _ (Block.id_lt b) he hm hf

theorem State.Frame.progErrorIn {s t : State} {ps : List Part} {ks : List Nat} (h : s.Frame t ps ks) (b : Block) (off v : Nat)
    (req : Requester) (he : Part.evt ∈ ps) (hm : Part.msix ∈ ps) (hf : Part.fatals ∈ ps) : s.Frame (t.progErrorIn b off v req) ps ks :=
  h.raise _ _ _ _ _ he hm hf

theorem State.Frame.progError {s t : State} {ps : List Part} {ks : List Nat} (h : s.Frame t ps ks) (off v : Nat)
    (req : Requester) (he : Part.evt ∈ ps) (hm : Part.msix ∈ ps) (hf : Part.fatals ∈ ps) : s.Frame (t.progError off v req) ps ks :=
  h.raise _ _ _ _ _ he hm hf

theorem State.Frame.raiseLimited {s t : State} {ps : List Part} {ks : List Nat} (h : s.Frame t ps ks) (n : Nat) (b : Block)
    (c sev unit : Nat) (d : List Nat) (he : Part.evt ∈ ps) (hm : Part.msix ∈ ps) (hf : Part.fatals ∈ ps) :
    s.Frame (t.raiseLimited n b c sev unit d) ps ks := by
  unfold State.raiseLimited
  dsimp only
  split
  · exact (h.set_evt he _).raise _ _ _ _ _ he hm hf
  · exact h

theorem State.Frame.raiseDeadline {s t : State} {ps : List Part} {ks : List Nat} (h : s.Frame t ps ks) (b : Block)
    (c unit : Nat) (d : List Nat) (he : Part.evt ∈ ps) (hm : Part.msix ∈ ps) : s.Frame (t.raiseDeadline b c unit d) ps ks := by
  have h1 := h.capture (t.record b c 3 unit d) (Block.id_lt b) he hm
  unfold State.raiseDeadline
  dsimp only
  split
  · split
    · exact h1.set_evt he _
    · exact (h1.emit _ he).set_evt he _
  · exact (h1.emit _ he).set_evt he _

/-- The events that every frame with the event parts admits. -/
theorem State.frame_raise (s : State) (b : Block) (c sev unit : Nat) (d : List Nat) : s.Frame (s.raise b c sev unit d) evtParts [] :=
  (State.Frame.refl s _ _).raise _ _ _ _ _ (by simp [evtParts]) (by simp [evtParts]) (by simp [evtParts])

/-- A register outside the event delivery reads as before an event was raised. -/
theorem State.reg_raise (s : State) (b : Block) (c sev unit : Nat) (d : List Nat) {k : Nat} (h : eventReg k = false) :
    (s.raise b c sev unit d).reg k = s.reg k := (s.frame_raise b c sev unit d).2 k (by simp) fun _ => h

theorem State.get_raise (s : State) (b : Block) (c sev unit : Nat) (d : List Nat) {k : Nat} (f : Fld) (h : eventReg k = false) :
    (s.raise b c sev unit d).get k f = s.get k f := by simp [State.get, s.reg_raise b c sev unit d h]

end Sys2Proof.Machine
end

