-- ==== Sys2Proof/Laws/Registers.lean ====
section
/-! SUPPORT. The register space: what a requester's slot holds, and what a write of a register without a meaning of its own comes to. -/

namespace Sys2Proof.Machine

@[simp] theorem PerReq.of_put {α : Type} (p : PerReq α) (r : Requester) (x : α) : (p.put r x).of r = x := by cases r <;> rfl

/-- An offset of BAR0 as a number. -/
theorem toNat_ofNat26 {n : Nat} (h : n < 67108864) : (BitVec.ofNat 26 n).toNat = n := by
  rw [BitVec.toNat_ofNat]; exact Nat.mod_eq_of_lt h

/-- A whole word as a field. -/
theorem fieldGet_word (v : Word) : fieldGet v.toNat ⟨0, 32⟩ = v.toNat := by
  unfold fieldGet
  show v.toNat / 2 ^ 0 % 2 ^ 32 = v.toNat
  rw [Nat.pow_zero, Nat.div_one]
  exact Nat.mod_eq_of_lt v.isLt

/-- A field that takes the same field of another value reads as that field. -/
@[simp] theorem fieldGet_fieldSet_get (x y : Nat) (f : Fld) : fieldGet (fieldSet x f (fieldGet y f)) f = fieldGet y f := by
  rw [fieldGet_fieldSet_same]; exact Nat.mod_eq_of_lt (fieldGet_lt _ _)

/-- A register of one RW field takes that field. -/
theorem writeFields_one (old v : Nat) (sp : RegSpec) (a b r : Nat) (h : sp.fields = [⟨a, b, .rw, r⟩]) :
    writeFields sp old v = fieldSet old ⟨a, b⟩ (fieldGet v ⟨a, b⟩) := by
  unfold writeFields; rw [h]; rfl

/-- A write of a register of one word that has no meaning of its own sets its fields by access type (R13). -/
theorem State.bar0Write_plain {s : State} {off v : Nat} {req : Requester} {h : RegHit} (hr : remoteAt off = none)
    (hw : storeWord off = none) (ha : off % 4 = 0) (hh : regAt off = some h) (hl : s.regLive h = true) (h1 : h.spec.words = 1)
    (hs : h.shadowed = false) (hd : s.deviceWrite h v req = none) (hf : s.feedWrite h v req = none)
    (hq : s.quarterWrite h v req = none) : s.bar0Write off v req = s.plainWrite h v := by
  simp [State.bar0Write, hr, State.busWrite, hw, ha, hh, hl, h1, State.regWrite, hs, hd, hf, hq]

/-- A write of a register whose block does not respond changes nothing (R15). -/
theorem State.bar0Write_dead {s : State} {off v : Nat} {req : Requester} {h : RegHit} (hr : remoteAt off = none)
    (hw : storeWord off = none) (hh : regAt off = some h) (hl : s.regLive h = false) : s.bar0Write off v req = s := by
  simp [State.bar0Write, hr, State.busWrite, hw, hh, hl]

end Sys2Proof.Machine
end

