-- ==== Sys2Proof/Machine/Balls.lean ====
section
/-! DEFINITION. The balls: their names and places (R416 to R421), and the state that each has in a state of the device (R385,
R422). -/

namespace Sys2Proof.Machine

/-! ### Names and places (R416 to R421) -/

/-- The nineteen letters that name rows (R416). -/
def rowLetters : List String :=
  ["A", "B", "C", "D", "E", "F", "G", "H", "J", "K", "L", "M", "N", "P", "T", "U", "V", "W", "Y"]

/-- The name of a row by its index, 1 to 56 (R416). -/
def rowName (r : Nat) : String :=
  (match (r - 1) / 19 with | 0 => "" | 1 => "A" | _ => "B") ++ rowLetters.getD ((r - 1) % 19) ""

/-- The index of a row by its name (R416); 0 for a name that is none. -/
def rowIndex (name : String) : Nat := ((List.range 56).map (· + 1)).find? (fun r => rowName r == name) |>.getD 0

/-- What a ball carries (R417). -/
inductive Ball where
  | laneTx (lane : Nat) (neg : Bool)
  | laneRx (lane : Nat) (neg : Bool)
  | ldat (channel : Nat)
  | lck (group : Nat)
  | lle (group : Nat)
  | lgc (group : Nat)
  | lblankN (group : Nat)
  | lfb (group : Nat)
  | peTx (lane : Nat) (neg : Bool)
  | peRx (lane : Nat) (neg : Bool)
  | lsense (input : Nat)
  | signal (name : String)
  | rail (name : String)
  | reserved
  | vss
  deriving DecidableEq, Repr

/-- A ball seen from the middle of an edge: the quarter of the edge, the depth from the edge, and the place along it. -/
structure EdgePlace where
  quarter : Nat
  depth : Nat
  along : Nat
  deriving DecidableEq, Repr

/-- The edge view of a ball in the outer band of four (R418) or in the Lervis blocks behind it (R419); none elsewhere. -/
def edgeOf (r c : Nat) : Option EdgePlace :=
  if r ≤ 4 ∧ 5 ≤ c ∧ c ≤ 52 then some ⟨0, r - 1, c - 5⟩
  else if 53 ≤ c ∧ 5 ≤ r ∧ r ≤ 52 then some ⟨1, 56 - c, r - 5⟩
  else if 53 ≤ r ∧ 5 ≤ c ∧ c ≤ 52 then some ⟨2, 56 - r, 52 - c⟩
  else if c ≤ 4 ∧ 5 ≤ r ∧ r ≤ 52 then some ⟨3, c - 1, 52 - r⟩
  else if 5 ≤ r ∧ r ≤ 13 ∧ 5 ≤ c ∧ c ≤ 36 then some ⟨0, r - 1, c - 5⟩
  else if 44 ≤ c ∧ c ≤ 52 ∧ 5 ≤ r ∧ r ≤ 36 then some ⟨1, 56 - c, r - 5⟩
  else if 44 ≤ r ∧ r ≤ 52 ∧ 21 ≤ c ∧ c ≤ 52 then some ⟨2, 56 - r, 52 - c⟩
  else if 5 ≤ c ∧ c ≤ 13 ∧ 21 ≤ r ∧ r ≤ 52 then some ⟨3, c - 1, 52 - r⟩
  else none

/-- A ball of the outer band (R418): TX in band 0, RX in band 2, ground between. -/
def bandBall (p : EdgePlace) : Ball :=
  let l := 24 * p.quarter + p.along / 2
  if p.depth = 0 then .laneTx l (p.along % 2 == 1)
  else if p.depth = 2 then .laneRx l (p.along % 2 == 1)
  else .vss

/-- The supply of a quarter's Lervis balls. -/
def lmpRail (q : Nat) : String :=
  match q with | 0 => "VDDIO_LMP0" | 1 => "VDDIO_LMP1" | 2 => "VDDIO_LMP2" | _ => "VDDIO_LMP3"

/-- A ball of a Lervis group block (R419): `d` its depth in the block, `t` its place in the pair. -/
def groupBall (q g d t : Nat) : Ball :=
  match d, t with
  | 0, 0 => .ldat (8 * g) | 0, _ => .ldat (8 * g + 1)
  | 1, 0 => .ldat (8 * g + 2) | 1, _ => .vss
  | 2, 0 => .ldat (8 * g + 3) | 2, _ => .ldat (8 * g + 4)
  | 3, 0 => .vss | 3, _ => .ldat (8 * g + 5)
  | 4, 0 => .ldat (8 * g + 6) | 4, _ => .ldat (8 * g + 7)
  | 5, 0 => .lck g | 5, _ => .vss
  | 6, 0 => .lle g | 6, _ => .lgc g
  | 7, 0 => .vss | 7, _ => .lblankN g
  | 8, 0 => .lfb g | 8, _ => .rail (lmpRail q)
  | _, _ => .vss

/-- The balls of the clock corner (R420): rows E (5) and G (7). -/
def clockCorner (r c : Nat) : Ball :=
  if r = 5 then
    match c with
    | 37 => .signal "LREFCLK0_P" | 38 => .signal "LREFCLK0_N" | 39 => .signal "LREFCLK1_P" | 40 => .signal "LREFCLK1_N" | _ => .vss
  else if r = 7 then
    match c with
    | 37 => .signal "ZCAL_Q0" | 38 => .signal "ZCAL_Q1" | 39 => .signal "ZCAL_Q2" | 40 => .signal "ZCAL_Q3" | _ => .vss
  else .vss

/-- The balls of the host corner (R420): rows AW (37) to BE (43). -/
def hostCorner (r c : Nat) : Ball :=
  if c = 52 then
    if r = 37 then .signal "REFCLK_P" else if r = 38 then .signal "REFCLK_N"
    else if r = 40 then .signal "ZCAL_PE" else if r = 42 then .signal "PE_PERST_N"
    else if r = 43 then .signal "PE_CLKREQ_N" else .vss
  else
    let n := (c - 44) / 2
    let neg := (c - 44) % 2 == 1
    if r = 37 then .peTx n neg else if r = 39 then .peTx (n + 4) neg
    else if r = 41 then .peRx n neg else if r = 43 then .peRx (n + 4) neg else .vss

/-- The balls of the time corner (R420): rows BF (44) to BK (48). -/
def timeCorner (r c : Nat) : Ball :=
  if r = 44 then .lsense (c - 14)
  else if r = 45 then
    match c with
    | 14 => .lsense 7 | 15 => .signal "FRAME_IN" | 16 => .signal "PPS_IN" | 17 => .signal "PPS_OUT"
    | 18 => .rail "VDD_AO" | 19 => .rail "VDD_AO" | _ => .vss
  else if r = 46 then (if c ≤ 15 then .rail "VDDA_PLL" else .vss)
  else if r = 47 ∨ r = 48 then .reserved
  else .vss

/-- The balls of the management corner (R420): rows P (14), T (15), U (16), W (18) and AA (20). -/
def managementCorner (r c : Nat) : Ball :=
  if r = 14 then
    match c with
    | 5 => .signal "FL_CLK" | 6 => .signal "FL_CS_N" | 7 => .signal "FL_DQS" | 8 => .signal "FL_RESET_N"
    | 10 => .signal "TCK" | 11 => .signal "TMS" | 12 => .signal "TDI" | 13 => .signal "TDO" | _ => .vss
  else if r = 15 then
    match c with
    | 5 => .signal "FL_DQ0" | 6 => .signal "FL_DQ1" | 7 => .signal "FL_DQ2" | 8 => .signal "FL_DQ3"
    | 9 => .signal "FL_DQ4" | 10 => .signal "FL_DQ5" | 11 => .signal "FL_DQ6" | 12 => .signal "FL_DQ7"
    | 13 => .signal "TRST_N" | _ => .vss
  else if r = 16 then .rail "VDDIO_1V8"
  else if r = 18 then
    match c with
    | 5 => .signal "RESET_N" | 6 => .signal "TESTMODE" | 7 => .signal "BSCL" | 8 => .signal "BSDA"
    | 9 => .signal "AVS_CLK" | 10 => .signal "AVS_MDATA" | 11 => .signal "AVS_SDATA"
    | 12 => .signal "VDD_CORE_SENSE_P" | 13 => .signal "VDD_CORE_SENSE_N" | _ => .vss
  else if r = 20 then
    (if c ≤ 7 then .rail "VDDIO_1V8" else if c ≤ 9 then .rail "VDD_AO" else if c ≤ 11 then .rail "VDDA_PLL" else .vss)
  else .vss

/-- A ball of the centre (R421): rows 14 to 43 are P to BE. -/
def centreBall (r c : Nat) : Ball :=
  let low := r ≤ 17
  let high := 40 ≤ r
  if (r + c) % 2 = 0 then .vss
  else if low ∨ high then
    if c ≤ 29 then .rail "VDD_LANE"
    else if c ≤ 35 then .rail "VDDH_LANE"
    else if low then .rail "VDD_HBM"
    else if c ≤ 39 then .rail "VDD_PCIE"
    else if c ≤ 41 then .rail "VDDH_PCIE"
    else .rail "VPP_HBM"
  else if c ≤ 15 then .rail "VDD_SRAM"
  else if c ≤ 39 then .rail "VDD_CORE"
  else if c ≤ 41 then .rail "VDDQ_HBM"
  else if r ≤ 33 then .rail "VDD_HBM"
  else .rail "VPP_HBM"

/-- The ball at row index `r` and column `c`, each 1 to 56 (R418 to R421). -/
def ballAt (r c : Nat) : Ball :=
  match edgeOf r c with
  | some p => if p.depth < 4 then bandBall p else groupBall p.quarter (16 * p.quarter + p.along / 2) (p.depth - 4) (p.along % 2)
  | none =>
    if 14 ≤ r ∧ r ≤ 43 ∧ 14 ≤ c ∧ c ≤ 43 then centreBall r c
    else if 5 ≤ r ∧ r ≤ 13 ∧ 37 ≤ c ∧ c ≤ 43 then clockCorner r c
    else if 37 ≤ r ∧ r ≤ 43 ∧ 44 ≤ c ∧ c ≤ 52 then hostCorner r c
    else if 44 ≤ r ∧ r ≤ 52 ∧ 14 ≤ c ∧ c ≤ 20 then timeCorner r c
    else if 14 ≤ r ∧ r ≤ 20 ∧ 5 ≤ c ∧ c ≤ 13 then managementCorner r c
    else .vss

/-- The ball of a name such as AD52. -/
def ballNamed (row : String) (c : Nat) : Ball := ballAt (rowIndex row) c

/-! ### Ball states (R385, R422) -/

/-- The columns of the table of R422. -/
inductive BallPhase where
  | beforeSupplies | toBuild | feed | tile | safeIdle
  deriving DecidableEq, Repr

/-- What a ball does: high impedance, driven to a level, an idle transmitter, an active output or transmitter, an input that is
ignored or used, a supply. -/
inductive BallState where
  | highZ
  | level (high : Bool)
  | electricalIdle
  | active
  | ignored
  | used
  | supply
  deriving DecidableEq, Repr

/-- The column of R422 that holds: before PWR and SUPPLY release, to BUILD, the personality of the image in force, safe idle. -/
def State.ballPhase (s : State) : BallPhase :=
  if s.rst.asserted.contains 0 || s.rst.asserted.contains 1 then .beforeSupplies
  else if s.isFeed then .feed
  else if s.isTile then .tile
  else if s.ldr.phase = .safeIdle then .safeIdle
  else .toBuild

/-- A Lervis output in the tile personality: low on an unused channel or group, else as R291 has it. -/
def lervisBall (ph : BallPhase) (isUsed : Bool) : BallState :=
  match ph with
  | .beforeSupplies => .highZ
  | .tile => if isUsed then .active else .level false
  | _ => .level false

/-- A group of the tile is used, and not HELD. -/
def State.groupDrives (s : State) (g : Nat) : Bool := decide (2 ≤ s.groupState g)

/-- A channel has a driver in the LAMPMAP. -/
def State.channelUsed (s : State) (c : Nat) : Bool :=
  match s.lampMap with
  | some m => decide (0 < chDrivers m c)
  | none => false

/-- A lane's transmitter or receiver (R179, R184). -/
def State.laneBall (s : State) (ph : BallPhase) (l : Nat) : BallState :=
  match ph with
  | .beforeSupplies => .highZ
  | .feed | .tile => if s.flag (R.laneStatus l) F.laneStatus_TX_IDLE then .electricalIdle else .active
  | _ => .electricalIdle

/-- The state of a named signal ball. -/
def State.signalBall (s : State) (ph : BallPhase) (name : String) : BallState :=
  if name = "RESET_N" then (if ph = .beforeSupplies then .highZ else if s.rst.driving then .level false else .highZ)
  else if name = "PPS_OUT" then
    match ph with
    | .beforeSupplies => .highZ
    | .feed | .tile => .level s.time.pps.isSome
    | _ => .level false
  else if name = "FRAME_IN" then (if ph = .feed ∧ s.get R.timeCtrl F.timeCtrl_REF = 2 then .used else .ignored)
  else if name = "PPS_IN" then (if ph = .feed ∧ s.get R.timeCtrl F.timeCtrl_REF = 3 then .used else .ignored)
  else if name = "PE_PERST_N" then (if ph = .tile ∨ ph = .beforeSupplies then .ignored else .used)
  else if name = "PE_CLKREQ_N" then
    match ph with
    | .feed | .safeIdle => .active
    | .toBuild => if s.hif.linkUp then .active else .highZ
    | _ => .highZ
  else if name = "FL_CS_N" ∨ name = "FL_RESET_N" then
    if ph = .beforeSupplies then .highZ else if s.rst.inReset && decide (2 ≤ s.rst.reach) then .level true else .active
  else if ["FL_CLK", "FL_DQS", "FL_DQ0", "FL_DQ1", "FL_DQ2", "FL_DQ3", "FL_DQ4", "FL_DQ5", "FL_DQ6", "FL_DQ7"].contains name then
    if ph = .beforeSupplies ∨ (s.rst.inReset && decide (2 ≤ s.rst.reach)) then .highZ else .active
  else if name = "BSCL" ∨ name = "BSDA" then (if ph = .tile then .active else .highZ)
  else if name = "AVS_CLK" ∨ name = "AVS_MDATA" then (if ph = .beforeSupplies then .highZ else .active)
  else if name = "TCK" ∨ name = "TRST_N" ∨ name = "TMS" ∨ name = "TDI" then
    (if ph = .beforeSupplies ∨ !s.fuses.debug then .ignored else .used)
  else if name = "TDO" then .highZ
  else .used

/-- The state of a ball (R385, R422). -/
def State.ballState (s : State) (b : Ball) : BallState :=
  let ph := s.ballPhase
  match b with
  | .laneTx l _ | .laneRx l _ => s.laneBall ph l
  | .ldat c => lervisBall ph (s.channelUsed c && s.groupDrives (c / 8))
  | .lck g | .lle g | .lgc g => lervisBall ph (s.groupDrives g)
  | .lblankN g =>
    match ph with
    | .beforeSupplies => .highZ
    | .tile => .level (s.groupSt g).lit
    | _ => .level false
  | .lfb _ => if ph = .tile then .used else .ignored
  | .lsense _ => if ph = .tile then .used else .ignored
  | .peTx _ _ =>
    match ph with
    | .beforeSupplies => .highZ
    | .tile => .electricalIdle
    | _ => if s.hif.linkUp then .active else .electricalIdle
  | .peRx _ _ => if ph = .tile ∨ ph = .beforeSupplies then .ignored else .used
  | .signal n => s.signalBall ph n
  | .rail _ | .vss => .supply
  | .reserved => .ignored

end Sys2Proof.Machine
end

