-- ==== Sys2Proof/Machine/LaneWire.lean ====
section
/-! DEFINITION. The bits of a pattern test as they stand on the lane (R178, R191): the ITU-T O.150 polynomials without inversion, the USER
word, Gray-coded PAM4 symbols, INJECT and the polarity of the lane. -/

namespace Sys2Proof.Machine

/-- The two taps of a PRBS pattern's polynomial: x^7 + x^6 + 1, x^15 + x^14 + 1 and x^31 + x^28 + 1 (R191). -/
def prbsTaps (pattern : Nat) : Nat × Nat :=
  match pattern with
  | 0 => (7, 6)
  | 1 => (15, 14)
  | _ => (31, 28)

/-- The bit of a PRBS sequence that follows earlier ones, the latest first (R191). -/
def prbsNext (pattern : Nat) (last : List Bool) : Bool :=
  (last.getD ((prbsTaps pattern).1 - 1) false) ^^ (last.getD ((prbsTaps pattern).2 - 1) false)

/-- The next bits of a PRBS sequence. -/
def prbsBits (pattern : Nat) : Nat → List Bool → List Bool
  | 0, _ => []
  | n + 1, last => let b := prbsNext pattern last; b :: prbsBits pattern n (b :: last)

/-- The next bits of the USER pattern from a bit of the word on: bit 0 first, without end (R191). -/
def userBits (word start n : Nat) : List Bool := (List.range n).map fun i => word.testBit ((start + i) % 64)

/-- What a generator has sent before: an open start of the sequence, never all zeros. -/
def State.prbsSeed (s : State) (l : Nat) : List Bool :=
  true :: (List.range 30).map fun i => (Config.freeValue (s.freeCount + l)).testBit i

/-- The next bits of the generator of a lane in TEST with GEN set, in the order in which they are sent (R191): each INJECT inverts one. -/
def State.testBits (s : State) (l n : Nat) : List Bool :=
  let k := R.laneTest (l / 24)
  let p := s.get k F.laneTest_PATTERN
  let plain := if p = 3 then userBits (s.reg (R.laneTestWord (l / 24))) 0 n else prbsBits p n (s.prbsSeed l)
  plain.zipIdx.map fun x => x.1 ^^ decide (x.2 < (s.lane l).injected)

/-- The polarity of a lane: with TX_INV or RX_INV set every bit is inverted, in service and in test (R178). -/
def polarity (inverted : Bool) (bits : List Bool) : List Bool := bits.map (· ^^ inverted)

/-- The level of a PAM4 symbol, 0 to 3: two bits, first bit most significant, Gray coded (R191). -/
def grayLevel (first second : Bool) : Nat :=
  match first, second with
  | false, false => 0
  | false, true => 1
  | true, true => 2
  | true, false => 3

/-- Bits as the levels of PAM4 symbols. -/
def pam4 : List Bool → List Nat
  | a :: b :: r => grayLevel a b :: pam4 r
  | _ => []

/-- What a lane in TEST sends (R178, R191): the levels 0 and 1 of NRZ, or 0 to 3 of PAM4 at RATE 0b011; nothing without GEN. -/
def State.testLevels (s : State) (l n : Nat) : List Nat :=
  if s.laneState l = 8 ∧ l % 24 = 0 ∧ s.flag (R.laneTest (l / 24)) F.laneTest_GEN then
    let bits := polarity (s.flag (R.laneCfg l) F.laneCfg_TX_INV) (s.testBits l n)
    if s.get (R.laneCfg l) F.laneCfg_RATE = 3 then pam4 bits else bits.map (·.toNat)
  else []

/-- Bits that the checker compares (R191): each PRBS bit with what the received ones before it predict, each USER bit with the word from the
checker's own boundary, which SLIP moves by a bit (R192). The count is of the bits in error. -/
def State.testErrors (s : State) (l : Nat) (before received : List Bool) : Nat :=
  let k := R.laneTest (l / 24)
  let p := s.get k F.laneTest_PATTERN
  let inv := s.flag (R.laneCfg l) F.laneCfg_RX_INV
  let rx := polarity inv received
  let want := if p = 3 then userBits (s.reg (R.laneTestWord (l / 24))) (s.lane l).slips rx.length
    else prbsBits p rx.length (polarity inv before)
  ((rx.zip want).filter fun x => x.1 != x.2).length

end Sys2Proof.Machine
end

