-- ==== Sys2Proof/Machine/LervisWire.lean ====
section
/-! DEFINITION. The Lervis bus on its wires: the bits of a transfer (R279), the length and order of a status scan (R282), and when an
output of a driver is on (R274, R283, R284). -/

namespace Sys2Proof.Machine

/-! ### The bits of a transfer (R279) -/

/-- The grey words of a driver in the order of its outputs (R274): 3 × lamp + colour. -/
def State.greyWords (s : State) (channel driver : Nat) : List Nat :=
  (List.range 16).flatMap fun o =>
    let g := greyOf s.lmp.shift (channel * 512 + 16 * driver + o)
    [g.r, g.g, g.b]

/-- The bits of words, most significant first. -/
def wordBits (ws : List Nat) : List Bool := ws.flatMap fun w => (List.range 16).map fun i => bitOf w (15 - i)

/-- The bits that LMP sends on a channel (R279): zeros for the drivers the channel lacks, then the last driver's words from the
last to the first, down to driver 0. -/
def transferStream (dmax : Nat) (drivers : List (List Nat)) : List Bool :=
  List.replicate ((dmax - drivers.length) * 768) false ++ (drivers.reverse.flatMap fun ws => wordBits ws.reverse)

/-! ### Status scans on the wire (R282) -/

/-- The bits of a group's scan, B. -/
def scanBits (m : LampMap) (g : Nat) : Nat := 400 * (groupDrivers m g).length

/-- The transfers after which a scan of a group is complete. -/
def scanTransfers (m : LampMap) (g : Nat) : Nat :=
  if transferBits m g = 0 then 0 else ceilDiv (scanBits m g) (transferBits m g)

/-! ### Pulse widths (R279, R283) -/

/-- The low `k` bits of a number reversed. -/
def bitReverse : Nat → Nat → Nat
  | 0, _ => 0
  | k + 1, x => x % 2 * 2 ^ k + bitReverse k (x / 2)

/-- The grey value that a driver uses: the `depth` most significant bits of a grey word (R279). -/
def driverGrey (depth word : Nat) : Nat := word / 2 ^ (16 - depth)

/-- The on-time of an output in segment `seg` of a period, in LGC periods, for grey value `g` and 2^k segments (R283). -/
def pwmOn (g k seg : Nat) : Nat := g / 2 ^ k + (if bitReverse k seg < g % 2 ^ k then 1 else 0)

/-- The length of a segment in LGC periods (R283). -/
def pwmSegment (depth k : Nat) : Nat := 2 ^ depth / 2 ^ k

/-- The output of a lamp's colour is on at an instant (R274, R283, R284): its group is not blanked, its driver holds a configuration and
runs PWM from its last SYNC, a lamp entry names the output, and the instant lies in the on-time of one of the segments. -/
def State.outputOn (s : State) (l : LampAt) (colour : Nat) (t : Int) : Bool :=
  let x := s.groupSt (l.channel / 8)
  match x.cfg, x.pwm with
  | some c, some t0 =>
    let e := ((t - t0) * clkMHz (s.get R.lmpClk F.lmpClk_LGC_DIV) / 1000).toNat
    let v := greyOf s.lmp.disp l.key
    let g := driverGrey c.depth (match colour with | 0 => v.r | 1 => v.g | _ => v.b)
    let at_ := e % 2 ^ c.depth
    let len := pwmSegment c.depth c.seg
    x.lit && decide (t0 ≤ t) && decide (e < c.repeats * 2 ^ c.depth) && decide (at_ % len < pwmOn g c.seg (at_ / len))
  | _, _ => false

end Sys2Proof.Machine
end

