-- ==== Sys2Proof/WellFormed.lean ====
section
/-! DEFINITION. Which operands a command may carry: what a sender that follows the spec's layouts would put into it. The meanings
are total: they also say what an ill-formed command does; well-formedness is a check for whoever writes commands down. -/

namespace Sys2Proof

/-- A packet as R198 lays it out: LENGTH counts the payload bytes, is a multiple of 4 and at most 2,048; VERSION is 1, the class one of
the six, and HOPS is 1 to 32. -/
def Packet.wf (p : Packet) : Bool :=
  p.hdr.version == 1#4 && decide (1 ≤ p.hdr.cls.toNat ∧ p.hdr.cls.toNat ≤ 6 ∧ 1 ≤ p.hdr.hops.toNat ∧ p.hdr.hops.toNat ≤ 32 ∧
    p.hdr.length.toNat = p.payload.length ∧ p.payload.length ≤ 2048 ∧ p.payload.length % 4 = 0)

/-- A packet is of a class and type of the classes table (Classes and types). -/
def Packet.isKind (p : Packet) (cls type : Nat) : Bool := p.hdr.cls.toNat == cls && p.hdr.type.toNat == type

/-- A sample row segment holds the bytes that its length says (R103). -/
def RowSeg.wf (r : RowSeg) : Bool := r.data.length == r.length

/-- The row segments of a frame hold the bytes that their lengths say (R103). -/
def EthFrame.wf (f : EthFrame) : Bool :=
  match f.body with
  | .udp _ _ _ _ r => match r.body with
    | .video _ rows => rows.all RowSeg.wf
    | .hevc _ _ => true
  | .ptp | .arp _ | .nd _ | .igmpQuery _ _ _ | .mldQuery _ _ _ | .other => true

/-- A decoded picture has as many samples in each plane as its size and its chroma sampling say (R331). -/
def DecPic.wf (p : DecPic) : Bool :=
  let chroma := (if p.chroma.val = 2 then p.width else (p.width + 1) / 2) * (if p.chroma.val = 0 then (p.height + 1) / 2 else p.height)
  p.luma.length == p.width * p.height && p.cb.length == chroma && p.cr.length == chroma

/-- A command carries operands that its row's rules allow: a packet of the row's class and type, as many bytes as a length says, one
reading of a sensor, one, two or four lanes of a port. -/
def Instr.wf (i : Instr) : Bool :=
  match i with
  | .multiwordWrite _ _ values => decide (1 ≤ values.length ∧ values.length ≤ 1024)
  | .bar2Access isWrite _ length data _ => decide (data.length = if isWrite then length else 0)
  | .rdData _ pkt => pkt.wf && pkt.isKind 6 2
  | .wrAck _ pkt => pkt.wf && pkt.isKind 6 3
  | .doeObject _ _ object => decide (object.length % 4 = 0)
  | .spdmReq _ pkt => pkt.wf && pkt.isKind 3 5
  | .spdmRsp _ pkt => pkt.wf && pkt.isKind 6 6
  | .ensign _ pkt => pkt.wf && pkt.isKind 2 1
  | .delayReq _ pkt => pkt.wf && pkt.isKind 2 2
  | .delayResp _ pkt => pkt.wf && pkt.isKind 2 3
  | .slotBoundary sag => (sag.map (·.1)).eraseDups.length == sag.length
  | .pennantCommit _ pkt => pkt.wf && pkt.isKind 3 16
  | .pennantMode _ pkt => pkt.wf && pkt.isKind 3 17
  | .pennantCap _ pkt => pkt.wf && pkt.isKind 3 18
  | .ethernetFrame _ frame => frame.wf
  | .trainDone _ foms ffe => decide (foms.length ≤ 4 ∧ ffe.length ≤ 4)
  | .lockDone _ positions => decide (positions.length ≤ 4) && positions.eraseDups.length == positions.length
  | .eqUpdate _ _ taps _ => decide (taps.length ≤ 16)
  | .packetReceive _ lanes => [1, 2, 4].contains lanes.length
  | .slice _ pkt => pkt.wf && pkt.isKind 1 1
  | .fragment _ pkt => pkt.wf && pkt.isKind 1 2
  | .list _ pkt => pkt.wf && pkt.isKind 1 3
  | .digest _ pkt => pkt.wf && pkt.isKind 1 4
  | .read _ pkt => pkt.wf && pkt.isKind 3 1
  | .write _ pkt => pkt.wf && pkt.isKind 3 2
  | .writeBlock _ pkt _ => pkt.wf && pkt.isKind 4 1
  | .blkAck _ pkt => pkt.wf && pkt.isKind 6 4
  | .event _ pkt => pkt.wf && pkt.isKind 6 1
  | .heatReq _ pkt => pkt.wf && pkt.isKind 6 5
  | .walk _ pkt => pkt.wf && pkt.isKind 5 1
  | .answer _ pkt => pkt.wf && pkt.isKind 5 2
  | .assign _ pkt => pkt.wf && pkt.isKind 5 3
  | .admitTile _ pkt => pkt.wf && pkt.isKind 5 4
  | .boardSensorPoll readings => (readings.map (·.1)).eraseDups.length == readings.length
  | .lightSensorLoop readings => (readings.map (·.1)).eraseDups.length == readings.length
  | .transferStart _ late blocked => late.eraseDups.length == late.length && blocked.eraseDups.length == blocked.length
  | .accessUnit _ au => au.outputs.all DecPic.wf
  | .sensorSample counts => decide (counts.length = 64)
  | .droopDetect millivolts => (millivolts.map (·.1)).eraseDups.length == millivolts.length
  | .powerOnReset | .supplyLow _ | .resetNAssert | .resetNRelease | .resetNDriveRelease | .resetEnd | .rstCmdWrite _ _ | .tileCmdReset
  | .dbgReset | .wdtKick _ _ | .wdtWarn | .wdtExpire | .fatalEscalation | .firmwareFetchDone | .firmwareFetchTimeout | .fwVerify _ _ _
  | .fwStage _ _ _ | .fwRevert _ _ | .fwOperationDone _ | .headerStageDone | .headerTimeout | .imageFetchDone | .imageFetchTimeout
  | .imageBuildDone | .buildTimeout | .imageVerify _ _ _ | .imageStage _ _ _ | .loadNow _ _ _ | .imageFlashWriteDone _
  | .endpointRetrain | .hbmTrainingDone _ _ | .pePerstNAssert | .pePerstNDeassert | .hotReset | .hostLinkDown | .flr
  | .registerWrite _ _ _ _ | .multiwordLowRead _ _ _ | .readClear _ _ _ | .unmappedBar0Access _ _ _ | .queueDoorbell _ _
  | .remoteWrite _ _ _ | .remoteRead _ _ | .remoteReadTimeout _ | .remoteSelWrite _ _ | .mbxSubmit _ _ | .mbxRelease _ _
  | .mbxCommandDone _ _ _ | .mbxNop _ | .getFwInfo _ | .fwCommitSvn _ | .settingsSave _ _ | .settingsDefault _ | .doeAbort
  | .getVersion _ | .getCapabilities _ | .negotiateAlgorithms _ | .getDigests _ | .getCertificate _ _ | .challenge _ _
  | .getMeasurements _ _ _ | .spdmUnsupported _ | .spdmRelayGo _ _ | .spdmRelayTimeout | .topCommit _ _ | .commitChecksDone
  | .commitApply | .shadowWrite _ _ _ | .timeRefWrite _ _ | .rearm _ _ | .rearmEffect | .setGo _ _ | .slewPpmWrite _ _
  | .ptpCfgWrite _ _ | .alignOriginWrite _ _ | .timeModeCommit _ _ | .modeChecksDone | .modeSwitch | .ptpSync _ _ _ _ _
  | .ptpFollowUp _ _ _ _ | .ptpDelayResp _ _ _ _ | .ptpAnnounce _ _ | .ptpDelayReq _ | .ptpAnnounceTimeout _ _ | .frameInEdge _ _
  | .ppsInEdge _ _ | .edgeTimeout | .acquireTimeout | .holdoverExpire | .ensignSend | .ensignTimeout | .delayReqSend _ | .ppsOutPulse
  | .ppsOutEnd | .windowStart | .pennantCopy | .pennantCapRepeat | .mergeWinExpire _ | .sourceLossTimeout _ | .pathLossTimeout _ _
  | .bindingInstant | .frameFence _ _ _ | .filterEnable _ _ _ | .membershipRepeat _ | .trigSwPulse _ _ | .hbmPowerDown
  | .hbmSelfRefresh | .hbmWake _ | .queueEnable _ _ | .queueDisable _ _ | .queueDisableDone _ | .qmConsume _ _ | .producerRetry _
  | .dmaRun _ _ _ | .dmaStop _ _ _ | .dmaReset _ _ _ | .dmaResetSkip _ _ _ | .descriptorFetchDone _ _ | .descriptorFetchTimeout _
  | .burstIssue _ | .burstComplete _ _ | .readbackReturn _ | .readbackTimeout _ | .dmaErrorResponse _ _ _ _ | .drqAssert _ _
  | .bandStart _ _ _ | .bandDeadline _ _ | .writebackDone _ | .cmpLutWrite _ _ _ _ _ | .sclCoefWrite _ _ _ _ _ _ | .tileComposeStart _
  | .detectPoll _ _ | .trainTimeout _ | .lockTimeout _ _ | .capsRecord _ _ _ | .capsTimeout _ | .holdoffExpire _ | .laneRetrain _ _ _
  | .laneDisable _ _ _ | .adaptFreeze _ _ _ | .signalLost _ | .blockLockLost _ | .fecLockLost _ | .highSer _ | .refclkLost _
  | .refclkValid _ | .fomMeasure _ _ _ _ _ | .amBlock _ _ _ _ _ | .laneTestEnable _ _ _ | .testEntry _ | .testExit _ _ _
  | .testTimeout _ | .inject _ _ _ | .slip _ _ _ | .prbsClear _ _ _ | .standardLinkUp _ _ _ | .standardLinkFail _ _
  | .creditBlock _ _ _ | .creditBlockSend _ | .creditHeldForward _ | .egressNext _ | .creditStall _ _ | .pixSend _ | .digestMissing _ _
  | .sliceDeadline | .dscWalkPort _ _ | .dscWalkAll _ _ | .dscRelease _ _ | .walkHoldExpire _ | .walkQuiet _ | .walkTimeout _
  | .assignRetry _ | .tileDetailsRead _ _ _ _ _ | .correctionStart _ _ _ | .lampRecordWrite _ _ _ _ | .corEotfWrite _ _ _ _ _
  | .calApply _ _ | .calApplyDone | .i2cTransaction _ | .lampHeatReq | .heatGraceExpire | .wrGray _ | .wrCfg _ | .statusScanDone _ _ _
  | .cfgFailed _ | .bankSupplyChange _ _ | .bankSupplyValid _ | .forceBlank _ _ | .rescan _ _ | .lmpClkWrite _ _ | .strikeClear _ _
  | .clearAll _ _ | .clearOne _ _ | .sagLoopEnable _ _ | .claimCfgWrite _ _ | .takeover | .portPartnerLost _ | .claimAgeOut _
  | .encodeStart _ | .encodeDone _ _ | .encodeDeadline _ | .idrRequest _ _ _ | .nvmeDriveInit _ _ | .nvmeCompletion _ _ _ _
  | .driveTimeout _ | .nvmeFlush _ | .smartPoll _ | .labelSave _ | .clpCreate _ _ | .clpDelete _ _ | .clpFormat _ _ | .recordAppend _ _
  | .playEntry _ _ | .playDeliver _ | .refmodeWrite _ _ _ | .shutdownRelease | .shedStep | .throttleRelease | .shedWithdraw
  | .dieHeatReq | .heatReqAge _ | .capRaise _ | .capCommand _ _ | .stretchEnd | .stretchDuty _ | .avsUpdate _ _ _ | .eventRecordLanded
  | .coalesceExpire _ | .captureAck _ _ | .evtRingBindWrite _ _ _ | .upstreamEventSend | .supplyRelease _ | .pwrRelease
  | .resetNFollow _ | .hostLinkUp _ _ _ | .configurationRequest _ | .broadcastWriteTimeout _ | .capsSend _ | .checkerLock _
  | .checkerLockLost _ | .controllerResetDone _ _ => true

end Sys2Proof
end

