-- ==== Sys2Proof/Tests/Slice0.lean ====
section
/-! SUPPORT. Tests: for every statement of Obligations.lean that has hypotheses, concrete states and operands that meet them, clause by
clause; a few single operations with the values of the spec's worked examples; an ill-formed command for each check of WellFormed. -/

namespace Sys2Proof.Tests

open Sys2Proof Sys2Proof.Machine

set_option Elab.async false

/-! ### Small states to test on -/

/-- A Forjo header of a personality. -/
def header (pers : BitVec 8) : ForjoHeader :=
  { magic := 0x4A524F46#32, format := 0x100#16, hdrSize := 128#16, target := 1#8, personality := pers,
    sections := (if pers = 1#8 then 9#16 else 8#16), length := (if pers = 1#8 then 1088#32 else 1024#32),
    imageGen := 7#32, keyId := 1#32, minFw := 0#32, flags := 1#32, wallId := 0#128, iv := 1#96, reserved3C := 0#32, built := 0#64,
    compiler := 0#32, hdrCrc := (if pers = 1#8 then 2941671716#32 else 3189769253#32), reserved50 := 0#384 }

/-- A pattern of two slots of 1/120 s with a light window each. -/
def pat : PatternRec :=
  { index := 0, slots := 2, fpNum := 1, fpDen := 60, windows := [(20000, 8000000), (20000, 8000000), (0, 0), (0, 0)], reservedZero := true }

/-- A record of bytes: numbers at their byte offsets. -/
def rec (k : Nat) (l : List (Nat × Nat)) : BitVec k := BitVec.ofNat k (l.map fun e => e.2 * 256 ^ e.1).sum

/-- Two Halyard ports of one lane each, on lanes 0 and 4: of a feed unit, named by their lanes, or the chain ports of a tile. -/
def lanes (pers : BitVec 8) : List LaneRec :=
  (List.range 96).map fun l =>
    if l = 0 ∨ l = 4 then ⟨.halyard, 1#3, if pers = 1#8 then BitVec.ofNat 7 l else BitVec.ofNat 7 (l / 4), 0#2, 0#2, false, false⟩
    else ⟨.off, 0#3, 0#7, 0#2, 0#2, false, false⟩

/-- Section table entries of 64 bytes each, one after the other, with the CRC-32 of their plaintext. -/
def table (secs : List (Nat × Nat)) (vers : BitVec 16) : List SectionEntry :=
  secs.zipIdx.map fun e =>
    { type := BitVec.ofNat 16 e.1.1, version := vers, sflags := 0#16, reserved06 := 0#16, offset := BitVec.ofNat 32 (512 + 64 * e.2),
      length := 64#32, stored := 64#32, crc := BitVec.ofNat 32 e.1.2, reserved18 := 0#64 }

/-- The sections behind a small image of a personality, in canvas mode: one channel of one driver and two lamps. -/
def sections (pers : BitVec 8) : ForjoBody :=
  { lanes := lanes pers, quarters := ⟨false, 1, if pers = 1#8 then [2, 2, 2, 2] else [0, 0, 0, 0]⟩,
    queues := [⟨0, 64, [16, 32, 64], 0⟩, ⟨64, 64, [32], 1⟩, ⟨128, 64, [64], 4⟩], peck := [], geom := 5#32, width := 2, height := 1,
    thermal := ⟨95, 105, 20, 100, 100, 10⟩, resets := ⟨0, 10, List.replicate 24 0⟩,
    channelWords := rec 64 [(0, 1), (2, 2), (4, 0x808080)] :: List.replicate 511 0, lampWords := [0, rec 32 [(1, 64)]],
    binWords := [rec 512 [(2, 25), (4, 1000)]],
    slotWords := [rec 512 [(1, 2), (4, 1), (8, 60), (16, 20000), (20, 8000000), (24, 20000), (28, 8000000)]],
    tilesHead := 1#512, expectWords := [], bindWords := [], plain := [(0x0B, 1 :: List.replicate 63 0)], signatureOk := true, tagOk := true }

/-- A small image of a personality. -/
def img (pers : BitVec 8) : ForjoImage where
  hdr := header pers
  entries := table (if pers = 1#8
    then [(1, 0), (2, 0), (3, 0), (4, 0), (7, 2643035012), (8, 0), (9, 0), (10, 4206382755), (11, 4206382755)]
    else [(1, 0), (2, 0), (5, 2414379258), (6, 290763170), (7, 2643035012), (8, 0), (9, 0), (11, 4206382755)]) 1#16
  body := sections pers

/-- A firmware image. -/
def fw : FwImage :=
  { magic := 0x49574657#32, format := 0x100#16, hdrSize := 192#16, product := 0x7700#16, builds := 3#8, flags := 1#8, keyId := 1#32,
    size := 4096#32, version := 3#32, svn := 2#8, reserved19 := 0#24, iv := 1#96, tag := 1#128, hdrCrc := 3197595323#32, reserved3C := 0#32,
    sig := 0#768, reservedA0 := 0#256, body := ⟨true, true, []⟩ }

/-- A device out of reset with an image of a personality, firmware running from slot 0, an hour after power-on. -/
def run (pers : Nat) : State :=
  { State.reset with
    rst := { State.reset.rst with inReset := false, driving := false, follows := true, reach := 0, deepest := 0, wdtRunning := true }
    boot := { BootSt.reset with phase := .running 0, fw := some fw, inner := [0#384, 8#384, 9#384, 0#384, 0#384], confirmed := true }
    flash := { State.reset.flash with fwValid := [true, false], fjValid := [true, false], fw0 := .image fw, fj0 := .image (img (BitVec.ofNat 8 pers)) }
    ldr := { LdrSt.reset with phase := .ready, image := some (img (BitVec.ofNat 8 pers)) }
    clock := { now := 3600000000000, frac := 0, running := true }
    regs := sWrite regReset regsAtReset R.topImageInfo (fieldSet 0 F.topImageInfo_PERSONALITY pers) }

/-- Registers set in turn. -/
def regsSet (s : State) (l : List (Nat × Nat)) : State := l.foldl (fun t e => t.setReg e.1 e.2) s

/-- An ACTIVE Halyard port of one lane, with a port number. -/
def withPort (l n : Nat) (s : State) : State :=
  regsSet s [(R.laneCfg l, 1 + 1 * 4 + n * 32), (R.laneStatus l, 6 + 2 ^ 24)]

/-- An ACTIVE Ethernet port of one lane, with a port number. -/
def withEth (l n : Nat) (s : State) : State := regsSet s [(R.laneCfg l, 2 + 1 * 4 + n * 32), (R.laneStatus l, 6)]

/-- A feed unit with ACTIVE Halyard ports on lanes 0 and 4. -/
def feed : State :=
  withPort 0 0 (withPort 4 4 { run 1 with hif := { HifSt.reset with linkUp := true, bars := .all, crs := false } })

/-- An admitted tile of address 5 in domain 1 with chain ports on lanes 0 and 4, whose claim winner has claim 100 and serial 9. -/
def tile : State :=
  withPort 0 0 (withPort 4 1 ({ run 2 with red := { RedSt.reset with claims := [⟨100, some 9, some 0, 0, true⟩] } }.setReg R.dscSelf
    (5 + 1 * 2 ^ 12 + 2 ^ 16 + 2 * 2 ^ 32 + 1 * 2 ^ 48)))

/-- A packet to the small tile from its claim winner. -/
def down (cls type seq slot arg : Nat) (last : Bool) (body : List Nat) : Packet := makePacket cls type 5 1 0xFFF 100 seq 0 slot arg false last body

/-- A packet from the tile of address 5 to a feed unit. -/
def up (cls type seq arg : Nat) (last : Bool) (body : List Nat) : Packet := makePacket cls type 0xFFF 1 5 100 seq 0 0 arg true last body

/-- The state that a command leaves. -/
def after (c : Instr) (s : State) : State := match exec c s with | .next t => t | _ => s

/-- A feed unit or tile with a reference in use, a servo state, and the servo's other state given. -/
def timed (ref st : Nat) (f : TimeSt → TimeSt) (s : State) : State :=
  ({ s with time := f { s.time with inUse := ref } }.put R.timeCtrl F.timeCtrl_REF ref).put R.timeStatus F.timeStatus_STATE st

/-- The Ensign of a unit, as it arrives at the small tile with a claim. -/
def beacon (serial : BitVec 64) (claim : Nat) : Packet :=
  makePacket 2 1 0xFFF 1 0xFFF claim 0 0 0 0 false false { feed with fuses := { feed.fuses with serial := serial } }.ensignBody

/-- The small tile with a valid link delay on the port of lane 0. -/
def tileHears : State := { tile with time := { tile.time with links := [⟨0, List.replicate 16 0, [], 16⟩] } }

/-- A state with a command waiting. -/
def queued (c : Instr) (s : State) : State := { s with pending := [c] }

/-- The section table of the small feed image passes, where the device supports the versions of its sections (log entry 7). -/
theorem table_passes (h : ∀ t v, Config.versionSupported t v = true) : tableCause (img 1#8).hdr (img 1#8).entries = 0 := by
  unfold tableCause; rw [if_neg (by decide +kernel)]; simp [h]

/-- What is said of the value of an empty option holds. -/
theorem of_none {α : Type} {o : Option α} {P : α → Prop} (h : o = none) : ∀ a, o = some a → P a := by
  intro a e; rw [h] at e; cases e

/-! ### Witnesses of the hypotheses -/

theorem witness_StepRunsTheOldestCommand :
    (∃ (c : Instr) (rest : List Instr) (s : State), s.pending = c :: rest) :=
  ⟨.wdtWarn, [.modeSwitch], { feed with pending := [.wdtWarn, .modeSwitch] }, by decide +kernel⟩

theorem witness_IdleStepCountsTime :
    (∃ (s : State), s.pending = [] ∧ s.clock.running = true) ∧
    (∃ (s : State), s.pending = [] ∧ s.clock.running = false) :=
  ⟨⟨{ feed with clock := ⟨7, 4294967295, true⟩ }, by decide +kernel⟩,
   ⟨{ feed with clock := ⟨7, 0, false⟩ }, by decide +kernel⟩⟩

theorem witness_NarrowAccesses :
    (∃ (req : Requester) (w : AccessWidth) (s : State), w ≠ .word ∧ s.mayWrite req = true) ∧
    (∃ (req : Requester) (off : BitVec 26) (s : State), remoteAt off.toNat = none ∧ s.mayRead req = true) ∧
    (∃ (req : Requester) (off : BitVec 26) (s : State), remoteAt off.toNat = none ∧ s.mayRead req = true) :=
  ⟨⟨.mp, .half, feed, by decide +kernel⟩,
   ⟨.mp, 0x1FFFFFF#26, feed, by decide +kernel⟩,
   ⟨.mp, 0x3#26, feed, by decide +kernel⟩⟩

theorem witness_RegisterWrites :
    (∃ (req : Requester) (i : Nat) (s : State), i < 16 ∧ s.live .mbx = true ∧ s.mayWrite req = true ∧ (s.isTile = true → req ≠ .mp)) ∧
    (∃ (req : Requester) (i : Nat) (s : State), i < 16 ∧ s.live .mbx = false ∧ s.mayWrite req = true) ∧
    (∃ (req : Requester) (b : Nat) (s : State), b < 23 ∧ s.live .evt = true ∧ s.mayWrite req = true) ∧
    (∃ (req : Requester) (s : State), s.mayWrite req = true) ∧
    (∃ (req : Requester) (s : State), s.mayWrite req = true) ∧
    (∃ (req : Requester) (s : State), s.mayWrite req = true ∧ s.live .cmp = true ∧ s.committing = false) ∧
    (∃ (req : Requester) (s : State), s.mayWrite req = true ∧ s.live .cmp = true ∧ s.committing = true) :=
  ⟨⟨.mp, 15, feed, by decide +kernel⟩,
   ⟨.mp, 0, { feed with rst := { feed.rst with inReset := true, reach := 1 } }, by decide +kernel⟩,
   ⟨.mp, 22, feed, by decide +kernel⟩,
   ⟨.host, feed, by decide +kernel⟩,
   ⟨.claim0, tile, by decide +kernel⟩,
   ⟨.mp, feed, by decide +kernel⟩,
   ⟨.mp, { feed with cmp := { feed.cmp with checking := some (1, false) } }, by decide +kernel⟩⟩

theorem witness_HeldOffBlocks :
    (∃ (req : Requester) (off : BitVec 26) (s : State), remoteAt off.toNat = none ∧ s.mayWrite req = true ∧ s.mayRead req = true ∧ ((∃ h, storeWord (off.toNat / 4 * 4) = none ∧ regAt (off.toNat / 4 * 4) = some h ∧ s.live h.spec.block = false) ∨ (storeWord (off.toNat / 4 * 4) ≠ none ∧ s.live .cor = false))) ∧
    (∃ (req : Requester) (off : BitVec 26) (s : State), remoteAt off.toNat = none ∧ s.mayWrite req = true ∧ s.mayRead req = true ∧ ((∃ h, storeWord (off.toNat / 4 * 4) = none ∧ regAt (off.toNat / 4 * 4) = some h ∧ s.live h.spec.block = false) ∨ (storeWord (off.toNat / 4 * 4) ≠ none ∧ s.live .cor = false))) ∧
    (∃ (req : Requester) (s : State), s.mayWrite req = true ∧ s.live .mbx = false) ∧
    (∃ (req : Requester) (s : State), s.mayWrite req = true ∧ s.live .qm = false ∧ s.live .dma = false ∧ s.live .ing = false ∧ s.live .cmp = false ∧ s.live .scl = false ∧ s.live .cdc = false ∧ s.live .clp = false) ∧
    (∃ (req : Requester) (s : State), s.mayWrite req = true ∧ s.live .cor = false ∧ s.live .lmp = false) :=
  ⟨⟨.mp, 0x1180004#26, feed, by decide +kernel, by decide +kernel, by decide +kernel, .inl ⟨_, by decide +kernel, rfl, by decide +kernel⟩⟩,
   ⟨.mp, 0x1FFFFFC#26, feed, by decide +kernel, by decide +kernel, by decide +kernel, .inr (by decide +kernel)⟩,
   ⟨.mp, { feed with rst := { feed.rst with inReset := true, reach := 1 } }, by decide +kernel⟩,
   ⟨.mp, tile, by decide +kernel⟩,
   ⟨.mp, feed, by decide +kernel⟩⟩

theorem witness_MultiwordRegisters :
    (∃ (req : Requester) (s : State), s.mayWrite req = true) ∧
    (∃ (req : Requester) (s : State), s.mayWrite req = true ∧ (s.bus.staging.of req).key ≠ R.topImageLoadAddr) ∧
    (∃ (req : Requester) (lo : Nat) (s : State), s.mayWrite req = true ∧ s.isTile = false ∧ s.bus.staging.of req = ⟨R.topImageLoadAddr, [(0, lo)]⟩) ∧
    (∃ (req : Requester) (s : State), s.mayWrite req = true ∧ s.isTile = false ∧ s.bus.staging.of req = ⟨0, []⟩) ∧
    (∃ (req : Requester) (s : State), s.mayRead req = true) ∧
    (∃ (req : Requester) (s : State), s.mayRead req = true) ∧
    (∃ (req : Requester) (s : State), s.mayRead req = true) :=
  ⟨⟨.claim0, tile, by decide +kernel⟩,
   ⟨.host, feed, by decide +kernel⟩,
   ⟨.mp, 0xFFFFFFC0, feed.setStaging .mp ⟨R.topImageLoadAddr, [(0, 0xFFFFFFC0)]⟩, by decide +kernel⟩,
   ⟨.mp, feed, by decide +kernel⟩,
   ⟨.host, (feed.setReg R.topCommitFrame 0x500000007), by decide +kernel⟩,
   ⟨.host, { (feed.setReg R.rstEpisodes 0x50007) with bus := { BusSt.reset with latch := ⟨0x900000001, 0, 0, 0⟩ } }, by decide +kernel⟩,
   ⟨.mp, tile, by decide +kernel⟩⟩

def feedT : State := { feed with fuses := { feed.fuses with build := .t } }

theorem witness_HostAddressSpaces :
    (∃ (off : BitVec 26) (s : State), s.isTile = false ∧ off.toNat % 4 = 0 ∧ blockAt off.toNat = none ∧ remoteAt off.toNat = none ∧ storeWord off.toNat = none) ∧
    (∃ (off : BitVec 26) (s : State), s.isTile = false ∧ off.toNat % 4 = 0 ∧ blockAt off.toNat = none ∧ remoteAt off.toNat = none ∧ storeWord off.toNat = none) ∧
    (∃ (off : BitVec 36) (data : List Byte) (s : State), s.live .hif = true ∧ s.hif.bars = .all ∧ off.toNat + data.length ≤ s.sharedSize) ∧
    (∃ (off : BitVec 36) (s : State), s.live .hif = true ∧ s.hif.bars = .all ∧ off.toNat + 4 ≤ s.sharedSize) ∧
    (∃ (off : BitVec 36) (data : List Byte) (s : State), s.live .hif = true ∧ s.hif.bars = .all ∧ off.toNat + data.length ≤ s.sharedSize) ∧
    (∃ (off : BitVec 36) (s : State), s.live .hif = true ∧ s.hif.bars = .all ∧ off.toNat + 4 ≤ s.sharedSize) ∧
    (∃ (off : BitVec 36) (s : State), s.live .hif = true ∧ s.hif.bars = .all ∧ s.sharedSize ≤ off.toNat) ∧
    (∃ (off : BitVec 36) (s : State), s.live .hif = true ∧ s.hif.bars = .all ∧ s.sharedSize ≤ off.toNat) ∧
    (∃ (off : BitVec 36) (s : State), s.isF = true ∧ s.live .hif = true ∧ s.hif.bars = .all ∧ off.toNat + 4 ≤ s.sharedSize) ∧
    (∃ (q : BitVec 18) (i : Word) (s : State), s.live .qm = true ∧ s.hif.bars = .all ∧ (s.queueTotal ≤ q.toNat ∨ s.pool q.toNat = none ∨ (s.queue q.toNat).size ≤ i.toNat)) ∧
    (∃ (q : BitVec 18) (i : Word) (s : State), s.live .qm = true ∧ s.hif.bars = .all ∧ (s.queueTotal ≤ q.toNat ∨ s.pool q.toNat = none ∨ (s.queue q.toNat).size ≤ i.toNat)) ∧
    (∃ (q : BitVec 18) (i : Word) (s : State), s.live .qm = true ∧ s.hif.bars = .all ∧ (s.queueTotal ≤ q.toNat ∨ s.pool q.toNat = none ∨ (s.queue q.toNat).size ≤ i.toNat)) ∧
    (∃ (q : BitVec 18) (i : Word) (s : State) (x : _), s.live .qm = true ∧ s.hif.bars = .all ∧ q.toNat < s.queueTotal ∧ s.queueClass q.toNat = some 0 ∧ (s.queue q.toNat).enabled = true ∧ i.toNat < (s.queue q.toNat).size ∧ x ≠ q.toNat) :=
  ⟨⟨0x180000#26, feed, by decide +kernel⟩,
   ⟨0xFFFFFC#26, feed, by decide +kernel⟩,
   ⟨68719476734#36, [1#8, 2#8], feed, by decide +kernel⟩,
   ⟨68719476732#36, feed.memWrite 68719476732 [1#8, 2#8, 3#8, 4#8], by decide +kernel⟩,
   ⟨5#36, [1#8, 2#8], (feedT.put R.hbmStatus F.hbmStatus_STATE 2), by decide +kernel⟩,
   ⟨5#36, feed.put R.hbmStatus F.hbmStatus_STATE 2, by decide +kernel⟩,
   ⟨12582912#36, feedT, by decide +kernel⟩,
   ⟨12582912#36, feedT, by decide +kernel⟩,
   ⟨64#36, feed, by decide +kernel⟩,
   ⟨2048#18, 3#32, feedT, by decide +kernel⟩,
   ⟨63#18, 64#32, feed, by decide +kernel⟩,
   ⟨193#18, 3#32, feed, by decide +kernel⟩,
   ⟨63#18, 63#32, feed.setQueue 63 { QueueCtx.fresh with enabled := true }, 5, by decide +kernel⟩⟩

def loading (p : LdrPhase) (src : ImgSource) (c : Slot ForjoImage) (tried : List Nat) : State := { feed with ldr := { LdrSt.reset with phase := p, source := src, cand := c, tried := tried } }
theorem header_passes (h : ∀ t v, Config.versionSupported t v = true) : let s := loading .header .slot0 (.image (img 1#8)) []; s.headerCheck s.givenLength (img 1#8) = 0 := by
  intro s; unfold State.headerCheck headerStageCause; rw [table_passes h]; decide +kernel

theorem witness_LoaderWalk :
    ((∀ t v, Config.versionSupported t v = true) → (∃ (s : State) (i : ForjoImage), s.ldr.phase = .header ∧ slotForjo s.ldr.cand = some i ∧ s.headerCheck s.givenLength i = 0)) ∧
    (∃ (s : State) (i : ForjoImage) (c : Nat), s.ldr.phase = .header ∧ slotForjo s.ldr.cand = some i ∧ s.headerCheck s.givenLength i = c ∧ c ≠ 0 ∧ c < 256 ∧ s.ldr.source = .slot0 ∧ s.ldr.loadNow = false) ∧
    (∃ (s : State) (i : ForjoImage), s.ldr.phase = .fetch ∧ slotForjo s.ldr.cand = some i ∧ verifyCause s.fuses.build s.hbmOk i = 0 ∧ s.persists = false ∧ s.boot.inner.length = 5) ∧
    (∃ (s : State) (i : ForjoImage) (c : Nat), s.ldr.phase = .fetch ∧ slotForjo s.ldr.cand = some i ∧ verifyCause s.fuses.build s.hbmOk i = c ∧ c ≠ 0 ∧ c < 256 ∧ s.ldr.source = .slot0 ∧ s.ldr.loadNow = false) ∧
    (∃ (s : State), s.ldr.phase = .header ∧ s.ldr.source = .slot1 ∧ s.ldr.loadNow = false ∧ 0 ∈ s.ldr.tried) ∧
    (∃ (s : State), s.ldr.phase = .fetch ∧ s.ldr.source = .slot1 ∧ s.ldr.loadNow = false) ∧
    (∃ (s : State), s.ldr.phase = .build ∧ s.ldr.rebuild = false ∧ s.ldr.source = .slot0 ∧ s.ldr.loadNow = false) ∧
    (∃ (s : State) (i : ForjoImage), s.ldr.phase = .build ∧ s.rst.inReset = false ∧ (s.ldr.rebuild = true ∨ slotForjo s.ldr.cand = some i) ∧ s.ldr.rebuild = false ∧ s.flash.newestSettings = none) ∧
    (∃ (s : State) (i : ForjoImage), s.ldr.phase = .build ∧ s.rst.inReset = false ∧ (s.ldr.rebuild = true ∨ slotForjo s.ldr.cand = some i) ∧ s.ldr.rebuild = false ∧ s.flash.newestSettings = none) :=
  ⟨fun h => ⟨loading .header .slot0 (.image (img 1#8)) [], img 1#8, by decide +kernel, by decide +kernel, header_passes h⟩,
   ⟨loading .header .slot0 (.image { img 1#8 with hdr := { header 1#8 with iv := 2#96 } }) [], { img 1#8 with hdr := { header 1#8 with iv := 2#96 } }, 2, by decide +kernel⟩,
   ⟨((loading .fetch .slot0 (.image (img 1#8)) []).put R.hbmStatus F.hbmStatus_STACK0_OK 1).put R.hbmStatus F.hbmStatus_STACK1_OK 1, img 1#8, by decide +kernel⟩,
   ⟨((loading .fetch .slot0 (.image { img 1#8 with body := { sections 1#8 with signatureOk := false } }) []).put R.hbmStatus F.hbmStatus_STACK0_OK 1).put R.hbmStatus F.hbmStatus_STACK1_OK 1, { img 1#8 with body := { sections 1#8 with signatureOk := false } }, 13, by decide +kernel⟩,
   ⟨loading .header .slot1 .erased [0], by decide +kernel⟩,
   ⟨loading .fetch .slot1 .erased [0], by decide +kernel⟩,
   ⟨loading .build .slot0 (.image (img 1#8)) [], by decide +kernel⟩,
   ⟨loading .build .slot0 (.image (img 1#8)) [], img 1#8, by decide +kernel⟩,
   ⟨loading .build .slot0 (.image (img 2#8)) [], img 2#8, by decide +kernel⟩⟩

def trained : State := (feed.put R.hbmStatus F.hbmStatus_STACK0_OK 1).put R.hbmStatus F.hbmStatus_STACK1_OK 1
def staged : State := ({ tile with flash := { tile.flash with fj1 := .image (img 1#8) } }.put R.hbmStatus F.hbmStatus_STACK0_OK 1).put R.hbmStatus F.hbmStatus_STACK1_OK 1
theorem operand_passes (h : ∀ t v, Config.versionSupported t v = true) : trained.operandCause (some (img 1#8)) (some (fieldGet (0x111#32 : Word).toNat F.topImageLoadCtrl_LENGTH * 64)) = 0 := by
  show (let c := trained.headerCheck (some (fieldGet (0x111#32 : Word).toNat F.topImageLoadCtrl_LENGTH * 64)) (img 1#8); if c ≠ 0 then c else verifyCause trained.fuses.build trained.hbmOk (img 1#8)) = 0
  unfold State.headerCheck headerStageCause; rw [table_passes h]; decide +kernel
theorem slot_passes (h : ∀ t v, Config.versionSupported t v = true) : staged.operandCause none none = 0 := by
  show (let c := staged.headerCheck none (img 1#8); if c ≠ 0 then c else verifyCause staged.fuses.build staged.hbmOk (img 1#8)) = 0
  unfold State.headerCheck headerStageCause; rw [table_passes h]; decide +kernel

theorem witness_LoaderOperations :
    ((∀ t v, Config.versionSupported t v = true) → (∃ (req : Requester) (v : Word) (h : Option ForjoImage) (s : State), s.mayWrite req = true ∧ s.fwRuns = true ∧ s.get R.topImageStatus F.topImageStatus_STATE ≠ 1 ∧ s.isTile = false ∧ fieldGet v.toNat F.topImageLoadCtrl_OP = 1 ∧ 2 ≤ fieldGet v.toNat F.topImageLoadCtrl_LENGTH ∧ fieldGet v.toNat F.topImageLoadCtrl_LENGTH ≤ 262144 ∧ s.operandCause h (some (fieldGet v.toNat F.topImageLoadCtrl_LENGTH * 64)) = 0)) ∧
    ((∀ t v, Config.versionSupported t v = true) → (∃ (req : Requester) (v : Word) (h : Option ForjoImage) (s : State), s.mayWrite req = true ∧ s.fwRuns = true ∧ s.get R.topImageStatus F.topImageStatus_STATE ≠ 1 ∧ s.isTile = true ∧ fieldGet v.toNat F.topImageLoadCtrl_OP = 2 ∧ s.operandCause h none = 0 ∧ s.flash.fjValid.length = 2)) ∧
    (∃ (req : Requester) (v : Word) (s : State), s.mayWrite req = true ∧ s.fwRuns = true ∧ s.get R.topImageStatus F.topImageStatus_STATE ≠ 1 ∧ s.isTile = false ∧ s.ldr.phase = .safeIdle ∧ fieldGet v.toNat F.topImageLoadCtrl_OP = 3 ∧ 2 ≤ fieldGet v.toNat F.topImageLoadCtrl_LENGTH ∧ fieldGet v.toNat F.topImageLoadCtrl_LENGTH ≤ 262144) ∧
    (∃ (req : Requester) (v : Word) (s : State), s.mayWrite req = true ∧ s.fwRuns = true ∧ s.ldr.phase ≠ .safeIdle ∧ fieldGet v.toNat F.topImageLoadCtrl_OP = 3) ∧
    (∃ (c : Slot ForjoImage) (s : State), s.ldr.writing = some (c, 1) ∧ s.ldr.loadNow = false ∧ s.flash.fjValid.length = 2) ∧
    (∃ (c : Slot ForjoImage) (n : Nat) (s : State), s.ldr.writing = some (c, n) ∧ s.ldr.loadNow = false) ∧
    (∃ (s : State), s.isF = true ∧ s.fwRuns = true ∧ s.ldr.phase = .off) ∧
    (∃ (s : State), s.ldr.retrain = true ∧ s.isFeed = true) :=
  ⟨fun h => ⟨.mp, 0x111#32, some (img 1#8), trained, by decide +kernel, by decide +kernel, by decide +kernel, by decide +kernel, by decide +kernel, by decide +kernel, by decide +kernel, operand_passes h⟩,
   fun h => ⟨.mp, 2#32, none, staged, by decide +kernel, by decide +kernel, by decide +kernel, by decide +kernel, by decide +kernel, slot_passes h, by decide +kernel⟩,
   ⟨.mp, 0x100003#32, loading .safeIdle .slot0 .erased [0, 1], by decide +kernel⟩,
   ⟨.mp, 0x103#32, feed, by decide +kernel⟩,
   ⟨.image (img 1#8), { feed with ldr := { feed.ldr with writing := some (.image (img 1#8), 1) } }, by decide +kernel⟩,
   ⟨.image (img 1#8), 1, { feed with ldr := { feed.ldr with writing := some (.image (img 1#8), 1) } }, by decide +kernel⟩,
   ⟨{ feed with ldr := LdrSt.reset }, by decide +kernel⟩,
   ⟨{ feed with ldr := { feed.ldr with retrain := true } }, by decide +kernel⟩⟩

def rstWith (f : RstSt → RstSt) (s : State) : State := { s with rst := f s.rst }

theorem witness_ResetSourcesAreRecorded :
    (∃ (r : Rail) (s : State), (hbmRail r = false ∨ s.isF = true)) ∧
    (∃ (r : Rail) (s : State), (hbmRail r = false ∨ s.isF = true)) ∧
    (∃ (s : State), s.rst.driving = false ∧ (s.rst.follows = true ∨ s.rst.inReset = false)) ∧
    (∃ (s : State), s.rst.wdtRunning = true) ∧
    (∃ (req : Requester) (v : Word) (s : State), (req = .host ∨ req = .mp) ∧ s.mayWrite req = true ∧ fieldGet v.toNat F.rstCmd_KEY = 0xA55A ∧ fieldGet v.toNat F.rstCmd_GO = 1) ∧
    (∃ (req : Requester) (v : Word) (s : State), (req = .claim0 ∨ req = .claim1) ∧ s.mayWrite req = true ∧ fieldGet v.toNat F.rstCmd_KEY = 0xA55A ∧ fieldGet v.toNat F.rstCmd_GO = 1) ∧
    (∃ (req : Requester) (v : Word) (s : State), s.mayWrite req = true ∧ fieldGet v.toNat F.rstCmd_KEY ≠ 0xA55A) ∧
    (∃ (s : State), s.rst.tileCmd = true) ∧
    (∃ (s : State), s.fuses.debug = true) ∧
    (∃ (b : Nat) (c : Nat) (r : List (Nat × Nat)) (s : State), s.rst.fatals = (b, c) :: r) :=
  ⟨⟨.vppHbm, feed, by decide +kernel⟩,
   ⟨.vddio1v8, tile, by decide +kernel⟩,
   ⟨feed, by decide +kernel⟩,
   ⟨feed, by decide +kernel⟩,
   ⟨.mp, 0x0001A55A#32, feed, by decide +kernel⟩,
   ⟨.claim0, 0x0001A55A#32, tile, by decide +kernel⟩,
   ⟨.host, 0x0001A55B#32, feed, by decide +kernel⟩,
   ⟨rstWith (fun r => { r with tileCmd := true }) tile, by decide +kernel⟩,
   ⟨{ feed with fuses := { feed.fuses with debug := true } }, by decide +kernel⟩,
   ⟨6, 5, [], rstWith (fun r => { r with fatals := [(6, 5)] }) tile, by decide +kernel⟩⟩

theorem witness_ResetReleasesAndEpisodes :
    (∃ (r : Rail) (s : State), s.rst.lowRails = [r]) ∧
    (∃ (r : Rail) (q : Rail) (s : State), s.rst.lowRails = [r, q] ∧ q ≠ r) ∧
    (∃ (s : State), s.rst.driving = false ∧ s.rst.follows = true) ∧
    (∃ (s : State), s.rst.driving = true ∧ (∀ c ∈ s.rst.asserted, c = 2)) ∧
    (∃ (s : State) (c : Nat), c ∈ s.rst.asserted ∧ c ≠ 2) ∧
    (∃ (s : State), s.rst.driving = false ∧ s.rst.follows = false) ∧
    (∃ (s : State), s.canEnd = false) ∧
    (∃ (s : State), s.canEnd = true ∧ s.rst.deepest = 2) ∧
    (∃ (s : State), s.canEnd = true ∧ s.rst.deepest = 1 ∧ s.flash.fwPending = false) :=
  ⟨⟨.vddCore, rstWith (fun r => { r with lowRails := [.vddCore], asserted := [0, 1] }) State.reset, by decide +kernel⟩,
   ⟨.vddCore, .vddSram, rstWith (fun r => { r with lowRails := [.vddCore, .vddSram], asserted := [1] }) State.reset, by decide +kernel⟩,
   ⟨rstWith (fun r => { r with asserted := [2], inReset := true, reach := 2, deepest := 2 }) feed, by decide +kernel⟩,
   ⟨rstWith (fun r => { r with asserted := [2] }) State.reset, by decide +kernel⟩,
   ⟨rstWith (fun r => { r with asserted := [0] }) State.reset, 0, by decide +kernel⟩,
   ⟨rstWith (fun r => { r with driving := false, asserted := [2] }) State.reset, by decide +kernel⟩,
   ⟨rstWith (fun r => { r with asserted := [1] }) State.reset, by decide +kernel⟩,
   ⟨rstWith (fun r => { r with inReset := true, reach := 2, deepest := 2 }) feed, by decide +kernel⟩,
   ⟨rstWith (fun r => { r with inReset := true, reach := 1, deepest := 1 }) feed, by decide +kernel⟩⟩

def debugged : State := (({ feed with fuses := { feed.fuses with debug := true }, boot := { feed.boot with inner := [0#384, fw.digest, (img 1#8).digest, 0#384, 0#384] } }.put R.hbmStatus F.hbmStatus_STACK0_OK 1).put R.hbmStatus F.hbmStatus_STACK1_OK 1).setQueue 5 { QueueCtx.fresh with enabled := true }
theorem debugged_image (h : ∀ t v, Config.versionSupported t v = true) : debugged.imageSame = true := by
  have hd : (img 1#8).digest = debugged.boot.inner.getD 2 0 := rfl
  show (headerStageCause debugged.fuses (debugged.get R.secFwInfo F.secFwInfo_VERSION) none (img 1#8) == 0 && verifyCause debugged.fuses.build debugged.hbmOk (img 1#8) == 0 && (img 1#8).digest == debugged.boot.inner.getD 2 0) = true
  rw [hd, beq_self_eq_true, Bool.and_true]
  unfold headerStageCause; rw [table_passes h]; decide +kernel
theorem debugged_firmware : debugged.firmwareSame = true := by
  have hd : fw.digest = debugged.boot.inner.getD 1 0 := rfl
  show (fw.digest == debugged.boot.inner.getD 1 0 && fwCause debugged.fuses (.image fw) == 0) = true
  rw [hd, beq_self_eq_true, Bool.true_and]; decide +kernel

theorem witness_CoreResetDisablesQueues :
    ((∀ t v, Config.versionSupported t v = true) → (∃ (s : State), s.fuses.debug = true ∧ s.rst.inReset = false ∧ s.ldr.phase = .ready ∧ s.firmwareSame = true ∧ s.imageSame = true)) :=
  fun h => ⟨debugged, by decide +kernel, by decide +kernel, by decide +kernel, debugged_firmware, debugged_image h⟩

theorem witness_WatchdogKicks :
    (∃ (v : Word) (s : State), fieldGet v.toNat F.rstWdt_KICK = 0x5A5A ∧ s.rst.wdtRunning = true) ∧
    (∃ (req : Requester) (s : State), req ≠ .mp ∧ s.mayWrite req = true) ∧
    (∃ (v : Word), fieldGet v.toNat F.rstWdt_KICK ≠ 0x5A5A) ∧
    (∃ (s : State), s.rst.wdtRunning = true) :=
  ⟨⟨0x5A5A#32, feed, by decide +kernel⟩,
   ⟨.host, feed, by decide +kernel⟩,
   ⟨0x5A5B#32, by decide +kernel⟩,
   ⟨feed, by decide +kernel⟩⟩

theorem witness_FirmwareSlots :
    (∃ (n : Nat) (f : FwImage) (s : State), n < 2 ∧ s.boot.phase = .fetching n ∧ slotFw (s.flash.fw n) = some f ∧ fwVerifyCause f = 0 ∧ s.flash.fwPending = false ∧ s.boot.inner.length = 5) ∧
    (∃ (n : Nat) (f : FwImage) (s : State), n < 2 ∧ s.boot.phase = .fetching n ∧ slotFw (s.flash.fw n) = some f ∧ fwVerifyCause f = 0 ∧ s.flash.fwPending = false ∧ s.boot.inner.length = 5) ∧
    (∃ (f : FwImage) (s : State), s.boot.phase = .fetching 0 ∧ slotFw (s.flash.fw 0) = some f ∧ fwVerifyCause f ≠ 0) ∧
    (∃ (s : State), s.boot.phase = .fetching 0) ∧
    (∃ (req : Requester) (v : Word) (s : State), s.mayWrite req = true ∧ s.fwRuns = true ∧ s.get R.secFwStatus F.secFwStatus_STATE ≠ 1 ∧ fieldGet v.toNat F.secFwLoadCtrl_OP = 3 ∧ s.flash.fwValid.getD s.inactiveFw false = false) ∧
    (∃ (req : Requester) (v : Word) (s : State), s.mayWrite req = true ∧ s.fwRuns = true ∧ s.get R.secFwStatus F.secFwStatus_STATE ≠ 1 ∧ fieldGet v.toNat F.secFwLoadCtrl_OP = 3 ∧ s.flash.fwValid.getD s.inactiveFw false = true) ∧
    (∃ (req : Requester) (v : Word) (s : State), s.mayWrite req = true ∧ s.fwRuns = true ∧ s.get R.secFwStatus F.secFwStatus_STATE ≠ 1 ∧ fieldGet v.toNat F.secFwLoadCtrl_OP = 1) ∧
    (∃ (req : Requester) (v : Word) (f : FwImage) (s : State), s.mayWrite req = true ∧ s.fwRuns = true ∧ s.get R.secFwStatus F.secFwStatus_STATE ≠ 1 ∧ fieldGet v.toNat F.secFwLoadCtrl_OP = 2 ∧ fieldGet v.toNat F.secFwLoadCtrl_FROM_FLASH = 0 ∧ fwCause s.fuses (.image f) = 0) ∧
    (∃ (f : FwImage) (s : State), s.boot.op = some { stage := true, fromFlash := false, image := .image f, cause := 0 } ∧ s.flash.fwValid.length = 2) ∧
    (∃ (o : FwOp) (s : State), s.boot.op = some o ∧ o.stage = false ∧ o.cause < 256) :=
  ⟨⟨0, fw, { feed with boot := { BootSt.reset with phase := .fetching 0 } }, by decide +kernel⟩,
   ⟨1, fw, { feed with boot := { BootSt.reset with phase := .fetching 1, tried := [0] }, flash := { feed.flash with fw1 := .image fw } }, by decide +kernel⟩,
   ⟨{ fw with body := ⟨false, true, []⟩ }, { feed with boot := { BootSt.reset with phase := .fetching 0 }, flash := { feed.flash with fw0 := .image { fw with body := ⟨false, true, []⟩ } } }, by decide +kernel⟩,
   ⟨{ feed with boot := { BootSt.reset with phase := .fetching 0 } }, by decide +kernel⟩,
   ⟨.mp, 3#32, feed, by decide +kernel⟩,
   ⟨.mp, 3#32, { feed with flash := { feed.flash with fwValid := [true, true] } }, by decide +kernel⟩,
   ⟨.mp, 1#32, feed, by decide +kernel⟩,
   ⟨.mp, 2#32, fw, feed, by decide +kernel⟩,
   ⟨fw, { feed with boot := { feed.boot with op := some { stage := true, fromFlash := false, image := .image fw, cause := 0 } } }, by decide +kernel⟩,
   ⟨{ stage := false, fromFlash := true, image := .erased, cause := 3 }, { feed with boot := { feed.boot with op := some { stage := false, fromFlash := true, image := .erased, cause := 3 } } }, by decide +kernel⟩⟩

theorem witness_HostResetsAndTraining :
    (∃ (c : Instr) (s : State), ((c = .pePerstNAssert ∧ s.hif.perst = false) ∨ (c = .hotReset ∧ s.hif.linkUp = true) ∨ (c = .hostLinkDown ∧ s.hif.linkUp = true) ∨ (c = .flr ∧ s.hif.linkUp = true))) ∧
    (∃ (c : Instr) (s : State), ((c = .pePerstNAssert ∧ s.hif.perst = false) ∨ (c = .hotReset ∧ s.hif.linkUp = true) ∨ (c = .hostLinkDown ∧ s.hif.linkUp = true) ∨ (c = .flr ∧ s.hif.linkUp = true))) ∧
    (∃ (c : Instr) (s : State), ((c = .pePerstNAssert ∧ s.hif.perst = false) ∨ (c = .hotReset ∧ s.hif.linkUp = true) ∨ (c = .hostLinkDown ∧ s.hif.linkUp = true) ∨ (c = .flr ∧ s.hif.linkUp = true))) ∧
    (∃ (c : Instr) (s : State), ((c = .pePerstNAssert ∧ s.hif.perst = false) ∨ (c = .hotReset ∧ s.hif.linkUp = true) ∨ (c = .hostLinkDown ∧ s.hif.linkUp = true) ∨ (c = .flr ∧ s.hif.linkUp = true))) ∧
    (∃ (s : State), s.mayTrain = true) ∧
    (∃ (s : State), s.hif.linkUp = true) ∧
    (∃ (s : State), s.hif.linkUp = true ∧ s.hif.crs = false) :=
  ⟨⟨.pePerstNAssert, feed, by decide +kernel⟩,
   ⟨.hotReset, feed, by decide +kernel⟩,
   ⟨.hostLinkDown, feed, by decide +kernel⟩,
   ⟨.flr, feed, by decide +kernel⟩,
   ⟨{ feed with hif := { HifSt.reset with bars := .all } }, by decide +kernel⟩,
   ⟨feed, by decide +kernel⟩,
   ⟨feed, by decide +kernel⟩⟩

def window (x : SubWindow) : State := { feed with hif := { feed.hif with windows := [x, SubWindow.idle, SubWindow.idle, SubWindow.idle] } }
def rdAns : Packet := up 6 2 0 7 false (leBytes 4 0x10 ++ leBytes 4 0x12345678 ++ [0, 0, 0, 0])
def wrAns : Packet := up 6 3 0 7 false (leBytes 4 0x10 ++ [0, 0, 0, 0])
def known : State := ((feed.put (R.dscTopo 5) F.dscTopo_STATE 3).put (R.dscTopo 5) F.dscTopo_LANE 4).setReg (R.hifRemoteSel 0) 5

theorem witness_RemoteWindow :
    (∃ (w : Fin 4) (a : Nat) (s : State), s.isFeed = true ∧ s.hif.windows.length = 4 ∧ s.window w.val = SubWindow.idle ∧ s.get (R.hifRemoteSel w.val) F.hifRemoteSel_TILE = a ∧ a ≠ 0xFFF ∧ s.topoState a ≠ 0) ∧
    (∃ (w : Fin 4) (a : Nat) (s : State), s.isFeed = true ∧ s.hif.windows.length = 4 ∧ s.window w.val = SubWindow.idle ∧ s.get (R.hifRemoteSel w.val) F.hifRemoteSel_TILE = a ∧ a ≠ 0xFFF ∧ s.topoState a ≠ 0) ∧
    (∃ (w : Fin 4) (s : State), s.isFeed = true ∧ 64 ≤ (s.window w.val).unacked ∧ s.get (R.hifRemoteStatus w.val) F.hifRemoteStatus_ERROR = 0) ∧
    (∃ (w : Fin 4) (s : State), s.isFeed = true ∧ s.hif.windows.length = 4 ∧ s.window w.val = SubWindow.idle ∧ s.get (R.hifRemoteSel w.val) F.hifRemoteSel_TILE = 0xFFF ∧ s.get (R.hifRemoteStatus w.val) F.hifRemoteStatus_ERROR = 0) ∧
    (∃ (w : Fin 4) (r : RemoteRd) (s : State), s.hif.windows.length = 4 ∧ s.window w.val = { SubWindow.idle with read := some r } ∧ s.get (R.hifRemoteStatus w.val) F.hifRemoteStatus_ERROR = 0) ∧
    (∃ (w : Fin 4) (s : State), s.live .hif = true ∧ s.hif.windows.length = 4 ∧ s.window w.val = SubWindow.idle) ∧
    (∃ (p : Fin 96) (k : Packet) (r : RemoteRd) (s : State), s.isFeed = true ∧ s.takes p.val k 6 2 = true ∧ s.hif.windows.length = 4 ∧ s.window 0 = { SubWindow.idle with read := some r } ∧ r.tag = k.hdr.arg.toNat % 65536 ∧ r.claim = k.hdr.claim.toNat ∧ payField k 8 1 = 0) ∧
    (∃ (p : Fin 96) (k : Packet) (x : RemoteWr) (s : State), s.isFeed = true ∧ s.takes p.val k 6 3 = true ∧ s.hif.windows.length = 4 ∧ s.window 0 = { SubWindow.idle with writes := [x] } ∧ x.tag = k.hdr.arg.toNat % 65536 ∧ x.claim = k.hdr.claim.toNat ∧ x.waiting = [k.hdr.src.toNat] ∧ payField k 4 1 = 0) ∧
    (∃ (w : Fin 4) (x : RemoteWr) (s : State), s.hif.windows.length = 4 ∧ s.window w.val = { SubWindow.idle with writes := [x] } ∧ x.broadcast = true) :=
  ⟨⟨(0 : Fin 4), 5, known, by decide +kernel⟩,
   ⟨(0 : Fin 4), 5, known, by decide +kernel⟩,
   ⟨(0 : Fin 4), window { SubWindow.idle with writes := List.replicate 64 ⟨7, 100, 0, false, [5]⟩ }, by decide +kernel⟩,
   ⟨(3 : Fin 4), feed, by decide +kernel⟩,
   ⟨(0 : Fin 4), ⟨7, 100, .word 4⟩, window { SubWindow.idle with read := some ⟨7, 100, .word 4⟩ }, by decide +kernel⟩,
   ⟨(3 : Fin 4), feed, by decide +kernel⟩,
   ⟨(4 : Fin 96), rdAns, ⟨7, 100, .word 16⟩, window { SubWindow.idle with read := some ⟨7, 100, .word 16⟩ }, by decide +kernel⟩,
   ⟨(4 : Fin 96), wrAns, ⟨7, 100, 16, false, [5]⟩, window { SubWindow.idle with writes := [⟨7, 100, 16, false, [5]⟩] }, by decide +kernel⟩,
   ⟨(0 : Fin 4), ⟨7, 100, 16, true, [5, 6]⟩, window { SubWindow.idle with writes := [⟨7, 100, 16, true, [5, 6]⟩] }, by decide +kernel⟩⟩

def boxed (op : Nat) : State := { feed with mbx := (List.replicate 64 MbxState.free).set 63 .submitted }.setReg (R.mbxEntry 63 0) op

theorem witness_Mailbox :
    (∃ (req : Requester) (s : State), s.live .mbx = true ∧ s.mayWrite req = true ∧ (s.isTile = true → req ≠ .mp) ∧ (∀ x ∈ s.mbx, x ≠ .free)) ∧
    (∃ (req : Requester) (i : Nat) (s : State), s.live .mbx = true ∧ s.mayWrite req = true ∧ (s.isTile = true → req ≠ .mp) ∧ i < 64 ∧ s.freeEntry = some i) ∧
    (∃ (req : Requester) (v : Word) (s : State), s.live .mbx = true ∧ s.mayWrite req = true ∧ (s.isTile = true → req ≠ .mp) ∧ s.entry (fieldGet v.toNat F.mbxRelease_INDEX) = .done) ∧
    (∃ (req : Requester) (v : Word) (s : State), s.live .mbx = true ∧ s.mayWrite req = true ∧ (s.isTile = true → req ≠ .mp) ∧ s.entry (fieldGet v.toNat F.mbxRelease_INDEX) ≠ .done) ∧
    (∃ (e : Fin 64) (s : State), s.serves e.val = true) ∧
    (∃ (e : Fin 64) (s : State), s.serves e.val = true ∧ s.opcode e.val = 0) ∧
    (∃ (e : Fin 64) (s : State), s.serves e.val = true ∧ s.opcode e.val = 1) ∧
    (∃ (e : Fin 64) (s : State), s.serves e.val = true ∧ s.opcode e.val = 0x100 ∧ s.payloadWords e.val = 0 ∧ s.boot.confirmed = true ∧ s.fuses.svnFloor < s.get R.secFwInfo F.secFwInfo_SVN) ∧
    (∃ (e : Fin 64) (s : State), s.serves e.val = true ∧ s.opcode e.val = 0x100 ∧ s.payloadWords e.val = 0 ∧ ¬(s.boot.confirmed = true ∧ s.fuses.svnFloor < s.get R.secFwInfo F.secFwInfo_SVN)) ∧
    (∃ (e : Fin 64) (s : State), s.serves e.val = true ∧ s.opcode e.val = 0x101 ∧ s.payloadWords e.val = 0 ∧ s.flash.newestSettings = some 0) ∧
    (∃ (e : Fin 64) (s : State), s.serves e.val = true ∧ s.opcode e.val = 0x102 ∧ s.payloadWords e.val = 0) :=
  ⟨⟨.mp, { feed with mbx := List.replicate 64 .submitted }, by decide +kernel⟩,
   ⟨.mp, 63, { feed with mbx := (List.replicate 64 MbxState.submitted).set 63 .free }.setReg (R.mbxCmd 15) 77, by decide +kernel⟩,
   ⟨.mp, 63#32, { feed with mbx := (List.replicate 64 MbxState.free).set 63 .done }, by decide +kernel⟩,
   ⟨.mp, 63#32, boxed 0, by decide +kernel⟩,
   ⟨(63 : Fin 64), boxed 0x200, by decide +kernel⟩,
   ⟨(63 : Fin 64), boxed 0, by decide +kernel⟩,
   ⟨(63 : Fin 64), boxed 1, by decide +kernel⟩,
   ⟨(63 : Fin 64), (boxed 0x100).put R.secFwInfo F.secFwInfo_SVN 2, by decide +kernel⟩,
   ⟨(63 : Fin 64), boxed 0x100, by decide +kernel⟩,
   ⟨(63 : Fin 64), { boxed 0x101 with flash := { feed.flash with settings0 := some ⟨1, 7, true, []⟩ } }, by decide +kernel⟩,
   ⟨(63 : Fin 64), { boxed 0x102 with flash := { feed.flash with settings0 := some ⟨1, 7, true, []⟩ } }, by decide +kernel⟩⟩

def relaying : State := { feed with spdm := { SpdmSt.reset with relayMsg := 65535, relayTile := 5 } }.put R.secRelayStatus F.secRelayStatus_STATE 1
def busy : State := { feed with hif := { feed.hif with doeBusy := true } }

theorem witness_Attestation :
    (∃ (n : Nat) (s : State), s.hif.linkUp = true ∧ s.hif.crs = false ∧ 32768 < n) ∧
    (∃ (n : Nat) (o : List Byte) (s : State), s.hif.linkUp = true ∧ s.hif.crs = false ∧ n ≤ 32768 ∧ o.length ≤ 32768) ∧
    (∃ (s : State) (n : BitVec 8), s.isTile = false ∧ s.hif.doeBusy = true ∧ n ≠ 0#8) ∧
    (∃ (p : Fin 96) (c : BitVec 16) (q : BitVec 32) (m : BitVec 16) (s : State), s.isTile = true ∧ s.rst.inReset = false ∧ (p.val, c.toNat, q.toNat, m.toNat) ∈ s.spdm.waiting) ∧
    (∃ (p : Fin 96) (k : Packet) (s : State), s.isTile = true ∧ s.takes p.val k 3 5 = true ∧ k.hdr.last = true ∧ k.hdr.arg.toNat < 65536) ∧
    (∃ (req : Requester) (v : Word) (s : State), s.mayWrite req = true ∧ fieldGet v.toNat F.secRelayCtrl_GO = 1 ∧ s.get R.secRelayStatus F.secRelayStatus_STATE = 1) ∧
    (∃ (req : Requester) (v : Word) (a : Nat) (n : Nat) (s : State), s.mayWrite req = true ∧ fieldGet v.toNat F.secRelayCtrl_GO = 1 ∧ s.isFeed = true ∧ s.rst.inReset = false ∧ s.get R.secRelayStatus F.secRelayStatus_STATE ≠ 1 ∧ fieldGet v.toNat F.secRelayCtrl_TILE = a ∧ a ≠ 0xFFF ∧ fieldGet v.toNat F.secRelayCtrl_LENGTH = n ∧ 0 < n ∧ n ≤ 2048) ∧
    (∃ (s : State), s.get R.secRelayStatus F.secRelayStatus_STATE = 1) ∧
    (∃ (p : Fin 96) (k : Packet) (s : State), s.isFeed = true ∧ s.takes p.val k 6 6 = true ∧ k.hdr.last = true ∧ s.get R.secRelayStatus F.secRelayStatus_STATE = 1 ∧ k.hdr.arg.toNat = s.spdm.relayMsg ∧ s.spdm.relayMsg < 65536 ∧ k.hdr.src.toNat = s.spdm.relayTile ∧ s.spdm.relayPart = 0 ∧ s.spdm.relayRx = [] ∧ (payloadBytes k).length ≤ 2048) :=
  ⟨⟨32769, feed, by decide +kernel⟩,
   ⟨8, [1#8, 2#8, 3#8, 4#8, 5#8, 6#8, 7#8, 8#8], feed, by decide +kernel⟩,
   ⟨busy, 0xFF#8, by decide +kernel⟩,
   ⟨(0 : Fin 96), 100#16, 9#32, 0xFFFF#16, { tile with spdm := { SpdmSt.reset with waiting := [(0, 100, 9, 65535), (4, 100, 9, 65535)] } }, by decide +kernel⟩,
   ⟨(0 : Fin 96), down 3 5 9 0 65535 true [0x12, 0x84, 0, 0], tile, by decide +kernel⟩,
   ⟨.mp, 0x10000005#32, relaying, by decide +kernel⟩,
   ⟨.mp, BitVec.ofNat 32 (fieldSet (fieldSet (fieldSet 0 F.secRelayCtrl_GO 1) F.secRelayCtrl_TILE 5) F.secRelayCtrl_LENGTH 6), 5, 6, known, by decide +kernel⟩,
   ⟨relaying, by decide +kernel⟩,
   ⟨(0 : Fin 96), up 6 6 0 65535 true [1, 2, 3, 4], relaying, by decide +kernel⟩⟩

theorem witness_TimeRegisterWrites :
    (∃ (req : Requester) (v : Word) (s : State), s.mayWrite req = true ∧ s.isTile = false ∧ s.flag R.timeStatus F.timeStatus_STANDBY = false ∧ fieldGet v.toNat F.timeCtrl_REARM = 0 ∧ fieldGet v.toNat F.timeCtrl_SET_GO = 0 ∧ fieldGet v.toNat F.timeCtrl_REF ≠ 0 ∧ fieldGet v.toNat F.timeCtrl_REF ≠ s.time.inUse) ∧
    (∃ (req : Requester) (v : Word) (s : State), s.mayWrite req = true ∧ s.isTile = true ∧ fieldGet v.toNat F.timeCtrl_REARM = 0 ∧ fieldGet v.toNat F.timeCtrl_SET_GO = 0) ∧
    (∃ (req : Requester) (v : Word) (s : State), s.mayWrite req = true ∧ fieldGet v.toNat F.timeCtrl_REARM = 1 ∧ fieldGet v.toNat F.timeCtrl_SET_GO = 0 ∧ fieldGet v.toNat F.timeCtrl_REF = s.get R.timeCtrl F.timeCtrl_REF ∧ s.wantedReference = s.time.inUse ∧ s.flag R.timeStatus F.timeStatus_REARM_PENDING = true) ∧
    (∃ (req : Requester) (v : Word) (s : State), s.mayWrite req = true ∧ fieldGet v.toNat F.timeCtrl_REARM = 1 ∧ fieldGet v.toNat F.timeCtrl_SET_GO = 0 ∧ fieldGet v.toNat F.timeCtrl_REF = s.get R.timeCtrl F.timeCtrl_REF ∧ s.wantedReference = s.time.inUse ∧ s.flag R.timeStatus F.timeStatus_REARM_PENDING = false) ∧
    (∃ (s : State), s.flag R.timeStatus F.timeStatus_REARM_PENDING = true ∧ s.seq.state = .idle ∧ s.seq.pendingMode = none ∧ s.seq.checking = none) ∧
    (∃ (s : State), (s.seq.state ≠ .idle ∨ s.seq.pendingMode ≠ none)) ∧
    (∃ (s : State), (s.seq.state ≠ .idle ∨ s.seq.pendingMode ≠ none)) ∧
    (∃ (req : Requester) (v : Word) (s : State), s.mayWrite req = true ∧ fieldGet v.toNat F.timeCtrl_REARM = 0 ∧ fieldGet v.toNat F.timeCtrl_SET_GO = 1 ∧ fieldGet v.toNat F.timeCtrl_REF = s.get R.timeCtrl F.timeCtrl_REF ∧ s.wantedReference = s.time.inUse ∧ s.flag R.timeStatus F.timeStatus_STEP_USED = false ∧ s.time.inUse ∈ [0, 2, 3] ∧ s.reg R.timeSet % 2 ^ 32 ≤ 999999999) ∧
    (∃ (req : Requester) (v : Word) (s : State), s.mayWrite req = true ∧ fieldGet v.toNat F.timeCtrl_REARM = 0 ∧ fieldGet v.toNat F.timeCtrl_SET_GO = 1 ∧ fieldGet v.toNat F.timeCtrl_REF = s.get R.timeCtrl F.timeCtrl_REF ∧ s.wantedReference = s.time.inUse ∧ s.flag R.timeStatus F.timeStatus_STEP_USED = false ∧ s.time.inUse ∈ [0, 2, 3] ∧ s.reg R.timeSet % 2 ^ 32 ≤ 999999999) ∧
    (∃ (req : Requester) (v : Word) (s : State), s.mayWrite req = true ∧ fieldGet v.toNat F.timeCtrl_REARM = 0 ∧ fieldGet v.toNat F.timeCtrl_SET_GO = 1 ∧ fieldGet v.toNat F.timeCtrl_REF = s.get R.timeCtrl F.timeCtrl_REF ∧ s.wantedReference = s.time.inUse ∧ s.flag R.timeStatus F.timeStatus_STEP_USED = true) ∧
    (∃ (req : Requester) (v : Word) (s : State), s.mayWrite req = true ∧ 1 ≤ fieldGet v.toNat F.timeServoCfg_SLEW_PPM ∧ fieldGet v.toNat F.timeServoCfg_SLEW_PPM ≤ 200) ∧
    (∃ (req : Requester) (v : Word) (s : State), s.mayWrite req = true ∧ 1 ≤ fieldGet v.toNat F.timeServoCfg_SLEW_PPM ∧ fieldGet v.toNat F.timeServoCfg_SLEW_PPM ≤ 200) ∧
    (∃ (req : Requester) (v : Word) (s : State), s.mayWrite req = true ∧ (fieldGet v.toNat F.timeServoCfg_SLEW_PPM = 0 ∨ 200 < fieldGet v.toNat F.timeServoCfg_SLEW_PPM)) ∧
    (∃ (req : Requester) (v : Word) (s : State), s.mayWrite req = true ∧ (fieldGet v.toNat F.timeServoCfg_SLEW_PPM = 0 ∨ 200 < fieldGet v.toNat F.timeServoCfg_SLEW_PPM)) ∧
    (∃ (req : Requester) (v : Word) (s : State), s.mayWrite req = true ∧ fieldGet v.toNat F.timePtpCfg_DOMAIN ≠ s.get R.timePtpCfg F.timePtpCfg_DOMAIN) :=
  ⟨⟨.mp, 2#32, timed 1 4 (fun t => { t with hist := [5] }) feed, by decide +kernel⟩,
   ⟨.mp, 1#32, tile, by decide +kernel⟩,
   ⟨.mp, 9#32, (timed 1 4 id feed).put R.timeStatus F.timeStatus_REARM_PENDING 1, by decide +kernel⟩,
   ⟨.mp, 9#32, ((timed 1 4 id feed).put R.timeStatus F.timeStatus_FRAME_LOCKED 1).put R.topStatus F.topStatus_FRAME_LOCKED 1, by decide +kernel⟩,
   ⟨((timed 1 4 (fun t => { t with hist := [5] }) feed).put R.timeStatus F.timeStatus_REARM_PENDING 1).put R.timeStatus F.timeStatus_EPOCH 255, by decide +kernel⟩,
   ⟨{ (timed 1 4 id feed).put R.timeStatus F.timeStatus_REARM_PENDING 1 with seq := { SeqSt.reset with state := .run } }, by decide +kernel⟩,
   ⟨{ (timed 1 4 id feed).put R.timeStatus F.timeStatus_REARM_PENDING 1 with seq := { SeqSt.reset with pendingMode := some ⟨1, 0, 0, false⟩ } }, by decide +kernel⟩,
   ⟨.mp, 0x10#32, feed.setReg R.timeSet (999999999 + 5 * 2 ^ 32), by decide +kernel⟩,
   ⟨.mp, 0x12#32, (timed 2 0 id feed).setReg R.timeSet (5 * 2 ^ 32), by decide +kernel⟩,
   ⟨.mp, 0x10#32, feed.put R.timeStatus F.timeStatus_STEP_USED 1, by decide +kernel⟩,
   ⟨.mp, 200#32, feed, by decide +kernel⟩,
   ⟨.mp, 1#32, feed, by decide +kernel⟩,
   ⟨.mp, 201#32, feed, by decide +kernel⟩,
   ⟨.mp, 0#32, feed, by decide +kernel⟩,
   ⟨.mp, 7#32, (timed 1 4 (fun t => { t with ptpA := { t.ptpA with reqSeq := 3 } }) feed).put R.timeStatus F.timeStatus_STEP_USED 1, by decide +kernel⟩⟩

theorem witness_AlignmentOrigin :
    (∃ (req : Requester) (s : State), s.mayWrite req = true ∧ s.isFeed = true ∧ s.seq.state = .idle) ∧
    (∃ (req : Requester) (s : State), s.mayWrite req = true ∧ (s.isTile = true ∨ s.seq.state ≠ .idle)) ∧
    (∃ (req : Requester) (s : State), s.mayWrite req = true ∧ (s.isTile = true ∨ s.seq.state ≠ .idle)) ∧
    (∃ (l : Fin 96) (k : Packet) (s : State) (u : State), u = s.noteClaim k.hdr.claim.toNat (some ((beaconOf k).serial, l.val)) ∧ s.takes l.val k 2 1 = true ∧ s.isTile = true ∧ u.beaconValid l.val (beaconOf k) = true ∧ u.mayMeasure (u.fromWinner l.val k.hdr.claim.toNat) (beaconOf k) = true) :=
  ⟨⟨.mp, feed, by decide +kernel⟩,
   ⟨.mp, { feed with seq := { SeqSt.reset with state := .reduced } }, by decide +kernel⟩,
   ⟨.mp, tile, by decide +kernel⟩,
   ⟨(0 : Fin 96), beacon 9#64 100, tileHears, (tileHears).noteClaim (beacon 9#64 100).hdr.claim.toNat (some ((beaconOf (beacon 9#64 100)).serial, ((0 : Fin 96)).val)), by first | with_reducible rfl | rfl, by decide +kernel⟩⟩

theorem witness_ServoTimersAndPins :
    (∃ (s : State), s.servo = svAcquire) ∧
    (∃ (s : State), s.servo ≠ svAcquire) ∧
    (∃ (s : State), s.servo = svHoldover) ∧
    (∃ (s : State), s.servo ≠ svHoldover) ∧
    (∃ (s : State), (s.time.inUse = 2 ∨ s.time.inUse = 3) ∧ (s.servo = svAcquire ∨ s.servo = svTrack)) ∧
    (∃ (s : State), (s.time.inUse = 2 ∨ s.time.inUse = 3) ∧ s.servo = svLocked) ∧
    (∃ (s : State), (s.time.inUse = 2 ∨ s.time.inUse = 3) ∧ (s.servo = svFree ∨ s.servo = svHoldover)) ∧
    (∃ (s : State), s.time.inUse ≠ 2 ∧ s.time.inUse ≠ 3) ∧
    (∃ (s : State) (u : State), s.time.inUse = 4 ∧ (u.servo = svAcquire ∨ u.servo = svTrack)) ∧
    (∃ (s : State) (u : State), s.time.inUse = 4 ∧ u.servo = svLocked) ∧
    (∃ (rising : Bool) (w : Nat) (s : State), (w < 100 ∨ rising = s.flag R.timePinCfg F.timePinCfg_FRAME_IN_POL ∨ s.time.inUse ≠ 2)) ∧
    (∃ (rising : Bool) (w : Nat) (s : State), (w < 100 ∨ rising = s.flag R.timePinCfg F.timePinCfg_FRAME_IN_POL ∨ s.time.inUse ≠ 2)) ∧
    (∃ (rising : Bool) (w : Nat) (s : State), (w < 100 ∨ rising = s.flag R.timePinCfg F.timePinCfg_FRAME_IN_POL ∨ s.time.inUse ≠ 2)) ∧
    (∃ (rising : Bool) (w : Nat) (p : PatternRec) (s : State), 100 ≤ w ∧ rising ≠ s.flag R.timePinCfg F.timePinCfg_FRAME_IN_POL ∧ s.time.inUse = 2 ∧ s.pattern = some p ∧ s.time.edge = none) ∧
    (∃ (rising : Bool) (w : Nat) (p : PatternRec) (s : State) (e : Int), 100 ≤ w ∧ rising ≠ s.flag R.timePinCfg F.timePinCfg_FRAME_IN_POL ∧ s.time.inUse = 2 ∧ s.pattern = some p ∧ s.time.edge = some e ∧ nearPeriod (s.stamp - e) p.fpNum p.fpDen = true ∧ s.servo = svFree ∧ s.flag R.timeStatus F.timeStatus_STEP_USED = false ∧ s.flag R.timeStatus F.timeStatus_REARM_PENDING = false) ∧
    (∃ (rising : Bool) (w : Nat) (s : State), (w < 100 ∨ rising = s.flag R.timePinCfg F.timePinCfg_PPS_IN_POL ∨ s.time.inUse ≠ 3)) ∧
    (∃ (rising : Bool) (w : Nat) (e : Int) (s : State), 100 ≤ w ∧ rising ≠ s.flag R.timePinCfg F.timePinCfg_PPS_IN_POL ∧ s.time.inUse = 3 ∧ s.time.edge = some e ∧ nearPeriod (s.stamp - e) 1 1 = true ∧ s.servo = svAcquire ∧ s.time.acq.length = 15 ∧ s.flag R.timeStatus F.timeStatus_REARM_PENDING = false) ∧
    (∃ (a : Int) (b : Int) (s : State), s.ppsInstants = some (a, b) ∧ s.clock.now - a ≤ 2) ∧
    (∃ (a : Int) (b : Int) (s : State), s.ppsInstants = some (a, b) ∧ s.clock.now - a ≤ 2) ∧
    (∃ (s : State), s.get R.timePinCfg F.timePinCfg_OUT_MODE = 1 ∧ s.clock.now % 1000000000 ≤ 2) ∧
    (∃ (s : State), s.get R.timePinCfg F.timePinCfg_OUT_MODE = 0) ∧
    (∃ (t : Nat) (s : State), s.time.pps = some t ∧ t ≤ s.clock.now) ∧
    (∃ (t : Nat) (s : State), s.time.pps = some t ∧ s.clock.now < t) :=
  ⟨⟨timed 1 1 (fun t => { t with acq := [3, 4] }) feed, by decide +kernel⟩,
   ⟨timed 1 2 id feed, by decide +kernel⟩,
   ⟨timed 1 4 (fun t => { t with hist := [3] }) feed, by decide +kernel⟩,
   ⟨timed 1 2 id feed, by decide +kernel⟩,
   ⟨timed 2 1 (fun t => { t with edge := some 5, hist := [3] }) feed, by decide +kernel⟩,
   ⟨timed 3 svLocked (fun t => { t with edge := some 5, hist := [3] }) feed, by decide +kernel⟩,
   ⟨timed 3 svHoldover id feed, by decide +kernel⟩,
   ⟨timed 4 1 id feed, by decide +kernel⟩,
   ⟨timed 4 svTrack (fun t => { t with source := some 9 }) tile, (timed 4 svTrack (fun t => { t with source := some 9 }) tile).raiseDeadline .time 6 0 [(timed 4 svTrack (fun t => { t with source := some 9 }) tile).frameNow, (timed 4 svTrack (fun t => { t with source := some 9 }) tile).slotNow, (timed 4 svTrack (fun t => { t with source := some 9 }) tile).ns32, (timed 4 svTrack (fun t => { t with source := some 9 }) tile).time.source.getD 0 % 2 ^ 32], by decide +kernel⟩,
   ⟨timed 4 svLocked (fun t => { t with source := some 9 }) tile, (timed 4 svLocked (fun t => { t with source := some 9 }) tile).raiseDeadline .time 6 0 [(timed 4 svLocked (fun t => { t with source := some 9 }) tile).frameNow, (timed 4 svLocked (fun t => { t with source := some 9 }) tile).slotNow, (timed 4 svLocked (fun t => { t with source := some 9 }) tile).ns32, (timed 4 svLocked (fun t => { t with source := some 9 }) tile).time.source.getD 0 % 2 ^ 32], by decide +kernel⟩,
   ⟨true, 99, timed 2 0 id feed, by decide +kernel⟩,
   ⟨false, 100, timed 2 0 id feed, by decide +kernel⟩,
   ⟨true, 100, timed 3 0 id feed, by decide +kernel⟩,
   ⟨true, 100, pat, timed 2 0 id feed, by decide +kernel⟩,
   ⟨true, 100, pat, timed 2 0 (fun t => { t with edge := some (3600000000000 * 65536 - 1092266666666) }) feed, 3600000000000 * 65536 - 1092266666666, by decide +kernel⟩,
   ⟨true, 99, timed 3 0 id feed, by decide +kernel⟩,
   ⟨true, 100, 3599000000000 * 65536, timed 3 1 (fun t => { t with edge := some (3599000000000 * 65536), acq := List.replicate 15 7 }) feed, by decide +kernel⟩,
   ⟨3600000000000, 3600016666666, (feed.put R.timePinCfg F.timePinCfg_OUT_MODE 2).put R.timePinCfg F.timePinCfg_WIDTH 9000, by decide +kernel⟩,
   ⟨3600000000000, 3600008333333, feed.put R.timePinCfg F.timePinCfg_OUT_MODE 3, by decide +kernel⟩,
   ⟨feed.put R.timePinCfg F.timePinCfg_OUT_MODE 1, by decide +kernel⟩,
   ⟨feed, by decide +kernel⟩,
   ⟨3600000000000, timed 1 2 (fun t => { t with pps := some 3600000000000 }) feed, by decide +kernel⟩,
   ⟨3600000000001, timed 1 2 (fun t => { t with pps := some 3600000000001 }) feed, by decide +kernel⟩⟩

def ds (pri : BitVec 8) : PtpDataset := ⟨pri, 6#8, 0x21#8, 100#16, 128#8, 77#64, 1#16, 33#80⟩
def ph (p : Fin 8) : PtpHdr := ⟨p, false, false, 127#8, 33#80, 4#16⟩
def ptpWith (a : PtpPort → PtpPort) (st : Nat) : State := timed 1 st (fun t => { t with ptpA := a { PtpPort.reset with best := some (ds 1#8) } }) (withEth 48 0 (feed.put R.timePtpCfg F.timePtpCfg_PORT_B 1))

theorem witness_PtpExchange :
    (∃ (h : PtpHdr) (s : State), s.ptpSide h = none) ∧
    (∃ (h : PtpHdr) (s : State), s.ptpSide h = some false ∧ s.time.ptpA.best = none ∧ s.time.ptpB.best = none) ∧
    (∃ (h : PtpHdr) (b : Bool) (s : State), s.ptpSide h = some b ∧ fromMaster (s.ptpPort b) h = true) ∧
    (∃ (h : PtpHdr) (b : Bool) (s : State), s.ptpSide h = some b ∧ fromMaster (s.ptpPort b) h = false) ∧
    (∃ (h : PtpHdr) (b : Bool) (pr : Int) (s : State), s.ptpSide h = some b ∧ fromMaster (s.ptpPort b) h = true ∧ (s.ptpPort b).pair = some pr ∧ s.time.inUse = 1 ∧ b = s.ptpActive ∧ s.servo = svFree ∧ s.flag R.timeStatus F.timeStatus_STEP_USED = false ∧ s.flag R.timeStatus F.timeStatus_REARM_PENDING = false) ∧
    (∃ (h : PtpHdr) (b : Bool) (pr : Int) (s : State) (t2 : Int) (c1 : Int), s.ptpSide h = some b ∧ fromMaster (s.ptpPort b) h = true ∧ (s.ptpPort b).pair = some pr ∧ s.time.inUse = 1 ∧ b = s.ptpActive ∧ s.servo = svFree ∧ s.flag R.timeStatus F.timeStatus_STEP_USED = false ∧ s.flag R.timeStatus F.timeStatus_REARM_PENDING = false ∧ (s.ptpPort b).sync = some (h.seq.toNat, t2, c1)) ∧
    (∃ (b : Bool) (m : PtpDataset) (s : State), s.isFeed = true ∧ (s.ptpPort b).best = some m ∧ (b = true → s.flag R.timePtpCfg F.timePtpCfg_PORT_B_EN = true) ∧ s.ethUp (s.ptpEthPort b) = true) ∧
    (∃ (b : Bool) (s : State), (s.ptpPort b).best = none) ∧
    (∃ (h : PtpHdr) (b : Bool) (t3 : Int) (s : State), s.ptpSide h = some b ∧ (s.ptpPort b).req = some (h.seq.toNat, t3) ∧ fromMaster (s.ptpPort b) h = true ∧ h.unicast = s.flag R.timePtpCfg F.timePtpCfg_HYBRID) ∧
    (∃ (b : Bool) (s : State), s.isFeed = true ∧ (s.ptpPort b).best ≠ none) ∧
    (∃ (b : Bool) (s : State), s.isFeed = true ∧ (s.ptpPort b).best ≠ none ∧ s.time.inUse = 1 ∧ b = s.ptpActive ∧ s.servo = svLocked) ∧
    (∃ (b : Bool) (noSync : Bool) (s : State), s.isFeed = true ∧ (noSync = true ∨ (s.ptpPort b).best = none) ∧ s.time.inUse = 1 ∧ b = s.ptpActive ∧ (s.servo = svAcquire ∨ s.servo = svTrack)) ∧
    (∃ (b : Bool) (noSync : Bool) (s : State), s.isFeed = true ∧ (noSync = true ∨ (s.ptpPort b).best = none) ∧ s.time.inUse = 1 ∧ b = s.ptpActive ∧ s.servo = svLocked) ∧
    (∃ (b : Bool) (noSync : Bool) (s : State), s.isFeed = true ∧ (noSync = true ∨ (s.ptpPort b).best = none) ∧ s.time.inUse = 1 ∧ b = s.ptpActive) ∧
    (∃ (b : Bool) (noSync : Bool) (s : State), s.isFeed = true ∧ (noSync = true ∨ (s.ptpPort b).best = none) ∧ (s.time.inUse ≠ 1 ∨ b ≠ s.ptpActive)) :=
  ⟨⟨ph 1, ptpWith id 0, by decide +kernel⟩,
   ⟨ph 0, timed 1 0 id (withEth 48 0 feed), by decide +kernel⟩,
   ⟨ph 0, false, ptpWith id 0, by decide +kernel⟩,
   ⟨{ ph 0 with source := 34#80 }, false, ptpWith id 0, by decide +kernel⟩,
   ⟨ph 0, false, -7, ptpWith (fun p => { p with pair := some (-7) }) 0, by decide +kernel⟩,
   ⟨ph 0, false, -7, ptpWith (fun p => { p with pair := some (-7), sync := some (4, 88, 3) }) 0, 88, 3, by decide +kernel⟩,
   ⟨false, ds 1#8, ptpWith (fun p => { p with reqSeq := 65535 }) 0, by decide +kernel⟩,
   ⟨true, ptpWith id 0, by decide +kernel⟩,
   ⟨ph 0, false, 55, ptpWith (fun p => { p with req := some (4, 55) }) 0, by decide +kernel⟩,
   ⟨false, ptpWith id 2, by decide +kernel⟩,
   ⟨false, ptpWith id svLocked, by decide +kernel⟩,
   ⟨false, true, ptpWith id svTrack, by decide +kernel⟩,
   ⟨false, true, ptpWith id svLocked, by decide +kernel⟩,
   ⟨false, false, timed 1 0 id feed, by decide +kernel⟩,
   ⟨true, true, ptpWith id 2, by decide +kernel⟩⟩

def askedOn (n : Nat) : State := { feed with time := { feed.time with links := [⟨0, List.replicate n 9, [(3, 3600000000000 * 65536 - 65536000000)], 4⟩] } }
def tim (t : Nat) (b : List Nat) : Packet := makePacket 2 t 0xFFF 1 0xFFF 0 3 0 0 0 false false b

theorem witness_EnsignsAndLinkDelays :
    (∃ (s : State), s.isFeed = true) ∧
    (∃ (s : State), s.isFeed = false) ∧
    (∃ (l : Fin 96) (k : Packet) (s : State) (u : State), u = s.noteClaim k.hdr.claim.toNat (some ((beaconOf k).serial, l.val)) ∧ s.takes l.val k 2 1 = true ∧ s.isTile = true ∧ u.beaconValid l.val (beaconOf k) = false) ∧
    (∃ (l : Fin 96) (k : Packet) (s : State) (u : State), u = s.noteClaim k.hdr.claim.toNat (some ((beaconOf k).serial, l.val)) ∧ s.takes l.val k 2 1 = true ∧ s.isTile = true ∧ u.beaconValid l.val (beaconOf k) = true ∧ u.fromWinner l.val k.hdr.claim.toNat = true ∧ u.rst.inReset = false) ∧
    (∃ (l : Fin 96) (k : Packet) (s : State), s.takes l.val k 2 1 = false) ∧
    (∃ (l : Fin 96) (s : State), s.isHalPort l.val = true ∧ s.portActive l.val = true) ∧
    (∃ (l : Fin 96) (k : Packet) (s : State), s.isHalPort l.val = true ∧ s.portActive l.val = true ∧ k.hdr.length.toNat = 8 ∧ k.payload.length = 8) ∧
    (∃ (l : Fin 96) (s : State), s.portActive l.val = false) ∧
    (∃ (l : Fin 96) (k : Packet) (t1 : Int) (s : State), s.isHalPort l.val = true ∧ k.hdr.length.toNat = 16 ∧ (s.link l.val).waiting.find? (fun w => w.1 == payField k 0 4) = some (payField k 0 4, t1) ∧ s.stamp - t1 ≤ 65536000000 ∧ (s.link l.val).samples.length ≤ 16) ∧
    (∃ (l : Fin 96) (k : Packet) (t1 : Int) (s : State), s.isHalPort l.val = true ∧ k.hdr.length.toNat = 16 ∧ (s.link l.val).waiting.find? (fun w => w.1 == payField k 0 4) = some (payField k 0 4, t1) ∧ s.stamp - t1 ≤ 65536000000 ∧ (s.link l.val).samples.length ≤ 16) ∧
    (∃ (l : Fin 96) (k : Packet) (s : State), (s.link l.val).waiting.find? (fun w => w.1 == payField k 0 4) = none) :=
  ⟨⟨feed, by decide +kernel⟩,
   ⟨tile, by decide +kernel⟩,
   ⟨(0 : Fin 96), beacon 9#64 100, tile, (tile).noteClaim (beacon 9#64 100).hdr.claim.toNat (some ((beaconOf (beacon 9#64 100)).serial, ((0 : Fin 96)).val)), by first | with_reducible rfl | rfl, by decide +kernel⟩,
   ⟨(0 : Fin 96), beacon 9#64 100, tileHears, (tileHears).noteClaim (beacon 9#64 100).hdr.claim.toNat (some ((beaconOf (beacon 9#64 100)).serial, ((0 : Fin 96)).val)), by first | with_reducible rfl | rfl, by decide +kernel⟩,
   ⟨(8 : Fin 96), beacon 9#64 100, tile, by decide +kernel⟩,
   ⟨(4 : Fin 96), feed, by decide +kernel⟩,
   ⟨(4 : Fin 96), tim 2 [3, 0, 0, 0, 0, 0, 0, 0], feed, by decide +kernel⟩,
   ⟨(95 : Fin 96), feed, by decide +kernel⟩,
   ⟨(0 : Fin 96), tim 3 (leBytes 8 3 ++ leBytes 8 65536), 3600000000000 * 65536 - 65536000000, askedOn 16, by decide +kernel⟩,
   ⟨(0 : Fin 96), tim 3 (leBytes 8 3 ++ leBytes 8 65536), 3600000000000 * 65536 - 65536000000, askedOn 0, by decide +kernel⟩,
   ⟨(0 : Fin 96), tim 3 (leBytes 8 2 ++ leBytes 8 65536), askedOn 0, by decide +kernel⟩⟩

/-- A feed unit with the servo locked. -/
def locked : State := timed 1 svLocked id (feed.put R.timeStatus F.timeStatus_FRAME_LOCKED 1)

/-- A canvas of 512 by 256 pixels in bands of 256, with a look-ahead of 1,900 µs. -/
def canvas : RegFile := sWrite regReset (sWrite regReset [] R.cmpCanvasSize (512 + 256 * 2 ^ 16)) R.cmpCanvasCfg (2 + 1 * 4 + 1900 * 256)

/-- The locked feed unit with that canvas in force. -/
def canvased : State := { locked with active := canvas }

/-- A state whose mode switch is being checked. -/
def judged (m : ModeSwitch) (s : State) : State := { s with seq := { s.seq with checking := some m } }

/-- A state with a mode switch pending. -/
def switchAt (m : ModeSwitch) (s : State) : State := { s with seq := { s.seq with pendingMode := some m } }

/-- A sequencer state entered at second 3,000. -/
def since (st : SeqState) (s : State) : State := { s with seq := { s.seq with state := st, since := 3000000000000 } }

theorem witness_ModeSwitches :
    (∃ (req : Requester) (s : State), s.mayWrite req = true ∧ s.isTile = true) ∧
    (∃ (req : Requester) (v : Word) (s : State), s.mayWrite req = true ∧ s.isTile = false ∧ (s.switching = true ∨ (s.flag R.timeStatus F.timeStatus_REARM_PENDING = true ∧ fieldGet v.toNat F.timeModeCommit_ACTION ≠ 1))) ∧
    (∃ (req : Requester) (v : Word) (s : State), s.mayWrite req = true ∧ s.isTile = false ∧ (s.switching = true ∨ (s.flag R.timeStatus F.timeStatus_REARM_PENDING = true ∧ fieldGet v.toNat F.timeModeCommit_ACTION ≠ 1))) ∧
    (∃ (req : Requester) (v : Word) (s : State), s.mayWrite req = true ∧ s.isTile = false ∧ s.switching = false ∧ (s.flag R.timeStatus F.timeStatus_REARM_PENDING = false ∨ fieldGet v.toNat F.timeModeCommit_ACTION = 1)) ∧
    (∃ (req : Requester) (v : Word) (s : State), s.mayWrite req = true ∧ s.isTile = false ∧ s.switching = false ∧ (s.flag R.timeStatus F.timeStatus_REARM_PENDING = false ∨ fieldGet v.toNat F.timeModeCommit_ACTION = 1)) ∧
    (∃ (s : State), s.seq.checking = none) ∧
    (∃ (m : ModeSwitch) (p : PatternRec) (s : State) (r : _), s.seq.checking = some m ∧ s.pattern = some p ∧ ((m.time < s.clock.now + 3 * periodCeil p ∧ r = 2) ∨ (s.clock.now + 3 * periodCeil p ≤ m.time ∧ s.clock.now + 60000000000 < m.time ∧ r = 3) ∨ (s.clock.now + 3 * periodCeil p ≤ m.time ∧ m.time ≤ s.clock.now + 60000000000 ∧ (m.action = 3 ∨ s.patternRec m.pattern = none) ∧ r = 4) ∨ (s.clock.now + 3 * periodCeil p ≤ m.time ∧ m.time ≤ s.clock.now + 60000000000 ∧ m.action ≠ 3 ∧ m.action ≠ 1 ∧ s.patternRec m.pattern ≠ none ∧ s.frameLocked = false ∧ r = 5))) ∧
    (∃ (m : ModeSwitch) (p : PatternRec) (s : State) (r : _), s.seq.checking = some m ∧ s.pattern = some p ∧ ((m.time < s.clock.now + 3 * periodCeil p ∧ r = 2) ∨ (s.clock.now + 3 * periodCeil p ≤ m.time ∧ s.clock.now + 60000000000 < m.time ∧ r = 3) ∨ (s.clock.now + 3 * periodCeil p ≤ m.time ∧ m.time ≤ s.clock.now + 60000000000 ∧ (m.action = 3 ∨ s.patternRec m.pattern = none) ∧ r = 4) ∨ (s.clock.now + 3 * periodCeil p ≤ m.time ∧ m.time ≤ s.clock.now + 60000000000 ∧ m.action ≠ 3 ∧ m.action ≠ 1 ∧ s.patternRec m.pattern ≠ none ∧ s.frameLocked = false ∧ r = 5))) ∧
    (∃ (m : ModeSwitch) (p : PatternRec) (s : State) (r : _), s.seq.checking = some m ∧ s.pattern = some p ∧ ((m.time < s.clock.now + 3 * periodCeil p ∧ r = 2) ∨ (s.clock.now + 3 * periodCeil p ≤ m.time ∧ s.clock.now + 60000000000 < m.time ∧ r = 3) ∨ (s.clock.now + 3 * periodCeil p ≤ m.time ∧ m.time ≤ s.clock.now + 60000000000 ∧ (m.action = 3 ∨ s.patternRec m.pattern = none) ∧ r = 4) ∨ (s.clock.now + 3 * periodCeil p ≤ m.time ∧ m.time ≤ s.clock.now + 60000000000 ∧ m.action ≠ 3 ∧ m.action ≠ 1 ∧ s.patternRec m.pattern ≠ none ∧ s.frameLocked = false ∧ r = 5))) ∧
    (∃ (m : ModeSwitch) (p : PatternRec) (s : State) (r : _), s.seq.checking = some m ∧ s.pattern = some p ∧ ((m.time < s.clock.now + 3 * periodCeil p ∧ r = 2) ∨ (s.clock.now + 3 * periodCeil p ≤ m.time ∧ s.clock.now + 60000000000 < m.time ∧ r = 3) ∨ (s.clock.now + 3 * periodCeil p ≤ m.time ∧ m.time ≤ s.clock.now + 60000000000 ∧ (m.action = 3 ∨ s.patternRec m.pattern = none) ∧ r = 4) ∨ (s.clock.now + 3 * periodCeil p ≤ m.time ∧ m.time ≤ s.clock.now + 60000000000 ∧ m.action ≠ 3 ∧ m.action ≠ 1 ∧ s.patternRec m.pattern ≠ none ∧ s.frameLocked = false ∧ r = 5))) ∧
    (∃ (m : ModeSwitch) (p : PatternRec) (s : State) (r : _), s.seq.checking = some m ∧ s.pattern = some p ∧ ((m.time < s.clock.now + 3 * periodCeil p ∧ r = 2) ∨ (s.clock.now + 3 * periodCeil p ≤ m.time ∧ s.clock.now + 60000000000 < m.time ∧ r = 3) ∨ (s.clock.now + 3 * periodCeil p ≤ m.time ∧ m.time ≤ s.clock.now + 60000000000 ∧ (m.action = 3 ∨ s.patternRec m.pattern = none) ∧ r = 4) ∨ (s.clock.now + 3 * periodCeil p ≤ m.time ∧ m.time ≤ s.clock.now + 60000000000 ∧ m.action ≠ 3 ∧ m.action ≠ 1 ∧ s.patternRec m.pattern ≠ none ∧ s.frameLocked = false ∧ r = 5))) ∧
    (∃ (m : ModeSwitch) (p : PatternRec) (s : State), s.seq.checking = some m ∧ s.pattern = some p ∧ s.clock.now + 3 * periodCeil p ≤ m.time ∧ m.time ≤ s.clock.now + 60000000000 ∧ s.patternRec m.pattern ≠ none ∧ m.action = 1 ∧ m.pattern < 8) ∧
    (∃ (m : ModeSwitch) (p : PatternRec) (s : State) (q : PatternRec) (f : CheckFail) (u : State), s.seq.checking = some m ∧ s.pattern = some p ∧ s.clock.now + 3 * periodCeil p ≤ m.time ∧ m.time ≤ s.clock.now + 60000000000 ∧ s.patternRec m.pattern = some q ∧ (m.action = 0 ∨ m.action = 2) ∧ s.frameLocked = true ∧ s.checks s.active q = (some f, u)) ∧
    (∃ (m : ModeSwitch) (p : PatternRec) (s : State) (q : PatternRec) (u : State), s.seq.checking = some m ∧ s.pattern = some p ∧ s.clock.now + 3 * periodCeil p ≤ m.time ∧ m.time ≤ s.clock.now + 60000000000 ∧ s.patternRec m.pattern = some q ∧ (m.action = 0 ∨ m.action = 2) ∧ s.frameLocked = true ∧ s.checks s.active q = (none, u)) ∧
    (∃ (m : ModeSwitch) (s : State), s.rst.inReset = false ∧ s.seq.pendingMode = some m ∧ s.clock.now < m.time) ∧
    (∃ (m : ModeSwitch) (s : State), s.rst.inReset = false ∧ s.seq.pendingMode = some m ∧ m.time ≤ s.clock.now ∧ s.isTile = false ∧ s.seq.interrupted = none ∧ s.patternRec m.pattern ≠ none ∧ (m.action = 0 ∨ m.action = 2)) ∧
    (∃ (m : ModeSwitch) (s : State), s.rst.inReset = false ∧ s.seq.pendingMode = some m ∧ m.time ≤ s.clock.now ∧ s.isTile = false ∧ s.seq.interrupted = none ∧ s.patternRec m.pattern ≠ none ∧ (m.action = 0 ∨ m.action = 2)) ∧
    (∃ (m : ModeSwitch) (s : State), s.rst.inReset = false ∧ s.seq.pendingMode = some m ∧ m.time ≤ s.clock.now ∧ s.isTile = false ∧ s.seq.interrupted = none ∧ s.patternRec m.pattern ≠ none ∧ m.action = 1) ∧
    (∃ (m : ModeSwitch) (s : State), s.rst.inReset = false ∧ s.seq.pendingMode = some m ∧ m.time ≤ s.clock.now ∧ s.isTile = true ∧ s.patternRec m.pattern = none) :=
  ⟨⟨.mp, tile, by decide +kernel⟩,
   ⟨.mp, 3#32, judged ⟨0, 0, 0, false⟩ feed, by decide +kernel⟩,
   ⟨.mp, 0x10#32, feed.put R.timeStatus F.timeStatus_REARM_PENDING 1, by decide +kernel⟩,
   ⟨.mp, 3#32, feed, by decide +kernel⟩,
   ⟨.mp, 8#32, feed.put R.timeStatus F.timeStatus_REARM_PENDING 1, by decide +kernel⟩,
   ⟨feed, by decide +kernel⟩,
   ⟨⟨3600050000000, 0, 0, false⟩, pat, judged ⟨3600050000000, 0, 0, false⟩ locked, 2, by decide +kernel⟩,
   ⟨⟨3660000000001, 0, 0, false⟩, pat, judged ⟨3660000000001, 0, 0, false⟩ locked, 3, by decide +kernel⟩,
   ⟨⟨3660000000000, 1, 0, false⟩, pat, judged ⟨3660000000000, 1, 0, false⟩ locked, 4, by decide +kernel⟩,
   ⟨⟨3600050000001, 0, 3, false⟩, pat, judged ⟨3600050000001, 0, 3, false⟩ locked, 4, by decide +kernel⟩,
   ⟨⟨3660000000000, 0, 2, false⟩, pat, judged ⟨3660000000000, 0, 2, false⟩ feed, 5, by decide +kernel⟩,
   ⟨⟨3660000000000, 0, 1, true⟩, pat, judged ⟨3660000000000, 0, 1, true⟩ feed, by decide +kernel⟩,
   ⟨⟨3660000000000, 0, 0, true⟩, pat, judged ⟨3660000000000, 0, 0, true⟩ locked, pat, failPlain, ((judged ⟨3660000000000, 0, 0, true⟩ locked).checks locked.active pat).2, by decide +kernel⟩,
   ⟨⟨3660000000000, 0, 2, true⟩, pat, judged ⟨3660000000000, 0, 2, true⟩ canvased, pat, ((judged ⟨3660000000000, 0, 2, true⟩ canvased).checks canvas pat).2, by decide +kernel⟩,
   ⟨⟨3600000000001, 0, 0, true⟩, switchAt ⟨3600000000001, 0, 0, true⟩ feed, by decide +kernel⟩,
   ⟨⟨3600000000000, 0, 0, true⟩, switchAt ⟨3600000000000, 0, 0, true⟩ feed, by decide +kernel⟩,
   ⟨⟨3599999999999, 0, 2, true⟩, switchAt ⟨3599999999999, 0, 2, true⟩ feed, by decide +kernel⟩,
   ⟨⟨3600000000000, 0, 1, true⟩, switchAt ⟨3600000000000, 0, 1, true⟩ feed, by decide +kernel⟩,
   ⟨⟨3600000000000, 7, 0, true⟩, switchAt ⟨3600000000000, 7, 0, true⟩ tile, by decide +kernel⟩⟩

/-- A state whose sequencer is to enter a state at a frame boundary. -/
def bound (st : SeqState) (at_ : Nat) (s : State) : State := { s with seq := { s.seq with target := some ⟨st, at_⟩ } }

theorem witness_SlotsAndWindows :
    (∃ (p : PatternRec) (s : State), s.pattern = some p ∧ s.rst.inReset = false ∧ s.slotTime s.slotNow < s.seq.since) ∧
    (∃ (p : PatternRec) (s : State) (m : _), s.pattern = some p ∧ s.rst.inReset = false ∧ s.seq.pendingMode = some m ∧ (m.time : Int) ≤ s.slotTime s.slotNow) ∧
    (∃ (p : PatternRec) (s : State), s.pattern = some p ∧ s.rst.inReset = false ∧ s.isTile = false ∧ s.slotNow ≠ 0) ∧
    (∃ (p : PatternRec) (s : State) (x : SeqTarget) (q : _), s.pattern = some p ∧ s.rst.inReset = false ∧ s.isTile = false ∧ s.slotNow = 0 ∧ s.seq.pendingMode = none ∧ (s.seq.since : Int) ≤ s.slotTime 0 ∧ s.seq.target = some x ∧ (x.from_ : Int) ≤ s.slotTime 0 ∧ q ∈ [Part.mem, .clock, .time, .cmp, .hold, .cor, .lmp, .pix, .hal, .evt]) ∧
    (∃ (p : PatternRec) (s : State) (x : SeqTarget) (q : _), s.pattern = some p ∧ s.rst.inReset = false ∧ s.isTile = false ∧ s.slotNow = 0 ∧ s.seq.pendingMode = none ∧ (s.seq.since : Int) ≤ s.slotTime 0 ∧ s.seq.target = some x ∧ (x.from_ : Int) ≤ s.slotTime 0 ∧ q ∈ [Part.mem, .clock, .time, .cmp, .hold, .cor, .lmp, .pix, .hal, .evt]) ∧
    (∃ (p : PatternRec) (s : State), s.pattern = some p ∧ s.rst.inReset = false ∧ s.isTile = true ∧ s.slotNow ≠ 0 ∧ s.seq.pendingMode = none ∧ (s.seq.since : Int) ≤ s.slotTime s.slotNow ∧ s.seq.state = .run ∧ s.seq.target = none) ∧
    (∃ (p : PatternRec) (s : State), s.isTile = true ∧ s.pattern = some p ∧ (s.seq.dark = true ∨ (s.seq.state = .idle ∧ s.seq.latched = false))) ∧
    (∃ (p : PatternRec) (s : State) (g : _), s.isTile = true ∧ s.pattern = some p ∧ s.seq.dark = false ∧ (s.seq.state ≠ .idle ∨ s.seq.latched = true) ∧ (s.seq.since : Int) ≤ s.slotTime s.slotNow ∧ g ∈ s.usedGroups ∧ 3 ≤ s.groupState g) :=
  ⟨⟨pat, { feed with seq := { feed.seq with since := 3600000000001 } }, by decide +kernel⟩,
   ⟨pat, switchAt ⟨3600000000000, 0, 0, false⟩ (since .run feed), ⟨3600000000000, 0, 0, false⟩, by decide +kernel⟩,
   ⟨pat, { since .run feed with clock := { feed.clock with now := 3600008400000 } }, by decide +kernel⟩,
   ⟨pat, bound .run 3600000000000 (since .idle feed), ⟨.run, 3600000000000⟩, .mem, by decide +kernel⟩,
   ⟨pat, bound .reduced 5 (since .run feed), ⟨.reduced, 5⟩, .lmp, by decide +kernel⟩,
   ⟨pat, { since .run tile with clock := { tile.clock with now := 3600008400000 } }, by decide +kernel⟩,
   ⟨pat, tile, by decide +kernel⟩,
   ⟨pat, (since .run tile).setGroupState 0 3, 0, by decide +kernel⟩⟩

/-- A Pennant of the claim winner to all tiles. -/
def pennant (type claim id : Nat) (body : List Nat) : Packet :=
  makePacket 3 type 0xFFF 1 0xFFF claim 1 0 0 0 false true (leBytes 4 id ++ [0, 0, 0, 0] ++ body ++ List.replicate (16 - body.length) 0)

/-- The small tile, its sequencer since second 3,000, the commit of frame 300,000 to come. -/
def tileRuns : State := since .run tile

theorem witness_Pennants :
    (∃ (s : State), s.isFeed = true ∧ s.rst.inReset = false ∧ s.tieMuted = false) ∧
    (∃ (s : State) (p : _), s.isFeed = true ∧ s.rst.inReset = false ∧ s.tieMuted = false ∧ p ∈ s.pen.out ∧ p.type ≠ 0x12) ∧
    (∃ (s : State), (s.isFeed = false ∨ s.rst.inReset = true ∨ s.tieMuted = true)) ∧
    (∃ (l : Fin 96) (k : Packet) (s : State) (u : State), u = s.noteClaim k.hdr.claim.toNat none ∧ s.isTile = true ∧ s.takes l.val k 3 0x10 = true ∧ u.fromWinner l.val k.hdr.claim.toNat = false) ∧
    (∃ (l : Fin 96) (k : Packet) (s : State) (u : State), u = s.noteClaim k.hdr.claim.toNat none ∧ s.isTile = true ∧ s.takes l.val k 3 0x10 = true ∧ u.fromWinner l.val k.hdr.claim.toNat = true ∧ u.pennantNew l.val k = false) ∧
    (∃ (l : Fin 96) (k : Packet) (s : State) (u : State) (v : State), u = s.noteClaim k.hdr.claim.toNat none ∧ s.isTile = true ∧ s.takes l.val k 3 0x10 = true ∧ u.pennantNew l.val k = true ∧ u.cmp.pend = none ∧ u.get R.topCommitDetail F.topCommitDetail_ACTIVE_GEN ≠ payField k 8 2 ∧ (u.pennantActed k).tileChecks = (none, v) ∧ v.frameBegun (payField k 0xA 6) = false) ∧
    (∃ (l : Fin 96) (k : Packet) (s : State) (u : State), u = s.noteClaim k.hdr.claim.toNat none ∧ s.isTile = true ∧ s.takes l.val k 3 0x11 = true ∧ u.fromWinner l.val k.hdr.claim.toNat = false) ∧
    (∃ (l : Fin 96) (k : Packet) (s : State) (u : State), u = s.noteClaim k.hdr.claim.toNat none ∧ s.isTile = true ∧ s.takes l.val k 3 0x11 = true ∧ u.fromWinner l.val k.hdr.claim.toNat = true ∧ u.pennantNew l.val k = false) ∧
    (∃ (l : Fin 96) (k : Packet) (s : State) (u : State), u = s.noteClaim k.hdr.claim.toNat none ∧ s.isTile = true ∧ s.takes l.val k 3 0x11 = true ∧ u.pennantNew l.val k = true ∧ u.clock.now < payField k 8 4 + payField k 0xC 6 * 1000000000) ∧
    (∃ (l : Fin 96) (k : Packet) (s : State) (u : State), u = s.noteClaim k.hdr.claim.toNat none ∧ s.isTile = true ∧ s.takes l.val k 3 0x12 = true ∧ k.hdr.dst.toNat = 0xFFF ∧ u.fromWinner l.val k.hdr.claim.toNat = false) ∧
    (∃ (l : Fin 96) (k : Packet) (s : State) (u : State), u = s.noteClaim k.hdr.claim.toNat none ∧ s.isTile = true ∧ s.takes l.val k 3 0x12 = true ∧ k.hdr.dst.toNat = 0xFFF ∧ u.fromWinner l.val k.hdr.claim.toNat = true ∧ u.pennantNew l.val k = false) ∧
    (∃ (l : Fin 96) (k : Packet) (s : State) (u : State), u = s.noteClaim k.hdr.claim.toNat none ∧ s.isTile = true ∧ s.takes l.val k 3 0x12 = true ∧ k.hdr.dst.toNat = 0xFFF ∧ u.pennantNew l.val k = true) :=
  ⟨⟨{ feed with pen := { feed.pen with caps := [⟨2, 0x12, 0xFFF, [1, 2, 3], 1⟩] } }, by decide +kernel⟩,
   ⟨{ feed with pen := { feed.pen with out := [⟨2, 0x10, 0xFFF, [1, 2, 3], 2⟩, ⟨3, 0x11, 0xFFF, [], 3⟩] } }, ⟨2, 0x10, 0xFFF, [1, 2, 3], 2⟩, by decide +kernel⟩,
   ⟨tile, by decide +kernel⟩,
   ⟨(0 : Fin 96), pennant 0x10 99 7 (leBytes 2 9 ++ leBytes 6 300000), tileRuns, (tileRuns).noteClaim (pennant 0x10 99 7 (leBytes 2 9 ++ leBytes 6 300000)).hdr.claim.toNat none, by first | with_reducible rfl | rfl, by decide +kernel⟩,
   ⟨(0 : Fin 96), pennant 0x10 100 7 (leBytes 2 9 ++ leBytes 6 300000), { tileRuns with pen := { tileRuns.pen with acted := [100 * 2 ^ 32 + 7] } }, ({ tileRuns with pen := { tileRuns.pen with acted := [100 * 2 ^ 32 + 7] } }).noteClaim (pennant 0x10 100 7 (leBytes 2 9 ++ leBytes 6 300000)).hdr.claim.toNat none, by first | with_reducible rfl | rfl, by decide +kernel⟩,
   ⟨(0 : Fin 96), pennant 0x10 100 7 (leBytes 2 9 ++ leBytes 6 300000), tileRuns, (tileRuns).noteClaim (pennant 0x10 100 7 (leBytes 2 9 ++ leBytes 6 300000)).hdr.claim.toNat none, ((((tileRuns).noteClaim (pennant 0x10 100 7 (leBytes 2 9 ++ leBytes 6 300000)).hdr.claim.toNat none)).pennantActed (pennant 0x10 100 7 (leBytes 2 9 ++ leBytes 6 300000))).tileChecks.2, by first | with_reducible rfl | rfl, by decide +kernel⟩,
   ⟨(0 : Fin 96), pennant 0x11 99 7 (leBytes 4 0 ++ leBytes 6 3601 ++ [0]), tileRuns, (tileRuns).noteClaim (pennant 0x11 99 7 (leBytes 4 0 ++ leBytes 6 3601 ++ [0])).hdr.claim.toNat none, by first | with_reducible rfl | rfl, by decide +kernel⟩,
   ⟨(0 : Fin 96), pennant 0x11 100 7 (leBytes 4 0 ++ leBytes 6 3601 ++ [0]), { tileRuns with pen := { tileRuns.pen with acted := [100 * 2 ^ 32 + 7] } }, ({ tileRuns with pen := { tileRuns.pen with acted := [100 * 2 ^ 32 + 7] } }).noteClaim (pennant 0x11 100 7 (leBytes 4 0 ++ leBytes 6 3601 ++ [0])).hdr.claim.toNat none, by first | with_reducible rfl | rfl, by decide +kernel⟩,
   ⟨(0 : Fin 96), pennant 0x11 100 7 (leBytes 4 1 ++ leBytes 6 3600 ++ [11]), tileRuns, (tileRuns).noteClaim (pennant 0x11 100 7 (leBytes 4 1 ++ leBytes 6 3600 ++ [11])).hdr.claim.toNat none, by first | with_reducible rfl | rfl, by decide +kernel⟩,
   ⟨(4 : Fin 96), pennant 0x12 1 7 (leBytes 2 4000 ++ leBytes 2 60 ++ leBytes 6 300000), tileRuns, (tileRuns).noteClaim (pennant 0x12 1 7 (leBytes 2 4000 ++ leBytes 2 60 ++ leBytes 6 300000)).hdr.claim.toNat none, by first | with_reducible rfl | rfl, by decide +kernel⟩,
   ⟨(4 : Fin 96), pennant 0x12 100 7 (leBytes 2 4000 ++ leBytes 2 60 ++ leBytes 6 300000), { tileRuns with pen := { tileRuns.pen with acted := [100 * 2 ^ 32 + 7] } }, ({ tileRuns with pen := { tileRuns.pen with acted := [100 * 2 ^ 32 + 7] } }).noteClaim (pennant 0x12 100 7 (leBytes 2 4000 ++ leBytes 2 60 ++ leBytes 6 300000)).hdr.claim.toNat none, by first | with_reducible rfl | rfl, by decide +kernel⟩,
   ⟨(4 : Fin 96), pennant 0x12 100 7 (leBytes 2 4000 ++ leBytes 2 60 ++ leBytes 6 300000), tileRuns, (tileRuns).noteClaim (pennant 0x12 100 7 (leBytes 2 4000 ++ leBytes 2 60 ++ leBytes 6 300000)).hdr.claim.toNat none, by first | with_reducible rfl | rfl, by decide +kernel⟩⟩

/-- Source 0 of 6 by 2 pixels in a ring of two slots from address 0x1000, 24 frames a second, of a kind. -/
def source (kind : Nat) (rf : RegFile) : RegFile :=
  [(R.ingSrcCtrl 0, 1 + kind * 2 + 1 * 16 + 1 * 2 ^ 16 + 1 * 2 ^ 20), (R.ingSrcGeom 0, 6 + 2 * 2 ^ 16), (R.ingSrcRate 0, 1 + 24 * 2 ^ 16), (R.ingSrcRing 0, 1 * 2 ^ 12),
    (R.ingSrcStride 0, 1 + 1 * 2 ^ 20), (R.ingSrcLink 0, 3)].foldl (fun r e => sWrite regReset r e.1 e.2) rf

/-- The locked feed unit with source 0 of a kind in force and in a state. -/
def sourced (kind st : Nat) : State := { locked with active := source kind canvas }.put (R.ingSrcStatus 0) F.ingSrcStatus_STATE st

/-- The state with what is kept of source 0 changed. -/
def withSrc (f : SrcSt → SrcSt) (s : State) : State := s.setSrc 0 (f (s.src 0))

/-- Filter 255 passes UDP port 5,000 to 239.0.0.1 of any sender on port 2 to source 0 as path 0. -/
def filtered (s : State) : State :=
  regsSet (withEth 50 2 s) [(R.ingFilterCtrl 255, 1 + 2 * 2 + 1 * 32), (R.ingFilterDst 255, 0xEF000001), (R.ingFilterUdp 255, 5000)]

/-- An RTP packet of one row segment of two pixels. -/
def video (seq : BitVec 16) (marker : Bool) : RtpPacket := ⟨2#2, marker, seq, 77#32, .video 1#16 [⟨6, false, 1, 4, [1, 2, 3, 4, 5, 6]⟩]⟩

/-- The frame that carries it. -/
def eth (p : RtpPacket) (full : Bool) : EthFrame := ⟨100, true, [], full, .udp false 9#128 0xEF000001#128 5000#16 p⟩

/-- A frame in flight whose packets up to a number have landed. -/
def flight (m : Option Nat) : NetFrame := ⟨77, 1, [65536], m, false, false⟩

theorem witness_EthernetFrames :
    (∃ (p : Fin 8) (e : EthFrame) (s : State), s.live .ing = true ∧ s.rst.inReset = false ∧ s.ethUp p.val = true ∧ e.fcsOk = false) ∧
    (∃ (p : Fin 8) (e : EthFrame) (s : State), s.live .ing = true ∧ s.rst.inReset = false ∧ s.ethUp p.val = true ∧ e.fcsOk = true ∧ (9216 < e.length ∨ 2 ≤ e.vlans.length)) ∧
    (∃ (p : Fin 8) (e : EthFrame) (s : State), s.live .ing = true ∧ s.rst.inReset = false ∧ s.ethUp p.val = true ∧ e.fcsOk = true ∧ (9216 < e.length ∨ 2 ≤ e.vlans.length)) ∧
    (∃ (p : Fin 8) (e : EthFrame) (s : State), s.live .ing = true ∧ s.rst.inReset = false ∧ s.ethUp p.val = true ∧ e.fcsOk = true ∧ e.length ≤ 9216 ∧ e.vlans.length < 2 ∧ e.full = true) ∧
    (∃ (p : Fin 8) (e : EthFrame) (s : State), s.live .ing = true ∧ s.rst.inReset = false ∧ s.ethUp p.val = true ∧ e.fcsOk = true ∧ e.length ≤ 9216 ∧ e.vlans.length < 2 ∧ e.full = false ∧ e.body = .other) ∧
    (∃ (p : Fin 8) (e : EthFrame) (s : State) (a : BitVec 32), s.live .ing = true ∧ s.rst.inReset = false ∧ s.ethUp p.val = true ∧ e.fcsOk = true ∧ e.length ≤ 9216 ∧ e.vlans.length < 2 ∧ e.full = false ∧ e.body = .arp a ∧ a ≠ 0#32 ∧ s.reg (R.ingPortIpv4 p.val) = a.toNat ∧ s.get (R.ingPortCfg p.val) F.ingPortCfg_RESPOND = 1) ∧
    (∃ (p : Fin 8) (e : EthFrame) (s : State) (v6 : _) (src : _) (dst : _) (udp : _) (rtp : _), s.live .ing = true ∧ s.rst.inReset = false ∧ s.ethUp p.val = true ∧ e.fcsOk = true ∧ e.length ≤ 9216 ∧ e.vlans.length < 2 ∧ e.full = false ∧ e.body = .udp v6 src dst udp rtp ∧ s.matchFilter p.val e.vlans v6 src.toNat dst.toNat udp.toNat = none) ∧
    (∃ (p : Fin 8) (e : EthFrame) (s : State) (v6 : _) (src : _) (dst : _) (udp : _) (rtp : _) (f : _) (i : _), i = s.get (R.ingFilterCtrl f) F.ingFilterCtrl_SOURCE ∧ s.live .ing = true ∧ s.rst.inReset = false ∧ s.ethUp p.val = true ∧ e.fcsOk = true ∧ e.length ≤ 9216 ∧ e.vlans.length < 2 ∧ e.full = false ∧ e.body = .udp v6 src dst udp rtp ∧ s.matchFilter p.val e.vlans v6 src.toNat dst.toNat udp.toNat = some f ∧ s.srcState i = 0) ∧
    (∃ (p : Fin 8) (e : EthFrame) (s : State) (v6 : _) (src : _) (dst : _) (udp : _) (rtp : _) (f : _) (i : _) (g : NetFrame) (ext : BitVec 16) (rows : List RowSeg), i = s.get (R.ingFilterCtrl f) F.ingFilterCtrl_SOURCE ∧ s.live .ing = true ∧ s.rst.inReset = false ∧ s.ethUp p.val = true ∧ e.fcsOk = true ∧ e.length ≤ 9216 ∧ e.vlans.length < 2 ∧ e.full = false ∧ e.body = .udp v6 src dst udp rtp ∧ s.matchFilter p.val e.vlans v6 src.toNat dst.toNat udp.toNat = some f ∧ s.srcState i ≠ 0 ∧ (s.srcNow i).kind = 0 ∧ rtp.body = .video ext rows ∧ rtp.version.toNat = 2 ∧ rows ≠ [] ∧ rows.length ≤ 3 ∧ rows.all (rowOk (s.srcNow i)) = true ∧ pastFrame (s.src i) g.ts (ext.toNat * 65536 + rtp.seq.toNat) = false ∧ (s.src i).flights = [g] ∧ g.ts = rtp.timestamp.toNat ∧ g.ended = false ∧ g.discarded = false ∧ g.marker = none ∧ (ext.toNat * 65536 + rtp.seq.toNat) ∉ g.seqs ∧ rtp.marker = false) ∧
    (∃ (p : Fin 8) (e : EthFrame) (s : State) (v6 : _) (src : _) (dst : _) (udp : _) (rtp : _) (f : _) (i : _) (g : NetFrame) (ext : BitVec 16) (rows : List RowSeg), i = s.get (R.ingFilterCtrl f) F.ingFilterCtrl_SOURCE ∧ s.live .ing = true ∧ s.rst.inReset = false ∧ s.ethUp p.val = true ∧ e.fcsOk = true ∧ e.length ≤ 9216 ∧ e.vlans.length < 2 ∧ e.full = false ∧ e.body = .udp v6 src dst udp rtp ∧ s.matchFilter p.val e.vlans v6 src.toNat dst.toNat udp.toNat = some f ∧ s.srcState i ≠ 0 ∧ (s.srcNow i).kind = 0 ∧ rtp.body = .video ext rows ∧ rtp.version.toNat = 2 ∧ rows ≠ [] ∧ rows.length ≤ 3 ∧ rows.all (rowOk (s.srcNow i)) = true ∧ pastFrame (s.src i) g.ts (ext.toNat * 65536 + rtp.seq.toNat) = false ∧ (s.src i).flights = [g] ∧ g.ts = rtp.timestamp.toNat ∧ g.ended = false ∧ g.discarded = false ∧ g.marker = none ∧ (ext.toNat * 65536 + rtp.seq.toNat) ∉ g.seqs ∧ rtp.marker = true ∧ frameComplete (s.src i) { g with seqs := (ext.toNat * 65536 + rtp.seq.toNat) :: g.seqs, marker := some (ext.toNat * 65536 + rtp.seq.toNat) } = true) :=
  ⟨⟨(7 : Fin 8), ⟨100, false, [], true, .other⟩, withEth 77 7 feed, by decide +kernel⟩,
   ⟨(7 : Fin 8), ⟨9217, true, [], false, .other⟩, withEth 77 7 feed, by decide +kernel⟩,
   ⟨(0 : Fin 8), ⟨64, true, [1#12, 2#12], true, .other⟩, withEth 50 0 feed, by decide +kernel⟩,
   ⟨(7 : Fin 8), ⟨64, true, [1#12], true, .arp 5#32⟩, withEth 77 7 feed, by decide +kernel⟩,
   ⟨(7 : Fin 8), ⟨9216, true, [1#12], false, .other⟩, withEth 77 7 feed, by decide +kernel⟩,
   ⟨(7 : Fin 8), ⟨64, true, [], false, .arp 5#32⟩, regsSet (withEth 77 7 feed) [(R.ingPortIpv4 7, 5), (R.ingPortCfg 7, 1)], 5#32, by decide +kernel⟩,
   ⟨(2 : Fin 8), eth (video 1#16 false) false, withEth 50 2 feed, false, 9#128, 0xEF000001#128, 5000#16, video 1#16 false, by decide +kernel⟩,
   ⟨(2 : Fin 8), eth (video 1#16 false) false, filtered feed, false, 9#128, 0xEF000001#128, 5000#16, video 1#16 false, 255, (filtered feed).get (R.ingFilterCtrl (255)) F.ingFilterCtrl_SOURCE, by first | with_reducible rfl | rfl, by decide +kernel⟩,
   ⟨(2 : Fin 8), eth (video 1#16 false) false, filtered (withSrc (fun x => { x with flights := [flight none] }) (sourced 0 1)), false, 9#128, 0xEF000001#128, 5000#16, video 1#16 false, 255, (filtered (withSrc (fun x => { x with flights := [flight none] }) (sourced 0 1))).get (R.ingFilterCtrl (255)) F.ingFilterCtrl_SOURCE, flight none, 1#16, [⟨6, false, 1, 4, [1, 2, 3, 4, 5, 6]⟩], by first | with_reducible rfl | rfl, by decide +kernel⟩,
   ⟨(2 : Fin 8), eth (video 1#16 true) false, filtered (withSrc (fun x => { x with flights := [flight none] }) (sourced 0 1)), false, 9#128, 0xEF000001#128, 5000#16, video 1#16 true, 255, (filtered (withSrc (fun x => { x with flights := [flight none] }) (sourced 0 1))).get (R.ingFilterCtrl (255)) F.ingFilterCtrl_SOURCE, flight none, 1#16, [⟨6, false, 1, 4, [1, 2, 3, 4, 5, 6]⟩], by first | with_reducible rfl | rfl, by decide +kernel⟩⟩

theorem witness_SourcesAndFences :
    (∃ (i : Fin 64) (f : NetFrame) (m : Nat) (s : State), s.live .ing = true ∧ s.rst.inReset = false ∧ (s.srcNow i.val).kind ≠ 1 ∧ (s.src i.val).flights = [f] ∧ f.marker = some m ∧ f.discarded = false ∧ (s.srcNow i.val).damagedUse = false) ∧
    (∃ (i : Fin 64) (f : NetFrame) (m : Nat) (s : State), s.live .ing = true ∧ s.rst.inReset = false ∧ (s.srcNow i.val).kind ≠ 1 ∧ (s.src i.val).flights = [f] ∧ f.marker = some m ∧ f.discarded = false ∧ (s.srcNow i.val).damagedUse = true) ∧
    (∃ (i : Fin 64) (s : State), (s.srcNow i.val).kind ≠ 1 ∧ (s.src i.val).flights = []) ∧
    (∃ (i : Fin 64) (s : State), s.live .ing = true ∧ s.rst.inReset = false ∧ (s.srcNow i.val).kind = 1) ∧
    (∃ (i : Fin 64) (s : State), s.live .ing = true ∧ s.rst.inReset = false ∧ (s.srcState i.val = 1 ∨ s.srcState i.val = 2)) ∧
    (∃ (i : Fin 64) (s : State), s.live .ing = true ∧ s.rst.inReset = false ∧ (s.srcState i.val = 1 ∨ s.srcState i.val = 2)) ∧
    (∃ (i : Fin 64) (s : State), s.live .ing = true ∧ s.rst.inReset = false ∧ (s.srcState i.val = 0 ∨ s.srcState i.val = 3)) ∧
    (∃ (i : Fin 64) (p : Fin 2) (s : State), s.live .ing = true ∧ s.rst.inReset = false ∧ s.flag (R.ingSrcStatus i.val) (pathBit p.val) = true) ∧
    (∃ (i : Fin 64) (p : Fin 2) (s : State), s.live .ing = true ∧ s.rst.inReset = false ∧ s.flag (R.ingSrcStatus i.val) (pathBit p.val) = false) ∧
    (∃ (req : Requester) (i : Fin 64) (v : Word) (s : State), s.mayWrite req = true ∧ s.live .ing = true ∧ s.rst.inReset = false ∧ (s.srcNow i.val).kind = 3 ∧ s.srcState i.val ≠ 0 ∧ fieldGet v.toNat F.ingFence_SLOT = s.writeSlot i.val ∧ s.slotHeld i.val (s.writeSlot i.val) = false) ∧
    (∃ (req : Requester) (i : Fin 64) (v : Word) (s : State), s.mayWrite req = true ∧ s.live .ing = true ∧ s.rst.inReset = false ∧ ((s.srcNow i.val).kind ≠ 3 ∨ s.srcState i.val = 0 ∨ fieldGet v.toNat F.ingFence_SLOT ≠ s.writeSlot i.val ∨ s.slotHeld i.val (fieldGet v.toNat F.ingFence_SLOT) = true)) ∧
    (∃ (req : Requester) (i : Fin 64) (v : Word) (s : State), s.mayWrite req = true ∧ s.live .ing = true ∧ s.rst.inReset = false ∧ ((s.srcNow i.val).kind ≠ 3 ∨ s.srcState i.val = 0 ∨ fieldGet v.toNat F.ingFence_SLOT ≠ s.writeSlot i.val ∨ s.slotHeld i.val (fieldGet v.toNat F.ingFence_SLOT) = true)) ∧
    (∃ (req : Requester) (i : Fin 64) (v : Word) (s : State), s.mayWrite req = true ∧ s.live .ing = true ∧ s.rst.inReset = false ∧ ((s.srcNow i.val).kind ≠ 3 ∨ s.srcState i.val = 0 ∨ fieldGet v.toNat F.ingFence_SLOT ≠ s.writeSlot i.val ∨ s.slotHeld i.val (fieldGet v.toNat F.ingFence_SLOT) = true)) ∧
    (∃ (req : Requester) (s : State), s.mayWrite req = true ∧ s.rst.inReset = true) ∧
    (∃ (req : Requester) (v : Word) (s : State) (e : Nat), s.mayWrite req = true ∧ s.live .dma = true ∧ s.live .ing = true ∧ s.rst.inReset = false ∧ e < 8 ∧ s.live .cdc = true ∧ s.actGet (R.cdcEncCtrl e) F.cdcEncCtrl_EN = 1 ∧ s.actGet (R.cdcEncCtrl e) F.cdcEncCtrl_MODE ≠ 2 ∧ s.actGet (R.cdcEncCtrl e) F.cdcEncCtrl_TRIG = fieldGet v.toNat F.dmaTrigSw_LINE) ∧
    (∃ (req : Requester) (v : Word) (s : State) (i : _), s.mayWrite req = true ∧ s.live .dma = true ∧ s.live .ing = true ∧ s.rst.inReset = false ∧ i < 64 ∧ (∀ j, j < 64 → ((s.srcNow j).en = true ∧ (s.srcNow j).kind = 2 ∧ (s.srcNow j).trig = fieldGet v.toNat F.dmaTrigSw_LINE ↔ j = i)) ∧ s.srcState i ≠ 0 ∧ s.slotHeld i (s.writeSlot i) = false) ∧
    (∃ (req : Requester) (v : Word) (s : State) (i : _), s.mayWrite req = true ∧ s.live .dma = true ∧ s.live .ing = true ∧ s.rst.inReset = false ∧ i < 64 ∧ (∀ j, j < 64 → ((s.srcNow j).en = true ∧ (s.srcNow j).kind = 2 ∧ (s.srcNow j).trig = fieldGet v.toNat F.dmaTrigSw_LINE ↔ j = i)) ∧ s.srcState i ≠ 0 ∧ s.slotHeld i (s.writeSlot i) = true) :=
  ⟨⟨(0 : Fin 64), flight (some 65540), 65540, withSrc (fun x => { x with flights := [flight (some 65540)] }) (sourced 0 2), by decide +kernel⟩,
   ⟨(0 : Fin 64), flight (some 65540), 65540, withSrc (fun x => { x with flights := [flight (some 65540)] }) { sourced 0 2 with active := sWrite regReset (source 0 canvas) (R.ingSrcCtrl 0) (1 + 2 ^ 16 + 2 ^ 19) }, by decide +kernel⟩,
   ⟨(63 : Fin 64), feed, by decide +kernel⟩,
   ⟨(0 : Fin 64), sourced 1 1, by decide +kernel⟩,
   ⟨(0 : Fin 64), sourced 0 1, by decide +kernel⟩,
   ⟨(0 : Fin 64), sourced 0 2, by decide +kernel⟩,
   ⟨(0 : Fin 64), sourced 0 3, by decide +kernel⟩,
   ⟨(0 : Fin 64), (1 : Fin 2), (sourced 0 2).put (R.ingSrcStatus 0) F.ingSrcStatus_PATH1_UP 1, by decide +kernel⟩,
   ⟨(0 : Fin 64), (0 : Fin 2), (sourced 0 2).put (R.ingSrcStatus 0) F.ingSrcStatus_PATH1_UP 1, by decide +kernel⟩,
   ⟨.mp, (0 : Fin 64), 0#32, sourced 3 1, by decide +kernel⟩,
   ⟨.mp, (0 : Fin 64), 1#32, sourced 3 1, by decide +kernel⟩,
   ⟨.mp, (0 : Fin 64), 0#32, withSrc (fun x => { x with holds := [(0, 1)] }) ((sourced 3 1).put (R.ingSrcStatus 0) F.ingSrcStatus_HELD 1), by decide +kernel⟩,
   ⟨.mp, (0 : Fin 64), 0#32, sourced 2 1, by decide +kernel⟩,
   ⟨.mp, { sourced 3 1 with rst := { feed.rst with inReset := true, reach := 1 } }, by decide +kernel⟩,
   ⟨.mp, 3#32, { sourced 2 1 with active := sWrite regReset (sourced 2 1).active (R.cdcEncCtrl 7) (fieldSet (fieldSet 0 F.cdcEncCtrl_EN 1) F.cdcEncCtrl_TRIG 3) }, 7, by decide +kernel⟩,
   ⟨.mp, 3#32, sourced 2 1, 0, by decide +kernel⟩,
   ⟨.mp, 3#32, (sourced 2 1).put (R.ingSrcStatus 0) F.ingSrcStatus_HELD 1, 0, by decide +kernel⟩⟩

theorem witness_FiltersAndBinding :
    (∃ (req : Requester) (f : Fin 256) (v : Word) (s : State) (u : State), u = s.setReg (R.ingFilterCtrl f.val) (v.toNat % 2 ^ 26 / 2 * 2) ∧ s.mayWrite req = true ∧ s.live .ing = true ∧ s.filterOn f.val = false ∧ v.toNat % 2 = 0) ∧
    (∃ (req : Requester) (f : Fin 256) (v : Word) (s : State) (u : State), u = s.setReg (R.ingFilterCtrl f.val) (v.toNat % 2 ^ 26 / 2 * 2) ∧ s.mayWrite req = true ∧ s.live .ing = true ∧ s.filterOn f.val = false ∧ v.toNat % 2 = 1 ∧ (∀ g, g < 256 → g ≠ f.val → u.filterOn g = true → u.filterKey g ≠ u.filterKey f.val) ∧ u.get (R.ingFilterCtrl f.val) F.ingFilterCtrl_PATH = 0) ∧
    (∃ (req : Requester) (f : Fin 256) (v : Word) (s : State) (u : State) (g : _), u = s.setReg (R.ingFilterCtrl f.val) (v.toNat % 2 ^ 26 / 2 * 2) ∧ s.mayWrite req = true ∧ s.live .ing = true ∧ s.filterOn f.val = false ∧ v.toNat % 2 = 1 ∧ g < 256 ∧ g ≠ f.val ∧ u.filterOn g = true ∧ u.filterKey g = u.filterKey f.val) ∧
    (∃ (req : Requester) (f : Fin 256) (v : Word) (s : State), s.mayWrite req = true ∧ s.live .ing = true ∧ s.filterOn f.val = true ∧ v.toNat % 2 = 0 ∧ v.toNat % 2 ^ 26 / 2 = s.reg (R.ingFilterCtrl f.val) / 2) ∧
    (∃ (req : Requester) (f : Fin 256) (v : Word) (s : State), s.mayWrite req = true ∧ s.live .ing = true ∧ s.filterOn f.val = true ∧ v.toNat % 2 = 1 ∧ v.toNat % 2 ^ 26 / 2 ≠ s.reg (R.ingFilterCtrl f.val) / 2) ∧
    (∃ (p : Fin 8) (left : List (Bool × Nat)) (s : State), sLookup s.ing.repeats p.val = some left ∧ s.get (R.ingPortCfg p.val) F.ingPortCfg_JOIN = 1 ∧ s.ethUp p.val = true) ∧
    (∃ (p : Fin 8) (s : State), sLookup s.ing.repeats p.val = none) ∧
    (∃ (n : Int) (s : State) (i : _), s.live .ing = true ∧ s.rst.inReset = false ∧ s.bindFrame = some n ∧ i < 64 ∧ s.srcState i = 0) ∧
    (∃ (n : Int) (s : State) (i : _), s.live .ing = true ∧ s.rst.inReset = false ∧ s.bindFrame = some n ∧ i < 64 ∧ s.srcState i ≠ 0 ∧ (s.src i).any = false) ∧
    (∃ (n : Int) (s : State) (i : _), s.live .ing = true ∧ s.rst.inReset = false ∧ s.bindFrame = some n ∧ i < 64 ∧ s.srcState i ≠ 0 ∧ (s.src i).any = true ∧ 0 < (s.src i).fresh) ∧
    (∃ (n : Int) (s : State) (i : _) (d : _) (p : _), p = ceilDiv ((s.srcNow i).num * 1000000000) (s.srcNow i).den ∧ s.live .ing = true ∧ s.rst.inReset = false ∧ s.bindFrame = some n ∧ i < 64 ∧ s.srcState i ≠ 0 ∧ (s.src i).any = true ∧ (s.src i).fresh = 0 ∧ (s.src i).doneAt = some d ∧ s.clock.now < d + p * (8 + (s.srcNow i).lateTol) / 8) ∧
    (∃ (n : Int) (s : State) (i : _) (d : _) (p : _), p = ceilDiv ((s.srcNow i).num * 1000000000) (s.srcNow i).den ∧ s.live .ing = true ∧ s.rst.inReset = false ∧ s.bindFrame = some n ∧ i < 64 ∧ s.srcState i ≠ 0 ∧ (s.src i).any = true ∧ (s.src i).fresh = 0 ∧ (s.src i).doneAt = some d ∧ d + p * (8 + (s.srcNow i).lateTol) / 8 ≤ s.clock.now) :=
  ⟨⟨.mp, (254 : Fin 256), 0x7FFFFFE#32, filtered feed, (filtered feed).setReg (R.ingFilterCtrl ((254 : Fin 256)).val) ((0x7FFFFFE#32).toNat % 2 ^ 26 / 2 * 2), by first | with_reducible rfl | rfl, by decide +kernel⟩,
   ⟨.mp, (254 : Fin 256), 0x25#32, regsSet (filtered feed) [(R.ingFilterDst 254, 0xEF000001), (R.ingFilterUdp 254, 5001)], (regsSet (filtered feed) [(R.ingFilterDst 254, 0xEF000001), (R.ingFilterUdp 254, 5001)]).setReg (R.ingFilterCtrl ((254 : Fin 256)).val) ((0x25#32).toNat % 2 ^ 26 / 2 * 2), by first | with_reducible rfl | rfl, by decide +kernel⟩,
   ⟨.mp, (254 : Fin 256), 0x25#32, regsSet (filtered feed) [(R.ingFilterDst 254, 0xEF000001), (R.ingFilterUdp 254, 5000)], (regsSet (filtered feed) [(R.ingFilterDst 254, 0xEF000001), (R.ingFilterUdp 254, 5000)]).setReg (R.ingFilterCtrl ((254 : Fin 256)).val) ((0x25#32).toNat % 2 ^ 26 / 2 * 2), 255, by first | with_reducible rfl | rfl, by decide +kernel⟩,
   ⟨.mp, (255 : Fin 256), 0x24#32, filtered feed, by decide +kernel⟩,
   ⟨.mp, (255 : Fin 256), 0x27#32, filtered feed, by decide +kernel⟩,
   ⟨(2 : Fin 8), [(false, 9)], { (filtered feed).put (R.ingPortCfg 2) F.ingPortCfg_JOIN 1 with ing := { feed.ing with repeats := [(2, [(false, 9)]), (3, [])] } }, by decide +kernel⟩,
   ⟨(4 : Fin 8), feed, by decide +kernel⟩,
   ⟨216000, since .idle (sourced 3 1), 1, by decide +kernel⟩,
   ⟨216000, since .idle (sourced 3 1), 0, by decide +kernel⟩,
   ⟨216000, since .run (withSrc (fun x => { x with any := true, fresh := 2, doneAt := some 3599000000000 }) (sourced 3 2)), 0, by decide +kernel⟩,
   ⟨216000, since .run (withSrc (fun x => { x with any := true, doneAt := some 3599990000000 }) (sourced 3 2)), 0, 3599990000000, ceilDiv (((since .run (withSrc (fun x => { x with any := true, doneAt := some 3599990000000 }) (sourced 3 2))).srcNow (0)).num * 1000000000) ((since .run (withSrc (fun x => { x with any := true, doneAt := some 3599990000000 }) (sourced 3 2))).srcNow (0)).den, by first | with_reducible rfl | rfl, by decide +kernel⟩,
   ⟨216000, since .run (withSrc (fun x => { x with any := true, doneAt := some 3599000000000 }) (sourced 3 2)), 0, 3599000000000, ceilDiv (((since .run (withSrc (fun x => { x with any := true, doneAt := some 3599000000000 }) (sourced 3 2))).srcNow (0)).num * 1000000000) ((since .run (withSrc (fun x => { x with any := true, doneAt := some 3599000000000 }) (sourced 3 2))).srcNow (0)).den, by first | with_reducible rfl | rfl, by decide +kernel⟩⟩

/-- The state with a queue's context set from a fresh one. -/
def withQueue (q : Nat) (f : QueueCtx → QueueCtx) (s : State) : State := s.setQueue q (f QueueCtx.fresh)

/-- The HBM in a state with sleep enabled and no consumer of small tolerance. -/
def hbm (st : Nat) : State := (feed.put R.hbmStatus F.hbmStatus_STATE st).setReg R.hbmPowerCfg 3

theorem witness_QueuesAndHbm_1 :
    (∃ (req : Requester) (v : Word) (q : Nat) (s : State) (x : _), q = s.selQueue ∧ s.mayWrite req = true ∧ s.live .qm = true ∧ fieldGet v.toNat F.qmCmd_OP = 1 ∧ x ≠ q ∧ s.enableReason q = 0) ∧
    (∃ (req : Requester) (v : Word) (q : Nat) (s : State), q = s.selQueue ∧ s.mayWrite req = true ∧ s.live .qm = true ∧ fieldGet v.toNat F.qmCmd_OP = 1 ∧ s.enableReason q ≠ 0 ∧ s.pool q = none) ∧
    (∃ (req : Requester) (v : Word) (q : Nat) (s : State) (p : _), q = s.selQueue ∧ s.mayWrite req = true ∧ s.live .qm = true ∧ fieldGet v.toNat F.qmCmd_OP = 1 ∧ s.enableReason q ≠ 0 ∧ s.pool q = some p ∧ q < s.queueTotal ∧ ((s.queue q).sizeLog2 < 6 ∨ 24 < (s.queue q).sizeLog2)) ∧
    (∃ (req : Requester) (v : Word) (q : Nat) (s : State) (p : _), q = s.selQueue ∧ s.mayWrite req = true ∧ s.live .qm = true ∧ fieldGet v.toNat F.qmCmd_OP = 1 ∧ s.enableReason q ≠ 0 ∧ s.pool q = some p ∧ q < s.queueTotal ∧ ((s.queue q).sizeLog2 < 6 ∨ 24 < (s.queue q).sizeLog2)) ∧
    (∃ (req : Requester) (v : Word) (q : Nat) (s : State) (p : _), q = s.selQueue ∧ s.mayWrite req = true ∧ s.live .qm = true ∧ fieldGet v.toNat F.qmCmd_OP = 1 ∧ s.enableReason q ≠ 0 ∧ s.pool q = some p ∧ q < s.queueTotal ∧ 6 ≤ (s.queue q).sizeLog2 ∧ (s.queue q).sizeLog2 ≤ 24 ∧ (s.queue q).base + (s.queue q).size * (s.queue q).entryBytes ≤ (if (s.queue q).hostSpace = true then 2 ^ 64 else s.sharedSize) ∧ (s.queue q).esize < 3 ∧ (s.queue q).entryBytes ∈ p.sizes ∧ classEntry p.cls q = (s.queue q).entryBytes ∧ (s.queue q).base % 4096 = 0 ∧ (s.queue q).enabled = true) ∧
    (∃ (req : Requester) (v : Word) (q : Nat) (s : State) (x : _), q = s.selQueue ∧ s.mayWrite req = true ∧ s.live .qm = true ∧ fieldGet v.toNat F.qmCmd_OP = 2 ∧ x ≠ q ∧ (s.queue q).enabled = true) ∧
    (∃ (req : Requester) (v : Word) (q : Nat) (s : State), q = s.selQueue ∧ s.mayWrite req = true ∧ s.live .qm = true ∧ fieldGet v.toNat F.qmCmd_OP = 2 ∧ (s.queue q).enabled = false) ∧
    (∃ (q : BitVec 18) (s : State), (s.queue q.toNat).disabling = true) ∧
    (∃ (q : BitVec 18) (s : State), (s.queue q.toNat).disabling = false) ∧
    (∃ (req : Requester) (v : BitVec 64) (q : Nat) (i : Nat) (s : State) (x : _), q = fieldGet v.toNat F.qmConsume_QUEUE ∧ i = fieldGet v.toNat F.qmConsume_INDEX ∧ s.mayWrite req = true ∧ s.live .qm = true ∧ (s.queueClass q = some 1 ∨ s.queueClass q = some 4) ∧ (s.queue q).enabled = true ∧ i < (s.queue q).size ∧ (i + (s.queue q).size - (s.queue q).c) % (s.queue q).size ≤ ((s.queue q).p + (s.queue q).size - (s.queue q).c) % (s.queue q).size ∧ x ≠ q) ∧
    (∃ (req : Requester) (v : BitVec 64) (q : Nat) (i : Nat) (s : State), q = fieldGet v.toNat F.qmConsume_QUEUE ∧ i = fieldGet v.toNat F.qmConsume_INDEX ∧ s.mayWrite req = true ∧ s.live .qm = true ∧ ((s.queueClass q ≠ some 1 ∧ s.queueClass q ≠ some 4) ∨ ((s.queue q).p + (s.queue q).size - (s.queue q).c) % (s.queue q).size < (i + (s.queue q).size - (s.queue q).c) % (s.queue q).size)) ∧
    (∃ (req : Requester) (v : BitVec 64) (q : Nat) (i : Nat) (s : State), q = fieldGet v.toNat F.qmConsume_QUEUE ∧ i = fieldGet v.toNat F.qmConsume_INDEX ∧ s.mayWrite req = true ∧ s.live .qm = true ∧ ((s.queueClass q ≠ some 1 ∧ s.queueClass q ≠ some 4) ∨ ((s.queue q).p + (s.queue q).size - (s.queue q).c) % (s.queue q).size < (i + (s.queue q).size - (s.queue q).c) % (s.queue q).size)) ∧
    (∃ (q : BitVec 18) (b : List Nat) (r : List (Nat × List Nat)) (a : Nat) (s : State), a = (s.queue q.toNat).base + (s.queue q.toNat).p * (s.queue q.toNat).entryBytes ∧ s.qmWait = (q.toNat, b) :: r ∧ (s.queue q.toNat).enabled = true ∧ (s.queue q.toNat).isFull = false ∧ (s.queue q.toNat).hostSpace = false) ∧
    (∃ (q : BitVec 18) (b : List Nat) (r : List (Nat × List Nat)) (a : Nat) (s : State), a = (s.queue q.toNat).base + (s.queue q.toNat).p * (s.queue q.toNat).entryBytes ∧ s.qmWait = (q.toNat, b) :: r ∧ (s.queue q.toNat).enabled = true ∧ (s.queue q.toNat).isFull = false ∧ (s.queue q.toNat).hostSpace = true) ∧
    (∃ (q : BitVec 18) (b : List Nat) (r : List (Nat × List Nat)) (a : Nat) (s : State), a = (s.queue q.toNat).base + (s.queue q.toNat).p * (s.queue q.toNat).entryBytes ∧ s.qmWait = (q.toNat, b) :: r ∧ (s.queue q.toNat).isFull = true) ∧
    (∃ (q : BitVec 18) (s : State), (∀ e ∈ s.qmWait, e.1 ≠ q.toNat)) ∧
    (∃ (s : State), s.hbmServes = true ∧ s.hbmState = 1 ∧ s.get R.hbmPowerCfg F.hbmPowerCfg_PD_EN = 1 ∧ 600 ≤ s.hbmTolerance.1) ∧
    (∃ (s : State), s.hbmServes = true ∧ s.hbmState = 1 ∧ (s.get R.hbmPowerCfg F.hbmPowerCfg_PD_EN = 0 ∨ s.hbmTolerance.1 < 600)) ∧
    (∃ (s : State), s.hbmServes = true ∧ s.hbmState = 1 ∧ (s.get R.hbmPowerCfg F.hbmPowerCfg_PD_EN = 0 ∨ s.hbmTolerance.1 < 600)) ∧
    (∃ (s : State), s.hbmServes = true ∧ (s.hbmState = 1 ∨ s.hbmState = 2) ∧ s.get R.hbmPowerCfg F.hbmPowerCfg_SR_EN = 1 ∧ 6000 ≤ s.hbmTolerance.1) ∧
    (∃ (s : State), s.hbmServes = true ∧ (s.hbmState = 1 ∨ s.hbmState = 2) ∧ s.get R.hbmPowerCfg F.hbmPowerCfg_SR_EN = 1 ∧ 6000 ≤ s.hbmTolerance.1) ∧
    (∃ (s : State), s.hbmServes = true ∧ (s.hbmState = 1 ∨ s.hbmState = 2) ∧ (s.get R.hbmPowerCfg F.hbmPowerCfg_SR_EN = 0 ∨ s.hbmTolerance.1 < 6000)) ∧
    (∃ (s : State), (s.isTile = true ∨ s.ldr.phase = .safeIdle ∨ s.rst.inReset = true)) ∧
    (∃ (s : State), (s.isTile = true ∨ s.ldr.phase = .safeIdle ∨ s.rst.inReset = true)) :=
  ⟨⟨.mp, 1#32, ((withQueue 3 (fun x => { x with p := 9, c := 9 }) feed).setReg R.qmSel 3).selQueue, (withQueue 3 (fun x => { x with p := 9, c := 9 }) feed).setReg R.qmSel 3, 4, by first | with_reducible rfl | rfl, by decide +kernel⟩,
   ⟨.mp, 1#32, (feed.setReg R.qmSel 192).selQueue, feed.setReg R.qmSel 192, by first | with_reducible rfl | rfl, by decide +kernel⟩,
   ⟨.mp, 1#32, ((withQueue 64 (fun x => { x with sizeLog2 := 25 }) feed).setReg R.qmSel 64).selQueue, (withQueue 64 (fun x => { x with sizeLog2 := 25 }) feed).setReg R.qmSel 64, ⟨64, 64, [32], 1⟩, by first | with_reducible rfl | rfl, by decide +kernel⟩,
   ⟨.mp, 1#32, ((withQueue 63 (fun x => { x with sizeLog2 := 5 }) feed).setReg R.qmSel 63).selQueue, (withQueue 63 (fun x => { x with sizeLog2 := 5 }) feed).setReg R.qmSel 63, ⟨0, 64, [16, 32, 64], 0⟩, by first | with_reducible rfl | rfl, by decide +kernel⟩,
   ⟨.mp, 1#32, ((withQueue 63 (fun x => { x with enabled := true, hostSpace := true }) feed).setReg R.qmSel 63).selQueue, (withQueue 63 (fun x => { x with enabled := true, hostSpace := true }) feed).setReg R.qmSel 63, ⟨0, 64, [16, 32, 64], 0⟩, by first | with_reducible rfl | rfl, by decide +kernel⟩,
   ⟨.mp, 2#32, ((withQueue 3 (fun x => { x with enabled := true }) feed).setReg R.qmSel 3).selQueue, (withQueue 3 (fun x => { x with enabled := true }) feed).setReg R.qmSel 3, 2, by first | with_reducible rfl | rfl, by decide +kernel⟩,
   ⟨.mp, 2#32, (feed.setReg R.qmSel 3).selQueue, feed.setReg R.qmSel 3, by first | with_reducible rfl | rfl, by decide +kernel⟩,
   ⟨3#18, withQueue 3 (fun x => { x with enabled := true, disabling := true }) feed, by decide +kernel⟩,
   ⟨3#18, withQueue 3 (fun x => { x with enabled := true }) feed, by decide +kernel⟩,
   ⟨.mp, BitVec.ofNat 64 (64 + 5 * 2 ^ 32), fieldGet (BitVec.ofNat 64 (64 + 5 * 2 ^ 32)).toNat F.qmConsume_QUEUE, fieldGet (BitVec.ofNat 64 (64 + 5 * 2 ^ 32)).toNat F.qmConsume_INDEX, withQueue 64 (fun x => { x with enabled := true, p := 5, c := 63 }) feed, 0, by first | with_reducible rfl | rfl, by first | with_reducible rfl | rfl, by decide +kernel⟩,
   ⟨.mp, BitVec.ofNat 64 (64 + 6 * 2 ^ 32), fieldGet (BitVec.ofNat 64 (64 + 6 * 2 ^ 32)).toNat F.qmConsume_QUEUE, fieldGet (BitVec.ofNat 64 (64 + 6 * 2 ^ 32)).toNat F.qmConsume_INDEX, withQueue 64 (fun x => { x with enabled := true, p := 5, c := 63 }) feed, by first | with_reducible rfl | rfl, by first | with_reducible rfl | rfl, by decide +kernel⟩,
   ⟨.mp, BitVec.ofNat 64 (3 + 5 * 2 ^ 32), fieldGet (BitVec.ofNat 64 (3 + 5 * 2 ^ 32)).toNat F.qmConsume_QUEUE, fieldGet (BitVec.ofNat 64 (3 + 5 * 2 ^ 32)).toNat F.qmConsume_INDEX, withQueue 3 (fun x => { x with enabled := true, p := 5 }) feed, by first | with_reducible rfl | rfl, by first | with_reducible rfl | rfl, by decide +kernel⟩,
   ⟨64#18, [1, 2, 3], [(64, [4])], (({ withQueue 64 (fun x => { x with enabled := true, p := 63, c := 5 }) (feed.put R.hbmStatus F.hbmStatus_STATE 2) with qmWait := [(64, [1, 2, 3]), (64, [4])] }).queue (64#18).toNat).base + (({ withQueue 64 (fun x => { x with enabled := true, p := 63, c := 5 }) (feed.put R.hbmStatus F.hbmStatus_STATE 2) with qmWait := [(64, [1, 2, 3]), (64, [4])] }).queue (64#18).toNat).p * (({ withQueue 64 (fun x => { x with enabled := true, p := 63, c := 5 }) (feed.put R.hbmStatus F.hbmStatus_STATE 2) with qmWait := [(64, [1, 2, 3]), (64, [4])] }).queue (64#18).toNat).entryBytes, { withQueue 64 (fun x => { x with enabled := true, p := 63, c := 5 }) (feed.put R.hbmStatus F.hbmStatus_STATE 2) with qmWait := [(64, [1, 2, 3]), (64, [4])] }, by first | with_reducible rfl | rfl, by decide +kernel⟩,
   ⟨64#18, [1, 2, 3], [(64, [4])], (({ withQueue 64 (fun x => { x with enabled := true, hostSpace := true, p := 63, c := 5 }) feed with qmWait := [(64, [1, 2, 3]), (64, [4])] }).queue (64#18).toNat).base + (({ withQueue 64 (fun x => { x with enabled := true, hostSpace := true, p := 63, c := 5 }) feed with qmWait := [(64, [1, 2, 3]), (64, [4])] }).queue (64#18).toNat).p * (({ withQueue 64 (fun x => { x with enabled := true, hostSpace := true, p := 63, c := 5 }) feed with qmWait := [(64, [1, 2, 3]), (64, [4])] }).queue (64#18).toNat).entryBytes, { withQueue 64 (fun x => { x with enabled := true, hostSpace := true, p := 63, c := 5 }) feed with qmWait := [(64, [1, 2, 3]), (64, [4])] }, by first | with_reducible rfl | rfl, by decide +kernel⟩,
   ⟨64#18, [1], [], (({ withQueue 64 (fun x => { x with enabled := true, p := 63, c := 0 }) feed with qmWait := [(64, [1])] }).queue (64#18).toNat).base + (({ withQueue 64 (fun x => { x with enabled := true, p := 63, c := 0 }) feed with qmWait := [(64, [1])] }).queue (64#18).toNat).p * (({ withQueue 64 (fun x => { x with enabled := true, p := 63, c := 0 }) feed with qmWait := [(64, [1])] }).queue (64#18).toNat).entryBytes, { withQueue 64 (fun x => { x with enabled := true, p := 63, c := 0 }) feed with qmWait := [(64, [1])] }, by first | with_reducible rfl | rfl, by decide +kernel⟩,
   ⟨64#18, { feed with qmWait := [(65, [1])] }, by decide +kernel⟩,
   ⟨regsSet (hbm 1) [(R.hbmTol 3, 600)], by decide +kernel⟩,
   ⟨(hbm 1).put R.hbmPowerCfg F.hbmPowerCfg_SW_TOL 599, by decide +kernel⟩,
   ⟨(hbm 1).setReg R.hbmPowerCfg 2, by decide +kernel⟩,
   ⟨regsSet (hbm 1) [(R.hbmTol 3, 6000)], by decide +kernel⟩,
   ⟨regsSet (hbm 2) [(R.hbmTol 3, 6000)], by decide +kernel⟩,
   ⟨regsSet (hbm 1) [(R.hbmTol 9, 5999)], by decide +kernel⟩,
   ⟨tile.put R.hbmStatus F.hbmStatus_STATE 2, by decide +kernel⟩,
   ⟨{ hbm 1 with rst := { feed.rst with inReset := true, reach := 1 } }, by decide +kernel⟩⟩

theorem witness_QueuesAndHbm_2 :
    (∃ (s : State), s.hbmServes = true ∧ (s.hbmState = 2 ∨ s.hbmState = 3)) ∧
    (∃ (s : State), s.hbmServes = true ∧ (s.hbmState = 2 ∨ s.hbmState = 3)) ∧
    (∃ (s : State) (c : Fin 11) (v : BitVec 16), s.hbmServes = true ∧ s.hbmState = 3 ∧ (after (.hbmWake (some (c, v))) s).hbmTolerance.1 < 6000 ∧ s.hif.linkUp = true) ∧
    (∃ (s : State) (c : Fin 11) (v : BitVec 16), s.hbmServes = true ∧ s.hbmState = 3 ∧ 6000 ≤ (after (.hbmWake (some (c, v))) s).hbmTolerance.1 ∧ s.hif.linkUp = true) :=
  ⟨⟨hbm 3, by decide +kernel⟩,
   ⟨hbm 2, by decide +kernel⟩,
   ⟨hbm 3, (10 : Fin 11), 5999#16, by decide +kernel⟩,
   ⟨hbm 3, (0 : Fin 11), 6000#16, by decide +kernel⟩⟩

/-- Channel 127 in a state on the enabled queue 3. -/
def channel (st : Nat) (f : DmaCh → DmaCh) : State :=
  (withQueue 3 (fun x => { x with enabled := true, p := 2, c := 1, base := 4096 }) (regsSet feed [(R.dmaChCfg 127, 3), (R.dmaChStatus 127, st)])).setDmaCh (f (DmaCh.idle 127))

theorem witness_DmaChannels :
    (∃ (req : Requester) (c : Fin 128) (v : Word) (s : State), s.mayWrite req = true ∧ s.live .dma = true ∧ fieldGet v.toNat F.dmaChCtrl_RUN = 1 ∧ s.dmaState c.val = dmaIdle ∧ (s.queue (s.dmaQueue c.val)).enabled = true ∧ s.queueClass (s.dmaQueue c.val) = some 0) ∧
    (∃ (req : Requester) (c : Fin 128) (v : Word) (s : State), s.mayWrite req = true ∧ s.live .dma = true ∧ fieldGet v.toNat F.dmaChCtrl_RUN = 1 ∧ s.dmaState c.val = dmaIdle ∧ (s.queue (s.dmaQueue c.val)).enabled = false) ∧
    (∃ (req : Requester) (c : Fin 128) (v : Word) (s : State), s.mayWrite req = true ∧ s.live .dma = true ∧ fieldGet v.toNat F.dmaChCtrl_RUN = 0 ∧ s.dmaState c.val = dmaActive ∧ (s.dmaCh c.val).hostReset = false ∧ (s.dmaCh c.val).bursts ≠ []) ∧
    (∃ (req : Requester) (c : Fin 128) (v : Word) (s : State), s.mayWrite req = true ∧ s.live .dma = true ∧ fieldGet v.toNat F.dmaChCtrl_RUN = 0 ∧ s.dmaState c.val = dmaActive ∧ (s.dmaCh c.val).hostReset = false ∧ (s.dmaCh c.val).bursts = []) ∧
    (∃ (req : Requester) (c : Fin 128) (v : Word) (s : State), s.mayWrite req = true ∧ s.live .dma = true ∧ fieldGet v.toNat F.dmaChCtrl_RUN = 0 ∧ fieldGet v.toNat F.dmaChCtrl_RESET = 1 ∧ s.dmaState c.val = dmaError ∧ fieldGet v.toNat F.dmaChCtrl_SKIP = 0) ∧
    (∃ (req : Requester) (c : Fin 128) (v : Word) (s : State) (x : _), s.mayWrite req = true ∧ s.live .dma = true ∧ fieldGet v.toNat F.dmaChCtrl_RUN = 0 ∧ fieldGet v.toNat F.dmaChCtrl_RESET = 1 ∧ s.dmaState c.val = dmaError ∧ fieldGet v.toNat F.dmaChCtrl_SKIP = 1 ∧ x ≠ s.dmaQueue c.val) ∧
    (∃ (l : Fin 64) (s : State) (c : _), c < 128 ∧ s.dmaState c = dmaPaused ∧ s.get (R.dmaChCfg c) F.dmaChCfg_REQ_EN = 1 ∧ s.get (R.dmaChCfg c) F.dmaChCfg_REQ = l.val) ∧
    (∃ (l : Fin 64) (s : State) (c : _), c < 128 ∧ (s.dmaState c ≠ dmaPaused ∨ s.get (R.dmaChCfg c) F.dmaChCfg_REQ_EN = 0 ∨ s.get (R.dmaChCfg c) F.dmaChCfg_REQ ≠ l.val)) ∧
    (∃ (l : Fin 64) (s : State) (c : _), c < 128 ∧ s.dmaState c = dmaActive ∧ (s.dmaCh c).bursts = [] ∧ s.get (R.dmaChCfg c) F.dmaChCfg_REQ_EN = 1 ∧ s.get (R.dmaChCfg c) F.dmaChCfg_REQ = l.val) ∧
    (∃ (l : Fin 64) (s : State) (c : _), c < 128 ∧ (s.dmaState c ≠ dmaActive ∨ (s.dmaCh c).bursts ≠ [] ∨ s.get (R.dmaChCfg c) F.dmaChCfg_REQ_EN = 0 ∨ s.get (R.dmaChCfg c) F.dmaChCfg_REQ ≠ l.val)) :=
  ⟨⟨.mp, (127 : Fin 128), 1#32, channel dmaIdle id, by decide +kernel⟩,
   ⟨.mp, (0 : Fin 128), 1#32, feed, by decide +kernel⟩,
   ⟨.mp, (127 : Fin 128), 0#32, channel dmaActive (fun x => { x with bursts := [(0, 64)] }), by decide +kernel⟩,
   ⟨.mp, (127 : Fin 128), 0#32, channel dmaActive id, by decide +kernel⟩,
   ⟨.mp, (127 : Fin 128), 2#32, channel dmaError id, by decide +kernel⟩,
   ⟨.mp, (127 : Fin 128), 6#32, channel dmaError id, 2, by decide +kernel⟩,
   ⟨(1 : Fin 64), (channel dmaPaused id).setReg (R.dmaChCfg 127) (3 + 2 ^ 22 + 1 * 2 ^ 23), 127, by decide +kernel⟩,
   ⟨(1 : Fin 64), (channel dmaPaused id).setReg (R.dmaChCfg 127) (3 + 2 * 2 ^ 23), 127, by decide +kernel⟩,
   ⟨(1 : Fin 64), (channel dmaActive id).setReg (R.dmaChCfg 127) (3 + 2 ^ 22 + 1 * 2 ^ 23), 127, by decide +kernel⟩,
   ⟨(1 : Fin 64), (channel dmaActive (fun x => { x with bursts := [(0, 64)] })).setReg (R.dmaChCfg 127) (3 + 2 ^ 22 + 1 * 2 ^ 23), 127, by decide +kernel⟩⟩

/-- A descriptor of 128 bytes from 0x2000 to 0x3000 in HBM that raises trigger line 7. -/
def descBytes (len : Nat) : List Nat := leBytes 4 (1 + 4 + 16 + 7 * 32) ++ leBytes 4 len ++ leBytes 8 0x2000 ++ leBytes 8 0x3000 ++ [0, 0, 0, 0] ++ leBytes 4 99

/-- The descriptor itself. -/
def desc : DmaDesc := descOf (descBytes 128)

/-- The channel with that descriptor in memory. -/
def described (len : Nat) : State := (channel dmaFetch id).memWrite 4128 ((descBytes len).map (BitVec.ofNat 8))

theorem witness_DmaDescriptors :
    (∃ (c : Fin 128) (b : List Nat) (s : State), b = (s.readBytes (s.descAddr c.val).1 32).map (·.toNat) ∧ s.dmaState c.val = dmaFetch ∧ (s.queue (s.dmaQueue c.val)).enabled = true ∧ (s.queue (s.dmaQueue c.val)).disabling = false ∧ s.queueClass (s.dmaQueue c.val) = some 0 ∧ (s.queue (s.dmaQueue c.val)).p ≠ (s.queue (s.dmaQueue c.val)).c ∧ (s.queue (s.dmaQueue c.val)).hostSpace = false ∧ s.descCause b = 0) ∧
    (∃ (c : Fin 128) (b : List Nat) (s : State), b = (s.readBytes (s.descAddr c.val).1 32).map (·.toNat) ∧ s.dmaState c.val = dmaFetch ∧ (s.queue (s.dmaQueue c.val)).enabled = true ∧ (s.queue (s.dmaQueue c.val)).disabling = false ∧ s.queueClass (s.dmaQueue c.val) = some 0 ∧ (s.queue (s.dmaQueue c.val)).p ≠ (s.queue (s.dmaQueue c.val)).c ∧ (s.queue (s.dmaQueue c.val)).hostSpace = false ∧ s.descCause b ≠ 0 ∧ ((descOf b).src % 64 ≠ 0 ∨ (descOf b).dst % 64 ≠ 0 ∨ (descOf b).length % 64 ≠ 0)) ∧
    (∃ (c : Fin 128) (b : List Nat) (s : State), b = (s.readBytes (s.descAddr c.val).1 32).map (·.toNat) ∧ s.dmaState c.val = dmaFetch ∧ (s.queue (s.dmaQueue c.val)).enabled = true ∧ (s.queue (s.dmaQueue c.val)).disabling = false ∧ s.queueClass (s.dmaQueue c.val) = some 0 ∧ (s.queue (s.dmaQueue c.val)).p ≠ (s.queue (s.dmaQueue c.val)).c ∧ (s.queue (s.dmaQueue c.val)).hostSpace = false ∧ s.descCause b ≠ 0 ∧ (descOf b).src % 64 = 0 ∧ (descOf b).dst % 64 = 0 ∧ (descOf b).length = 0) ∧
    (∃ (c : Fin 128) (s : State), s.dmaState c.val = dmaFetch) ∧
    (∃ (c : Fin 128) (d : DmaDesc) (s : State), s.dmaState c.val = dmaActive ∧ (s.dmaCh c.val).desc = some d ∧ (s.dmaCh c.val).issued < d.length ∧ s.get (R.dmaChCfg c.val) F.dmaChCfg_REQ_EN = 1 ∧ s.get (R.dmaChCfg c.val) F.dmaChCfg_REQ ∉ s.dma.drq) ∧
    (∃ (c : Fin 128) (d : DmaDesc) (s : State) (n : Nat), s.dmaState c.val = dmaActive ∧ (s.dmaCh c.val).desc = some d ∧ (s.dmaCh c.val).issued < d.length ∧ (s.get (R.dmaChCfg c.val) F.dmaChCfg_REQ_EN = 0 ∨ s.get (R.dmaChCfg c.val) F.dmaChCfg_REQ ∈ s.dma.drq) ∧ n = burstLength d (s.burstBytes c.val) (s.dmaCh c.val).issued ∧ s.fitsShared c.val n = true ∧ s.hasTurn c.val n = true) ∧
    (∃ (c : Fin 128) (d : DmaDesc) (s : State) (n : Nat), s.dmaState c.val = dmaActive ∧ (s.dmaCh c.val).desc = some d ∧ (s.dmaCh c.val).issued < d.length ∧ (s.get (R.dmaChCfg c.val) F.dmaChCfg_REQ_EN = 0 ∨ s.get (R.dmaChCfg c.val) F.dmaChCfg_REQ ∈ s.dma.drq) ∧ n = burstLength d (s.burstBytes c.val) (s.dmaCh c.val).issued ∧ (s.fitsShared c.val n = false ∨ s.hasTurn c.val n = false)) ∧
    (∃ (c : Fin 128) (d : DmaDesc) (o : Nat) (n : Nat) (r : List (Nat × Nat)) (s : State), (s.dmaCh c.val).desc = some d ∧ (s.dmaCh c.val).bursts = (o, n) :: r ∧ d.srcSpace ≠ 0 ∧ d.dstSpace ≠ 0 ∧ s.dmaState c.val = dmaActive ∧ (o + n ≠ d.length ∨ r ≠ [])) ∧
    (∃ (c : Fin 128) (d : DmaDesc) (o : Nat) (n : Nat) (r : List (Nat × Nat)) (s : State), (s.dmaCh c.val).desc = some d ∧ (s.dmaCh c.val).bursts = (o, n) :: r ∧ d.srcSpace ≠ 0 ∧ d.dstSpace ≠ 0 ∧ s.dmaState c.val = dmaActive ∧ o + n = d.length ∧ r = [] ∧ d.pulse = true) ∧
    (∃ (c : Fin 128) (d : DmaDesc) (o : Nat) (n : Nat) (r : List (Nat × Nat)) (s : State), (s.dmaCh c.val).desc = some d ∧ (s.dmaCh c.val).bursts = (o, n) :: r ∧ d.srcSpace ≠ 0 ∧ d.dstSpace ≠ 0 ∧ s.dmaState c.val = dmaActive ∧ o + n = d.length ∧ r = [] ∧ d.pulse = false ∧ (s.queue (s.dmaQueue c.val)).enabled = true ∧ s.queueClass (s.dmaQueue c.val) = some 0) ∧
    (∃ (c : Fin 128) (d : DmaDesc) (s : State), (s.dmaCh c.val).desc = some d ∧ s.dmaState c.val = dmaReadback ∧ d.trig < 256 ∧ (s.queue (s.dmaQueue c.val)).enabled = true ∧ s.queueClass (s.dmaQueue c.val) = some 0 ∧ s.dmaRun c.val = true) ∧
    (∃ (c : Fin 128) (d : DmaDesc) (s : State), (s.dmaCh c.val).desc = some d ∧ s.dmaState c.val = dmaReadback ∧ d.trig < 256 ∧ (s.queue (s.dmaQueue c.val)).enabled = true ∧ s.queueClass (s.dmaQueue c.val) = some 0 ∧ s.dmaRun c.val = false) ∧
    (∃ (c : Fin 128) (d : DmaDesc) (s : State), (s.dmaCh c.val).desc = some d ∧ s.dmaState c.val = dmaReadback) ∧
    (∃ (c : Fin 128) (s : State), s.dmaState c.val = dmaActive ∧ (s.dmaCh c.val).desc.isSome = true ∧ (s.dmaCh c.val).hostReset = false) :=
  ⟨⟨(127 : Fin 128), ((described 128).readBytes ((described 128).descAddr ((127 : Fin 128)).val).1 32).map (·.toNat), described 128, by first | with_reducible rfl | rfl, by decide +kernel⟩,
   ⟨(127 : Fin 128), ((described 127).readBytes ((described 127).descAddr ((127 : Fin 128)).val).1 32).map (·.toNat), described 127, by first | with_reducible rfl | rfl, by decide +kernel⟩,
   ⟨(127 : Fin 128), ((described 0).readBytes ((described 0).descAddr ((127 : Fin 128)).val).1 32).map (·.toNat), described 0, by first | with_reducible rfl | rfl, by decide +kernel⟩,
   ⟨(127 : Fin 128), channel dmaFetch id, by decide +kernel⟩,
   ⟨(127 : Fin 128), desc, (channel dmaActive (fun x => { x with desc := some desc })).setReg (R.dmaChCfg 127) (3 + 2 ^ 22 + 5 * 2 ^ 23), by decide +kernel⟩,
   ⟨(127 : Fin 128), desc, channel dmaActive (fun x => { x with desc := some desc, issued := 64 }), 64, by decide +kernel⟩,
   ⟨(127 : Fin 128), desc, (channel dmaActive (fun x => { x with desc := some desc, issued := 64 })).setDmaCh { DmaCh.idle 5 with desc := some desc, issued := 2 ^ 30, bursts := [(0, 2 ^ 30)] }, 64, by decide +kernel⟩,
   ⟨(127 : Fin 128), desc, 0, 64, [(64, 64)], (channel dmaActive (fun x => { x with desc := some desc, issued := 128, bursts := [(0, 64), (64, 64)] })).memWrite 0x2000 [5#8], by decide +kernel⟩,
   ⟨(127 : Fin 128), desc, 64, 64, [], (channel dmaActive (fun x => { x with desc := some desc, issued := 128, bursts := [(64, 64)] })).memWrite 0x207F [5#8], by decide +kernel⟩,
   ⟨(127 : Fin 128), { desc with pulse := false }, 64, 64, [], (channel dmaActive (fun x => { x with desc := some { desc with pulse := false }, issued := 128, bursts := [(64, 64)] })).memWrite 0x207F [5#8], by decide +kernel⟩,
   ⟨(127 : Fin 128), desc, (channel dmaReadback (fun x => { x with desc := some desc, issued := 128 })).put (R.dmaChCtrl 127) F.dmaChCtrl_RUN 1, by decide +kernel⟩,
   ⟨(127 : Fin 128), desc, channel dmaReadback (fun x => { x with desc := some desc, issued := 128 }), by decide +kernel⟩,
   ⟨(127 : Fin 128), desc, channel dmaReadback (fun x => { x with desc := some desc, issued := 128 }), by decide +kernel⟩,
   ⟨(127 : Fin 128), channel dmaActive (fun x => { x with desc := some desc }), by decide +kernel⟩⟩

/-- A state whose commit is being checked. -/
def committing (g : Nat) (w : Bool) (s : State) : State := { s with cmp := { s.cmp with checking := some (g, w) } }

/-- A state with a commit that is to take effect at a frame. -/
def pended (g n : Nat) (s : State) : State := { s with cmp := { s.cmp with pend := some ⟨g, n, false, false, false⟩ } }

theorem witness_Commits :
    (∃ (req : Requester) (s : State), s.mayWrite req = true ∧ s.isTile = true) ∧
    (∃ (req : Requester) (s : State), s.mayWrite req = true ∧ s.isTile = false ∧ s.switching = true) ∧
    (∃ (req : Requester) (s : State), s.mayWrite req = true ∧ s.isTile = false ∧ s.switching = false) ∧
    (∃ (s : State), s.cmp.checking = none) ∧
    (∃ (gen : Nat) (wall : Bool) (p : PatternRec) (s : State), s.cmp.checking = some (gen, wall) ∧ s.pattern = some p ∧ (s.ldr.phase ≠ .ready ∨ s.frameLocked = false)) ∧
    (∃ (gen : Nat) (wall : Bool) (p : PatternRec) (s : State), s.cmp.checking = some (gen, wall) ∧ s.pattern = some p ∧ s.ldr.phase = .ready ∧ s.frameLocked = true ∧ gen = s.activeGen) ∧
    (∃ (gen : Nat) (wall : Bool) (p : PatternRec) (s : State) (f : CheckFail) (u : State), s.cmp.checking = some (gen, wall) ∧ s.pattern = some p ∧ s.ldr.phase = .ready ∧ s.frameLocked = true ∧ gen ≠ s.activeGen ∧ s.checks s.regs p = (some f, u) ∧ f.reason < 256) ∧
    (∃ (gen : Nat) (wall : Bool) (p : PatternRec) (s : State) (u : State), s.cmp.checking = some (gen, wall) ∧ s.pattern = some p ∧ s.ldr.phase = .ready ∧ s.frameLocked = true ∧ gen ≠ s.activeGen ∧ s.checks s.regs p = (none, u) ∧ u.namedFrame gen = none) ∧
    (∃ (n : Nat) (p : PatternRec) (s : State), s.pattern = some p ∧ 0 < p.fpNum ∧ 0 < p.fpDen ∧ n < 2 ^ 48 ∧ (s.clock.now : Int) < frameStart s.origin p n - s.lead - 100000 ∧ frameStart s.origin p (n - 1 : Int) - s.lead - 100000 ≤ s.clock.now) ∧
    (∃ (s : State), (s.rst.inReset = true ∨ s.cmp.pend = none)) ∧
    (∃ (s : State), (s.rst.inReset = true ∨ s.cmp.pend = none)) ∧
    (∃ (c : CommitPend) (s : State), s.rst.inReset = false ∧ s.cmp.pend = some c ∧ s.frameInt < c.frame) ∧
    (∃ (c : CommitPend) (s : State), s.rst.inReset = false ∧ s.cmp.pend = some c ∧ (c.frame : Int) ≤ s.frameInt ∧ c.gen < 65536) :=
  ⟨⟨.mp, tile, by decide +kernel⟩,
   ⟨.mp, switchAt ⟨3700000000000, 0, 0, true⟩ feed, by decide +kernel⟩,
   ⟨.mp, feed, by decide +kernel⟩,
   ⟨feed, by decide +kernel⟩,
   ⟨5, true, pat, committing 5 true feed, by decide +kernel⟩,
   ⟨0, true, pat, committing 0 true locked, by decide +kernel⟩,
   ⟨5, true, pat, committing 5 true locked, failPlain, ((committing 5 true locked).checks locked.regs pat).2, by decide +kernel⟩,
   ⟨5, true, pat, committing 5 true (regsSet locked canvas), ((committing 5 true (regsSet locked canvas)).checks (regsSet locked canvas).regs pat).2, by decide +kernel⟩,
   ⟨216001, pat, since .run feed, by decide +kernel⟩,
   ⟨State.reset, by decide +kernel⟩,
   ⟨feed, by decide +kernel⟩,
   ⟨⟨5, 216001, false, false, false⟩, pended 5 216001 locked, by decide +kernel⟩,
   ⟨⟨5, 216000, false, false, false⟩, pended 5 216000 (regsSet { locked with shWritten := [R.cmpCanvasSize] } canvas), by decide +kernel⟩⟩

/-- A canvas of 2 by 1 pixels. -/
def smallCanvas : RegFile := sWrite regReset (sWrite regReset [] R.cmpCanvasSize (2 + 1 * 2 ^ 16)) R.cmpCanvasCfg (1 * 4 + 1900 * 256)

/-- A feed unit in RUN with that canvas and layer 0 of quarter 0 disabled. -/
def composing : State := since .run { locked with active := smallCanvas }

/-- A picture of a band of two rows. -/
def bandPic (b : Nat) : BandPic := ⟨b, 216000, 0, 0, 5, 6, [0, 1], [[⟨1, 2, 3⟩, ⟨1, 2, 3⟩], [⟨4, 5, 6⟩, ⟨4, 5, 6⟩]]⟩

/-- Layer 0 of quarter 0 enabled and linear. -/
def linear : RegFile := sWrite regReset [] (R.cmpLayerCtrl 0 0) (1 + 2 ^ 13)

/-- The small tile image in layer mode. -/
def layerImg : ForjoImage :=
  { img 2#8 with body := { (img 2#8).body with quarters := ⟨true, 1, [2, 2, 2, 2]⟩ } }

/-- The small tile in layer mode and RUN with a list for slot 0 of frame 216,000. -/
def listed : State :=
  since .run { tile with ldr := { tile.ldr with image := some layerImg }, hold := { tile.hold with lists := [⟨216000, 0, true, []⟩] } }

theorem witness_Composition :
    (∃ (s : State), s.live .cmp = true ∧ s.isFeed = true ∧ s.composeAt = none) ∧
    (∃ (q : Fin 4) (s : State) (a : ComposeAt) (b : Nat) (pic : BandPic) (row : List Rgb) (v : Rgb), s.live .cmp = true ∧ s.isFeed = true ∧ s.composeAt = some a ∧ b ∈ bandsOf (canvasCfg a.rf) q.val ∧ row ∈ pic.rows ∧ v ∈ row) ∧
    (∃ (s : State), s.isTile = true) ∧
    (∃ (s : State), s.live .cmp = false ∧ s.isF = true) ∧
    (∃ (b : Fin 128) (row : BitVec 14) (pic : BandPic) (s : State), s.live .cmp = true ∧ (s.cmp.bands.filter fun x => x.band == b.val).getLast? = some pic ∧ pic.rows.length ≤ row.toNat) ∧
    (∃ (b : Fin 128) (row : BitVec 14) (pic : BandPic) (s : State), s.live .cmp = true ∧ (s.cmp.bands.filter fun x => x.band == b.val).getLast? = some pic ∧ row.toNat < pic.rows.length) ∧
    (∃ (s : State), s.live .cmp = true ∧ s.cmp.wbFrame = none) ∧
    (∃ (s : State) (f : Nat) (w : _), w = wbCfg (s.cfgFor f) ∧ s.live .cmp = true ∧ s.cmp.wbFrame = some f ∧ w.trigEn = false) ∧
    (∃ (s : State) (f : Nat) (w : _), w = wbCfg (s.cfgFor f) ∧ s.live .cmp = true ∧ s.cmp.wbFrame = some f ∧ w.trigEn = true) ∧
    (∃ (req : Requester) (q : Fin 4) (n : Fin 8) (s : State), s.mayWrite req = true ∧ s.live .cmp = true ∧ linearOn s.active q.val n.val = false ∧ s.committing = false) ∧
    (∃ (req : Requester) (q : Fin 4) (n : Fin 8) (s : State), s.mayWrite req = true ∧ s.live .cmp = true ∧ (linearOn s.active q.val n.val = true ∨ (s.committing = true ∧ linearOn s.regs q.val n.val = true))) ∧
    (∃ (req : Requester) (q : Fin 4) (n : Fin 8) (s : State), s.mayWrite req = true ∧ s.live .cmp = true ∧ (linearOn s.active q.val n.val = true ∨ (s.committing = true ∧ linearOn s.regs q.val n.val = true))) ∧
    (∃ (req : Requester) (s : State), s.mayWrite req = true ∧ s.live .cmp = true ∧ s.seq.state = .idle) ∧
    (∃ (req : Requester) (s : State), s.mayWrite req = true ∧ s.live .cmp = true ∧ s.seq.state ≠ .idle) ∧
    (∃ (req : Requester) (q : Fin 4) (c : Fin 16) (s : State), s.mayWrite req = true ∧ s.live .scl = true ∧ setUsed s.active q.val c.val = false ∧ s.committing = false) ∧
    (∃ (req : Requester) (q : Fin 4) (c : Fin 16) (s : State), s.mayWrite req = true ∧ s.live .scl = true ∧ (setUsed s.active q.val c.val = true ∨ (s.committing = true ∧ setUsed s.regs q.val c.val = true))) ∧
    (∃ (req : Requester) (q : Fin 4) (c : Fin 16) (s : State), s.mayWrite req = true ∧ s.live .scl = true ∧ (setUsed s.active q.val c.val = true ∨ (s.committing = true ∧ setUsed s.regs q.val c.val = true))) ∧
    (∃ (s : State), s.layerMode = false) ∧
    (∃ (m : LampMap) (p : PatternRec) (v : State) (f : Nat) (k : Nat) (l : ListRec) (s : State), s.isTile = true ∧ s.layerMode = true ∧ s.rst.inReset = false ∧ s.lampMap = some m ∧ s.deadlineSlot = some (v, f, k) ∧ v.pattern = some p ∧ v.latches (frameAt v.origin p ((s.clock.now : Int) + 200000)) k = true ∧ s.listFor f k = some l) :=
  ⟨⟨feed.put R.hbmStatus F.hbmStatus_STATE 2, by decide +kernel⟩,
   ⟨(0 : Fin 4), composing, (composing.composeAt.getD ⟨0, 0, 0, 0, [], []⟩), 0, ((after (.bandStart 0 [] []) composing).cmp.bands.headD (bandPic 0)), [⟨0, 0, 0⟩, ⟨0, 0, 0⟩], ⟨0, 0, 0⟩, by decide +kernel⟩,
   ⟨tile, by decide +kernel⟩,
   ⟨{ feed with rst := { feed.rst with inReset := true, reach := 1 } }, by decide +kernel⟩,
   ⟨(5 : Fin 128), 2#14, bandPic 5, { feed with cmp := { feed.cmp with bands := [bandPic 5] } }, by decide +kernel⟩,
   ⟨(5 : Fin 128), 1#14, bandPic 5, { feed with cmp := { feed.cmp with bands := [bandPic 5] } }, by decide +kernel⟩,
   ⟨feed, by decide +kernel⟩,
   ⟨{ feed with cmp := { feed.cmp with wbFrame := some 216000 } }, 216000, wbCfg (({ feed with cmp := { feed.cmp with wbFrame := some 216000 } }).cfgFor (216000)), by first | with_reducible rfl | rfl, by decide +kernel⟩,
   ⟨{ feed with cmp := { feed.cmp with wbFrame := some 216000, wbBad := true }, active := sWrite regReset [] R.cmpWbCtrl (fieldSet (fieldSet 0 F.cmpWbCtrl_TRIG_EN 1) F.cmpWbCtrl_TRIG 255) }, 216000, wbCfg (({ feed with cmp := { feed.cmp with wbFrame := some 216000, wbBad := true }, active := sWrite regReset [] R.cmpWbCtrl (fieldSet (fieldSet 0 F.cmpWbCtrl_TRIG_EN 1) F.cmpWbCtrl_TRIG 255) }).cfgFor (216000)), by first | with_reducible rfl | rfl, by decide +kernel⟩,
   ⟨.mp, (3 : Fin 4), (7 : Fin 8), feed, by decide +kernel⟩,
   ⟨.mp, (0 : Fin 4), (0 : Fin 8), { feed with active := linear }, by decide +kernel⟩,
   ⟨.mp, (0 : Fin 4), (0 : Fin 8), pended 3 300000 (regsSet feed linear), by decide +kernel⟩,
   ⟨.mp, feed, by decide +kernel⟩,
   ⟨.mp, since .run feed, by decide +kernel⟩,
   ⟨.mp, (3 : Fin 4), (15 : Fin 16), feed, by decide +kernel⟩,
   ⟨.mp, (0 : Fin 4), (0 : Fin 16), { feed with active := linear }, by decide +kernel⟩,
   ⟨.mp, (0 : Fin 4), (0 : Fin 16), committing 3 true (regsSet feed linear), by decide +kernel⟩,
   ⟨tile, by decide +kernel⟩,
   ⟨(sections 2#8).lampmap, pat, ((listed.deadlineSlot.getD (listed, 0, 0)).1), 216000, 0, ⟨216000, 0, true, []⟩, listed, by decide +kernel⟩⟩

/-- A port of two lanes, 24 and 25, with a role, in a state. -/
def duo (role st : Nat) (s : State) : State :=
  regsSet s [(R.laneCfg 24, role + 1 * 4 + 2 * 32 + 1 * 2 ^ 12), (R.laneCfg 25, role + 1 * 4 + 2 * 32 + 1 * 2 ^ 12 + 1 * 2 ^ 14),
    (R.laneStatus 24, st), (R.laneStatus 25, st)]

/-- A CAPS record of a tile of serial 9 on a port of two lanes, of a version with its CRC. -/
def caps (version : Nat) (crc : List Nat) : List Byte :=
  ([version, 1, 1, 10, 0, 1, 0, 0, 9, 0, 0, 0, 0, 0, 0, 0, 3, 0, 0, 0, 0, 0, 0, 0, 0, 0, 0, 0] ++ crc).map (BitVec.ofNat 8)

theorem witness_LaneBringUp :
    (∃ (p : Fin 96) (present : Bool) (s : State) (x : _), s.isPort p.val = true ∧ s.laneState p.val = 2 ∧ present = true ∧ s.refLost p.val = false ∧ x ∈ s.portLanes p.val) ∧
    (∃ (p : Fin 96) (present : Bool) (s : State) (x : _), s.isPort p.val = true ∧ s.laneState p.val = 2 ∧ (present = false ∨ s.refLost p.val = true) ∧ x ∈ s.portLanes p.val) ∧
    (∃ (p : Fin 96) (present : Bool) (s : State) (x : _), s.isPort p.val = true ∧ s.laneState p.val = 2 ∧ (present = false ∨ s.refLost p.val = true) ∧ x ∈ s.portLanes p.val) ∧
    (∃ (p : Fin 96) (ffe : List (BitVec 4 × BitVec 6 × BitVec 5)) (s : State) (x : Nat) (i : Nat) (v : BitVec 4 × BitVec 6 × BitVec 5), s.isPort p.val = true ∧ s.laneState p.val = 3 ∧ x ∈ s.portLanes p.val ∧ ffe[i]? = some v ∧ (s.portLanes p.val)[i]? = some x ∧ 32 ≤ v.2.1.toNat ∧ v.1.toNat + v.2.1.toNat + v.2.2.toNat ≤ 63 ∧ s.get (R.laneCtrl x) F.laneCtrl_ADAPT_FREEZE = 0) ∧
    (∃ (p : Fin 96) (foms : List (BitVec 8 × BitVec 10)) (s : State) (x : Nat) (i : Nat) (v : BitVec 8 × BitVec 10), s.isPort p.val = true ∧ s.laneState p.val = 3 ∧ x ∈ s.portLanes p.val ∧ foms[i]? = some v ∧ (s.portLanes p.val)[i]? = some x) ∧
    (∃ (p : Fin 96) (c : Instr) (cause : Nat) (s : State) (x : _), s.isHalPort p.val = true ∧ ((c = .trainTimeout p ∧ cause = 1 ∧ s.laneState p.val = 3) ∨ (c = .capsTimeout p ∧ cause = 6 ∧ s.laneState p.val = 5)) ∧ x ∈ s.portLanes p.val ∧ s.get (R.laneStatus p.val) F.laneStatus_FAILS < 3) ∧
    (∃ (p : Fin 96) (c : Instr) (cause : Nat) (s : State) (x : _), s.isHalPort p.val = true ∧ ((c = .trainTimeout p ∧ cause = 1 ∧ s.laneState p.val = 3) ∨ (c = .capsTimeout p ∧ cause = 6 ∧ s.laneState p.val = 5)) ∧ x ∈ s.portLanes p.val ∧ 3 ≤ s.get (R.laneStatus p.val) F.laneStatus_FAILS) ∧
    (∃ (p : Fin 96) (at_ : List (Fin 4)) (s : State) (x : Nat) (i : Nat) (v : Fin 4), s.isHalPort p.val = true ∧ s.laneState p.val = 4 ∧ anyOrder (s.portLanes p.val).length (at_.map (·.val)) = true ∧ x ∈ s.portLanes p.val ∧ at_[i]? = some v ∧ (s.portLanes p.val)[i]? = some x) ∧
    (∃ (p : Fin 96) (at_ : List (Fin 4)) (s : State), s.isHalPort p.val = true ∧ s.laneState p.val = 4 ∧ anyOrder (s.portLanes p.val).length (at_.map (·.val)) = false) ∧
    (∃ (p : Fin 96) (s : State) (x : _), s.isHalPort p.val = true ∧ s.laneState p.val = 4 ∧ x ∈ s.portLanes p.val ∧ (s.lane p.val).lockFails < 2) ∧
    (∃ (p : Fin 96) (s : State) (x : _), s.isHalPort p.val = true ∧ s.laneState p.val = 4 ∧ x ∈ s.portLanes p.val ∧ 2 ≤ (s.lane p.val).lockFails ∧ s.get (R.laneStatus p.val) F.laneStatus_FAILS < 3) ∧
    (∃ (p : Fin 96) (s : State) (x : _), s.isHalPort p.val = true ∧ s.laneState p.val = 4 ∧ x ∈ s.portLanes p.val ∧ 2 ≤ (s.lane p.val).lockFails ∧ 3 ≤ s.get (R.laneStatus p.val) F.laneStatus_FAILS) ∧
    (∃ (p : Fin 96) (s : State) (x : _), s.isHalPort p.val = true ∧ s.laneState p.val = 5 ∧ x ∈ s.portLanes p.val) ∧
    (∃ (p : Fin 96) (bytes : List Byte) (r : List Nat) (s : State), r = bytes.map (·.toNat) ∧ s.isHalPort p.val = true ∧ s.laneState p.val = 5 ∧ (s.lane p.val).record = none ∧ capsGood r = false) ∧
    (∃ (p : Fin 96) (bytes : List Byte) (r : List Nat) (a : Bool) (s : State) (x : _), r = bytes.map (·.toNat) ∧ s.isHalPort p.val = true ∧ s.laneState p.val = 5 ∧ (s.lane p.val).record = none ∧ capsGood r = true ∧ a = false ∧ (s.lane p.val).acked = false ∧ x ∈ s.portLanes p.val) ∧
    (∃ (p : Fin 96) (bytes : List Byte) (r : List Nat) (a : Bool) (s : State) (x : _), r = bytes.map (·.toNat) ∧ s.isHalPort p.val = true ∧ s.laneState p.val = 5 ∧ (s.lane p.val).record = none ∧ capsGood r = true ∧ (a = true ∨ (s.lane p.val).acked = true) ∧ r.getD 0 0 = 1 ∧ r.getD 1 0 = s.get (R.laneCfg p.val) F.laneCfg_RATE ∧ r.getD 2 0 % 4 = s.get (R.laneCfg p.val) F.laneCfg_WIDTH ∧ ¬(s.isTile = true ∧ 2 ≤ s.portName p.val ∧ r.getD 3 0 / 4 % 4 = 2 ∧ 2 ≤ r.getD 4 0) ∧ x ∈ s.portLanes p.val) ∧
    (∃ (p : Fin 96) (bytes : List Byte) (r : List Nat) (a : Bool) (s : State) (x : _), r = bytes.map (·.toNat) ∧ s.isHalPort p.val = true ∧ s.laneState p.val = 5 ∧ (s.lane p.val).record = none ∧ capsGood r = true ∧ (a = true ∨ (s.lane p.val).acked = true) ∧ (r.getD 0 0 ≠ 1 ∨ r.getD 1 0 ≠ s.get (R.laneCfg p.val) F.laneCfg_RATE ∨ r.getD 2 0 % 4 ≠ s.get (R.laneCfg p.val) F.laneCfg_WIDTH ∨ (s.isTile = true ∧ 2 ≤ s.portName p.val ∧ r.getD 3 0 / 4 % 4 = 2 ∧ 2 ≤ r.getD 4 0)) ∧ x ∈ s.portLanes p.val) ∧
    (∃ (p : Fin 96) (bytes : List Byte) (r : List Nat) (a : Bool) (s : State) (x : _), r = bytes.map (·.toNat) ∧ s.isHalPort p.val = true ∧ s.laneState p.val = 5 ∧ (s.lane p.val).record = none ∧ capsGood r = true ∧ (a = true ∨ (s.lane p.val).acked = true) ∧ (r.getD 0 0 ≠ 1 ∨ r.getD 1 0 ≠ s.get (R.laneCfg p.val) F.laneCfg_RATE ∨ r.getD 2 0 % 4 ≠ s.get (R.laneCfg p.val) F.laneCfg_WIDTH ∨ (s.isTile = true ∧ 2 ≤ s.portName p.val ∧ r.getD 3 0 / 4 % 4 = 2 ∧ 2 ≤ r.getD 4 0)) ∧ x ∈ s.portLanes p.val) ∧
    (∃ (p : Fin 96) (s : State) (x : _), s.isPort p.val = true ∧ s.laneState p.val = 7 ∧ x ∈ s.portLanes p.val) :=
  ⟨⟨(24 : Fin 96), true, duo 1 2 feed, 25, by decide +kernel⟩,
   ⟨(24 : Fin 96), false, duo 1 2 feed, 25, by decide +kernel⟩,
   ⟨(24 : Fin 96), true, { duo 3 2 feed with lan := { feed.lan with refLost := [0] } }, 25, by decide +kernel⟩,
   ⟨(24 : Fin 96), [(0#4, 40#6, 9#5), (15#4, 48#6, 0#5)], duo 2 3 feed, 25, 1, (15#4, 48#6, 0#5), by decide +kernel⟩,
   ⟨(24 : Fin 96), [(1#8, 2#10), (255#8, 1023#10)], duo 1 3 feed, 25, 1, (255#8, 1023#10), by decide +kernel⟩,
   ⟨(24 : Fin 96), .trainTimeout 24, 1, (duo 1 (3 + 2 * 16) feed), 25, by decide +kernel⟩,
   ⟨(24 : Fin 96), .capsTimeout 24, 6, (duo 1 (5 + 3 * 16) feed), 25, by decide +kernel⟩,
   ⟨(24 : Fin 96), [1, 0], duo 1 4 feed, 25, 1, (0 : Fin 4), by decide +kernel⟩,
   ⟨(24 : Fin 96), [1, 1], duo 1 4 feed, by decide +kernel⟩,
   ⟨(24 : Fin 96), duo 1 4 feed, 24, by decide +kernel⟩,
   ⟨(24 : Fin 96), (duo 1 4 feed).setLane { LaneSt.fresh 24 with lockFails := 2 }, 25, by decide +kernel⟩,
   ⟨(24 : Fin 96), (duo 1 (4 + 15 * 16) feed).setLane { LaneSt.fresh 24 with lockFails := 2 }, 25, by decide +kernel⟩,
   ⟨(24 : Fin 96), duo 1 5 feed, 25, by decide +kernel⟩,
   ⟨(24 : Fin 96), caps 1 [0, 0, 0, 0], (caps 1 [0, 0, 0, 0]).map (·.toNat), duo 1 5 feed, by first | with_reducible rfl | rfl, by decide +kernel⟩,
   ⟨(24 : Fin 96), caps 1 [24, 87, 104, 160], (caps 1 [24, 87, 104, 160]).map (·.toNat), false, duo 1 5 feed, 25, by first | with_reducible rfl | rfl, by decide +kernel⟩,
   ⟨(24 : Fin 96), caps 1 [24, 87, 104, 160], (caps 1 [24, 87, 104, 160]).map (·.toNat), true, duo 1 (5 + 2 * 16) feed, 25, by first | with_reducible rfl | rfl, by decide +kernel⟩,
   ⟨(24 : Fin 96), caps 2 [63, 80, 182, 162], (caps 2 [63, 80, 182, 162]).map (·.toNat), true, duo 1 5 feed, 25, by first | with_reducible rfl | rfl, by decide +kernel⟩,
   ⟨(24 : Fin 96), caps 2 [63, 80, 182, 162], (caps 2 [63, 80, 182, 162]).map (·.toNat), false, (duo 1 5 feed).setLane { LaneSt.fresh 24 with acked := true }, 24, by first | with_reducible rfl | rfl, by decide +kernel⟩,
   ⟨(24 : Fin 96), duo 1 (7 + 5 * 16) feed, 25, by decide +kernel⟩⟩

theorem witness_LaneExits :
    (∃ (l : Fin 96) (f : Nat) (c : Instr) (cause : Nat) (s : State) (x : _), f = s.portFirst l.val ∧ s.isHalPort f = true ∧ l.val ∈ s.portLanes f ∧ s.laneRole l.val = 1 ∧ s.laneState l.val = 6 ∧ s.laneState f = 6 ∧ (s.walkOf f).phase ≠ .walk ∧ (s.halPort f).rx = none ∧ (c, cause) ∈ [(Instr.signalLost l, 8), (.blockLockLost l, 9), (.fecLockLost l, 10), (.highSer l, 11)] ∧ x ∈ s.portLanes f) ∧
    (∃ (l : Fin 96) (f : Nat) (c : Instr) (cause : Nat) (s : State) (x : _), f = s.portFirst l.val ∧ s.isHalPort f = true ∧ l.val ∈ s.portLanes f ∧ s.laneRole l.val = 1 ∧ s.laneState l.val = 6 ∧ s.laneState f = 6 ∧ (s.walkOf f).phase ≠ .walk ∧ (s.halPort f).rx = none ∧ (c, cause) ∈ [(Instr.signalLost l, 8), (.blockLockLost l, 9), (.fecLockLost l, 10), (.highSer l, 11)] ∧ x ∈ s.portLanes f) ∧
    (∃ (l : Fin 96) (f : Nat) (c : Instr) (cause : Nat) (s : State) (x : _), f = s.portFirst l.val ∧ s.isHalPort f = true ∧ l.val ∈ s.portLanes f ∧ s.laneRole l.val = 1 ∧ s.laneState l.val = 6 ∧ s.laneState f = 6 ∧ (s.walkOf f).phase ≠ .walk ∧ (s.halPort f).rx = none ∧ (c, cause) ∈ [(Instr.signalLost l, 8), (.blockLockLost l, 9), (.fecLockLost l, 10), (.highSer l, 11)] ∧ x ∈ s.portLanes f) ∧
    (∃ (l : Fin 96) (f : Nat) (c : Instr) (cause : Nat) (s : State) (x : _), f = s.portFirst l.val ∧ s.isHalPort f = true ∧ l.val ∈ s.portLanes f ∧ s.laneRole l.val = 1 ∧ s.laneState l.val = 6 ∧ s.laneState f = 6 ∧ (s.walkOf f).phase ≠ .walk ∧ (s.halPort f).rx = none ∧ (c, cause) ∈ [(Instr.signalLost l, 8), (.blockLockLost l, 9), (.fecLockLost l, 10), (.highSer l, 11)] ∧ x ∈ s.portLanes f) ∧
    (∃ (l : Fin 96) (s : State), (s.laneRole l.val ≠ 1 ∨ s.laneState l.val ≠ 6)) ∧
    (∃ (req : Requester) (l : Fin 96) (v : Word) (f : Nat) (s : State) (x : _), s.mayWrite req = true ∧ f = s.portFirst l.val ∧ s.isHalPort f = true ∧ (s.halPort f).rx = none ∧ l.val ∈ s.portLanes f ∧ s.laneRole l.val = 1 ∧ fieldGet v.toNat F.laneCtrl_RETRAIN = 1 ∧ fieldGet v.toNat F.laneCtrl_DISABLE = 0 ∧ (∀ x, x ∈ s.portLanes f → s.get (R.laneCtrl x) F.laneCtrl_DISABLE = 0) ∧ (∀ x, x ∈ s.portLanes f → s.laneState x ≠ 0 ∧ s.laneState x ≠ 1 ∧ s.laneState x ≠ 8) ∧ x ∈ s.portLanes f) ∧
    (∃ (req : Requester) (l : Fin 96) (v : Word) (f : Nat) (s : State) (x : _), s.mayWrite req = true ∧ f = s.portFirst l.val ∧ s.isHalPort f = true ∧ (s.halPort f).rx = none ∧ l.val ∈ s.portLanes f ∧ s.laneRole l.val = 1 ∧ fieldGet v.toNat F.laneCtrl_RETRAIN = 1 ∧ fieldGet v.toNat F.laneCtrl_DISABLE = 0 ∧ (∀ x, x ∈ s.portLanes f → s.get (R.laneCtrl x) F.laneCtrl_DISABLE = 0) ∧ (∀ x, x ∈ s.portLanes f → s.laneState x ≠ 0 ∧ s.laneState x ≠ 1 ∧ s.laneState x ≠ 8) ∧ x ∈ s.portLanes f) ∧
    (∃ (req : Requester) (l : Fin 96) (v : Word) (f : Nat) (s : State), s.mayWrite req = true ∧ f = s.portFirst l.val ∧ s.isHalPort f = true ∧ (s.halPort f).rx = none ∧ l.val ∈ s.portLanes f ∧ s.laneRole l.val = 1 ∧ fieldGet v.toNat F.laneCtrl_RETRAIN = 1 ∧ fieldGet v.toNat F.laneCtrl_DISABLE = 0 ∧ (∀ x, x ∈ s.portLanes f → s.get (R.laneCtrl x) F.laneCtrl_DISABLE = 0) ∧ (∃ x, x ∈ s.portLanes f ∧ (s.laneState x = 0 ∨ s.laneState x = 8))) ∧
    (∃ (req : Requester) (l : Fin 96) (v : Word) (f : Nat) (s : State) (x : _), s.mayWrite req = true ∧ f = s.portFirst l.val ∧ s.isHalPort f = true ∧ (s.halPort f).rx = none ∧ l.val ∈ s.portLanes f ∧ s.laneRole l.val = 1 ∧ fieldGet v.toNat F.laneCtrl_RETRAIN = 0 ∧ fieldGet v.toNat F.laneCtrl_DISABLE = 1 ∧ (∀ x, x ∈ s.portLanes f → s.laneState x = s.laneState f) ∧ s.laneState f ≠ 0 ∧ s.laneState f ≠ 8 ∧ x ∈ s.portLanes f) ∧
    (∃ (req : Requester) (l : Fin 96) (v : Word) (s : State), s.mayWrite req = true ∧ fieldGet v.toNat F.laneCtrl_RETRAIN = 0 ∧ fieldGet v.toNat F.laneCtrl_DISABLE = 0 ∧ s.laneRole l.val ≠ 0 ∧ (∀ x, x ∈ s.portLanes (s.portFirst l.val) → s.get (R.laneCtrl x) F.laneCtrl_DISABLE = 0 ∧ s.laneState x ≠ 1)) ∧
    (∃ (r : Fin 2) (s : State) (l : _), (∀ l, (s.halPort l).rx = none) ∧ l < 96 ∧ l / 48 = r.val ∧ s.isPort l = true ∧ 3 ≤ s.laneState l ∧ s.laneState l ≤ 6) ∧
    (∃ (l : Fin 96) (f : Nat) (s : State) (x : _), f = s.portFirst l.val ∧ s.isPort f = true ∧ 2 ≤ s.laneRole f ∧ 2 ≤ s.laneState f ∧ s.laneState f ≤ 4 ∧ s.refLost f = false ∧ x ∈ s.portLanes f ∧ s.laneRole f = 2) ∧
    (∃ (l : Fin 96) (f : Nat) (s : State) (x : _), f = s.portFirst l.val ∧ s.isPort f = true ∧ 2 ≤ s.laneRole f ∧ 2 ≤ s.laneState f ∧ s.laneState f ≤ 4 ∧ s.refLost f = false ∧ x ∈ s.portLanes f ∧ s.laneRole f = 3) ∧
    (∃ (l : Fin 96) (recovery : Bool) (f : Nat) (s : State) (x : _), f = s.portFirst l.val ∧ s.isPort f = true ∧ 2 ≤ s.laneRole f ∧ recovery = false ∧ s.laneState f = 6 ∧ x ∈ s.portLanes f) ∧
    (∃ (l : Fin 96) (recovery : Bool) (f : Nat) (s : State) (x : _), f = s.portFirst l.val ∧ s.isPort f = true ∧ 2 ≤ s.laneRole f ∧ recovery = true ∧ s.laneRole f = 3 ∧ s.laneState f = 6 ∧ x ∈ s.portLanes f) ∧
    (∃ (l : Fin 96) (f : Nat) (s : State) (x : _), f = s.portFirst l.val ∧ s.isPort f = true ∧ 2 ≤ s.laneRole f ∧ 2 ≤ s.laneState f ∧ s.laneState f ≤ 4 ∧ x ∈ s.portLanes f ∧ s.get (R.laneStatus f) F.laneStatus_FAILS < 3) :=
  ⟨⟨(25 : Fin 96), 24, .signalLost 25, 8, duo 1 6 feed, 24, by decide +kernel⟩,
   ⟨(25 : Fin 96), 24, .blockLockLost 25, 9, duo 1 6 feed, 25, by decide +kernel⟩,
   ⟨(24 : Fin 96), 24, .fecLockLost 24, 10, duo 1 6 feed, 24, by decide +kernel⟩,
   ⟨(24 : Fin 96), 24, .highSer 24, 11, duo 1 (6 + 255 * 2 ^ 16) feed, 25, by decide +kernel⟩,
   ⟨(24 : Fin 96), duo 2 6 feed, by decide +kernel⟩,
   ⟨.mp, (25 : Fin 96), 1#32, 24, duo 1 6 feed, 24, by decide +kernel⟩,
   ⟨.mp, (25 : Fin 96), 1#32, 24, duo 1 3 feed, 25, by decide +kernel⟩,
   ⟨.mp, (24 : Fin 96), 1#32, 24, duo 1 8 feed, by decide +kernel⟩,
   ⟨.mp, (25 : Fin 96), 4#32, 24, duo 1 6 feed, 24, by decide +kernel⟩,
   ⟨.mp, (25 : Fin 96), 2#32, duo 1 6 feed, by decide +kernel⟩,
   ⟨(0 : Fin 2), duo 3 6 feed, 24, fun _ => rfl, by decide +kernel⟩,
   ⟨(25 : Fin 96), 24, duo 2 3 feed, 24, by decide +kernel⟩,
   ⟨(25 : Fin 96), 24, duo 3 2 feed, 24, by decide +kernel⟩,
   ⟨(25 : Fin 96), false, 24, duo 2 6 feed, 25, by decide +kernel⟩,
   ⟨(25 : Fin 96), true, 24, duo 3 6 feed, 25, by decide +kernel⟩,
   ⟨(25 : Fin 96), 24, duo 2 (4 + 2 * 16) feed, 25, by decide +kernel⟩⟩

theorem witness_LaneEqualisation :
    (∃ (l : Fin 96) (w : BitVec 8) (s : State), (s.laneState l.val = 6 ∨ s.laneState l.val = 8) ∧ s.laneState l.val = 6 ∧ w.toNat < s.get (R.laneFomLimit l.val) F.laneFomLimit_WARN_W ∧ (s.lane l.val).low = 99 ∧ (s.lane l.val).lowMargin = false) ∧
    (∃ (l : Fin 96) (s : State), (s.laneState l.val = 6 ∨ s.laneState l.val = 8)) ∧
    (∃ (l : Fin 96) (s : State), s.laneState l.val ≠ 6 ∧ s.laneState l.val ≠ 8) ∧
    (∃ (l : Fin 96) (c : BitVec 4) (taps : List Int) (q : Option (BitVec 4 × BitVec 6 × BitVec 5)) (s : State) (x : Int), s.laneRole l.val ≠ 0 ∧ (s.laneState l.val = 3 ∨ s.laneState l.val = 6 ∨ s.laneState l.val = 8) ∧ s.get (R.laneCtrl l.val) F.laneCtrl_ADAPT_FREEZE = 0 ∧ c.toNat ≤ s.get (R.laneEq l.val) F.laneEq_CTLE + 1 ∧ s.get (R.laneEq l.val) F.laneEq_CTLE ≤ c.toNat + 1 ∧ x ∈ ((after (.eqUpdate l c taps q) s).lane l.val).taps) ∧
    (∃ (l : Fin 96) (s : State), s.laneRole l.val ≠ 0 ∧ (s.laneState l.val = 3 ∨ s.laneState l.val = 6 ∨ s.laneState l.val = 8) ∧ s.get (R.laneCtrl l.val) F.laneCtrl_ADAPT_FREEZE = 0) ∧
    (∃ (l : Fin 96) (s : State), (s.get (R.laneCtrl l.val) F.laneCtrl_ADAPT_FREEZE = 1 ∨ (s.laneState l.val ≠ 3 ∧ s.laneState l.val ≠ 6 ∧ s.laneState l.val ≠ 8) ∨ s.laneRole l.val = 0)) ∧
    (∃ (l : Fin 96) (s : State), (s.get (R.laneCtrl l.val) F.laneCtrl_ADAPT_FREEZE = 1 ∨ (s.laneState l.val ≠ 3 ∧ s.laneState l.val ≠ 6 ∧ s.laneState l.val ≠ 8) ∨ s.laneRole l.val = 0)) ∧
    (∃ (l : Fin 96) (s : State), (s.get (R.laneCtrl l.val) F.laneCtrl_ADAPT_FREEZE = 1 ∨ (s.laneState l.val ≠ 3 ∧ s.laneState l.val ≠ 6 ∧ s.laneState l.val ≠ 8) ∨ s.laneRole l.val = 0)) ∧
    (∃ (l : Fin 96) (s : State), s.laneRole l.val = 1 ∧ s.laneState l.val = 6 ∧ (s.lane l.val).ffe = none) ∧
    (∃ (l : Fin 96) (b : _) (s : State) (a : _) (c : _), s.laneRole l.val = 1 ∧ s.laneState l.val = 6 ∧ (s.lane l.val).ffe = some (a, b, c) ∧ s.get (R.laneEq l.val) F.laneEq_PRE + s.get (R.laneEq l.val) F.laneEq_MAIN + s.get (R.laneEq l.val) F.laneEq_POST ≤ 63) ∧
    (∃ (l : Fin 96) (s : State), (s.laneRole l.val ≠ 1 ∨ s.laneState l.val ≠ 6)) ∧
    (∃ (l : Fin 96) (s : State), (s.laneRole l.val ≠ 1 ∨ s.laneState l.val ≠ 6)) :=
  ⟨⟨(24 : Fin 96), 5#8, ((duo 1 6 feed).setReg (R.laneFomLimit 24) 6).setLane { LaneSt.fresh 24 with low := 99 }, by decide +kernel⟩,
   ⟨(24 : Fin 96), ((duo 1 8 feed).setReg (R.laneTest 1) (1 + 16 + 128)), by decide +kernel⟩,
   ⟨(24 : Fin 96), duo 1 5 feed, by decide +kernel⟩,
   ⟨(24 : Fin 96), 1#4, [63, 31, -31, 0], some (1#4, 2#6, 3#5), (duo 1 6 feed).setReg (R.laneEq 24) 0, 2, by decide +kernel⟩,
   ⟨(24 : Fin 96), duo 2 8 feed, by decide +kernel⟩,
   ⟨(24 : Fin 96), (duo 1 6 feed).put (R.laneCtrl 24) F.laneCtrl_ADAPT_FREEZE 1, by decide +kernel⟩,
   ⟨(24 : Fin 96), duo 0 6 feed, by decide +kernel⟩,
   ⟨(24 : Fin 96), duo 1 5 feed, by decide +kernel⟩,
   ⟨(24 : Fin 96), (duo 1 6 feed).setReg (R.laneFec 24) 5, by decide +kernel⟩,
   ⟨(24 : Fin 96), 63, (duo 1 6 feed).setLane { LaneSt.fresh 24 with ffe := some (15, 63, 31) }, 15, 31, by decide +kernel⟩,
   ⟨(24 : Fin 96), duo 2 6 feed, by decide +kernel⟩,
   ⟨(24 : Fin 96), duo 1 8 feed, by decide +kernel⟩⟩

/-- The port of two lanes with lane 24 in TEST and LANE_TEST of quarter 1 at a value. -/
def testing (v : Nat) : State := regsSet (duo 1 1 feed) [(R.laneStatus 24, 8), (R.laneTest 1, v)]

theorem witness_PatternTest :
    (∃ (req : Requester) (l : Fin 96) (v : Word) (f : Nat) (s : State), s.mayWrite req = true ∧ l.val % 24 = 0 ∧ f = s.portFirst l.val ∧ fieldGet v.toNat F.laneTest_EN = 1 ∧ (s.lane l.val).armed = false ∧ s.laneState l.val ≠ 8 ∧ s.laneRole l.val ≠ 0 ∧ s.portDisabled f = false ∧ s.get (R.laneTest (l.val / 24)) F.laneTest_EN = 0 ∧ fieldGet v.toNat F.laneTest_SLIP = 0 ∧ fieldGet v.toNat F.laneTest_CLEAR = 0) ∧
    (∃ (req : Requester) (l : Fin 96) (v : Word) (f : Nat) (s : State), s.mayWrite req = true ∧ l.val % 24 = 0 ∧ f = s.portFirst l.val ∧ fieldGet v.toNat F.laneTest_EN = 1 ∧ (s.lane l.val).armed = false ∧ s.laneState l.val ≠ 8 ∧ (s.laneRole l.val = 0 ∨ s.portDisabled f = true)) ∧
    (∃ (req : Requester) (l : Fin 96) (v : Word) (f : Nat) (s : State), s.mayWrite req = true ∧ l.val % 24 = 0 ∧ f = s.portFirst l.val ∧ fieldGet v.toNat F.laneTest_EN = 1 ∧ (s.lane l.val).armed = false ∧ s.laneState l.val ≠ 8 ∧ (s.laneRole l.val = 0 ∨ s.portDisabled f = true)) ∧
    (∃ (req : Requester) (l : Fin 96) (s : State), s.mayWrite req = true ∧ l.val % 24 ≠ 0) ∧
    (∃ (l : Fin 96) (f : Nat) (s : State), l.val % 24 = 0 ∧ f = s.portFirst l.val ∧ (s.lane l.val).armed = false) ∧
    (∃ (l : Fin 96) (f : Nat) (s : State) (x : _), l.val % 24 = 0 ∧ f = s.portFirst l.val ∧ (s.lane l.val).armed = true ∧ s.isPort f = true ∧ l.val ∈ s.portLanes f ∧ s.laneRole l.val ≠ 0 ∧ s.portDisabled f = false ∧ (s.halPort f).rx = none ∧ x ∈ s.portLanes f ∧ x ≠ l.val ∧ s.laneState f ≠ 6) ∧
    (∃ (l : Fin 96) (f : Nat) (s : State) (x : _), l.val % 24 = 0 ∧ f = s.portFirst l.val ∧ (s.lane l.val).armed = true ∧ s.isPort f = true ∧ l.val ∈ s.portLanes f ∧ s.laneRole l.val ≠ 0 ∧ s.portDisabled f = false ∧ (s.halPort f).rx = none ∧ x ∈ s.portLanes f ∧ x ≠ l.val) ∧
    (∃ (req : Requester) (l : Fin 96) (v : Word) (f : Nat) (s : State) (x : _), s.mayWrite req = true ∧ l.val % 24 = 0 ∧ f = s.portFirst l.val ∧ s.isPort f = true ∧ l.val ∈ s.portLanes f ∧ s.laneState l.val = 8 ∧ s.portDisabled f = false ∧ fieldGet v.toNat F.laneTest_EN = 0 ∧ fieldGet v.toNat F.laneTest_SLIP = 0 ∧ fieldGet v.toNat F.laneTest_CLEAR = 0 ∧ x ∈ s.portLanes f) ∧
    (∃ (l : Fin 96) (f : Nat) (s : State) (x : _), l.val % 24 = 0 ∧ f = s.portFirst l.val ∧ s.isPort f = true ∧ l.val ∈ s.portLanes f ∧ s.laneState l.val = 8 ∧ s.portDisabled f = false ∧ s.get (R.laneTest (l.val / 24)) F.laneTest_TIMEOUT ≠ 0 ∧ x ∈ s.portLanes f) ∧
    (∃ (l : Fin 96) (f : Nat) (s : State), l.val % 24 = 0 ∧ f = s.portFirst l.val ∧ s.isPort f = true ∧ l.val ∈ s.portLanes f ∧ (s.laneState l.val ≠ 8 ∨ s.get (R.laneTest (l.val / 24)) F.laneTest_TIMEOUT = 0)) ∧
    (∃ (l : Fin 96) (f : Nat) (s : State), l.val % 24 = 0 ∧ f = s.portFirst l.val ∧ s.isPort f = true ∧ l.val ∈ s.portLanes f ∧ (s.laneState l.val ≠ 8 ∨ s.get (R.laneTest (l.val / 24)) F.laneTest_TIMEOUT = 0)) ∧
    (∃ (req : Requester) (l : Fin 96) (v : Word) (s : State), s.mayWrite req = true ∧ l.val % 24 = 0 ∧ s.laneState l.val = 8 ∧ fieldGet v.toNat F.laneTest_EN = 1 ∧ fieldGet v.toNat testFields = s.get (R.laneTest (l.val / 24)) testFields ∧ fieldGet v.toNat F.laneTest_INJECT = 1 ∧ fieldGet v.toNat F.laneTest_SLIP = 0 ∧ fieldGet v.toNat F.laneTest_CLEAR = 0) ∧
    (∃ (req : Requester) (l : Fin 96) (v : Word) (s : State), s.mayWrite req = true ∧ l.val % 24 = 0 ∧ s.laneState l.val = 8 ∧ fieldGet v.toNat F.laneTest_EN = 1 ∧ fieldGet v.toNat testFields = s.get (R.laneTest (l.val / 24)) testFields ∧ fieldGet v.toNat F.laneTest_SLIP = 1 ∧ fieldGet v.toNat F.laneTest_CLEAR = 0 ∧ s.get (R.laneTest (l.val / 24)) F.laneTest_PATTERN = 3) ∧
    (∃ (req : Requester) (l : Fin 96) (v : Word) (s : State), s.mayWrite req = true ∧ l.val % 24 = 0 ∧ s.laneState l.val = 8 ∧ fieldGet v.toNat F.laneTest_EN = 1 ∧ fieldGet v.toNat testFields = s.get (R.laneTest (l.val / 24)) testFields ∧ fieldGet v.toNat F.laneTest_SLIP = 1 ∧ fieldGet v.toNat F.laneTest_CLEAR = 0 ∧ s.get (R.laneTest (l.val / 24)) F.laneTest_PATTERN ≠ 3) ∧
    (∃ (req : Requester) (l : Fin 96) (v : Word) (s : State), s.mayWrite req = true ∧ l.val % 24 = 0 ∧ s.laneState l.val = 8 ∧ fieldGet v.toNat F.laneTest_EN = 1 ∧ fieldGet v.toNat testFields = s.get (R.laneTest (l.val / 24)) testFields ∧ fieldGet v.toNat F.laneTest_CLEAR = 1 ∧ fieldGet v.toNat F.laneTest_SLIP = 0) ∧
    (∃ (l : Fin 96) (s : State), s.prbsChecks l.val = true ∧ (s.lane l.val).startCount = true) ∧
    (∃ (l : Fin 96) (s : State), s.prbsChecks l.val = true ∧ (s.lane l.val).startCount = false) ∧
    (∃ (l : Fin 96) (s : State), (l.val % 24 ≠ 0 ∨ s.laneState l.val ≠ 8 ∨ s.get (R.laneTest (l.val / 24)) F.laneTest_CHK = 0 ∨ s.get (R.laneTest (l.val / 24)) F.laneTest_PATTERN = 3)) ∧
    (∃ (l : Fin 96) (s : State), (l.val % 24 ≠ 0 ∨ s.laneState l.val ≠ 8 ∨ s.get (R.laneTest (l.val / 24)) F.laneTest_CHK = 0 ∨ s.get (R.laneTest (l.val / 24)) F.laneTest_PATTERN = 3)) :=
  ⟨⟨.mp, (24 : Fin 96), 0x3000D#32, 24, duo 1 6 feed, by decide +kernel⟩,
   ⟨.mp, (24 : Fin 96), 0x3000D#32, 24, feed, by decide +kernel⟩,
   ⟨.mp, (24 : Fin 96), 1#32, 24, (duo 1 1 feed).put (R.laneCtrl 25) F.laneCtrl_DISABLE 1, by decide +kernel⟩,
   ⟨.mp, (25 : Fin 96), feed, by decide +kernel⟩,
   ⟨(24 : Fin 96), 24, duo 1 6 feed, by decide +kernel⟩,
   ⟨(24 : Fin 96), 24, ((duo 1 2 feed).setReg (R.laneTest 1) 7).setLane { LaneSt.fresh 24 with armed := true }, 25, by decide +kernel⟩,
   ⟨(24 : Fin 96), 24, (duo 1 6 feed).setLane { LaneSt.fresh 24 with armed := true }, 25, by decide +kernel⟩,
   ⟨.mp, (24 : Fin 96), 0#32, 24, testing 1, 25, by decide +kernel⟩,
   ⟨(24 : Fin 96), 24, testing (1 + 3 * 2 ^ 16), 24, by decide +kernel⟩,
   ⟨(24 : Fin 96), 24, testing 1, by decide +kernel⟩,
   ⟨(24 : Fin 96), 24, (duo 1 6 feed).setReg (R.laneTest 1) (1 + 3 * 2 ^ 16), by decide +kernel⟩,
   ⟨.mp, (24 : Fin 96), 0x21#32, testing 1, by decide +kernel⟩,
   ⟨.mp, (24 : Fin 96), 0x47#32, testing 7, by decide +kernel⟩,
   ⟨.mp, (24 : Fin 96), 0x41#32, testing 1, by decide +kernel⟩,
   ⟨.mp, (24 : Fin 96), 0x81#32, regsSet (testing 1) [(R.lanePrbsBits 1, 5), (R.lanePrbsErr 1, 5)], by decide +kernel⟩,
   ⟨(24 : Fin 96), regsSet (testing 17) [(R.lanePrbsBits 1, 5), (R.lanePrbsErr 1, 5)], by decide +kernel⟩,
   ⟨(24 : Fin 96), (testing 17).setLane { LaneSt.fresh 24 with startCount := false }, by decide +kernel⟩,
   ⟨(24 : Fin 96), testing (1 + 16 + 6), by decide +kernel⟩,
   ⟨(24 : Fin 96), testing 1, by decide +kernel⟩⟩

/-- A register read for the small tile. -/
def ctlRead (seq : Nat) : Packet := makePacket 3 1 5 1 0xFFF 100 seq 0 0 7 false true (leBytes 4 0x100)

/-- A packet that waits at the egress of lane 0. -/
def wait (p : Packet) (started : Bool) : Queued := ⟨0, p, false, none, none, 0, started⟩

/-- The small feed unit with packets at its egresses. -/
def egressing (l : List Queued) : State := { feed with hal := { feed.hal with queue := l } }

/-- The port of lane 0 with all its credits of CTL spent. -/
def spent (s : State) : State := s.setHalPort { s.halPort 0 with ctl := { PoolCredit.reset with sent := 64 } }

/-- The port of lane 0 amid a packet: the bytes so far, and whether their codewords were corrected. -/
def taking (bs : List Nat) (clean : Bool) (s : State) : State := s.setRx 0 (some ⟨bs, clean⟩)

/-- A data block of a port's stream. -/
def dataBlock (bs : List Nat) : LineBlock := ⟨false, .ofNat 64 (leVal bs), true⟩

/-- A control block of a type, the rest of its bytes zero. -/
def control (ty : Nat) : LineBlock := ⟨true, .ofNat 64 ty, true⟩

/-- The bytes of a packet before its last block, and that block. -/
def lastBlock (p : Packet) (stomped : Bool) : List Nat × LineBlock :=
  let bs := packetBytes p stomped
  (bs.take 24, dataBlock (bs.drop 24))

theorem witness_HalyardPorts_1 :
    (∃ (l : Fin 96) (s : State), (s.isHalPort l.val = false ∨ s.portActive l.val = false)) ∧
    (∃ (l : Fin 96) (lanes : List (List LineBlock)) (b : LineBlock) (c : Nat) (s : State), s.isHalPort l.val = true ∧ s.portActive l.val = true ∧ gathered (s.inPosOrder l.val lanes) = [b] ∧ c = b.word.toNat % 256 ∧ (s.halPort l.val).rx = none ∧ (b.control = false ∨ c = 0x1E)) ∧
    (∃ (l : Fin 96) (lanes : List (List LineBlock)) (b : LineBlock) (c : Nat) (s : State), s.isHalPort l.val = true ∧ s.portActive l.val = true ∧ gathered (s.inPosOrder l.val lanes) = [b] ∧ c = b.word.toNat % 256 ∧ (s.halPort l.val).rx = none ∧ (b.control = false ∨ c = 0x1E)) ∧
    (∃ (l : Fin 96) (lanes : List (List LineBlock)) (b : LineBlock) (c : Nat) (s : State), s.isHalPort l.val = true ∧ s.portActive l.val = true ∧ gathered (s.inPosOrder l.val lanes) = [b] ∧ c = b.word.toNat % 256 ∧ (s.halPort l.val).rx = none ∧ b.control = true ∧ 0x11 ≤ c ∧ c ≤ 0x16) ∧
    (∃ (l : Fin 96) (lanes : List (List LineBlock)) (b : LineBlock) (c : Nat) (s : State), s.isHalPort l.val = true ∧ s.portActive l.val = true ∧ gathered (s.inPosOrder l.val lanes) = [b] ∧ c = b.word.toNat % 256 ∧ (s.halPort l.val).rx = none ∧ b.control = true ∧ ¬(0x11 ≤ c ∧ c ≤ 0x16) ∧ c ≠ 0x1E ∧ c ≠ 0x4B) ∧
    (∃ (l : Fin 96) (lanes : List (List LineBlock)) (b : LineBlock) (c : Nat) (s : State) (r : _), s.isHalPort l.val = true ∧ s.portActive l.val = true ∧ gathered (s.inPosOrder l.val lanes) = [b] ∧ c = b.word.toNat % 256 ∧ (s.halPort l.val).rx = some r ∧ b.control = true ∧ c = 0x1E ∧ 24 ≤ r.bytes.length ∧ s.isTile = false) ∧
    (∃ (l : Fin 96) (lanes : List (List LineBlock)) (b : LineBlock) (c : Nat) (s : State) (r : _) (bs : _) (p : _) (clean : _), bs = r.bytes ++ leBytes 8 b.word.toNat ∧ p = packetOf bs ∧ clean = (r.clean && b.corrected) ∧ s.isHalPort l.val = true ∧ s.portActive l.val = true ∧ gathered (s.inPosOrder l.val lanes) = [b] ∧ c = b.word.toNat % 256 ∧ (s.halPort l.val).rx = some r ∧ b.control = false ∧ bs.length = 24 ∧ (crc16 (bs.take 22) ≠ leVal (bs.drop 22) ∨ p.hdr.version ≠ 1#4 ∨ p.hdr.cls = 0#4 ∨ 6 < p.hdr.cls.toNat ∨ 2048 < p.hdr.length.toNat ∨ p.hdr.length.toNat % 4 ≠ 0 ∨ p.hdr.hops = 0#6 ∨ 32 < p.hdr.hops.toNat)) ∧
    (∃ (l : Fin 96) (lanes : List (List LineBlock)) (b : LineBlock) (c : Nat) (s : State) (r : _) (bs : _) (p : _) (clean : _), bs = r.bytes ++ leBytes 8 b.word.toNat ∧ p = packetOf bs ∧ clean = (r.clean && b.corrected) ∧ s.isHalPort l.val = true ∧ s.portActive l.val = true ∧ gathered (s.inPosOrder l.val lanes) = [b] ∧ c = b.word.toNat % 256 ∧ (s.halPort l.val).rx = some r ∧ b.control = false ∧ bs.length = 24 ∧ crc16 (bs.take 22) = leVal (bs.drop 22) ∧ headerOk p = true) ∧
    (∃ (l : Fin 96) (lanes : List (List LineBlock)) (b : LineBlock) (c : Nat) (s : State) (r : _) (bs : _) (p : _) (clean : _), bs = r.bytes ++ leBytes 8 b.word.toNat ∧ p = packetOf bs ∧ clean = (r.clean && b.corrected) ∧ s.isHalPort l.val = true ∧ s.portActive l.val = true ∧ gathered (s.inPosOrder l.val lanes) = [b] ∧ c = b.word.toNat % 256 ∧ (s.halPort l.val).rx = some r ∧ b.control = false ∧ 24 < bs.length ∧ 28 + p.hdr.length.toNat ≤ bs.length ∧ s.isTile = false ∧ clean = true ∧ crcVerdict bs = 0 ∧ s.typeCheck p = some true) ∧
    (∃ (l : Fin 96) (lanes : List (List LineBlock)) (b : LineBlock) (c : Nat) (s : State) (r : _) (bs : _) (p : _) (clean : _), bs = r.bytes ++ leBytes 8 b.word.toNat ∧ p = packetOf bs ∧ clean = (r.clean && b.corrected) ∧ s.isHalPort l.val = true ∧ s.portActive l.val = true ∧ gathered (s.inPosOrder l.val lanes) = [b] ∧ c = b.word.toNat % 256 ∧ (s.halPort l.val).rx = some r ∧ b.control = false ∧ 24 < bs.length ∧ 28 + p.hdr.length.toNat ≤ bs.length ∧ s.isTile = false ∧ clean = true ∧ crcVerdict bs = 0 ∧ s.typeCheck p ≠ some true) ∧
    (∃ (l : Fin 96) (lanes : List (List LineBlock)) (b : LineBlock) (c : Nat) (s : State) (r : _) (bs : _) (p : _) (clean : _), bs = r.bytes ++ leBytes 8 b.word.toNat ∧ p = packetOf bs ∧ clean = (r.clean && b.corrected) ∧ s.isHalPort l.val = true ∧ s.portActive l.val = true ∧ gathered (s.inPosOrder l.val lanes) = [b] ∧ c = b.word.toNat % 256 ∧ (s.halPort l.val).rx = some r ∧ b.control = false ∧ 24 < bs.length ∧ 28 + p.hdr.length.toNat ≤ bs.length ∧ s.isTile = false ∧ clean = true ∧ crcVerdict bs = 0 ∧ s.typeCheck p ≠ some true) ∧
    (∃ (l : Fin 96) (lanes : List (List LineBlock)) (b : LineBlock) (c : Nat) (s : State) (r : _) (bs : _) (p : _) (clean : _), bs = r.bytes ++ leBytes 8 b.word.toNat ∧ p = packetOf bs ∧ clean = (r.clean && b.corrected) ∧ s.isHalPort l.val = true ∧ s.portActive l.val = true ∧ gathered (s.inPosOrder l.val lanes) = [b] ∧ c = b.word.toNat % 256 ∧ (s.halPort l.val).rx = some r ∧ b.control = false ∧ 24 < bs.length ∧ 28 + p.hdr.length.toNat ≤ bs.length ∧ s.isTile = false ∧ clean = true ∧ crcVerdict bs = 1) ∧
    (∃ (l : Fin 96) (lanes : List (List LineBlock)) (b : LineBlock) (c : Nat) (s : State) (r : _) (bs : _) (p : _) (clean : _), bs = r.bytes ++ leBytes 8 b.word.toNat ∧ p = packetOf bs ∧ clean = (r.clean && b.corrected) ∧ s.isHalPort l.val = true ∧ s.portActive l.val = true ∧ gathered (s.inPosOrder l.val lanes) = [b] ∧ c = b.word.toNat % 256 ∧ (s.halPort l.val).rx = some r ∧ b.control = false ∧ 24 < bs.length ∧ 28 + p.hdr.length.toNat ≤ bs.length ∧ s.isTile = false ∧ (clean = false ∨ crcVerdict bs = 2)) ∧
    (∃ (l : Fin 96) (lanes : List (List LineBlock)) (b : LineBlock) (c : Nat) (s : State) (r : _) (bs : _) (p : _) (clean : _), bs = r.bytes ++ leBytes 8 b.word.toNat ∧ p = packetOf bs ∧ clean = (r.clean && b.corrected) ∧ s.isHalPort l.val = true ∧ s.portActive l.val = true ∧ gathered (s.inPosOrder l.val lanes) = [b] ∧ c = b.word.toNat % 256 ∧ (s.halPort l.val).rx = some r ∧ b.control = false ∧ 24 < bs.length ∧ 28 + p.hdr.length.toNat ≤ bs.length ∧ s.isTile = false ∧ (clean = false ∨ crcVerdict bs = 2)) ∧
    (∃ (l : Fin 96) (lanes : List (List LineBlock)) (b : LineBlock) (c : Nat) (s : State) (r : _) (bs : _) (p : _) (clean : _), bs = r.bytes ++ leBytes 8 b.word.toNat ∧ p = packetOf bs ∧ clean = (r.clean && b.corrected) ∧ s.isHalPort l.val = true ∧ s.portActive l.val = true ∧ gathered (s.inPosOrder l.val lanes) = [b] ∧ c = b.word.toNat % 256 ∧ (s.halPort l.val).rx = some r ∧ b.control = false ∧ 24 < bs.length ∧ 28 + p.hdr.length.toNat ≤ bs.length ∧ clean = true ∧ crcVerdict bs = 0 ∧ s.isTile = true ∧ p.hdr.cls = 1#4 ∧ p.hdr.up = false ∧ p.hdr.dst ≠ 0xFFF#12 ∧ s.isMine p = false ∧ p.hdr.hops ≠ 32#6 ∧ (∀ x, x ∈ s.forwardPorts l.val p → s.egressBusy x = false ∨ s.pixFifo x + wireLength p.hdr.length.toNat ≤ 8192)) ∧
    (∃ (l : Fin 96) (s : State), s.isHalPort l.val = true ∧ s.portActive l.val = true) ∧
    (∃ (l : Fin 96) (w : BitVec 48) (crc : BitVec 8) (s : State), s.isHalPort l.val = true ∧ s.portActive l.val = true ∧ crc8 (leBytes 6 w.toNat) = crc.toNat) ∧
    (∃ (l : Fin 96) (w : BitVec 48) (crc : BitVec 8) (s : State), s.isHalPort l.val = true ∧ s.portActive l.val = true ∧ crc8 (leBytes 6 w.toNat) ≠ crc.toNat) ∧
    (∃ (l : Nat) (i : Nat) (q : Queued) (s : State), s.nextQueued l = some (i, q) ∧ (∃ x, x ∈ s.hal.queue ∧ x.port = l ∧ x.started = false ∧ packetLevel x.pkt = 1)) ∧
    (∃ (l : Nat) (i : Nat) (q : Queued) (s : State), s.nextQueued l = some (i, q) ∧ (∃ x, x ∈ s.hal.queue ∧ x.port = l ∧ x.started = false ∧ packetLevel x.pkt = 2)) ∧
    (∃ (l : Nat) (i : Nat) (q : Queued) (s : State) (j : _) (x : _), s.nextQueued l = some (i, q) ∧ j < i ∧ s.hal.queue[j]? = some x ∧ x.port = l ∧ x.started = false) ∧
    (∃ (l : Nat) (i : Nat) (q : Queued) (s : State), s.nextQueued l = some (i, q) ∧ 3 ≤ packetLevel q.pkt) ∧
    (∃ (l : Fin 96) (s : State) (i : _) (q : _), s.isHalPort l.val = true ∧ s.portActive l.val = true ∧ s.egressBusy l.val = false ∧ s.nextQueued l.val = some (i, q)) ∧
    (∃ (l : Fin 96) (s : State), s.isHalPort l.val = true ∧ s.portActive l.val = true ∧ (s.egressBusy l.val = true ∨ s.nextQueued l.val = none)) :=
  ⟨⟨(8 : Fin 96), feed, by decide +kernel⟩,
   ⟨(0 : Fin 96), [[control 0x1E]], control 0x1E, 0x1E, feed, by decide +kernel⟩,
   ⟨(0 : Fin 96), [[dataBlock [0x11]]], dataBlock [0x11], 0x11, feed, by decide +kernel⟩,
   ⟨(0 : Fin 96), [[control 0x13]], control 0x13, 0x13, feed, by decide +kernel⟩,
   ⟨(0 : Fin 96), [[control 0x17]], control 0x17, 0x17, feed, by decide +kernel⟩,
   ⟨(0 : Fin 96), [[control 0x1E]], control 0x1E, 0x1E, taking ((packetBytes (ctlRead 1) false).take 24) true feed, RxPacket.mk ((packetBytes (ctlRead 1) false).take 24) true, by decide +kernel⟩,
   ⟨(0 : Fin 96), [[dataBlock []]], dataBlock [], 0, taking (List.replicate 16 0) true feed, RxPacket.mk (List.replicate 16 0) true, (RxPacket.mk (List.replicate 16 0) true).bytes ++ leBytes 8 (dataBlock []).word.toNat, packetOf ((RxPacket.mk (List.replicate 16 0) true).bytes ++ leBytes 8 (dataBlock []).word.toNat), ((RxPacket.mk (List.replicate 16 0) true).clean && (dataBlock []).corrected), by first | with_reducible rfl | rfl, by first | with_reducible rfl | rfl, by first | with_reducible rfl | rfl, by decide +kernel⟩,
   ⟨(0 : Fin 96), [[dataBlock (((packetBytes (ctlRead 1) false).drop 16).take 8)]], dataBlock (((packetBytes (ctlRead 1) false).drop 16).take 8), 7, taking ((packetBytes (ctlRead 1) false).take 16) true feed, RxPacket.mk ((packetBytes (ctlRead 1) false).take 16) true, (RxPacket.mk ((packetBytes (ctlRead 1) false).take 16) true).bytes ++ leBytes 8 (dataBlock (((packetBytes (ctlRead 1) false).drop 16).take 8)).word.toNat, packetOf ((RxPacket.mk ((packetBytes (ctlRead 1) false).take 16) true).bytes ++ leBytes 8 (dataBlock (((packetBytes (ctlRead 1) false).drop 16).take 8)).word.toNat), ((RxPacket.mk ((packetBytes (ctlRead 1) false).take 16) true).clean && (dataBlock (((packetBytes (ctlRead 1) false).drop 16).take 8)).corrected), by first | with_reducible rfl | rfl, by first | with_reducible rfl | rfl, by first | with_reducible rfl | rfl, by decide +kernel⟩,
   ⟨(0 : Fin 96), [[(lastBlock (up 5 4 1 0 true [1, 2, 3, 4]) false).2]], (lastBlock (up 5 4 1 0 true [1, 2, 3, 4]) false).2, 1, taking (lastBlock (up 5 4 1 0 true [1, 2, 3, 4]) false).1 true feed, RxPacket.mk ((lastBlock (up 5 4 1 0 true [1, 2, 3, 4]) false).1) true, (RxPacket.mk ((lastBlock (up 5 4 1 0 true [1, 2, 3, 4]) false).1) true).bytes ++ leBytes 8 ((lastBlock (up 5 4 1 0 true [1, 2, 3, 4]) false).2).word.toNat, packetOf ((RxPacket.mk ((lastBlock (up 5 4 1 0 true [1, 2, 3, 4]) false).1) true).bytes ++ leBytes 8 ((lastBlock (up 5 4 1 0 true [1, 2, 3, 4]) false).2).word.toNat), ((RxPacket.mk ((lastBlock (up 5 4 1 0 true [1, 2, 3, 4]) false).1) true).clean && ((lastBlock (up 5 4 1 0 true [1, 2, 3, 4]) false).2).corrected), by first | with_reducible rfl | rfl, by first | with_reducible rfl | rfl, by first | with_reducible rfl | rfl, by decide +kernel⟩,
   ⟨(0 : Fin 96), [[(lastBlock (up 5 1 1 0 true [1, 2, 3, 4]) false).2]], (lastBlock (up 5 1 1 0 true [1, 2, 3, 4]) false).2, 1, taking (lastBlock (up 5 1 1 0 true [1, 2, 3, 4]) false).1 true feed, RxPacket.mk ((lastBlock (up 5 1 1 0 true [1, 2, 3, 4]) false).1) true, (RxPacket.mk ((lastBlock (up 5 1 1 0 true [1, 2, 3, 4]) false).1) true).bytes ++ leBytes 8 ((lastBlock (up 5 1 1 0 true [1, 2, 3, 4]) false).2).word.toNat, packetOf ((RxPacket.mk ((lastBlock (up 5 1 1 0 true [1, 2, 3, 4]) false).1) true).bytes ++ leBytes 8 ((lastBlock (up 5 1 1 0 true [1, 2, 3, 4]) false).2).word.toNat), ((RxPacket.mk ((lastBlock (up 5 1 1 0 true [1, 2, 3, 4]) false).1) true).clean && ((lastBlock (up 5 1 1 0 true [1, 2, 3, 4]) false).2).corrected), by first | with_reducible rfl | rfl, by first | with_reducible rfl | rfl, by first | with_reducible rfl | rfl, by decide +kernel⟩,
   ⟨(0 : Fin 96), [[(lastBlock (up 5 200 1 0 true [1, 2, 3, 4]) false).2]], (lastBlock (up 5 200 1 0 true [1, 2, 3, 4]) false).2, 1, taking (lastBlock (up 5 200 1 0 true [1, 2, 3, 4]) false).1 true feed, RxPacket.mk ((lastBlock (up 5 200 1 0 true [1, 2, 3, 4]) false).1) true, (RxPacket.mk ((lastBlock (up 5 200 1 0 true [1, 2, 3, 4]) false).1) true).bytes ++ leBytes 8 ((lastBlock (up 5 200 1 0 true [1, 2, 3, 4]) false).2).word.toNat, packetOf ((RxPacket.mk ((lastBlock (up 5 200 1 0 true [1, 2, 3, 4]) false).1) true).bytes ++ leBytes 8 ((lastBlock (up 5 200 1 0 true [1, 2, 3, 4]) false).2).word.toNat), ((RxPacket.mk ((lastBlock (up 5 200 1 0 true [1, 2, 3, 4]) false).1) true).clean && ((lastBlock (up 5 200 1 0 true [1, 2, 3, 4]) false).2).corrected), by first | with_reducible rfl | rfl, by first | with_reducible rfl | rfl, by first | with_reducible rfl | rfl, by decide +kernel⟩,
   ⟨(0 : Fin 96), [[(lastBlock (up 5 4 1 0 true [1, 2, 3, 4]) true).2]], (lastBlock (up 5 4 1 0 true [1, 2, 3, 4]) true).2, 1, taking (lastBlock (up 5 4 1 0 true [1, 2, 3, 4]) true).1 true feed, RxPacket.mk ((lastBlock (up 5 4 1 0 true [1, 2, 3, 4]) true).1) true, (RxPacket.mk ((lastBlock (up 5 4 1 0 true [1, 2, 3, 4]) true).1) true).bytes ++ leBytes 8 ((lastBlock (up 5 4 1 0 true [1, 2, 3, 4]) true).2).word.toNat, packetOf ((RxPacket.mk ((lastBlock (up 5 4 1 0 true [1, 2, 3, 4]) true).1) true).bytes ++ leBytes 8 ((lastBlock (up 5 4 1 0 true [1, 2, 3, 4]) true).2).word.toNat), ((RxPacket.mk ((lastBlock (up 5 4 1 0 true [1, 2, 3, 4]) true).1) true).clean && ((lastBlock (up 5 4 1 0 true [1, 2, 3, 4]) true).2).corrected), by first | with_reducible rfl | rfl, by first | with_reducible rfl | rfl, by first | with_reducible rfl | rfl, by decide +kernel⟩,
   ⟨(0 : Fin 96), [[dataBlock []]], dataBlock [], 0, taking (lastBlock (up 5 4 1 0 true [1, 2, 3, 4]) true).1 true feed, RxPacket.mk ((lastBlock (up 5 4 1 0 true [1, 2, 3, 4]) true).1) true, (RxPacket.mk ((lastBlock (up 5 4 1 0 true [1, 2, 3, 4]) true).1) true).bytes ++ leBytes 8 (dataBlock []).word.toNat, packetOf ((RxPacket.mk ((lastBlock (up 5 4 1 0 true [1, 2, 3, 4]) true).1) true).bytes ++ leBytes 8 (dataBlock []).word.toNat), ((RxPacket.mk ((lastBlock (up 5 4 1 0 true [1, 2, 3, 4]) true).1) true).clean && (dataBlock []).corrected), by first | with_reducible rfl | rfl, by first | with_reducible rfl | rfl, by first | with_reducible rfl | rfl, by decide +kernel⟩,
   ⟨(0 : Fin 96), [[(lastBlock (up 5 4 1 0 true [1, 2, 3, 4]) true).2]], (lastBlock (up 5 4 1 0 true [1, 2, 3, 4]) true).2, 1, taking (lastBlock (up 5 4 1 0 true [1, 2, 3, 4]) true).1 false feed, RxPacket.mk ((lastBlock (up 5 4 1 0 true [1, 2, 3, 4]) true).1) false, (RxPacket.mk ((lastBlock (up 5 4 1 0 true [1, 2, 3, 4]) true).1) false).bytes ++ leBytes 8 ((lastBlock (up 5 4 1 0 true [1, 2, 3, 4]) true).2).word.toNat, packetOf ((RxPacket.mk ((lastBlock (up 5 4 1 0 true [1, 2, 3, 4]) true).1) false).bytes ++ leBytes 8 ((lastBlock (up 5 4 1 0 true [1, 2, 3, 4]) true).2).word.toNat), ((RxPacket.mk ((lastBlock (up 5 4 1 0 true [1, 2, 3, 4]) true).1) false).clean && ((lastBlock (up 5 4 1 0 true [1, 2, 3, 4]) true).2).corrected), by first | with_reducible rfl | rfl, by first | with_reducible rfl | rfl, by first | with_reducible rfl | rfl, by decide +kernel⟩,
   ⟨(0 : Fin 96), [[(lastBlock (makePacket 1 1 6 1 0xFFF 100 1 0 0 (2 * 2 ^ 18) false false [7, 7, 7, 7]) false).2]], (lastBlock (makePacket 1 1 6 1 0xFFF 100 1 0 0 (2 * 2 ^ 18) false false [7, 7, 7, 7]) false).2, 7, taking (lastBlock (makePacket 1 1 6 1 0xFFF 100 1 0 0 (2 * 2 ^ 18) false false [7, 7, 7, 7]) false).1 true tile, RxPacket.mk ((lastBlock (makePacket 1 1 6 1 0xFFF 100 1 0 0 (2 * 2 ^ 18) false false [7, 7, 7, 7]) false).1) true, (RxPacket.mk ((lastBlock (makePacket 1 1 6 1 0xFFF 100 1 0 0 (2 * 2 ^ 18) false false [7, 7, 7, 7]) false).1) true).bytes ++ leBytes 8 ((lastBlock (makePacket 1 1 6 1 0xFFF 100 1 0 0 (2 * 2 ^ 18) false false [7, 7, 7, 7]) false).2).word.toNat, packetOf ((RxPacket.mk ((lastBlock (makePacket 1 1 6 1 0xFFF 100 1 0 0 (2 * 2 ^ 18) false false [7, 7, 7, 7]) false).1) true).bytes ++ leBytes 8 ((lastBlock (makePacket 1 1 6 1 0xFFF 100 1 0 0 (2 * 2 ^ 18) false false [7, 7, 7, 7]) false).2).word.toNat), ((RxPacket.mk ((lastBlock (makePacket 1 1 6 1 0xFFF 100 1 0 0 (2 * 2 ^ 18) false false [7, 7, 7, 7]) false).1) true).clean && ((lastBlock (makePacket 1 1 6 1 0xFFF 100 1 0 0 (2 * 2 ^ 18) false false [7, 7, 7, 7]) false).2).corrected), by first | with_reducible rfl | rfl, by first | with_reducible rfl | rfl, by first | with_reducible rfl | rfl, by decide +kernel⟩,
   ⟨(0 : Fin 96), feed, by decide +kernel⟩,
   ⟨(0 : Fin 96), 0x001002003004#48, (BitVec.ofNat 8 (crc8 (leBytes 6 0x001002003004))), feed, by decide +kernel⟩,
   ⟨(0 : Fin 96), 0x001002003004#48, (BitVec.ofNat 8 (crc8 (leBytes 6 0x001002003004) + 1)), feed, by decide +kernel⟩,
   ⟨0, 1, wait (pennant 0x10 5 1 []) false, egressing [wait (ctlRead 1) false, wait (pennant 0x10 5 1 []) false], by decide +kernel⟩,
   ⟨0, 1, wait (beacon 1#64 4) false, egressing [wait (ctlRead 1) false, wait (beacon 1#64 4) false], by decide +kernel⟩,
   ⟨0, 1, wait (beacon 1#64 4) false, egressing [wait (ctlRead 1) false, wait (beacon 1#64 4) false], 0, wait (ctlRead 1) false, by decide +kernel⟩,
   ⟨0, 0, wait (ctlRead 1) false, egressing [wait (ctlRead 1) false], by decide +kernel⟩,
   ⟨(0 : Fin 96), egressing [wait (ctlRead 1) false], 0, wait (ctlRead 1) false, by decide +kernel⟩,
   ⟨(0 : Fin 96), egressing [wait (ctlRead 1) true], by decide +kernel⟩⟩

theorem witness_HalyardPorts_2 :
    (∃ (l : Fin 96) (s : State), s.isHalPort l.val = true ∧ s.portActive l.val = true ∧ (s.egressBusy l.val = true ∨ s.nextQueued l.val = none)) ∧
    (∃ (l : Fin 96) (s : State), s.isHalPort l.val = true ∧ s.portActive l.val = true ∧ s.egressBusy l.val = true ∧ (after (.egressNext l) s).egressBusy l.val = false) ∧
    (∃ (l : Fin 96) (s : State), s.isHalPort l.val = true ∧ s.portActive l.val = true ∧ s.egressBusy l.val = true) ∧
    (∃ (l : Fin 96) (blk : Bool) (s : State) (x : _), s.isHalPort l.val = true ∧ s.portActive l.val = true ∧ (∃ q, q ∈ s.hal.queue ∧ q.port = l.val ∧ q.started = false ∧ packetPool q.pkt = (if blk then 2 else 1) ∧ s.hasCredits l.val q.pkt = false) ∧ (∀ x, x ∈ s.portLanes l.val → s.laneState x = 6) ∧ (s.halPort l.val).rx = none ∧ x ∈ s.portLanes l.val) ∧
    (∃ (l : Fin 96) (blk : Bool) (s : State), s.isHalPort l.val = true ∧ s.portActive l.val = true ∧ (∀ q, q ∈ s.hal.queue → q.port = l.val → q.started = false → packetPool q.pkt = (if blk then 2 else 1) → s.hasCredits l.val q.pkt = true)) :=
  ⟨⟨(0 : Fin 96), feed, by decide +kernel⟩,
   ⟨(0 : Fin 96), egressing [wait (ctlRead 1) true], by decide +kernel⟩,
   ⟨(0 : Fin 96), egressing [wait (ctlRead 1) true, wait (ctlRead 2) false], by decide +kernel⟩,
   ⟨(0 : Fin 96), false, spent (egressing [wait (ctlRead 1) false]), 0, by decide +kernel⟩,
   ⟨(0 : Fin 96), true, spent (egressing [wait (ctlRead 1) false]), by decide +kernel⟩⟩

/-- A slice of the whole row of the small tile for a frame. -/
def slice (claim frame index : Nat) : Packet := makePacket 1 1 5 1 0xFFF claim index frame 0 (2 * 2 ^ 18) false false (List.replicate 12 1)

/-- A composition list of one entry for a frame. -/
def clist (frame : Nat) : Packet := makePacket 1 3 5 1 0xFFF 100 0 frame 0 1 false false (List.replicate 48 0)

/-- A part of a fragment of layer 2. -/
def fragPart (gen : Nat) : Packet := makePacket 1 2 5 1 0xFFF 100 0 0 0 (gen + 2 * 2 ^ 16) false true (List.replicate 16 0)

/-- A slice that the frame hold has. -/
def heldSlice (frame index : Nat) (preferred : Bool) : SliceRec := ⟨frame, 0, index, 0, 0, [⟨1, 2, 3⟩, ⟨4, 5, 6⟩], preferred⟩

/-- The small tile in RUN with a frame hold. -/
def holding (h : HoldSt) : State := { tileRuns with hold := h }

theorem witness_PicturesIntoATile :
    (∃ (l : Fin 96) (p : Packet) (u : State) (v : State) (f : Nat) (k : Nat) (n : Nat) (s : State), u = (s.noteClaim p.hdr.claim.toNat none).sawPix ∧ k = p.hdr.slot.toNat ∧ n = p.hdr.seq.toNat % 1024 ∧ s.isTile = true ∧ s.takes l.val p 1 1 = true ∧ u.pktView p = (v, f) ∧ v.sliceDeadlineAt f k ≤ s.clock.now) ∧
    (∃ (l : Fin 96) (p : Packet) (u : State) (v : State) (f : Nat) (k : Nat) (n : Nat) (s : State), u = (s.noteClaim p.hdr.claim.toNat none).sawPix ∧ k = p.hdr.slot.toNat ∧ n = p.hdr.seq.toNat % 1024 ∧ s.isTile = true ∧ s.takes l.val p 1 1 = true ∧ u.pktView p = (v, f) ∧ (s.clock.now : Int) < v.sliceDeadlineAt f k ∧ (∀ x, x ∈ s.hold.slices → ¬(x.frame = f ∧ x.slot = k ∧ x.index = n))) ∧
    (∃ (l : Fin 96) (p : Packet) (u : State) (v : State) (f : Nat) (k : Nat) (n : Nat) (s : State) (x : _), u = (s.noteClaim p.hdr.claim.toNat none).sawPix ∧ k = p.hdr.slot.toNat ∧ n = p.hdr.seq.toNat % 1024 ∧ s.isTile = true ∧ s.takes l.val p 1 1 = true ∧ u.pktView p = (v, f) ∧ (s.clock.now : Int) < v.sliceDeadlineAt f k ∧ s.hold.slices.find? (fun x => x.frame == f && x.slot == k && x.index == n) = some x ∧ (x.preferred = true ∨ u.fromWinner l.val p.hdr.claim.toNat = false)) ∧
    (∃ (l : Fin 96) (p : Packet) (u : State) (v : State) (f : Nat) (k : Nat) (n : Nat) (s : State) (x : _), u = (s.noteClaim p.hdr.claim.toNat none).sawPix ∧ k = p.hdr.slot.toNat ∧ n = p.hdr.seq.toNat % 1024 ∧ s.isTile = true ∧ s.takes l.val p 1 1 = true ∧ u.pktView p = (v, f) ∧ (s.clock.now : Int) < v.sliceDeadlineAt f k ∧ s.hold.slices.find? (fun x => x.frame == f && x.slot == k && x.index == n) = some x ∧ (x.preferred = true ∨ u.fromWinner l.val p.hdr.claim.toNat = false)) ∧
    (∃ (l : Fin 96) (p : Packet) (u : State) (v : State) (f : Nat) (k : Nat) (n : Nat) (s : State) (x : _) (y : SliceRec), u = (s.noteClaim p.hdr.claim.toNat none).sawPix ∧ k = p.hdr.slot.toNat ∧ n = p.hdr.seq.toNat % 1024 ∧ s.isTile = true ∧ s.takes l.val p 1 1 = true ∧ u.pktView p = (v, f) ∧ (s.clock.now : Int) < v.sliceDeadlineAt f k ∧ s.hold.slices.find? (fun x => x.frame == f && x.slot == k && x.index == n) = some x ∧ x.preferred = false ∧ u.fromWinner l.val p.hdr.claim.toNat = true ∧ y ∈ (after (.slice l p) s).hold.slices ∧ y.frame = f ∧ y.slot = k ∧ y.index = n) ∧
    (∃ (l : Fin 96) (p : Packet) (u : State) (v : State) (f : Nat) (k : Nat) (s : State), u = (s.noteClaim p.hdr.claim.toNat none).sawPix ∧ k = p.hdr.slot.toNat ∧ s.isTile = true ∧ s.takes l.val p 1 3 = true ∧ u.pktView p = (v, f) ∧ v.sliceDeadlineAt f k ≤ s.clock.now) ∧
    (∃ (l : Fin 96) (p : Packet) (u : State) (v : State) (f : Nat) (k : Nat) (s : State), u = (s.noteClaim p.hdr.claim.toNat none).sawPix ∧ k = p.hdr.slot.toNat ∧ s.isTile = true ∧ s.takes l.val p 1 3 = true ∧ u.pktView p = (v, f) ∧ (s.clock.now : Int) < v.sliceDeadlineAt f k ∧ (∀ x, x ∈ s.hold.lists → ¬(x.frame = f ∧ x.slot = k))) ∧
    (∃ (l : Fin 96) (p : Packet) (layer : Nat) (gen : Nat) (part : Nat) (s : State), s.isTile = true ∧ s.takes l.val p 1 2 = true ∧ layer = p.hdr.arg.toNat / 2 ^ 16 % 8 ∧ gen = p.hdr.arg.toNat % 2 ^ 16 ∧ part = p.hdr.arg.toNat / 2 ^ 19 ∧ (∀ x, x ∈ s.hold.parts → ¬(x.layer = layer ∧ x.gen = gen))) ∧
    (∃ (l : Fin 96) (p : Packet) (layer : Nat) (gen : Nat) (part : Nat) (s : State), s.isTile = true ∧ s.takes l.val p 1 2 = true ∧ layer = p.hdr.arg.toNat / 2 ^ 16 % 8 ∧ gen = p.hdr.arg.toNat % 2 ^ 16 ∧ part = p.hdr.arg.toNat / 2 ^ 19 ∧ (∃ x, x ∈ s.hold.parts ∧ x.layer = layer ∧ x.gen = gen ∧ x.part = part) ∧ (∀ x, x ∈ s.hold.parts → x.layer = layer → x.gen = gen → x.part = part → x.preferred = true)) ∧
    (∃ (s : State), s.isTile = false) ∧
    (∃ (m : LampMap) (v : State) (f : Nat) (k : Nat) (s : State) (x : _), s.isTile = true ∧ s.rst.inReset = false ∧ s.layerMode = false ∧ s.lampMap = some m ∧ s.deadlineSlot = some (v, f, k) ∧ x ∈ (after .sliceDeadline s).hold.slices ∧ (∀ i, i < m.height * rowParts m.width → ∃ x, x ∈ s.hold.slices ∧ x.frame = f ∧ x.slot = k ∧ x.index = i)) ∧
    (∃ (m : LampMap) (v : State) (f : Nat) (k : Nat) (s : State) (i : _), s.isTile = true ∧ s.rst.inReset = false ∧ s.layerMode = false ∧ s.lampMap = some m ∧ s.deadlineSlot = some (v, f, k) ∧ i < m.height * rowParts m.width ∧ (∀ x, x ∈ s.hold.slices → x.frame = f → x.slot = k → x.index ≠ i)) :=
  ⟨⟨(0 : Fin 96), slice 100 216000 0, ((tileRuns).noteClaim (slice 100 216000 0).hdr.claim.toNat none).sawPix, ((((tileRuns).noteClaim 100 none).sawPix).pktView (slice 100 216000 0)).1, 216000, (slice 100 216000 0).hdr.slot.toNat, (slice 100 216000 0).hdr.seq.toNat % 1024, tileRuns, by first | with_reducible rfl | rfl, by first | with_reducible rfl | rfl, by first | with_reducible rfl | rfl, by decide +kernel⟩,
   ⟨(0 : Fin 96), slice 100 216001 0, ((holding { HoldSt.reset with slices := [heldSlice 216001 1 true] }).noteClaim (slice 100 216001 0).hdr.claim.toNat none).sawPix, ((((holding { HoldSt.reset with slices := [heldSlice 216001 1 true] }).noteClaim 100 none).sawPix).pktView (slice 100 216001 0)).1, 216001, (slice 100 216001 0).hdr.slot.toNat, (slice 100 216001 0).hdr.seq.toNat % 1024, holding { HoldSt.reset with slices := [heldSlice 216001 1 true] }, by first | with_reducible rfl | rfl, by first | with_reducible rfl | rfl, by first | with_reducible rfl | rfl, by decide +kernel⟩,
   ⟨(0 : Fin 96), slice 100 216001 0, ((holding { HoldSt.reset with slices := [heldSlice 216001 0 true] }).noteClaim (slice 100 216001 0).hdr.claim.toNat none).sawPix, ((((holding { HoldSt.reset with slices := [heldSlice 216001 0 true] }).noteClaim 100 none).sawPix).pktView (slice 100 216001 0)).1, 216001, (slice 100 216001 0).hdr.slot.toNat, (slice 100 216001 0).hdr.seq.toNat % 1024, holding { HoldSt.reset with slices := [heldSlice 216001 0 true] }, heldSlice 216001 0 true, by first | with_reducible rfl | rfl, by first | with_reducible rfl | rfl, by first | with_reducible rfl | rfl, by decide +kernel⟩,
   ⟨(0 : Fin 96), slice 99 216001 0, ((holding { HoldSt.reset with slices := [heldSlice 216001 0 false] }).noteClaim (slice 99 216001 0).hdr.claim.toNat none).sawPix, ((((holding { HoldSt.reset with slices := [heldSlice 216001 0 false] }).noteClaim 99 none).sawPix).pktView (slice 99 216001 0)).1, 216001, (slice 99 216001 0).hdr.slot.toNat, (slice 99 216001 0).hdr.seq.toNat % 1024, holding { HoldSt.reset with slices := [heldSlice 216001 0 false] }, heldSlice 216001 0 false, by first | with_reducible rfl | rfl, by first | with_reducible rfl | rfl, by first | with_reducible rfl | rfl, by decide +kernel⟩,
   ⟨(0 : Fin 96), slice 100 216001 0, ((holding { HoldSt.reset with slices := [heldSlice 216001 0 false] }).noteClaim (slice 100 216001 0).hdr.claim.toNat none).sawPix, ((((holding { HoldSt.reset with slices := [heldSlice 216001 0 false] }).noteClaim 100 none).sawPix).pktView (slice 100 216001 0)).1, 216001, (slice 100 216001 0).hdr.slot.toNat, (slice 100 216001 0).hdr.seq.toNat % 1024, holding { HoldSt.reset with slices := [heldSlice 216001 0 false] }, heldSlice 216001 0 false, ⟨216001, 0, 0, 0, 0, [⟨16, 257, 16⟩, ⟨257, 16, 257⟩], true⟩, by first | with_reducible rfl | rfl, by first | with_reducible rfl | rfl, by first | with_reducible rfl | rfl, by decide +kernel⟩,
   ⟨(0 : Fin 96), clist 216000, ((tileRuns).noteClaim (clist 216000).hdr.claim.toNat none).sawPix, ((((tileRuns).noteClaim 100 none).sawPix).pktView (clist 216000)).1, 216000, (clist 216000).hdr.slot.toNat, tileRuns, by first | with_reducible rfl | rfl, by first | with_reducible rfl | rfl, by decide +kernel⟩,
   ⟨(0 : Fin 96), clist 216001, ((tileRuns).noteClaim (clist 216001).hdr.claim.toNat none).sawPix, ((((tileRuns).noteClaim 100 none).sawPix).pktView (clist 216001)).1, 216001, (clist 216001).hdr.slot.toNat, tileRuns, by first | with_reducible rfl | rfl, by first | with_reducible rfl | rfl, by decide +kernel⟩,
   ⟨(0 : Fin 96), fragPart 9, 2, 9, 0, holding { HoldSt.reset with parts := [⟨2, 8, 0, true, true, []⟩] }, by decide +kernel⟩,
   ⟨(0 : Fin 96), fragPart 9, 2, 9, 0, holding { HoldSt.reset with parts := [⟨2, 9, 0, true, true, []⟩] }, by decide +kernel⟩,
   ⟨feed, by decide +kernel⟩,
   ⟨(sections 2#8).lampmap, (((holding { HoldSt.reset with slices := [heldSlice 215999 0 false, heldSlice 216000 0 false, heldSlice 216001 0 true] }).deadlineSlot.getD ((holding { HoldSt.reset with slices := [heldSlice 215999 0 false, heldSlice 216000 0 false, heldSlice 216001 0 true] }), 0, 0)).1), 216000, 0, holding { HoldSt.reset with slices := [heldSlice 215999 0 false, heldSlice 216000 0 false, heldSlice 216001 0 true] }, heldSlice 216001 0 true, by decide +kernel⟩,
   ⟨(sections 2#8).lampmap, (((holding { HoldSt.reset with slices := [heldSlice 216001 0 true] }).deadlineSlot.getD ((holding { HoldSt.reset with slices := [heldSlice 216001 0 true] }), 0, 0)).1), 216000, 0, holding { HoldSt.reset with slices := [heldSlice 216001 0 true] }, 0, by decide +kernel⟩⟩

/-- Tile 5, found on the port of lane 0 and admitted, of 2 by 1 lamps at the canvas origin, in a state of DSC_TOPO. -/
def served (st : Nat) (s : State) : State :=
  { (s.put (R.dscTopo 5) F.dscTopo_STATE st) with
    dsc := { s.dsc with table := [⟨5, 1, 5, 7, 3, [], 0, none, 2, 1, 0⟩] }
    active := sWrite regReset (sWrite regReset s.active (R.dscAdmit 0) 32) (R.dscOrigin 5) (2 ^ 31) }

/-- The feed unit with that tile and slot 0 of frame 216,000 composed. -/
def composed : State :=
  let s := served 3 composing
  { s with cmp := { s.cmp with bands := [⟨0, 216000, 0, 0, 3599998100000000, 5, [0, 1], [[⟨1, 2, 3⟩, ⟨4, 5, 6⟩]]⟩] } }

/-- The same a slot's composition later. -/
def ready : State := { composed with cmp := { composed.cmp with bands := [⟨0, 216000, 0, 0, 3599998100000, 5, [0, 1], [[⟨1, 2, 3⟩, ⟨4, 5, 6⟩]]⟩] } }

/-- A paired feed unit that hears its partner on the port of lane 0, with its own digest of frame 9. -/
def paired : State :=
  { (feed.put R.redCtrl F.redCtrl_PAIR 1) with red := { RedSt.reset with hearing := [0], own := [⟨0, 9, 5, 3, 0⟩] } }

/-- The partner's DIGEST of frame 9 with a generation. -/
def digest (gen : Nat) : Packet := makePacket 1 4 0xFFF 1 0xFFF 7 0 9 0 0 false false (leBytes 6 9 ++ leBytes 2 gen ++ leBytes 4 3 ++ List.replicate 36 0)

/-- The slice of that tile. -/
def spec : SliceSpec := ((ready.slotSlices (ready.cfgFor 216000) 0).headD ⟨0, 0, ⟨0, 0, 0, 0, 0⟩, 0, 0, 0⟩)

/-- The feed unit in layer mode with the packets of frame 216,000 made. -/
def layered : State :=
  let s := { composing with ldr := { composing.ldr with image := some { img 1#8 with body := { (img 1#8).body with quarters := ⟨true, 1, [2, 2, 2, 2]⟩ } } } }
  { s with pix := { s.pix with made := (s.layerFrame.map (·.1)), out := [⟨0, 216000, clist 216000, none⟩, ⟨0, 216000, clist 216001, none⟩] } }

/-- The same with the one slot composed of which the slice is the last packet. -/
def readyToEnd : State := { composed with cmp := { composed.cmp with bands := [⟨0, 216000, 0, 0, 3599998100000, 5, [0], [[⟨1, 2, 3⟩, ⟨4, 5, 6⟩]]⟩] } }

/-- The feed unit in layer mode with the last packet of the frame left. -/
def lastLayered : State := { layered with pix := { layered.pix with out := [⟨0, 216000, clist 216000, none⟩] } }

theorem witness_PixAndDigests :
    (∃ (l : Fin 96) (f : Nat) (k : Nat) (a : SliceSpec) (ks : List Nat) (specs : List SliceSpec) (s : State) (lamps : List Rgb), specs = s.slotSlices (s.cfgFor f) l.val ∧ ks = s.sentSlots f ∧ s.isFeed = true ∧ s.isHalPort l.val = true ∧ s.portActive l.val = true ∧ s.rst.inReset = false ∧ s.layerMode = false ∧ s.composedFrames.find? (fun f => !(s.cursor l.val f).done) = some f ∧ (∀ x, x ∈ ks → ∀ b, b ∈ specs → s.sliceLamps (canvasCfg (s.cfgFor f)) f x b ≠ some none) ∧ s.openSlot l.val f specs.length ks = some k ∧ specs[(s.cursor l.val f).passedOf k]? = some a ∧ s.assignWaits l.val = false ∧ (∀ c, s.cmp.pend = some c → f < c.frame ∨ s.dsc.originsFor = some c.gen) ∧ s.sliceLamps (canvasCfg (s.cfgFor f)) f k a = some (some lamps) ∧ s.composeStart f k + a.ready ≤ s.clock.now ∧ ((after (.pixSend l) s).cursor l.val f).done = false) ∧
    (∃ (l : Fin 96) (f : Nat) (k : Nat) (a : SliceSpec) (ks : List Nat) (specs : List SliceSpec) (s : State) (lamps : List Rgb) (rest : List (Nat × Packet)) (e : Nat × Packet), specs = s.slotSlices (s.cfgFor f) l.val ∧ ks = s.sentSlots f ∧ s.isFeed = true ∧ s.isHalPort l.val = true ∧ s.portActive l.val = true ∧ s.rst.inReset = false ∧ s.layerMode = false ∧ s.composedFrames.find? (fun f => !(s.cursor l.val f).done) = some f ∧ (∀ x, x ∈ ks → ∀ b, b ∈ specs → s.sliceLamps (canvasCfg (s.cfgFor f)) f x b ≠ some none) ∧ s.openSlot l.val f specs.length ks = some k ∧ specs[(s.cursor l.val f).passedOf k]? = some a ∧ s.assignWaits l.val = false ∧ (∀ c, s.cmp.pend = some c → f < c.frame ∨ s.dsc.originsFor = some c.gen) ∧ s.sliceLamps (canvasCfg (s.cfgFor f)) f k a = some (some lamps) ∧ s.composeStart f k + a.ready ≤ s.clock.now ∧ e ∈ rest) ∧
    (∃ (l : Fin 96) (f : Nat) (k : Nat) (a : SliceSpec) (ks : List Nat) (specs : List SliceSpec) (s : State), specs = s.slotSlices (s.cfgFor f) l.val ∧ ks = s.sentSlots f ∧ s.isFeed = true ∧ s.isHalPort l.val = true ∧ s.portActive l.val = true ∧ s.rst.inReset = false ∧ s.layerMode = false ∧ s.composedFrames.find? (fun f => !(s.cursor l.val f).done) = some f ∧ (∀ x, x ∈ ks → ∀ b, b ∈ specs → s.sliceLamps (canvasCfg (s.cfgFor f)) f x b ≠ some none) ∧ s.openSlot l.val f specs.length ks = some k ∧ specs[(s.cursor l.val f).passedOf k]? = some a ∧ s.assignWaits l.val = false ∧ (∀ c, s.cmp.pend = some c → f < c.frame ∨ s.dsc.originsFor = some c.gen) ∧ ((s.clock.now : Int) < s.composeStart f k + a.ready ∨ s.sliceLamps (canvasCfg (s.cfgFor f)) f k a = none)) ∧
    (∃ (l : Fin 96) (f : Nat) (ks : List Nat) (x : PixOut) (s : State), s.isFeed = true ∧ s.isHalPort l.val = true ∧ s.portActive l.val = true ∧ s.rst.inReset = false ∧ s.layerMode = true ∧ s.layerFrame = some (f, ks) ∧ s.pix.made = some f ∧ s.pix.out.find? (fun x => x.port == l.val) = some x ∧ x.pkt.hdr.cls = 1#4 ∧ s.assignWaits l.val = false ∧ (∀ c, s.cmp.pend = some c → f < c.frame ∨ s.dsc.originsFor = some c.gen)) ∧
    (∃ (l : Fin 96) (f : Nat) (ks : List Nat) (x : PixOut) (s : State) (rest : List (Nat × Packet)) (e : Nat × Packet), s.isFeed = true ∧ s.isHalPort l.val = true ∧ s.portActive l.val = true ∧ s.rst.inReset = false ∧ s.layerMode = true ∧ s.layerFrame = some (f, ks) ∧ s.pix.made = some f ∧ s.pix.out.find? (fun x => x.port == l.val) = some x ∧ x.pkt.hdr.cls = 1#4 ∧ s.assignWaits l.val = false ∧ (∀ c, s.cmp.pend = some c → f < c.frame ∨ s.dsc.originsFor = some c.gen) ∧ e ∈ rest) ∧
    (∃ (l : Fin 96) (s : State), (s.isFeed = false ∨ s.isHalPort l.val = false ∨ s.rst.inReset = true)) ∧
    (∃ (l : Fin 96) (p : Packet) (own : DigestRec) (s : State), s.isFeed = true ∧ s.paired = true ∧ s.takes l.val p 1 4 = true ∧ s.red.own.find? (fun x => x.port == l.val && x.frame == payField p 0 6) = some own ∧ own.gen = payField p 6 2 ∧ own.packets = payField p 8 4 ∧ own.digest = leVal (((payloadBytes p).drop 16).take 32).reverse) ∧
    (∃ (l : Fin 96) (p : Packet) (own : DigestRec) (s : State), s.isFeed = true ∧ s.paired = true ∧ s.takes l.val p 1 4 = true ∧ s.red.own.find? (fun x => x.port == l.val && x.frame == payField p 0 6) = some own ∧ (own.gen ≠ payField p 6 2 ∨ own.packets ≠ payField p 8 4 ∨ own.digest ≠ leVal (((payloadBytes p).drop 16).take 32).reverse)) ∧
    (∃ (l : Fin 96) (n : BitVec 48) (s : State), s.isFeed = true ∧ s.paired = true ∧ l.val ∈ s.red.hearing ∧ l.val ∉ (s.judge n.toNat).done ∧ (∃ x, x ∈ s.red.own ∧ x.port = l.val ∧ x.frame = n.toNat)) ∧
    (∃ (l : Fin 96) (n : BitVec 48) (s : State), (s.isFeed = false ∨ s.paired = false ∨ l.val ∉ s.red.hearing ∨ l.val ∈ (s.judge n.toNat).done)) ∧
    (∃ (s : State), (s.isFeed = false ∨ s.paired = false)) :=
  ⟨⟨(0 : Fin 96), 216000, 0, spec, (ready).sentSlots (216000), (ready).slotSlices ((ready).cfgFor (216000)) ((0 : Fin 96)).val, ready, [Rgb.mk 1 2 3, Rgb.mk 4 5 6], by first | with_reducible rfl | rfl, by first | with_reducible rfl | rfl, by decide +kernel⟩,
   ⟨(0 : Fin 96), 216000, 0, spec, (readyToEnd).sentSlots (216000), (readyToEnd).slotSlices ((readyToEnd).cfgFor (216000)) ((0 : Fin 96)).val, readyToEnd, [Rgb.mk 1 2 3, Rgb.mk 4 5 6], [(0, digest 5)], (0, digest 5), by first | with_reducible rfl | rfl, by first | with_reducible rfl | rfl, by decide +kernel⟩,
   ⟨(0 : Fin 96), 216000, 0, spec, (composed).sentSlots (216000), (composed).slotSlices ((composed).cfgFor (216000)) ((0 : Fin 96)).val, composed, by first | with_reducible rfl | rfl, by first | with_reducible rfl | rfl, by decide +kernel⟩,
   ⟨(0 : Fin 96), ((layered.layerFrame.map (·.1)).getD 0), ((layered.layerFrame.map (·.2)).getD []), PixOut.mk 0 216000 (clist 216000) none, layered, by decide +kernel⟩,
   ⟨(0 : Fin 96), ((lastLayered.layerFrame.map (·.1)).getD 0), ((lastLayered.layerFrame.map (·.2)).getD []), PixOut.mk 0 216000 (clist 216000) none, lastLayered, [(0, digest 5)], (0, digest 5), by decide +kernel⟩,
   ⟨(0 : Fin 96), tile, by decide +kernel⟩,
   ⟨(0 : Fin 96), digest 5, DigestRec.mk 0 9 5 3 0, paired, by decide +kernel⟩,
   ⟨(0 : Fin 96), digest 6, DigestRec.mk 0 9 5 3 0, paired, by decide +kernel⟩,
   ⟨(0 : Fin 96), 9#48, paired, by decide +kernel⟩,
   ⟨(4 : Fin 96), 9#48, paired, by decide +kernel⟩,
   ⟨feed, by decide +kernel⟩⟩

/-- A CTL access of a claim to the small tile. -/
def ctl (type claim : Nat) (body : List Nat) : Packet := makePacket 3 type 5 1 0xFFF claim 4 0 0 7 false true body

/-- The last WRITE_BLOCK of transfer 1 from a byte offset, with four bytes. -/
def block (off : Nat) : Packet := makePacket 4 1 5 1 0xFFF 100 1 0 0 1 false true ([1, 0, 0, 0] ++ leBytes 4 off ++ leBytes 4 12 ++ List.replicate 4 0 ++ [9, 9, 9, 9])

/-- The small tile with transfer 1 open into the inactive image slot. -/
def transferring : State := { tile with hal := { tile.hal with transfers := [⟨1, 1, 12, 8, 1, false, 100⟩] } }

/-- A tile with one event to send upstream. -/
def reporting (r : EventRec) (s : State) : State := { s with evt := { s.evt with upstream := [r] } }

/-- An event record. -/
def record : EventRec := ⟨4, 1, 2, false, true, false, false, 5, 5, 1, 0, 0, 0, 0, 0, 0⟩

/-- The last packet at an egress. -/
def lastOut (s : State) : Packet := (s.egress.getLastD (0, clist 0)).2

theorem witness_TileAccessAndEvents :
    (∃ (l : Fin 96) (p : Packet) (u : State) (off : Nat) (s : State) (v : _), u = s.noteClaim p.hdr.claim.toNat none ∧ s.isTile = true ∧ s.takes l.val p 3 1 = true ∧ s.isMine p = true ∧ off = payField p 0 4 ∧ off % 4 = 0 ∧ off ≤ 0x01FFFFFC ∧ v = (u.busRead off (u.claimRequester p.hdr.claim.toNat)).1) ∧
    (∃ (l : Fin 96) (p : Packet) (u : State) (off : Nat) (s : State), u = s.noteClaim p.hdr.claim.toNat none ∧ s.isTile = true ∧ s.takes l.val p 3 1 = true ∧ s.isMine p = true ∧ off = payField p 0 4 ∧ (off % 4 ≠ 0 ∨ 0x01FFFFFC < off)) ∧
    (∃ (l : Fin 96) (p : Packet) (u : State) (off : Nat) (s : State), u = s.noteClaim p.hdr.claim.toNat none ∧ s.isTile = true ∧ s.takes l.val p 3 1 = true ∧ s.isMine p = true ∧ off = payField p 0 4 ∧ (off % 4 ≠ 0 ∨ 0x01FFFFFC < off)) ∧
    (∃ (l : Fin 96) (p : Packet) (u : State) (off : Nat) (s : State), u = s.noteClaim p.hdr.claim.toNat none ∧ s.isTile = true ∧ s.takes l.val p 3 2 = true ∧ (s.isMine p = true ∨ s.flag R.dscSelf F.dscSelf_ADMITTED = true) ∧ off = payField p 0 4 ∧ u.fromWinner l.val p.hdr.claim.toNat = false) ∧
    (∃ (l : Fin 96) (p : Packet) (u : State) (off : Nat) (s : State), u = s.noteClaim p.hdr.claim.toNat none ∧ s.isTile = true ∧ s.takes l.val p 3 2 = true ∧ (s.isMine p = true ∨ s.flag R.dscSelf F.dscSelf_ADMITTED = true) ∧ off = payField p 0 4 ∧ u.fromWinner l.val p.hdr.claim.toNat = true ∧ (off % 4 ≠ 0 ∨ 0x01FFFFFC < off)) ∧
    (∃ (l : Fin 96) (p : Packet) (u : State) (off : Nat) (s : State), u = s.noteClaim p.hdr.claim.toNat none ∧ s.isTile = true ∧ s.takes l.val p 3 2 = true ∧ (s.isMine p = true ∨ s.flag R.dscSelf F.dscSelf_ADMITTED = true) ∧ off = payField p 0 4 ∧ u.fromWinner l.val p.hdr.claim.toNat = true ∧ off % 4 = 0 ∧ off ≤ 0x01FFFFFC) ∧
    (∃ (l : Fin 96) (p : Packet) (u : State) (x : BlkTransfer) (bs : List Nat) (s : State), u = s.noteClaim p.hdr.claim.toNat none ∧ s.isTile = true ∧ s.takes l.val p 4 1 = true ∧ u.fromWinner l.val p.hdr.claim.toNat = true ∧ s.hal.transfers.find? (fun y => y.transfer == p.hdr.arg.toNat % 65536 && y.claim == p.hdr.claim.toNat) = some x ∧ x.failed = false ∧ x.target = 1 ∧ x.total ≤ 0x1000000 ∧ 0 < payField p 4 4 ∧ payField p 4 4 = x.bytes ∧ p.hdr.last = true ∧ bs = ((payloadBytes p).drop 16).take (x.total - x.bytes) ∧ x.bytes + bs.length ≤ x.total) ∧
    (∃ (l : Fin 96) (p : Packet) (u : State) (x : BlkTransfer) (s : State), u = s.noteClaim p.hdr.claim.toNat none ∧ s.isTile = true ∧ s.takes l.val p 4 1 = true ∧ u.fromWinner l.val p.hdr.claim.toNat = true ∧ s.hal.transfers.find? (fun y => y.transfer == p.hdr.arg.toNat % 65536 && y.claim == p.hdr.claim.toNat) = some x ∧ x.failed = false ∧ x.target = 1 ∧ x.total ≤ 0x1000000 ∧ 0 < payField p 4 4 ∧ payField p 4 4 ≠ x.bytes) ∧
    (∃ (l : Fin 96) (p : Packet) (s : State), s.isFeed = true ∧ s.takes l.val p 6 4 = true) ∧
    (∃ (l : Fin 96) (p : Packet) (key : Nat × Nat × Nat) (s : State), s.isFeed = true ∧ key = (p.hdr.src.toNat, p.hdr.type.toNat, p.hdr.seq.toNat) ∧ s.takes l.val p 6 1 = true ∧ key ∈ s.hal.accepted) ∧
    (∃ (l : Fin 96) (p : Packet) (key : Nat × Nat × Nat) (s : State) (r : EventRec), r = { eventOfWords ((List.range 8).map fun i => payField p (4 * i) 4) with upstream := true, tile := p.hdr.src.toNat } ∧ s.isFeed = true ∧ key = (p.hdr.src.toNat, p.hdr.type.toNat, p.hdr.seq.toNat) ∧ s.takes l.val p 6 1 = true ∧ key ∉ s.hal.accepted) ∧
    (∃ (l : Fin 96) (p : Packet) (key : Nat × Nat × Nat) (s : State), s.isFeed = true ∧ key = (p.hdr.src.toNat, p.hdr.type.toNat, p.hdr.seq.toNat) ∧ s.takes l.val p 6 5 = true ∧ key ∈ s.hal.accepted) ∧
    (∃ (l : Fin 96) (p : Packet) (key : Nat × Nat × Nat) (s : State), s.isFeed = true ∧ key = (p.hdr.src.toNat, p.hdr.type.toNat, p.hdr.seq.toNat) ∧ s.takes l.val p 6 5 = true ∧ key ∉ s.hal.accepted) ∧
    (∃ (s : State), (s.evt.upstream = [] ∨ s.isTile = false ∨ s.tileAddr = 0xFFF)) ∧
    (∃ (s : State), (s.evt.upstream = [] ∨ s.isTile = false ∨ s.tileAddr = 0xFFF)) ∧
    (∃ (s : State) (r : _) (rest : _) (p : _), s.evt.upstream = r :: rest ∧ s.isTile = true ∧ s.tileAddr ≠ 0xFFF ∧ p = makePacket 6 1 0xFFF s.domain s.tileAddr 0 s.evt.count s.frameNow 0 0 true false r.bytes ∧ (∃ l, l ∈ s.chainPorts ∧ s.portActive l = true ∧ s.hasCredits l p = true)) ∧
    (∃ (s : State) (r : _) (rest : _) (p : _), s.evt.upstream = r :: rest ∧ s.isTile = true ∧ s.tileAddr ≠ 0xFFF ∧ p = makePacket 6 1 0xFFF s.domain s.tileAddr 0 s.evt.count s.frameNow 0 0 true false r.bytes ∧ (∀ l, l ∈ s.chainPorts → s.portActive l = true → s.hasCredits l p = false)) :=
  ⟨⟨(0 : Fin 96), ctl 1 100 (leBytes 4 0), (tile).noteClaim (ctl 1 100 (leBytes 4 0)).hdr.claim.toNat none, 0, tile, (State.busRead ((tile).noteClaim 100 none) 0 (((tile).noteClaim 100 none).claimRequester 100)).1, by first | with_reducible rfl | rfl, by decide +kernel⟩,
   ⟨(0 : Fin 96), ctl 1 99 (leBytes 4 2), (tile).noteClaim (ctl 1 99 (leBytes 4 2)).hdr.claim.toNat none, 2, tile, by first | with_reducible rfl | rfl, by decide +kernel⟩,
   ⟨(4 : Fin 96), ctl 1 99 (leBytes 4 0x02000000), (tile).noteClaim (ctl 1 99 (leBytes 4 0x02000000)).hdr.claim.toNat none, 0x02000000, tile, by first | with_reducible rfl | rfl, by decide +kernel⟩,
   ⟨(0 : Fin 96), ctl 2 99 (leBytes 4 0x2000 ++ leBytes 4 7), (tile).noteClaim (ctl 2 99 (leBytes 4 0x2000 ++ leBytes 4 7)).hdr.claim.toNat none, 0x2000, tile, by first | with_reducible rfl | rfl, by decide +kernel⟩,
   ⟨(0 : Fin 96), ctl 2 100 (leBytes 4 0x2001 ++ leBytes 4 7), (tile).noteClaim (ctl 2 100 (leBytes 4 0x2001 ++ leBytes 4 7)).hdr.claim.toNat none, 0x2001, tile, by first | with_reducible rfl | rfl, by decide +kernel⟩,
   ⟨(0 : Fin 96), ctl 2 100 (leBytes 4 0x01FFFFFC ++ leBytes 4 7), (tile).noteClaim (ctl 2 100 (leBytes 4 0x01FFFFFC ++ leBytes 4 7)).hdr.claim.toNat none, 0x01FFFFFC, tile, by first | with_reducible rfl | rfl, by decide +kernel⟩,
   ⟨(0 : Fin 96), block 8, (transferring).noteClaim (block 8).hdr.claim.toNat none, ⟨1, 1, 12, 8, 1, false, 100⟩, [9, 9, 9, 9], transferring, by first | with_reducible rfl | rfl, by decide +kernel⟩,
   ⟨(0 : Fin 96), block 4, (transferring).noteClaim (block 4).hdr.claim.toNat none, ⟨1, 1, 12, 8, 1, false, 100⟩, transferring, by first | with_reducible rfl | rfl, by decide +kernel⟩,
   ⟨(0 : Fin 96), up 6 4 1 0 true ([1, 0, 0, 0] ++ leBytes 4 12), feed, by decide +kernel⟩,
   ⟨(0 : Fin 96), up 6 1 3 0 true record.bytes, (5, 1, 3), { feed with hal := { feed.hal with accepted := [(5, 1, 3)] } }, by decide +kernel⟩,
   ⟨(0 : Fin 96), up 6 1 3 0 true record.bytes, (5, 1, 3), feed, { eventOfWords ((List.range 8).map fun i => payField (up 6 1 3 0 true record.bytes) (4 * i) 4) with upstream := true, tile := (up 6 1 3 0 true record.bytes).hdr.src.toNat }, by first | with_reducible rfl | rfl, by decide +kernel⟩,
   ⟨(0 : Fin 96), up 6 5 3 0 true (leBytes 2 4000 ++ List.replicate 6 0), (5, 5, 3), { feed with hal := { feed.hal with accepted := [(5, 5, 3)] } }, by decide +kernel⟩,
   ⟨(0 : Fin 96), up 6 5 3 0 true (leBytes 2 4000 ++ List.replicate 6 0), (5, 5, 3), feed, by decide +kernel⟩,
   ⟨tile, by decide +kernel⟩,
   ⟨reporting record feed, by decide +kernel⟩,
   ⟨reporting record tile, record, [], (makePacket 6 1 0xFFF tile.domain tile.tileAddr 0 tile.evt.count tile.frameNow 0 0 true false record.bytes), by decide +kernel⟩,
   ⟨reporting record { (tile.setReg (R.laneStatus 0) 2) with hal := { tile.hal with ports := [⟨4, { PoolCredit.reset with sent := 64 }, PoolCredit.reset, [], none⟩] } }, record, [], (makePacket 6 1 0xFFF tile.domain tile.tileAddr 0 tile.evt.count tile.frameNow 0 0 true false record.bytes), by decide +kernel⟩⟩

/-- The walk of the port of lane 0 in a phase. -/
def walking (ph : WalkPhase) (f : PortWalk → PortWalk) (s : State) : State := { s with dsc := { s.dsc with walks := [f ⟨0, ph, 3, [], false, false⟩] } }

/-- A tile's entry in the table. -/
def entry (addr serial missed : Nat) : TileEntry := ⟨addr, serial, 5, 7, 3, [], missed, none, 2, 1, 0⟩

/-- A feed unit with that entry in a state of DSC_TOPO on the port of lane 0. -/
def found (addr serial missed st : Nat) (s : State) : State :=
  { (s.put (R.dscTopo addr) F.dscTopo_STATE st) with dsc := { s.dsc with table := s.dsc.table ++ [entry addr serial missed] } }

/-- An ANSWER as the walk keeps it. -/
def answered (serial addr : Nat) : AnswerRec := ⟨serial, 0, addr, 1, 5, 7, 3, [], 1, false, []⟩

/-- A feed unit whose image binds serial 9 to address 6, in a walk of the port of lane 0 with answers. -/
def bindsSerial (l : List AnswerRec) : State :=
  walking .walk (fun w => { w with answers := l }) { feed with ldr := { feed.ldr with
    image := some { img 1#8 with body := { (img 1#8).body with bindWords := [rec 256 [(0, 9), (8, 6), (12, 5)]] } } } }

/-- ASSIGN of address 6 waits for its answer. -/
def waiting (sends : Nat) (s : State) : State := { s with dsc := { s.dsc with waits := [⟨6, 0, clist 0, sends⟩] } }

theorem witness_Walks_1 :
    (∃ (req : Requester) (v : Word) (l : Nat) (s : State) (x : _), s.isTile = false ∧ s.mayWrite req = true ∧ fieldGet v.toNat F.dscCmd_OP = 1 ∧ l = fieldGet v.toNat F.dscCmd_LANE ∧ s.isHalPort l = true ∧ (s.walkOf l).phase = .idle ∧ x ≠ l) ∧
    (∃ (req : Requester) (v : Word) (l : Nat) (s : State), s.isTile = false ∧ s.mayWrite req = true ∧ fieldGet v.toNat F.dscCmd_OP = 1 ∧ l = fieldGet v.toNat F.dscCmd_LANE ∧ s.isHalPort l = true ∧ (s.walkOf l).phase = .hold) ∧
    (∃ (req : Requester) (v : Word) (l : Nat) (s : State) (x : _), s.isTile = false ∧ s.mayWrite req = true ∧ fieldGet v.toNat F.dscCmd_OP = 1 ∧ l = fieldGet v.toNat F.dscCmd_LANE ∧ s.isHalPort l = true ∧ (s.walkOf l).phase = .walk ∧ x ≠ l) ∧
    (∃ (req : Requester) (v : Word) (s : State) (l : _), s.isTile = false ∧ s.mayWrite req = true ∧ fieldGet v.toNat F.dscCmd_OP = 2 ∧ l ∈ s.halPorts ∧ (s.walkOf l).phase = .idle) ∧
    (∃ (req : Requester) (v : Word) (s : State) (l : _), s.isTile = false ∧ s.mayWrite req = true ∧ fieldGet v.toNat F.dscCmd_OP = 2 ∧ l ∈ s.halPorts ∧ (s.walkOf l).phase = .hold) ∧
    (∃ (req : Requester) (v : Word) (s : State) (l : _), s.isTile = false ∧ s.mayWrite req = true ∧ fieldGet v.toNat F.dscCmd_OP = 2 ∧ l ∈ s.halPorts ∧ (s.walkOf l).phase = .walk) ∧
    (∃ (req : Requester) (v : Word) (a : Nat) (s : State), s.isTile = false ∧ s.mayWrite req = true ∧ fieldGet v.toNat F.dscCmd_OP = 3 ∧ a = fieldGet v.toNat F.dscCmd_ADDR ∧ a < 4095 ∧ s.boundAt a = none ∧ s.topoState a = 4 ∧ s.admitted a = false) ∧
    (∃ (req : Requester) (v : Word) (a : Nat) (s : State), s.isTile = false ∧ s.mayWrite req = true ∧ fieldGet v.toNat F.dscCmd_OP = 3 ∧ a = fieldGet v.toNat F.dscCmd_ADDR ∧ (a = 4095 ∨ s.boundAt a ≠ none ∨ s.topoState a ≠ 4 ∨ s.admitted a = true)) ∧
    (∃ (req : Requester) (v : Word) (a : Nat) (s : State), s.isTile = false ∧ s.mayWrite req = true ∧ fieldGet v.toNat F.dscCmd_OP = 3 ∧ a = fieldGet v.toNat F.dscCmd_ADDR ∧ (a = 4095 ∨ s.boundAt a ≠ none ∨ s.topoState a ≠ 4 ∨ s.admitted a = true)) ∧
    (∃ (req : Requester) (s : State), s.isTile = true ∧ s.mayWrite req = true) ∧
    (∃ (l : Fin 96) (s : State), (s.walkOf l.val).phase ≠ .hold) ∧
    (∃ (l : Fin 96) (s : State), (s.walkOf l.val).phase = .hold ∧ s.portActive l.val = true ∧ s.dsc.nextWalk < 2 ^ 32) ∧
    (∃ (l : Fin 96) (s : State), (s.walkOf l.val).phase ≠ .walk) ∧
    (∃ (l : Fin 96) (c : Instr) (s : State), (s.walkOf l.val).phase = .walk ∧ (c = .walkQuiet l ∨ c = .walkTimeout l) ∧ (s.walkOf l.val).answers = [] ∧ (∀ e, e ∈ s.dsc.table → s.topoLane e.addr = l.val → s.topoState e.addr ≠ 2 ∧ s.topoState e.addr ≠ 3 ∧ s.topoState e.addr ≠ 5)) ∧
    (∃ (l : Fin 96) (c : Instr) (s : State), (s.walkOf l.val).phase = .walk ∧ (c = .walkQuiet l ∨ c = .walkTimeout l) ∧ (s.walkOf l.val).answers = [] ∧ (∀ e, e ∈ s.dsc.table → s.topoLane e.addr = l.val → s.topoState e.addr ≠ 2 ∧ s.topoState e.addr ≠ 3 ∧ s.topoState e.addr ≠ 5)) ∧
    (∃ (l : Fin 96) (c : Instr) (s : State) (a : _), (s.walkOf l.val).phase = .walk ∧ (c = .walkQuiet l ∨ c = .walkTimeout l) ∧ (s.walkOf l.val).answers = [] ∧ a ∈ s.dsc.table.map (·.addr) ∧ a < 4095 ∧ s.topoLane a = l.val ∧ (s.topoState a = 2 ∨ s.topoState a = 3) ∧ 1 ≤ (s.tileEntry a).missed) ∧
    (∃ (l : Fin 96) (c : Instr) (s : State) (a : _), (s.walkOf l.val).phase = .walk ∧ (c = .walkQuiet l ∨ c = .walkTimeout l) ∧ (s.walkOf l.val).answers = [] ∧ (s.dsc.table.map (·.addr)).Nodup ∧ a ∈ s.dsc.table.map (·.addr) ∧ a < 4095 ∧ s.topoLane a = l.val ∧ (s.topoState a = 2 ∨ s.topoState a = 3 ∨ s.topoState a = 5) ∧ (s.tileEntry a).missed = 0 ∧ (s.walkOf l.val).again = false ∧ s.portActive l.val = true) ∧
    (∃ (l : Fin 96) (c : Instr) (s : State) (r : _) (b : _), (s.walkOf l.val).phase = .walk ∧ (c = .walkQuiet l ∨ c = .walkTimeout l) ∧ (s.walkOf l.val).answers = [r] ∧ r.cycle = false ∧ s.portWins l.val = true ∧ s.holders r.serial = [] ∧ s.bindings.find? (fun b => b.serial.toNat == r.serial) = some b ∧ b.addr < 4095 ∧ s.topoState b.addr = 1 ∧ s.admitted b.addr = false) ∧
    (∃ (l : Fin 96) (c : Instr) (s : State) (r : _) (b : _), (s.walkOf l.val).phase = .walk ∧ (c = .walkQuiet l ∨ c = .walkTimeout l) ∧ (s.walkOf l.val).answers = [r] ∧ r.cycle = false ∧ s.portWins l.val = true ∧ s.holders r.serial = [] ∧ s.bindings.find? (fun b => b.serial.toNat == r.serial) = some b ∧ b.addr < 4095 ∧ s.topoState b.addr = 1 ∧ s.admitted b.addr = true ∧ (s.tileEntry b.addr).recorded = none) ∧
    (∃ (l : Fin 96) (c : Instr) (s : State) (r : _) (x : _), (s.walkOf l.val).phase = .walk ∧ (c = .walkQuiet l ∨ c = .walkTimeout l) ∧ (s.walkOf l.val).answers = [r] ∧ r.cycle = false ∧ s.portWins l.val = true ∧ s.holders r.serial = [] ∧ s.bindings.find? (fun b => b.serial.toNat == r.serial) = none ∧ r.addr = 4095 ∧ (List.range 4095).find? (fun x => !s.addrHeld x) = some x ∧ s.topoState x = 0) ∧
    (∃ (l : Fin 96) (c : Instr) (s : State) (n : Nat) (a : _), (s.walkOf l.val).phase = .walk ∧ (c = .walkQuiet l ∨ c = .walkTimeout l) ∧ (∀ x, x ∈ (s.walkOf l.val).answers → x.serial = n) ∧ 1 < ((s.walkOf l.val).answers.filter fun x => !x.cycle).length ∧ s.portWins l.val = true ∧ a ∈ s.holders n ∧ a < 4095) ∧
    (∃ (a : BitVec 12) (s : State), (s.isFeed = false ∨ (∀ w, w ∈ s.dsc.waits → w.addr ≠ a.toNat))) ∧
    (∃ (a : BitVec 12) (s : State), (s.isFeed = false ∨ (∀ w, w ∈ s.dsc.waits → w.addr ≠ a.toNat))) ∧
    (∃ (a : BitVec 12) (s : State) (w : _), s.isFeed = true ∧ s.dsc.waits.find? (fun w => w.addr == a.toNat) = some w ∧ w.sends < 3) :=
  ⟨⟨.mp, 1#32, 0, feed, 4, by decide +kernel⟩,
   ⟨.mp, 1#32, 0, walking .hold id feed, by decide +kernel⟩,
   ⟨.mp, 1#32, 0, walking .walk id feed, 4, by decide +kernel⟩,
   ⟨.mp, 2#32, feed, 4, by decide +kernel⟩,
   ⟨.mp, 2#32, walking .hold id feed, 0, by decide +kernel⟩,
   ⟨.mp, 2#32, walking .walk id feed, 0, by decide +kernel⟩,
   ⟨.mp, BitVec.ofNat 32 (3 + 6 * 512), 6, found 6 9 2 4 feed, by decide +kernel⟩,
   ⟨.mp, BitVec.ofNat 32 (3 + 6 * 512), 6, found 6 9 2 3 feed, by decide +kernel⟩,
   ⟨.mp, BitVec.ofNat 32 (3 + 4095 * 512), 4095, feed, by decide +kernel⟩,
   ⟨.mp, tile, by decide +kernel⟩,
   ⟨(0 : Fin 96), feed, by decide +kernel⟩,
   ⟨(0 : Fin 96), walking .hold id feed, by decide +kernel⟩,
   ⟨(0 : Fin 96), walking .hold id feed, by decide +kernel⟩,
   ⟨(0 : Fin 96), .walkQuiet 0, found 6 9 2 4 (walking .walk id feed), by decide +kernel⟩,
   ⟨(0 : Fin 96), .walkTimeout 0, walking .walk (fun w => { w with trigger := true }) feed, by decide +kernel⟩,
   ⟨(0 : Fin 96), .walkTimeout 0, found 6 9 1 3 (walking .walk id feed), 6, by decide +kernel⟩,
   ⟨(0 : Fin 96), .walkQuiet 0, found 6 9 0 3 (walking .walk id feed), 6, by decide +kernel⟩,
   ⟨(0 : Fin 96), .walkQuiet 0, (bindsSerial [answered 9 4095]).put (R.dscTopo 6) F.dscTopo_STATE 1, answered 9 4095, BindRec.mk 9#64 6 5#32 0 0 0, by decide +kernel⟩,
   ⟨(0 : Fin 96), .walkTimeout 0, { (bindsSerial [answered 9 4095]).put (R.dscTopo 6) F.dscTopo_STATE 1 with active := sWrite regReset [] (R.dscAdmit 0) 64 }, answered 9 4095, BindRec.mk 9#64 6 5#32 0 0 0, by decide +kernel⟩,
   ⟨(0 : Fin 96), .walkQuiet 0, bindsSerial [answered 8 4095], answered 8 4095, 0, by decide +kernel⟩,
   ⟨(0 : Fin 96), .walkQuiet 0, found 6 9 0 3 (walking .walk (fun w => { w with answers := [answered 9 6, answered 9 7] }) feed), 9, 6, by decide +kernel⟩,
   ⟨6#12, feed, by decide +kernel⟩,
   ⟨6#12, waiting 1 tile, by decide +kernel⟩,
   ⟨6#12, waiting 2 feed, DscWait.mk 6 0 (clist 0) 2, by decide +kernel⟩⟩

theorem witness_Walks_2 :
    (∃ (a : BitVec 12) (s : State) (w : _), s.isFeed = true ∧ s.dsc.waits.find? (fun w => w.addr == a.toNat) = some w ∧ 3 ≤ w.sends) ∧
    (∃ (a : BitVec 12) (peer : BitVec 64) (s : State), s.isFeed = true ∧ (s.topoState a.toNat = 2 ∨ s.topoState a.toNat = 3) ∧ (s.dsc.table.map (·.addr)).Nodup ∧ a.toNat ∈ s.dsc.table.map (·.addr) ∧ (s.holders peer.toNat = [] ∨ peer.toNat = s.serial)) ∧
    (∃ (a : BitVec 12) (peer : BitVec 64) (s : State) (x : _), s.isFeed = true ∧ (s.topoState a.toNat = 2 ∨ s.topoState a.toNat = 3) ∧ (s.dsc.table.map (·.addr)).Nodup ∧ a.toNat ∈ s.dsc.table.map (·.addr) ∧ s.holders peer.toNat = [x] ∧ peer.toNat ≠ s.serial ∧ x < 4096) ∧
    (∃ (a : BitVec 12) (s : State), (s.isFeed = false ∨ (s.topoState a.toNat ≠ 2 ∧ s.topoState a.toNat ≠ 3))) :=
  ⟨⟨6#12, waiting 3 (found 6 9 0 2 feed), DscWait.mk 6 0 (clist 0) 3, by decide +kernel⟩,
   ⟨6#12, 1#64, found 6 9 0 2 feed, by decide +kernel⟩,
   ⟨6#12, 8#64, found 7 8 0 3 (found 6 9 0 2 feed), 7, by decide +kernel⟩,
   ⟨6#12, found 6 9 0 4 feed, by decide +kernel⟩⟩

/-- No send waits at all, so none for an address. -/
theorem none_waits {a : Nat} {l m : List DscWait} (h : l = [] ∧ m = []) : ∀ x, x ∈ l ∨ x ∈ m → x.addr ≠ a := by
  intro x hx; rw [h.1, h.2] at hx; simp at hx

/-- A WALK. -/
def walkPkt (claim id : Nat) : Packet := makePacket 5 1 0xFFF 1 0xFFF claim 1 0 0 0 false true (leBytes 4 id ++ [1, 0, 0, 0])

/-- The tile has seen WALK 3 of claim 100 on a port. -/
def seen (port time : Nat) (cycle : Bool) : State := { tile with dsc := { tile.dsc with seen := [⟨3, 100, port, time, cycle⟩] } }

/-- ASSIGN of address 7 for a serial. -/
def assign (claim serial : Nat) : Packet := makePacket 5 3 0xFFF 1 0xFFF claim 1 0 0 0 false true (leBytes 8 serial ++ leBytes 2 (7 + 4096) ++ leBytes 2 0xFFFF ++ leBytes 2 0xFFFF ++ [0, 0])

/-- ADMIT of the small tile. -/
def admission (claim v : Nat) : Packet := makePacket 5 4 5 1 0xFFF claim 1 0 0 0 false true [v, 0, 0, 0]

/-- An ANSWER of a tile of a serial and an address. -/
def answer (id serial addr flags : Nat) : Packet :=
  makePacket 5 2 0xFFF 1 addr 100 1 0 0 0 true true
    (leBytes 4 id ++ leBytes 8 serial ++ [10, 0] ++ leBytes 2 (addr + 4096) ++ leBytes 4 5 ++ leBytes 4 7 ++ leBytes 4 3 ++ [1, 0, 0, 0, 0, 0, 0, 0, 1, flags] ++ List.replicate 58 0)

/-- A paired feed unit that hears its partner, the winner, on the port of lane 0. -/
def standby : State :=
  let s := (feed.put R.redCtrl F.redCtrl_PAIR 1).put R.redPartnerInfo F.redPartnerInfo_CLAIM 65535
  { s with red := { RedSt.reset with hearing := [0] } }

theorem witness_DiscoveryPackets :
    (∃ (l : Fin 96) (p : Packet) (id : Nat) (s : State), s.isTile = true ∧ s.takes l.val p 5 1 = true ∧ id = payField p 0 4 ∧ (∀ w, w ∈ s.dsc.seen → ¬(w.id = id ∧ w.claim = p.hdr.claim.toNat))) ∧
    (∃ (l : Fin 96) (p : Packet) (id : Nat) (s : State) (w : _), s.isTile = true ∧ s.takes l.val p 5 1 = true ∧ id = payField p 0 4 ∧ s.dsc.seen.find? (fun w => w.id == id && w.claim == p.hdr.claim.toNat) = some w ∧ w.port ≠ l.val ∧ w.cycle = false ∧ s.clock.now ≤ w.time + 100000000) ∧
    (∃ (l : Fin 96) (p : Packet) (id : Nat) (s : State) (w : _), s.isTile = true ∧ s.takes l.val p 5 1 = true ∧ id = payField p 0 4 ∧ s.dsc.seen.find? (fun w => w.id == id && w.claim == p.hdr.claim.toNat) = some w ∧ (w.port = l.val ∨ w.cycle = true ∨ w.time + 100000000 < s.clock.now)) ∧
    (∃ (l : Fin 96) (p : Packet) (id : Nat) (s : State) (w : _), s.isTile = true ∧ s.takes l.val p 5 1 = true ∧ id = payField p 0 4 ∧ s.dsc.seen.find? (fun w => w.id == id && w.claim == p.hdr.claim.toNat) = some w ∧ (w.port = l.val ∨ w.cycle = true ∨ w.time + 100000000 < s.clock.now)) ∧
    (∃ (l : Fin 96) (p : Packet) (u : State) (s : State), u = s.noteClaim p.hdr.claim.toNat none ∧ s.isTile = true ∧ s.takes l.val p 5 3 = true ∧ payField p 0 8 = s.serial ∧ u.fromWinner l.val p.hdr.claim.toNat = true) ∧
    (∃ (l : Fin 96) (p : Packet) (u : State) (s : State), u = s.noteClaim p.hdr.claim.toNat none ∧ s.isTile = true ∧ s.takes l.val p 5 3 = true ∧ payField p 0 8 = s.serial ∧ u.fromWinner l.val p.hdr.claim.toNat = false) ∧
    (∃ (l : Fin 96) (p : Packet) (u : State) (s : State), u = s.noteClaim p.hdr.claim.toNat none ∧ s.isTile = true ∧ s.takes l.val p 5 3 = true ∧ payField p 0 8 ≠ s.serial) ∧
    (∃ (l : Fin 96) (p : Packet) (u : State) (s : State), u = s.noteClaim p.hdr.claim.toNat none ∧ s.isTile = true ∧ s.takes l.val p 5 4 = true ∧ s.isMine p = true ∧ u.fromWinner l.val p.hdr.claim.toNat = true) ∧
    (∃ (l : Fin 96) (p : Packet) (u : State) (s : State), u = s.noteClaim p.hdr.claim.toNat none ∧ s.isTile = true ∧ s.takes l.val p 5 4 = true ∧ s.isMine p = true ∧ u.fromWinner l.val p.hdr.claim.toNat = true) ∧
    (∃ (l : Fin 96) (p : Packet) (u : State) (s : State), u = s.noteClaim p.hdr.claim.toNat none ∧ s.isTile = true ∧ s.takes l.val p 5 4 = true ∧ s.isMine p = true ∧ u.fromWinner l.val p.hdr.claim.toNat = false) ∧
    (∃ (l : Fin 96) (p : Packet) (r : AnswerRec) (id : Nat) (s : State), s.isFeed = true ∧ s.takes l.val p 5 2 = true ∧ r = answerOf p ∧ id = payField p 0 4 ∧ id ≠ 0 ∧ ((s.walkOf l.val).phase ≠ .walk ∨ (s.walkOf l.val).id ≠ id)) ∧
    (∃ (l : Fin 96) (p : Packet) (r : AnswerRec) (id : Nat) (s : State) (x : _), s.isFeed = true ∧ s.takes l.val p 5 2 = true ∧ r = answerOf p ∧ id = payField p 0 4 ∧ id ≠ 0 ∧ (s.walkOf l.val).phase = .walk ∧ (s.walkOf l.val).id = id ∧ x ≠ l.val) ∧
    (∃ (l : Fin 96) (p : Packet) (r : AnswerRec) (id : Nat) (s : State) (a : _) (w : _), s.isFeed = true ∧ s.takes l.val p 5 2 = true ∧ r = answerOf p ∧ id = payField p 0 4 ∧ id = 0 ∧ ((s.holders r.serial).filter fun x => s.topoState x != 5).head? = some a ∧ r.addr = a ∧ r.domain = s.domain ∧ s.dsc.waits.find? (fun w => w.addr == a) = some w) ∧
    (∃ (l : Fin 96) (p : Packet) (r : AnswerRec) (id : Nat) (s : State) (a : _) (w : _), s.isFeed = true ∧ s.takes l.val p 5 2 = true ∧ r = answerOf p ∧ id = payField p 0 4 ∧ id = 0 ∧ ((s.holders r.serial).filter fun x => s.topoState x != 5).head? = some a ∧ r.addr = a ∧ r.domain = s.domain ∧ s.dsc.waits.find? (fun w => w.addr == a) = some w ∧ (∀ x, x ∈ (after (.answer l p) s).dsc.waits ∨ x ∈ s.dsc.failed → x.addr ≠ a)) ∧
    (∃ (l : Fin 96) (p : Packet) (r : AnswerRec) (id : Nat) (s : State), s.isFeed = true ∧ s.takes l.val p 5 2 = true ∧ r = answerOf p ∧ id = payField p 0 4 ∧ id = 0 ∧ (∀ a, ((s.holders r.serial).filter fun x => s.topoState x != 5).head? = some a → r.addr ≠ a ∨ r.domain ≠ s.domain) ∧ s.portWins l.val = true) ∧
    (∃ (l : Fin 96) (p : Packet) (r : AnswerRec) (id : Nat) (s : State), s.isFeed = true ∧ s.takes l.val p 5 2 = true ∧ r = answerOf p ∧ id = payField p 0 4 ∧ id = 0 ∧ s.portWins l.val = false ∧ s.holders r.serial = [] ∧ r.addr < 4095 ∧ r.domain = s.domain ∧ s.topoState r.addr = 0) :=
  ⟨⟨(0 : Fin 96), walkPkt 100 3, 3, tile, by decide +kernel⟩,
   ⟨(4 : Fin 96), walkPkt 100 3, 3, seen 0 3599900000000 false, WalkSeen.mk 3 100 0 3599900000000 false, by decide +kernel⟩,
   ⟨(4 : Fin 96), walkPkt 100 3, 3, seen 0 3599899999999 false, WalkSeen.mk 3 100 0 3599899999999 false, by decide +kernel⟩,
   ⟨(0 : Fin 96), walkPkt 100 3, 3, seen 0 3599999999999 false, WalkSeen.mk 3 100 0 3599999999999 false, by decide +kernel⟩,
   ⟨(0 : Fin 96), assign 100 1, (tile).noteClaim (assign 100 1).hdr.claim.toNat none, tile, by first | with_reducible rfl | rfl, by decide +kernel⟩,
   ⟨(0 : Fin 96), assign 99 1, (tile).noteClaim (assign 99 1).hdr.claim.toNat none, tile, by first | with_reducible rfl | rfl, by decide +kernel⟩,
   ⟨(0 : Fin 96), assign 100 2, (tile).noteClaim (assign 100 2).hdr.claim.toNat none, tile, by first | with_reducible rfl | rfl, by decide +kernel⟩,
   ⟨(0 : Fin 96), admission 100 0, (tile).noteClaim (admission 100 0).hdr.claim.toNat none, tile, by first | with_reducible rfl | rfl, by decide +kernel⟩,
   ⟨(0 : Fin 96), admission 100 1, (tile.put R.dscSelf F.dscSelf_ADMITTED 0).noteClaim (admission 100 1).hdr.claim.toNat none, tile.put R.dscSelf F.dscSelf_ADMITTED 0, by first | with_reducible rfl | rfl, by decide +kernel⟩,
   ⟨(0 : Fin 96), admission 99 1, (tile).noteClaim (admission 99 1).hdr.claim.toNat none, tile, by first | with_reducible rfl | rfl, by decide +kernel⟩,
   ⟨(0 : Fin 96), answer 3 9 4095 0, (answerOf (answer 3 9 4095 0)), 3, feed, by decide +kernel⟩,
   ⟨(0 : Fin 96), answer 3 9 4095 0, (answerOf (answer 3 9 4095 0)), 3, bindsSerial [], 4, by decide +kernel⟩,
   ⟨(0 : Fin 96), answer 0 9 6 0, (answerOf (answer 0 9 6 0)), 0, waiting 1 (found 6 9 0 2 feed), 6, DscWait.mk 6 0 (clist 0) 1, by decide +kernel⟩,
   ⟨0, answer 0 9 6 0, answerOf (answer 0 9 6 0), 0, waiting 1 (found 6 9 0 2 (feed.put (R.dscTopo 6) F.dscTopo_UNCONFIRMED 1)), 6, ⟨6, 0, clist 0, 1⟩, by decide +kernel, by decide +kernel, by decide +kernel, rfl, rfl, by decide +kernel, by decide +kernel, by decide +kernel, by decide +kernel, none_waits (by decide +kernel)⟩,
   ⟨0, answer 0 9 4095 0, answerOf (answer 0 9 4095 0), 0, feed, by decide +kernel, by decide +kernel, by decide +kernel, rfl, rfl, of_none (by decide +kernel), by decide +kernel⟩,
   ⟨(0 : Fin 96), answer 0 9 6 0, (answerOf (answer 0 9 6 0)), 0, standby, by decide +kernel⟩⟩

/-- The lamp map of the small tile. -/
def lamps : LampMap := (sections 2#8).lampmap

/-- The two lamps of the small tile. -/
def lamp0 : LampAt := ⟨0, 0, 0, 0, 0⟩
def lamp1 : LampAt := ⟨1, 1, 0, 0, 1⟩

/-- Settings of the pipeline at depth 12. -/
def corrSet : CorrSet := ⟨0, 12, false, false, [16384, 16384, 16384], 4096, 4096, 5, 0⟩

/-- A picture of the two lamps. -/
def lampPic : SlotPic := ⟨0, 216000, [⟨100, 200, 300⟩, ⟨400, 500, 600⟩]⟩

/-- The small tile in RUN with that picture in its frame hold. -/
def showing : State := holding { HoldSt.reset with pics := [lampPic] }

/-- The small tile with board sensor 31. -/
def board (b : BoardSens) (st : Nat) : State :=
  { (tile.put (R.corBsens 31) F.corBsens_STATE st) with cor := { tile.cor with boards := [b] } }

/-- The small tile with colour sensor 3 and the reset limits of the gain. -/
def sensing (n : Nat) : State := { tile with cor := { tile.cor with lights := [⟨3, n, [5, 6, 7], 0⟩] } }

/-- The held picture of a slot is the one that is corrected in RUN. -/
theorem held_picture {v : State} {st : SeqState} {m : LampMap} {n : Int} {k : Nat} {p : SlotPic} (h : st ≠ .reduced)
    (hf : v.hold.pics.find? (fun p => p.slot == k) = some p) (hl : v.layerMode = false) :
    v.corrPicture st m n k = some (toSigned 48 p.frame, picLamp m p) := by
  unfold State.corrPicture; cases st <;> simp_all

theorem witness_Correction :
    (∃ (cs : CorrSet) (m : LampMap) (l : LampAt) (q : Rgb) (s : State) (off : _) (g : _), g = (s.correctLamp cs m l q off).grey ∧ cs.cap ≤ 4096 ∧ cs.tf ≤ 4096 ∧ cs.depth ≤ 16) ∧
    (∃ (errors : List MemError) (m : LampMap) (u : State) (v : State) (f : Nat) (k : Nat) (p : PatternRec) (n : Int) (s : State), s.isTile = true ∧ s.rst.inReset = false ∧ u = s.memErrors errors ∧ u.lampMap = some m ∧ u.deadlineSlot = some (v, f, k) ∧ v.pattern = some p ∧ n = frameAt v.origin p ((u.clock.now : Int) + 200000) ∧ errors = [] ∧ v.corrState n k = none) ∧
    (∃ (q : Fin 4) (errors : List MemError) (m : LampMap) (u : State) (v : State) (f : Nat) (k : Nat) (p : PatternRec) (n : Int) (s : State) (st : SeqState) (g : Int) (pic : LampAt → Rgb) (cs : CorrSet) (l : _), cs = State.corrSet { v with cor := (u.takeGain n).cor } n k g ∧ s.isTile = true ∧ s.rst.inReset = false ∧ u = s.memErrors errors ∧ u.lampMap = some m ∧ u.deadlineSlot = some (v, f, k) ∧ v.pattern = some p ∧ n = frameAt v.origin p ((u.clock.now : Int) + 200000) ∧ v.corrState n k = some st ∧ v.corrPicture st m n k = some (g, pic) ∧ l ∈ u.quarterOrder q.val ∧ (∀ x, x ∈ u.quarterOrder q.val → x.key = l.key → x = l)) ∧
    (∃ (s : State), (s.isTile = false ∨ s.rst.inReset = true)) ∧
    (∃ (bs : List (Fin 32 × Option (BitVec 16))) (s : State) (b : _) (a : Option Nat) (x : Nat), s.isTile = true ∧ s.rst.inReset = false ∧ (∀ b, b ∈ s.cor.boards → b.idx < 32) ∧ b ∈ s.cor.boards ∧ (∀ x, x ∈ s.cor.boards → x.idx = b.idx → x = b) ∧ a = (sLookup (bs.map fun r => (r.1.val, r.2.map (·.toNat))) b.idx).getD none ∧ a = some x ∧ -640 ≤ toSigned 16 x / 16 ∧ toSigned 16 x / 16 ≤ 2400 ∧ 9 ≤ b.good ∧ s.get (R.corBsens b.idx) F.corBsens_STATE = 2) ∧
    (∃ (bs : List (Fin 32 × Option (BitVec 16))) (s : State) (b : _) (a : Option Nat) (x : Nat), s.isTile = true ∧ s.rst.inReset = false ∧ (∀ b, b ∈ s.cor.boards → b.idx < 32) ∧ b ∈ s.cor.boards ∧ (∀ x, x ∈ s.cor.boards → x.idx = b.idx → x = b) ∧ a = (sLookup (bs.map fun r => (r.1.val, r.2.map (·.toNat))) b.idx).getD none ∧ a = some x ∧ -640 ≤ toSigned 16 x / 16 ∧ toSigned 16 x / 16 ≤ 2400) ∧
    (∃ (bs : List (Fin 32 × Option (BitVec 16))) (s : State) (b : _) (a : Option Nat), s.isTile = true ∧ s.rst.inReset = false ∧ (∀ b, b ∈ s.cor.boards → b.idx < 32) ∧ b ∈ s.cor.boards ∧ (∀ x, x ∈ s.cor.boards → x.idx = b.idx → x = b) ∧ a = (sLookup (bs.map fun r => (r.1.val, r.2.map (·.toNat))) b.idx).getD none ∧ a = none ∧ 2 ≤ b.nack ∧ s.get (R.corBsens b.idx) F.corBsens_STATE = 1) ∧
    (∃ (bs : List (Fin 32 × Option (BitVec 16))) (s : State) (b : _) (a : Option Nat), s.isTile = true ∧ s.rst.inReset = false ∧ (∀ b, b ∈ s.cor.boards → b.idx < 32) ∧ b ∈ s.cor.boards ∧ (∀ x, x ∈ s.cor.boards → x.idx = b.idx → x = b) ∧ a = (sLookup (bs.map fun r => (r.1.val, r.2.map (·.toNat))) b.idx).getD none ∧ a = none ∧ b.nack < 2 ∧ b.range < 3) ∧
    (∃ (ls : List (Fin 4 × Option (BitVec 48))) (s : State) (a : LightSens), s.isTile = true ∧ s.rst.inReset = false ∧ (∀ a, a ∈ s.cor.lights → a.idx < 4) ∧ a ∈ s.cor.lights ∧ (∀ x, x ∈ s.cor.lights → x.idx = a.idx → x = a) ∧ s.cor.lights.count a = 1 ∧ (sLookup (ls.map fun r => (r.1.val, r.2.map (·.toNat))) a.idx).getD none = none) ∧
    (∃ (s : State) (c : Nat) (g : Nat), g = s.get (R.corGain c) F.corGain_G4 ∧ s.isTile = true ∧ s.rst.inReset = false ∧ (∀ a, a ∈ s.cor.lights → a.idx < 4) ∧ c < 3 ∧ s.actGet R.corCfg F.corCfg_MODE = 0) ∧
    (∃ (s : State) (c : Nat) (g : Nat), g = s.get (R.corGain c) F.corGain_G4 ∧ s.isTile = true ∧ s.rst.inReset = false ∧ (∀ a, a ∈ s.cor.lights → a.idx < 4) ∧ c < 3 ∧ s.get R.corGainLimit F.corGainLimit_GMIN ≤ g ∧ g ≤ s.get R.corGainLimit F.corGainLimit_GMAX) :=
  ⟨⟨corrSet, lamps, lamp0, ⟨4095, 4095, 4095⟩, showing, false, ((showing).correctLamp (corrSet) (lamps) (lamp0) (⟨4095, 4095, 4095⟩) (false)).grey, by first | with_reducible rfl | rfl, by decide +kernel⟩,
   ⟨[], lamps, tile, ((tile.deadlineSlot.getD (tile, 0, 0)).1), 216000, 0, pat, 216000, tile, by decide +kernel⟩,
   ⟨0, [], lamps, showing, (showing.deadlineSlot.getD (showing, 0, 0)).1, 216000, 0, pat, 216000, showing, .run, toSigned 48 lampPic.frame, picLamp lamps lampPic, _, lamp1, rfl, by decide +kernel, by decide +kernel, by decide +kernel, by decide +kernel, by decide +kernel, by decide +kernel, by decide +kernel, by decide +kernel, held_picture (by decide) (by decide +kernel) (by decide +kernel), by decide +kernel, by decide +kernel⟩,
   ⟨feed, by decide +kernel⟩,
   ⟨[(31, some 0x7FFF#16)], board ⟨31, 0, 0, 9⟩ 2, ⟨31, 0, 0, 9⟩, some 0x7FFF, 0x7FFF, by decide +kernel⟩,
   ⟨[(31, some 0xD800#16)], board ⟨31, 0, 0, 9⟩ 1, ⟨31, 0, 0, 9⟩, some 0xD800, 0xD800, by decide +kernel⟩,
   ⟨[], board ⟨31, 2, 0, 0⟩ 1, ⟨31, 2, 0, 0⟩, none, by decide +kernel⟩,
   ⟨[(31, none)], board ⟨31, 1, 2, 0⟩ 1, ⟨31, 1, 2, 0⟩, none, by decide +kernel⟩,
   ⟨[(3, none)], sensing 2, ⟨3, 2, [5, 6, 7], 0⟩, by decide +kernel⟩,
   ⟨sensing 2, 2, (sensing 2).get (R.corGain (2)) F.corGain_G4, by first | with_reducible rfl | rfl, by decide +kernel⟩,
   ⟨sensing 2, 0, (sensing 2).get (R.corGain (0)) F.corGain_G4, by first | with_reducible rfl | rfl, by decide +kernel⟩⟩

/-- A calibration copy of the small tile of sequence number 3: every grid node takes board sensor 0 alone, every lamp the nominal record. -/
def calBytes : List Nat :=
  [0x57, 0x43, 0x41, 0x4C, 0, 1, 0, 0] ++ leBytes 8 1 ++ leBytes 4 5 ++ leBytes 2 2 ++ leBytes 2 1 ++ leBytes 4 3 ++ List.replicate 8 0 ++
    leBytes 4 1031235499 ++ leBytes 4 227968344 ++ leBytes 4 872759805 ++ leBytes 4 1779939673 ++ List.replicate 4300 0 ++
    (List.replicate 256 [0, 128, 0, 128, 0, 0, 0, 0]).flatten ++ List.replicate 5888 0 ++ leBytes 32 nominalRecord ++ leBytes 32 nominalRecord

/-- The small tile with calibration being applied from copy 1. -/
def applying : State := { tile with cor := { tile.cor with applying := some 1 } }

/-- The small tile with that copy in place 1 of its flash, being applied. -/
def applied : State := { applying with flash := { tile.flash with cal1 := some calBytes } }

/-- The small tile with its hottest lamp at a temperature and a limit. -/
def heated (t limit : Nat) : State := (tile.put R.corStatus F.corStatus_HOTTEST t).setReg R.corLampLimit limit

theorem witness_CalibrationAndLampHeat :
    (∃ (req : Requester) (q : Fin 4) (w : Fin 524288) (key : Nat) (s : State) (k : _), key = q.val * 65536 + w.val / 8 ∧ s.mayWrite req = true ∧ s.live .cor = true ∧ k ≠ key ∧ w.val % 8 ≠ 7) ∧
    (∃ (req : Requester) (q : Fin 4) (w : Fin 524288) (key : Nat) (s : State) (b : RecBuf) (i : Nat) (x : Nat), key = q.val * 65536 + w.val / 8 ∧ s.mayWrite req = true ∧ s.live .cor = true ∧ w.val % 8 = 7 ∧ s.cor.bufs.find? (fun b => b.quarter == q.val) = some b ∧ b.record = w.val / 8 ∧ (∀ e, e ∈ b.words → e.1 < 7) ∧ i < 7 ∧ (i, x) ∈ b.words ∧ (∀ e, e ∈ b.words → e.1 = i → e.2 = x)) ∧
    (∃ (req : Requester) (q : Fin 4) (w : Fin 524288) (v : Word) (key : Nat) (s : State) (b : RecBuf), key = q.val * 65536 + w.val / 8 ∧ s.mayWrite req = true ∧ s.live .cor = true ∧ w.val % 8 = 7 ∧ b ∈ (after (.lampRecordWrite req q w v) s).cor.bufs) ∧
    (∃ (req : Requester) (s : State), s.mayWrite req = true ∧ s.live .cor = false) ∧
    (∃ (req : Requester) (b : Fin 2) (s : State), s.mayWrite req = true ∧ s.live .cor = true ∧ s.actGet R.corCfg F.corCfg_EOTF_BANK ≠ b.val ∧ s.committing = false) ∧
    (∃ (req : Requester) (b : Fin 2) (s : State), s.mayWrite req = true ∧ s.live .cor = true ∧ (s.actGet R.corCfg F.corCfg_EOTF_BANK = b.val ∨ (s.committing = true ∧ s.get R.corCfg F.corCfg_EOTF_BANK = b.val))) ∧
    (∃ (req : Requester) (b : Fin 2) (s : State), s.mayWrite req = true ∧ s.live .cor = true ∧ (s.actGet R.corCfg F.corCfg_EOTF_BANK = b.val ∨ (s.committing = true ∧ s.get R.corCfg F.corCfg_EOTF_BANK = b.val))) ∧
    (∃ (req : Requester) (v : Word) (s : State), s.mayWrite req = true ∧ s.live .cor = true ∧ s.calOpen = true ∧ fieldGet v.toNat F.corCalCtrl_APPLY = 1 ∧ s.cor.applying = none) ∧
    (∃ (req : Requester) (v : Word) (s : State), s.mayWrite req = true ∧ s.live .cor = true ∧ s.calOpen = true ∧ fieldGet v.toNat F.corCalCtrl_APPLY = 0) ∧
    (∃ (req : Requester) (v : Word) (s : State), s.mayWrite req = true ∧ s.live .cor = true ∧ s.calOpen = false ∧ fieldGet v.toNat F.corCalCtrl_UNLOCK = 1) ∧
    (∃ (i : Nat) (m : LampMap) (cause : Nat) (c : List Nat) (s : State), cause = calCause s.serial m (s.calCopy i) ∧ c = (s.calCopy i).getD [] ∧ s.isTile = true ∧ s.rst.inReset = false ∧ s.cor.applying = some i ∧ i ≤ 1 ∧ s.lampMap = some m ∧ cause ≠ 0) ∧
    (∃ (s : State), (s.isTile = false ∨ s.rst.inReset = true ∨ s.cor.applying = none)) ∧
    (∃ (a : Option (BitVec 8)) (s : State) (x : _), s.isTile = true ∧ s.rst.inReset = false ∧ s.get R.corI2c F.corI2c_BUSY = 1 ∧ a = some x ∧ s.get R.corI2c F.corI2c_READ = 1) ∧
    (∃ (a : Option (BitVec 8)) (s : State), s.isTile = true ∧ s.rst.inReset = false ∧ s.get R.corI2c F.corI2c_BUSY = 1 ∧ (a = none ∨ s.get R.corI2c F.corI2c_READ = 0)) ∧
    (∃ (s : State), s.isTile = true ∧ s.rst.inReset = false ∧ s.get R.corI2c F.corI2c_BUSY = 0) ∧
    (∃ (s : State), s.isTile = true ∧ toSigned 16 (s.get R.corLampLimit F.corLampLimit_LIMIT) < toSigned 16 (s.get R.corStatus F.corStatus_HOTTEST) ∧ s.dieReq = false) ∧
    (∃ (s : State) (c : Nat), s.isTile = true ∧ toSigned 16 (s.get R.corStatus F.corStatus_HOTTEST) ≤ toSigned 16 (s.get R.corLampLimit F.corLampLimit_LIMIT) ∧ s.lampReq = true ∧ s.dieReq = false ∧ s.cor.coolFrom = some c ∧ c + 10000000000 ≤ s.clock.now) ∧
    (∃ (s : State), s.isTile = true ∧ toSigned 16 (s.get R.corStatus F.corStatus_HOTTEST) ≤ toSigned 16 (s.get R.corLampLimit F.corLampLimit_LIMIT) ∧ s.lampReq = false) ∧
    (∃ (s : State), s.isTile = true ∧ (s.dieReq = true ∨ s.lampReq = true) ∧ s.get R.thmCap F.thmCap_ANSWERED = 0 ∧ s.get R.thmCap F.thmCap_LOCAL = 0) ∧
    (∃ (s : State), s.isTile = true ∧ (s.get R.thmCap F.thmCap_ANSWERED = 1 ∨ s.get R.thmCap F.thmCap_LOCAL = 1)) ∧
    (∃ (s : State), s.isTile = false) :=
  ⟨⟨.mp, (3 : Fin 4), (524286 : Fin 524288), ((3 : Fin 4)).val * 65536 + ((524286 : Fin 524288)).val / 8, tile, 5, by first | with_reducible rfl | rfl, by decide +kernel⟩,
   ⟨.mp, (3 : Fin 4), (524287 : Fin 524288), ((3 : Fin 4)).val * 65536 + ((524287 : Fin 524288)).val / 8, { tile with cor := { tile.cor with bufs := [⟨3, 65535, [(6, 9)]⟩] } }, ⟨3, 65535, [(6, 9)]⟩, 6, 9, by first | with_reducible rfl | rfl, by decide +kernel⟩,
   ⟨.mp, (3 : Fin 4), (524287 : Fin 524288), 7#32, ((3 : Fin 4)).val * 65536 + ((524287 : Fin 524288)).val / 8, { tile with cor := { tile.cor with bufs := [⟨3, 65535, [(6, 9)]⟩, ⟨2, 0, [(1, 1)]⟩] } }, ⟨2, 0, [(1, 1)]⟩, by first | with_reducible rfl | rfl, by decide +kernel⟩,
   ⟨.mp, feed, by decide +kernel⟩,
   ⟨.mp, (1 : Fin 2), tile, by decide +kernel⟩,
   ⟨.mp, (0 : Fin 2), tile, by decide +kernel⟩,
   ⟨.mp, (1 : Fin 2), pended 3 300000 (tile.put R.corCfg F.corCfg_EOTF_BANK 1), by decide +kernel⟩,
   ⟨.mp, 3#32, tile, by decide +kernel⟩,
   ⟨.mp, 1#32, since .reduced tile, by decide +kernel⟩,
   ⟨.mp, 1#32, since .run tile, by decide +kernel⟩,
   ⟨1, lamps, calCause (applying).serial (lamps) ((applying).calCopy (1)), ((applying).calCopy (1)).getD [], applying, by first | with_reducible rfl | rfl, by first | with_reducible rfl | rfl, by decide +kernel⟩,
   ⟨tile, by decide +kernel⟩,
   ⟨some 0x5A#8, tile.setReg R.corI2c (0x48 + 128 + 2 ^ 25), 0x5A#8, by decide +kernel⟩,
   ⟨none, tile.setReg R.corI2c (0x48 + 128 + 2 ^ 25), by decide +kernel⟩,
   ⟨tile, by decide +kernel⟩,
   ⟨heated 0x501 0x500, by decide +kernel⟩,
   ⟨{ (heated 0x500 0x500).put R.corStatus F.corStatus_LAMP_REQ 1 with cor := { tile.cor with coolFrom := some 3590000000000 } }, 3590000000000, by decide +kernel⟩,
   ⟨heated 0x500 0x500, by decide +kernel⟩,
   ⟨tile.put R.thmCap F.thmCap_REQ 1, by decide +kernel⟩,
   ⟨tile.put R.thmCap F.thmCap_ANSWERED 1, by decide +kernel⟩,
   ⟨feed, by decide +kernel⟩⟩

/-- A group of the small tile in a state, with what is kept of it. -/
def grouped (st : Nat) (f : GroupSt → GroupSt) (s : State) : State := (s.setGroupState 0 st).setGroup (f (GroupSt.fresh 0))

/-- The small tile in RUN with its bank valid and group 0 in a state, in the last 130 µs before a slot. -/
def lighting (st : Nat) : State := grouped st id { showing with lmp := { showing.lmp with volts := [1, 0, 0, 0] } }

/-- The small tile in IDLE with its bank valid and group 0 in a state. -/
def dark (st : Nat) : State := grouped st id { tile with lmp := { tile.lmp with volts := [1, 0, 0, 0] } }

theorem witness_LervisBus_1 :
    (∃ (q : Fin 4) (blocked : List (Fin 64)) (v : State) (n : Int) (k : Nat) (s : State) (g : Nat) (l : LampAt), s.isTile = true ∧ s.rst.inReset = false ∧ s.transferSlot = some (v, n, k) ∧ (v.corrState n k).isSome = true ∧ g ∈ s.bankGroups q.val ∧ 2 ≤ s.groupState g ∧ (blocked.map (·.val)).contains g = false ∧ l ∈ s.groupLamps g ∧ (∀ x, x ∈ s.lamps → x.key = l.key → x = l)) ∧
    (∃ (q : Fin 4) (blocked : List (Fin 64)) (v : State) (n : Int) (k : Nat) (s : State) (g : Nat) (l : LampAt), s.isTile = true ∧ s.rst.inReset = false ∧ s.transferSlot = some (v, n, k) ∧ (v.corrState n k).isSome = true ∧ g ∈ s.bankGroups q.val ∧ 2 ≤ s.groupState g ∧ (blocked.map (·.val)).contains g = false ∧ l ∈ s.groupLamps g ∧ (∀ x, x ∈ s.lamps → x.key = l.key → x = l)) ∧
    (∃ (q : Fin 4) (blocked : List (Fin 64)) (v : State) (n : Int) (k : Nat) (s : State) (g : Nat) (l : LampAt), s.isTile = true ∧ s.rst.inReset = false ∧ s.transferSlot = some (v, n, k) ∧ (v.corrState n k).isSome = true ∧ g ∈ s.bankGroups q.val ∧ 2 ≤ s.groupState g ∧ (blocked.map (·.val)).contains g = true ∧ l ∈ s.groupLamps g ∧ (∀ x, x ∈ s.lamps → x.key = l.key → x = l)) ∧
    (∃ (q : Fin 4) (v : State) (n : Int) (k : Nat) (s : State) (g : Nat), s.isTile = true ∧ s.rst.inReset = false ∧ s.transferSlot = some (v, n, k) ∧ v.corrState n k = none ∧ g ∈ s.bankGroups q.val ∧ s.groupState g ≠ 2) ∧
    (∃ (q : Fin 4) (blocked : List (Fin 64)) (v : State) (n : Int) (k : Nat) (s : State) (g : Nat) (l : LampAt), s.isTile = true ∧ s.rst.inReset = false ∧ s.transferSlot = some (v, n, k) ∧ v.corrState n k = none ∧ g ∈ s.bankGroups q.val ∧ s.groupState g = 2 ∧ (blocked.map (·.val)).contains g = false ∧ l ∈ s.groupLamps g) ∧
    (∃ (s : State), (s.isTile = false ∨ s.rst.inReset = true ∨ s.transferSlot = none)) ∧
    (∃ (g : Fin 64) (s : State) (l : _) (k : Nat), s.isTile = true ∧ s.rst.inReset = false ∧ 2 ≤ s.groupState g.val ∧ (s.groupSt g.val).sent = true ∧ l ∈ s.groupLamps g.val ∧ (∀ l, l ∈ s.groupLamps g.val → l.key ≠ k)) ∧
    (∃ (g : Fin 64) (s : State), s.isTile = true ∧ s.rst.inReset = false ∧ 2 ≤ s.groupState g.val ∧ (s.groupSt g.val).sent = false) ∧
    (∃ (g : Fin 64) (s : State), s.isTile = true ∧ 2 ≤ s.groupState g.val ∧ s.cfgWords.repeats % 256 = 0) ∧
    (∃ (g : Fin 64) (s : State) (h : _), s.isTile = true ∧ 2 ≤ s.groupState g.val ∧ g.val ∈ s.usedGroups ∧ 12 ≤ s.cfgWords.depth ∧ s.cfgWords.depth ≤ 16 ∧ s.cfgWords.seg < 8 ∧ 0 < s.cfgWords.repeats ∧ s.cfgWords.repeats < 256 ∧ h ≠ g.val) ∧
    (∃ (g : Fin 64) (s : State), (s.isTile = false ∨ s.groupState g.val < 2)) ∧
    (∃ (g : Fin 64) (s : State), s.isTile = true ∧ s.groupState g.val = 2 ∧ 10 ≤ (s.groupSt g.val).scans ∧ (s.groupSt g.val).failed = false) ∧
    (∃ (g : Fin 64) (s : State), s.isTile = true ∧ s.groupState g.val = 2 ∧ ((s.groupSt g.val).scans < 10 ∨ (s.groupSt g.val).failed = true)) ∧
    (∃ (q : Fin 4) (v : BitVec 2) (s : State) (g : Nat), s.isTile = true ∧ s.bankValid q.val = true ∧ v ≠ 1 ∧ v ≠ 2 ∧ s.bankGroups q.val ≠ [] ∧ g ∈ s.bankGroups q.val) ∧
    (∃ (q : Fin 4) (v : BitVec 2) (s : State), s.isTile = true ∧ (s.bankValid q.val = false ∨ v = 1 ∨ v = 2 ∨ s.bankGroups q.val = [])) ∧
    (∃ (q : Fin 4) (v : BitVec 2) (s : State), s.isTile = true ∧ (s.bankValid q.val = false ∨ v = 1 ∨ v = 2 ∨ s.bankGroups q.val = [])) ∧
    (∃ (s : State), s.isTile = false) ∧
    (∃ (q : Fin 4) (s : State) (g : _), s.isTile = true ∧ s.bankValid q.val = true ∧ g ∈ s.bankGroups q.val ∧ s.groupState g = 1) ∧
    (∃ (q : Fin 4) (s : State) (g : _), s.isTile = true ∧ s.bankValid q.val = true ∧ g ∈ s.bankGroups q.val ∧ s.groupState g ≠ 1) ∧
    (∃ (q : Fin 4) (s : State), (s.isTile = false ∨ s.bankValid q.val = false)) ∧
    (∃ (req : Requester) (v : Word) (c : Instr) (s : State), s.mayWrite req = true ∧ (c = .forceBlank req v ∨ c = .rescan req v) ∧ s.live .lmp = false) ∧
    (∃ (req : Requester) (v : Word) (c : Instr) (s : State) (g : _), s.mayWrite req = true ∧ (c = .forceBlank req v ∨ c = .rescan req v) ∧ s.live .lmp = true ∧ g ∈ s.usedGroups ∧ fieldGet v.toNat F.lmpCtrl_RESCAN = 1 ∧ 2 ≤ s.groupState g ∧ fieldGet v.toNat F.lmpCtrl_FORCE_BLANK = 1 ∧ s.groupState g = 3) ∧
    (∃ (req : Requester) (v : Word) (c : Instr) (s : State) (g : _), s.mayWrite req = true ∧ (c = .forceBlank req v ∨ c = .rescan req v) ∧ s.live .lmp = true ∧ g ∈ s.usedGroups ∧ fieldGet v.toNat F.lmpCtrl_RESCAN = 0 ∧ fieldGet v.toNat F.lmpCtrl_FORCE_BLANK = 0 ∧ s.get R.lmpStatus F.lmpStatus_PWM_FIT = 0 ∧ s.groupState g = 4) ∧
    (∃ (req : Requester) (v : Word) (c : Instr) (s : State) (g : _), s.mayWrite req = true ∧ (c = .forceBlank req v ∨ c = .rescan req v) ∧ s.live .lmp = true ∧ g ∈ s.usedGroups ∧ s.groupState g < 3) :=
  ⟨⟨(0 : Fin 4), [], (((lighting 3).transferSlot.getD (tile, 0, 0)).1), 216000, 0, lighting 3, 0, lamp1, by decide +kernel⟩,
   ⟨(0 : Fin 4), [], (((lighting 2).transferSlot.getD (tile, 0, 0)).1), 216000, 0, lighting 2, 0, lamp0, by decide +kernel⟩,
   ⟨(0 : Fin 4), [0], (((lighting 4).transferSlot.getD (tile, 0, 0)).1), 216000, 0, lighting 4, 0, lamp0, by decide +kernel⟩,
   ⟨(0 : Fin 4), (((dark 3).transferSlot.getD (tile, 0, 0)).1), 216000, 0, dark 3, 0, by decide +kernel⟩,
   ⟨(0 : Fin 4), [], (((dark 2).transferSlot.getD (tile, 0, 0)).1), 216000, 0, dark 2, 0, lamp0, by decide +kernel⟩,
   ⟨feed, by decide +kernel⟩,
   ⟨(0 : Fin 64), grouped 2 (fun g => { g with sent := true }) { tile with lmp := { tile.lmp with shift := [(1, ⟨7, 8, 9⟩)], wbank := [(2, ⟨7, 8, 9⟩)] } }, lamp1, 2, by decide +kernel⟩,
   ⟨(0 : Fin 64), grouped 2 id tile, by decide +kernel⟩,
   ⟨(0 : Fin 64), grouped 2 id { tile with seq := { tile.seq with pattern := 7 } }, by decide +kernel⟩,
   ⟨(0 : Fin 64), grouped 4 id (tileRuns.put R.lmpStatus F.lmpStatus_REPEAT_USED 3), 63, by decide +kernel⟩,
   ⟨(0 : Fin 64), grouped 1 id tile, by decide +kernel⟩,
   ⟨(0 : Fin 64), grouped 2 (fun g => { g with scans := 10 }) tile, by decide +kernel⟩,
   ⟨(0 : Fin 64), grouped 2 (fun g => { g with scans := 9 }) tile, by decide +kernel⟩,
   ⟨(0 : Fin 4), 3#2, lighting 3, 0, by decide +kernel⟩,
   ⟨(0 : Fin 4), 2#2, lighting 3, by decide +kernel⟩,
   ⟨(1 : Fin 4), 0#2, lighting 3, by decide +kernel⟩,
   ⟨feed, by decide +kernel⟩,
   ⟨(0 : Fin 4), lighting 1, 0, by decide +kernel⟩,
   ⟨(0 : Fin 4), lighting 3, 0, by decide +kernel⟩,
   ⟨(3 : Fin 4), lighting 3, by decide +kernel⟩,
   ⟨.mp, 1#32, .rescan .mp 1#32, feed, by decide +kernel⟩,
   ⟨.mp, 3#32, .rescan .mp 3#32, grouped 3 (fun g => { g with scanning := true, lit := true }) tile, 0, by decide +kernel⟩,
   ⟨.mp, 0#32, .forceBlank .mp 0#32, grouped 4 (fun g => { g with scanning := true }) tile, 0, by decide +kernel⟩,
   ⟨.mp, 1#32, .forceBlank .mp 1#32, grouped 2 id tile, 0, by decide +kernel⟩⟩

theorem witness_LervisBus_2 :
    (∃ (req : Requester) (v : Word) (s : State), s.mayWrite req = true ∧ s.live .lmp = true ∧ s.seq.state = .idle ∧ s.transfersFit (fieldGet v.toNat F.lmpClk_LCK_DIV) = true) ∧
    (∃ (req : Requester) (v : Word) (s : State), s.mayWrite req = true ∧ s.live .lmp = true ∧ (s.seq.state ≠ .idle ∨ s.transfersFit (fieldGet v.toNat F.lmpClk_LCK_DIV) = false)) ∧
    (∃ (req : Requester) (s : State), s.mayWrite req = true ∧ s.live .lmp = false) :=
  ⟨⟨.mp, 3#32, { tile with ldr := { tile.ldr with image := none } }, by decide +kernel⟩,
   ⟨.mp, 3#32, since .run tile, by decide +kernel⟩,
   ⟨.mp, feed, by decide +kernel⟩⟩

/-- Groups 5 and 9 mapped to supply 7. -/
def mapped (s : State) : State :=
  regsSet s [(sagKey 5, fieldSet (fieldSet 0 F.lmpSagMap_MAPPED 1) F.lmpSagMap_SUPPLY 7), (sagKey 9, fieldSet (fieldSet 0 F.lmpSagMap_MAPPED 1) F.lmpSagMap_SUPPLY 7)]

theorem witness_PlacementEnable :
    (∃ (req : Requester) (v : Word) (s : State) (f : _), s.mayWrite req = true ∧ s.live .lmp = true ∧ f ∈ [F.lmpSagCfg_EN, F.lmpSagCfg_SPREAD_INIT, F.lmpSagCfg_SAG_TRIG, F.lmpSagCfg_GAP] ∧ (s.sagOn = true ∨ fieldGet v.toNat F.lmpSagCfg_EN = 0)) ∧
    (∃ (req : Requester) (v : Word) (s : State) (f : _) (sup : Nat) (i : Nat) (g : Nat), s.mayWrite req = true ∧ s.live .lmp = true ∧ f ∈ [F.lmpSagCfg_EN, F.lmpSagCfg_SPREAD_INIT, F.lmpSagCfg_SAG_TRIG, F.lmpSagCfg_GAP] ∧ s.sagOn = false ∧ fieldGet v.toNat F.lmpSagCfg_EN = 1 ∧ sup < 8 ∧ (s.supplyGroups sup)[i]? = some g) ∧
    (∃ (req : Requester) (v : Word) (s : State) (sup : Nat) (i : Nat) (g : Nat), s.mayWrite req = true ∧ s.live .lmp = true ∧ s.sagOn = false ∧ fieldGet v.toNat F.lmpSagCfg_EN = 1 ∧ sup < 8 ∧ (s.supplyGroups sup)[i]? = some g) ∧
    (∃ (s : State) (g : _) (x : _), s.sagOn = false ∧ g < 64 ∧ x < 8) ∧
    (∃ (req : Requester) (s : State), s.mayWrite req = true ∧ s.live .lmp = true ∧ s.sagOn = true) :=
  ⟨⟨.mp, BitVec.ofNat 32 (fieldSet 0 F.lmpSagCfg_GAP 3), tile, F.lmpSagCfg_GAP, by decide +kernel⟩,
   ⟨.mp, BitVec.ofNat 32 (fieldSet (fieldSet 0 F.lmpSagCfg_EN 1) F.lmpSagCfg_SPREAD_INIT 1), mapped tile, F.lmpSagCfg_SPREAD_INIT, 7, 1, 9, by decide +kernel⟩,
   ⟨.mp, BitVec.ofNat 32 (fieldSet 0 F.lmpSagCfg_EN 1), mapped tile, 7, 1, 9, by decide +kernel⟩,
   ⟨mapped tile, 63, 7, by decide +kernel⟩,
   ⟨.mp, tile.put R.lmpSagCfg F.lmpSagCfg_EN 1, by decide +kernel⟩⟩

/-- A record of 25 words of a driver that reports a valid configuration. -/
def driverRec (first : BitVec 16) : List (BitVec 16) := first :: List.replicate 24 0#16

/-- The small tile with a status scan of group 0 under way and a fault byte of lamp 1. -/
def scanned (st fault : Nat) : State :=
  (grouped st (fun g => { g with scanning := true }) tile).setReg (R.lmpFaultMap 0 0) (fault * 256)

/-- A verdict on lamp 0. -/
def verdict (meas : Bool) (kinds : Nat) : Verdict := ⟨lamp0, meas, kinds, 0, 0, none⟩

theorem witness_LampFaults :
    (∃ (g : Fin 64) (delay : Option (Fin 32)) (records : List (List (BitVec 16))) (m : LampMap) (rs : List (List Nat)) (s : State), rs = records.map (fun row => row.map (·.toNat)) ∧ s.isTile = true ∧ s.lampMap = some m ∧ 2 ≤ s.groupState g.val ∧ (s.groupSt g.val).scanning = true ∧ (delay = none ∨ rs.length ≠ (groupDrivers m g.val).length ∨ rs.all recordGood = false)) ∧
    (∃ (g : Fin 64) (delay : Option (Fin 32)) (records : List (List (BitVec 16))) (m : LampMap) (rs : List (List Nat)) (s : State), rs = records.map (fun row => row.map (·.toNat)) ∧ s.isTile = true ∧ s.lampMap = some m ∧ 2 ≤ s.groupState g.val ∧ (s.groupSt g.val).scanning = true ∧ (delay = none ∨ rs.length ≠ (groupDrivers m g.val).length ∨ rs.all recordGood = false)) ∧
    (∃ (g : Fin 64) (delay : Option (Fin 32)) (records : List (List (BitVec 16))) (m : LampMap) (rs : List (List Nat)) (s : State) (d : Fin 32) (sc : Scan) (x : Nat × Nat) (r : List Nat) (w : Nat), rs = records.map (fun row => row.map (·.toNat)) ∧ s.isTile = true ∧ s.lampMap = some m ∧ 2 ≤ s.groupState g.val ∧ (s.groupSt g.val).scanning = true ∧ delay = some d ∧ rs.length = (groupDrivers m g.val).length ∧ rs.all recordGood = true ∧ (∀ x, x ∈ groupDrivers m g.val → x.2 < 32) ∧ sc = (groupDrivers m g.val).zip rs ∧ (x, r) ∈ sc ∧ w < 13 ∧ s.groupState g.val = 2) ∧
    (∃ (g : Fin 64) (delay : Option (Fin 32)) (records : List (List (BitVec 16))) (m : LampMap) (rs : List (List Nat)) (s : State) (d : Fin 32) (sc : Scan) (l : LampAt) (v : Verdict), rs = records.map (fun row => row.map (·.toNat)) ∧ v = s.verdictOf sc (sortBy (fun a b => decide (a.key ≤ b.key)) (s.groupLamps g.val)) l ∧ s.isTile = true ∧ s.lampMap = some m ∧ 2 ≤ s.groupState g.val ∧ (s.groupSt g.val).scanning = true ∧ delay = some d ∧ rs.length = (groupDrivers m g.val).length ∧ rs.all recordGood = true ∧ (∀ x, x ∈ groupDrivers m g.val → x.2 < 32) ∧ sc = (groupDrivers m g.val).zip rs ∧ s.groupState g.val ≠ 2 ∧ l ∈ s.groupLamps g.val ∧ (∀ x, x ∈ s.lamps → x.key = l.key → x = l) ∧ s.lamps.count l = 1 ∧ (fbConfirmed (s.faultByte l.key) = true ∨ recDead (s.lampRec l.key) = true ∨ recDisabled (s.lampRec l.key) = true)) ∧
    (∃ (g : Fin 64) (delay : Option (Fin 32)) (records : List (List (BitVec 16))) (m : LampMap) (rs : List (List Nat)) (s : State) (d : Fin 32) (sc : Scan) (l : LampAt) (v : Verdict), rs = records.map (fun row => row.map (·.toNat)) ∧ v = s.verdictOf sc (sortBy (fun a b => decide (a.key ≤ b.key)) (s.groupLamps g.val)) l ∧ s.isTile = true ∧ s.lampMap = some m ∧ 2 ≤ s.groupState g.val ∧ (s.groupSt g.val).scanning = true ∧ delay = some d ∧ rs.length = (groupDrivers m g.val).length ∧ rs.all recordGood = true ∧ (∀ x, x ∈ groupDrivers m g.val → x.2 < 32) ∧ sc = (groupDrivers m g.val).zip rs ∧ s.groupState g.val ≠ 2 ∧ l ∈ s.groupLamps g.val ∧ (∀ x, x ∈ s.lamps → x.key = l.key → x = l) ∧ s.lamps.count l = 1 ∧ fbConfirmed (s.faultByte l.key) = false ∧ recDead (s.lampRec l.key) = false ∧ recDisabled (s.lampRec l.key) = false) ∧
    (∃ (g : Fin 64) (s : State), (s.isTile = false ∨ s.groupState g.val < 2 ∨ (s.groupSt g.val).scanning = false)) ∧
    (∃ (b : Nat) (v : Verdict), b < 256 ∧ v.meas = false) ∧
    (∃ (b : Nat) (v : Verdict), b < 256 ∧ v.meas = true ∧ v.kinds = 0) ∧
    (∃ (b : Nat) (v : Verdict), b < 256 ∧ v.meas = true ∧ v.kinds ≠ 0 ∧ v.kinds < 16) ∧
    (∃ (b : Nat) (v : Verdict), b < 256 ∧ v.meas = true ∧ v.kinds ≠ 0 ∧ v.kinds < 16) ∧
    (∃ (req : Requester) (v : Word) (c : Instr) (s : State), s.mayWrite req = true ∧ (c = .strikeClear req v ∨ c = .clearAll req v ∨ c = .clearOne req v) ∧ s.live .lmp = false) ∧
    (∃ (req : Requester) (v : Word) (c : Instr) (s : State) (p : Part) (k : _), s.mayWrite req = true ∧ (c = .strikeClear req v ∨ c = .clearAll req v ∨ c = .clearOne req v) ∧ s.live .lmp = true ∧ p ≠ .cor ∧ k ≠ R.lmpFaultStatus ∧ inFaultMap k = false ∧ fieldGet v.toNat F.lmpFaultCtrl_CLEAR_ALL = 1 ∧ k < 262144) ∧
    (∃ (req : Requester) (v : Word) (c : Instr) (s : State) (k : _), s.mayWrite req = true ∧ (c = .strikeClear req v ∨ c = .clearAll req v ∨ c = .clearOne req v) ∧ s.live .lmp = true ∧ fieldGet v.toNat F.lmpFaultCtrl_CLEAR_ALL = 0 ∧ k < 262144 ∧ fieldGet v.toNat F.lmpFaultCtrl_CLEAR_ONE = 1 ∧ (fieldGet v.toNat F.lmpFaultCtrl_STRIKE_CLEAR = 0 ∨ s.flag R.lmpFaultStatus F.lmpFaultStatus_STRIKE = false)) ∧
    (∃ (req : Requester) (v : Word) (c : Instr) (s : State), s.mayWrite req = true ∧ (c = .strikeClear req v ∨ c = .clearAll req v ∨ c = .clearOne req v) ∧ s.live .lmp = true ∧ fieldGet v.toNat F.lmpFaultCtrl_STRIKE_CLEAR = 1 ∧ s.flag R.lmpFaultStatus F.lmpFaultStatus_STRIKE = true) :=
  ⟨⟨(0 : Fin 64), none, ([] : List (List (BitVec 16))), lamps, (([] : List (List (BitVec 16)))).map (fun row => row.map (·.toNat)), scanned 3 0, by first | with_reducible rfl | rfl, by decide +kernel⟩,
   ⟨(0 : Fin 64), some 3, [driverRec 0x5000#16], lamps, ([driverRec 0x5000#16]).map (fun row => row.map (·.toNat)), scanned 2 0, by first | with_reducible rfl | rfl, by decide +kernel⟩,
   ⟨(0 : Fin 64), some 3, [driverRec 0xA010#16], lamps, ([driverRec 0xA010#16]).map (fun row => row.map (·.toNat)), scanned 2 0, (3 : Fin 32), [((0, 0), (driverRec 0xA010#16).map (·.toNat))], (0, 0), (driverRec 0xA010#16).map (·.toNat), 12, by first | with_reducible rfl | rfl, by decide +kernel⟩,
   ⟨(0 : Fin 64), some 3, [driverRec 0xA010#16], lamps, ([driverRec 0xA010#16]).map (fun row => row.map (·.toNat)), scanned 3 0x91, (3 : Fin 32), [((0, 0), (driverRec 0xA010#16).map (·.toNat))], lamp1, (scanned 3 0x91).verdictOf ([((0, 0), (driverRec 0xA010#16).map (·.toNat))]) (sortBy (fun a b => decide (a.key ≤ b.key)) ((scanned 3 0x91).groupLamps ((0 : Fin 64)).val)) (lamp1), by first | with_reducible rfl | rfl, by first | with_reducible rfl | rfl, by decide +kernel⟩,
   ⟨(0 : Fin 64), some 3, [driverRec 0xA010#16], lamps, ([driverRec 0xA010#16]).map (fun row => row.map (·.toNat)), scanned 3 0x41, (3 : Fin 32), [((0, 0), (driverRec 0xA010#16).map (·.toNat))], lamp1, (scanned 3 0x41).verdictOf ([((0, 0), (driverRec 0xA010#16).map (·.toNat))]) (sortBy (fun a b => decide (a.key ≤ b.key)) ((scanned 3 0x41).groupLamps ((0 : Fin 64)).val)) (lamp1), by first | with_reducible rfl | rfl, by first | with_reducible rfl | rfl, by decide +kernel⟩,
   ⟨(0 : Fin 64), tile, by decide +kernel⟩,
   ⟨255, verdict false 3, by decide +kernel⟩,
   ⟨255, verdict true 0, by decide +kernel⟩,
   ⟨255, verdict true 15, by decide +kernel⟩,
   ⟨0x42, verdict true 3, by decide +kernel⟩,
   ⟨.mp, 1#32, .clearAll .mp 1#32, feed, by decide +kernel⟩,
   ⟨.mp, BitVec.ofNat 32 (fieldSet 0 F.lmpFaultCtrl_CLEAR_ALL 1), .clearAll .mp (BitVec.ofNat 32 (fieldSet 0 F.lmpFaultCtrl_CLEAR_ALL 1)), (scanned 3 0x91).put R.lmpFaultStatus F.lmpFaultStatus_CONFIRMED 1, .lmp, 1, by decide +kernel⟩,
   ⟨.mp, BitVec.ofNat 32 (fieldSet (fieldSet 0 F.lmpFaultCtrl_CLEAR_ONE 1) F.lmpFaultCtrl_POSITION 1), .clearOne .mp (BitVec.ofNat 32 (fieldSet (fieldSet 0 F.lmpFaultCtrl_CLEAR_ONE 1) F.lmpFaultCtrl_POSITION 1)), (scanned 3 0x91).put R.lmpFaultStatus F.lmpFaultStatus_CONFIRMED 1, 1, by decide +kernel⟩,
   ⟨.mp, BitVec.ofNat 32 (fieldSet 0 F.lmpFaultCtrl_STRIKE_CLEAR 1), .strikeClear .mp (BitVec.ofNat 32 (fieldSet 0 F.lmpFaultCtrl_STRIKE_CLEAR 1)), (scanned 3 0x91).put R.lmpFaultStatus F.lmpFaultStatus_STRIKE 1, by decide +kernel⟩⟩

/-- A paired feed unit of claim and serial against a partner that it hears. -/
def pair (cur serial partner : Nat) (hearing : List Nat) : State :=
  let s := ((feed.put R.redCtrl F.redCtrl_PAIR 1).put R.redClaim F.redClaim_CUR cur).setReg R.redPartner 9
  { (s.put R.redPartnerInfo F.redPartnerInfo_CLAIM partner) with
    red := { RedSt.reset with hearing := hearing }, fuses := { feed.fuses with serial := BitVec.ofNat 64 serial } }

/-- The small tile with two claims. -/
def twoClaims : State := { tile with red := { tile.red with claims := [⟨100, some 9, some 0, 1, true⟩, ⟨101, some 8, some 4, 2, true⟩] } }

/-- The feed unit that is not winner, with a COMMIT and another Pennant out. -/
def taking2 : State :=
  { pair 5 1 65535 [0] with pen := { feed.pen with out := [⟨1, 0x10, 0xFFF, [4], 3⟩, ⟨7, 1, 5, [4], 3⟩], nextId := 8 } }

theorem witness_Claims :
    (∃ (s : State) (l : Nat), l ∈ s.halPorts ∧ s.red.hearing.contains l = true) ∧
    (∃ (s : State) (l : Nat), l ∈ s.halPorts ∧ s.red.hearing.contains l = false ∧ s.get (R.redPort l) F.redPort_PAIRING ≠ 0) ∧
    (∃ (s : State) (p : Packet), s.isFeed = true ∧ s.flag R.redStatus F.redStatus_TIE = true ∧ s.serial < s.reg R.redPartner ∧ 1 < s.cur ∧ tieHeld p = true) ∧
    (∃ (req : Requester) (w : Word) (v : Nat) (u : State) (s : State), v = fieldGet w.toNat F.redClaim_CFG ∧ u = (s.put R.redClaim F.redClaim_CFG v).put R.redClaim F.redClaim_CUR (max 1 v) ∧ s.isTile = true ∧ s.mayWrite req = true) ∧
    (∃ (req : Requester) (w : Word) (v : Nat) (u : State) (s : State), v = fieldGet w.toNat F.redClaim_CFG ∧ u = (s.put R.redClaim F.redClaim_CFG v).put R.redClaim F.redClaim_CUR (max 1 v) ∧ s.isTile = false ∧ s.mayWrite req = true ∧ max 1 v ≠ s.cur) ∧
    (∃ (req : Requester) (w : Word) (v : Nat) (u : State) (s : State), v = fieldGet w.toNat F.redClaim_CFG ∧ u = (s.put R.redClaim F.redClaim_CFG v).put R.redClaim F.redClaim_CUR (max 1 v) ∧ s.isTile = false ∧ s.mayWrite req = true ∧ max 1 v = s.cur) ∧
    (∃ (req : Requester) (w : Word) (v : Nat) (u : State) (s : State), v = fieldGet w.toNat F.redClaim_CFG ∧ u = (s.put R.redClaim F.redClaim_CFG v).put R.redClaim F.redClaim_CUR (max 1 v) ∧ s.isTile = false ∧ s.mayWrite req = true ∧ max 1 v = s.cur) ∧
    (∃ (s : State) (p : PennantOut), s.isFeed = true ∧ s.paired = true ∧ s.hears = true ∧ s.unitWins = false ∧ p ∈ s.pen.out ∧ p.type ≠ 0x10 ∧ p.type ≠ 0x11) ∧
    (∃ (s : State) (i : Nat) (p : PennantOut), s.isFeed = true ∧ s.paired = true ∧ s.hears = true ∧ s.unitWins = false ∧ (s.pen.out.filter fun p => p.type == 0x10 || p.type == 0x11)[i]? = some p) ∧
    (∃ (s : State) (p : PennantOut), s.isFeed = true ∧ s.paired = true ∧ s.hears = true ∧ s.unitWins = false ∧ p ∈ (after .takeover s).pen.out ∧ (p.type = 0x10 ∨ p.type = 0x11)) ∧
    (∃ (s : State) (l : _), s.isFeed = true ∧ s.paired = true ∧ s.hears = true ∧ s.unitWins = false ∧ l ∈ s.halPorts) ∧
    (∃ (s : State), (s.isFeed = false ∨ s.paired = false ∨ s.hears = false ∨ s.unitWins = true)) ∧
    (∃ (s : State), (s.isFeed = false ∨ s.paired = false ∨ s.hears = false ∨ s.unitWins = true)) ∧
    (∃ (l : Fin 96) (s : State), s.red.hearing.contains l.val = false) ∧
    (∃ (l : Fin 96) (s : State), s.red.hearing.contains l.val = true ∧ s.red.hearing.all (· == l.val) = true ∧ s.isFeed = true ∧ s.paired = true ∧ s.unitWins = false) ∧
    (∃ (l : Fin 96) (s : State), s.red.hearing.contains l.val = true ∧ (s.red.hearing.all (· == l.val) = false ∨ s.unitWins = true ∨ s.isFeed = false) ∧ l.val ∈ s.halPorts ∧ s.get (R.redPort l.val) F.redPort_PAIRING ≠ 0) ∧
    (∃ (s : State) (w : ClaimEntry) (e : ClaimEntry), s.claimWinner = some w ∧ e ∈ s.red.claims ∧ e.live = true) ∧
    (∃ (s : State) (w : ClaimEntry) (e : ClaimEntry), s.claimWinner = some w ∧ e ∈ s.red.claims ∧ e.live = true ∧ e.claim = w.claim) ∧
    (∃ (s : State), s.isTile = false) ∧
    (∃ (c : BitVec 16) (s : State) (w : ClaimEntry) (a : ClaimEntry) (b : ClaimEntry), s.isTile = true ∧ (after (.claimAgeOut c) s).claimWinner = some w ∧ w.claim < 65536 ∧ (s.red.claims = [a, b] ∨ s.red.claims = [b, a]) ∧ a.claim = c.toNat ∧ b.claim ≠ c.toNat ∧ b.live = true) ∧
    (∃ (c : BitVec 16) (s : State), s.isTile = true ∧ (after (.claimAgeOut c) s).claimWinner = none) ∧
    (∃ (req : Requester) (v : Word) (x : BitVec 64) (y : BitVec 96) (c : Instr) (s : State), s.isTile = true ∧ s.mayWrite req = false ∧ s.claimOf req ≠ none ∧ ((c ∈ ([.rstCmdWrite req v, .wdtKick req v, .fwRevert req v, .mbxSubmit req v, .mbxRelease req v, .spdmRelayGo req v, .topCommit req v, .timeRefWrite req v, .rearm req v, .setGo req v, .slewPpmWrite req v, .ptpCfgWrite req v, .alignOriginWrite req y, .timeModeCommit req v, .trigSwPulse req v, .queueEnable req v, .queueDisable req v, .qmConsume req x, .dscWalkPort req v, .dscWalkAll req v, .dscRelease req v, .calApply req v, .forceBlank req v, .rescan req v, .lmpClkWrite req v, .strikeClear req v, .clearAll req v, .clearOne req v, .sagLoopEnable req v, .claimCfgWrite req v, .clpCreate req v, .clpDelete req v, .clpFormat req v, .capCommand req v] : List Instr)) ∨ (∃ f : Option FwImage, c = .fwVerify req v f ∨ c = .fwStage req v f) ∨ (∃ f : Option ForjoImage, c = .imageVerify req v f ∨ c = .imageStage req v f ∨ c = .loadNow req v f) ∨ (∃ (o : BitVec 26) (w : AccessWidth) (vs : List Word), c = .registerWrite req o w v ∨ c = .multiwordWrite req o vs ∨ c = .shadowWrite req o v) ∨ (∃ n, c = .frameFence req n v) ∨ (∃ n, c = .filterEnable req n v) ∨ (∃ n, c = .idrRequest req n v) ∨ (∃ n, c = .refmodeWrite req n v) ∨ (∃ n, c = .evtRingBindWrite req n v) ∨ (∃ n, c = .dmaRun req n v ∨ c = .dmaStop req n v ∨ c = .dmaReset req n v ∨ c = .dmaResetSkip req n v) ∨ (∃ q l e, c = .cmpLutWrite req q l e v) ∨ (∃ q a b t, c = .sclCoefWrite req q a b t v) ∨ (∃ q w, c = .lampRecordWrite req q w v) ∨ (∃ b k e, c = .corEotfWrite req b k e v) ∨ (∃ l, c = .laneRetrain req l v ∨ c = .laneDisable req l v ∨ c = .adaptFreeze req l v ∨ c = .laneTestEnable req l v ∨ c = .testExit req l v ∨ c = .inject req l v ∨ c = .slip req l v ∨ c = .prbsClear req l v))) ∧
    (∃ (req : Requester) (v : Word) (x : BitVec 64) (y : BitVec 96) (c : Instr) (s : State), s.isTile = true ∧ s.mayWrite req = false ∧ s.claimOf req ≠ none ∧ ((c ∈ ([.rstCmdWrite req v, .wdtKick req v, .fwRevert req v, .mbxSubmit req v, .mbxRelease req v, .spdmRelayGo req v, .topCommit req v, .timeRefWrite req v, .rearm req v, .setGo req v, .slewPpmWrite req v, .ptpCfgWrite req v, .alignOriginWrite req y, .timeModeCommit req v, .trigSwPulse req v, .queueEnable req v, .queueDisable req v, .qmConsume req x, .dscWalkPort req v, .dscWalkAll req v, .dscRelease req v, .calApply req v, .forceBlank req v, .rescan req v, .lmpClkWrite req v, .strikeClear req v, .clearAll req v, .clearOne req v, .sagLoopEnable req v, .claimCfgWrite req v, .clpCreate req v, .clpDelete req v, .clpFormat req v, .capCommand req v] : List Instr)) ∨ (∃ f : Option FwImage, c = .fwVerify req v f ∨ c = .fwStage req v f) ∨ (∃ f : Option ForjoImage, c = .imageVerify req v f ∨ c = .imageStage req v f ∨ c = .loadNow req v f) ∨ (∃ (o : BitVec 26) (w : AccessWidth) (vs : List Word), c = .registerWrite req o w v ∨ c = .multiwordWrite req o vs ∨ c = .shadowWrite req o v) ∨ (∃ n, c = .frameFence req n v) ∨ (∃ n, c = .filterEnable req n v) ∨ (∃ n, c = .idrRequest req n v) ∨ (∃ n, c = .refmodeWrite req n v) ∨ (∃ n, c = .evtRingBindWrite req n v) ∨ (∃ n, c = .dmaRun req n v ∨ c = .dmaStop req n v ∨ c = .dmaReset req n v ∨ c = .dmaResetSkip req n v) ∨ (∃ q l e, c = .cmpLutWrite req q l e v) ∨ (∃ q a b t, c = .sclCoefWrite req q a b t v) ∨ (∃ q w, c = .lampRecordWrite req q w v) ∨ (∃ b k e, c = .corEotfWrite req b k e v) ∨ (∃ l, c = .laneRetrain req l v ∨ c = .laneDisable req l v ∨ c = .adaptFreeze req l v ∨ c = .laneTestEnable req l v ∨ c = .testExit req l v ∨ c = .inject req l v ∨ c = .slip req l v ∨ c = .prbsClear req l v))) :=
  ⟨⟨pair 5 1 5 [0], 0, by decide +kernel⟩,
   ⟨(pair 5 1 5 [4]).put (R.redPort 0) F.redPort_PAIRING 1, 0, by decide +kernel⟩,
   ⟨(pair 2 1 2 [0]).put R.redStatus F.redStatus_TIE 1, makePacket 5 1 0xFFF 1 0xFFF 2 1 0 0 0 false true [], by decide +kernel⟩,
   ⟨.mp, 7#32, fieldGet (7#32).toNat F.redClaim_CFG, ((tile).put R.redClaim F.redClaim_CFG (fieldGet (7#32).toNat F.redClaim_CFG)).put R.redClaim F.redClaim_CUR (max 1 (fieldGet (7#32).toNat F.redClaim_CFG)), tile, by first | with_reducible rfl | rfl, by first | with_reducible rfl | rfl, by decide +kernel⟩,
   ⟨.mp, 0x10000#32, fieldGet (0x10000#32).toNat F.redClaim_CFG, ((pair 5 1 3 [0]).put R.redClaim F.redClaim_CFG (fieldGet (0x10000#32).toNat F.redClaim_CFG)).put R.redClaim F.redClaim_CUR (max 1 (fieldGet (0x10000#32).toNat F.redClaim_CFG)), pair 5 1 3 [0], by first | with_reducible rfl | rfl, by first | with_reducible rfl | rfl, by decide +kernel⟩,
   ⟨.mp, 5#32, fieldGet (5#32).toNat F.redClaim_CFG, ((pair 5 1 3 [0]).put R.redClaim F.redClaim_CFG (fieldGet (5#32).toNat F.redClaim_CFG)).put R.redClaim F.redClaim_CUR (max 1 (fieldGet (5#32).toNat F.redClaim_CFG)), pair 5 1 3 [0], by first | with_reducible rfl | rfl, by first | with_reducible rfl | rfl, by decide +kernel⟩,
   ⟨.mp, 0#32, fieldGet (0#32).toNat F.redClaim_CFG, ((pair 1 1 3 [0]).put R.redClaim F.redClaim_CFG (fieldGet (0#32).toNat F.redClaim_CFG)).put R.redClaim F.redClaim_CUR (max 1 (fieldGet (0#32).toNat F.redClaim_CFG)), pair 1 1 3 [0], by first | with_reducible rfl | rfl, by first | with_reducible rfl | rfl, by decide +kernel⟩,
   ⟨taking2, PennantOut.mk 7 1 5 [4] 3, by decide +kernel⟩,
   ⟨taking2, 0, PennantOut.mk 1 0x10 0xFFF [4] 3, by decide +kernel⟩,
   ⟨taking2, PennantOut.mk 8 0x10 0xFFF [4] 0, by decide +kernel⟩,
   ⟨taking2, 4, by decide +kernel⟩,
   ⟨pair 6 1 5 [0], by decide +kernel⟩,
   ⟨pair 6 1 7 [], by decide +kernel⟩,
   ⟨(4 : Fin 96), pair 6 1 7 [0], by decide +kernel⟩,
   ⟨(0 : Fin 96), pair 6 1 7 [0], by decide +kernel⟩,
   ⟨(0 : Fin 96), (pair 6 1 7 [0, 4]).put (R.redPort 0) F.redPort_PAIRING 1, by decide +kernel⟩,
   ⟨twoClaims, ⟨101, some 8, some 4, 2, true⟩, ⟨100, some 9, some 0, 1, true⟩, by decide +kernel⟩,
   ⟨{ tile with red := { tile.red with claims := [⟨101, some 9, some 0, 1, true⟩, ⟨101, some 8, some 4, 2, true⟩] } }, ⟨101, some 9, some 0, 1, true⟩, ⟨101, some 8, some 4, 2, true⟩, by decide +kernel⟩,
   ⟨feed, by decide +kernel⟩,
   ⟨101#16, twoClaims, ⟨100, some 9, some 0, 1, true⟩, ⟨101, some 8, some 4, 2, true⟩, ⟨100, some 9, some 0, 1, true⟩, by decide +kernel⟩,
   ⟨100#16, tile, by decide +kernel⟩,
   ⟨.claim0, 0#32, 0#64, 0#96, .rstCmdWrite .claim0 0#32, twoClaims, by decide +kernel, by decide +kernel, by decide +kernel, Or.inl (by simp)⟩,
   ⟨.claim0, 0#32, 0#64, 0#96, .laneDisable .claim0 0 0#32, twoClaims, by decide +kernel, by decide +kernel, by decide +kernel, by simp⟩⟩

/-- A decode stream in a state with an access unit of source 0 waiting. -/
def decoding (st : Nat) (f : DecSt → DecSt) : State :=
  let s := (withSrc (fun x => { x with hevc := { x.hevc with done := [[1, 2]] } }) (sourced 1 1)).put (R.cdcDecStatus 0) F.cdcDecStatus_STATE st
  s.setDec (f (s.dec 0))

/-- What is left when the access unit is taken. -/
def taken (st : Nat) (f : DecSt → DecSt) : State := ((decoding st f).takeUnit 0 0).getD feed

/-- An access unit that decodes without an error and outputs nothing. -/
def unit1 : AccessUnit := ⟨1, true, true, 2#5, 120#8, 1#2, 8#5, false, false, true, false, 0, []⟩

/-- An encode stream in force in a mode, with queue 3 enabled. -/
def encoding (mode : Nat) (f : EncSt → EncSt) : State :=
  let rf := [(R.cdcEncCtrl 0, 1 + mode * 2), (R.cdcEncRc 0, 3 * 4096 + 2 * 2 ^ 24), (R.cdcEncOut 0, 14 + 2 * 4096 + 3 * 2 ^ 36),
    (R.cdcEncMaxbits 0, 8), (R.cmpWbSize, 2 + 2 * 65536), (R.cmpWbRing, 4096), (R.cmpWbStride, 1 + 65536)].foldl (fun r e => sWrite regReset r e.1 e.2) (source 2 canvas)
  let s := withQueue 3 (fun x => { x with enabled := true, sizeLog2 := 8, base := 2 ^ 20 }) { locked with active := rf }
  s.setEnc (f (s.enc 0))

/-- The same with stream 0 due to start. -/
def starting (mode : Nat) (f : EncSt → EncSt) : State :=
  let s := encoding mode f
  { s with cdc := { s.cdc with due := [0] } }

/-- A picture of two rows being coded. -/
def coding : EncRun := ⟨5, 216000, 0, true, 100, false, (64, 32), false, 7, false, false, ⟨2, 2, 0, [1, 2, 3, 4], [5], [6]⟩⟩

/-- What coding it gives. -/
def coded : CodedPic := ⟨[1#8, 2#8], List.replicate 30 9#8, [90, 10], 40#8, false⟩

theorem witness_Codec_1 :
    (∃ (d : Fin 16) (i : Nat) (s : State), s.live .cdc = true ∧ s.rst.inReset = false ∧ decodeSource s.active d.val = some i ∧ s.takeUnit d.val i = none) ∧
    (∃ (d : Fin 16) (i : Nat) (s : State) (u : State), s.live .cdc = true ∧ s.rst.inReset = false ∧ decodeSource s.active d.val = some i ∧ s.takeUnit d.val i = some u ∧ (u.decState d.val = 0 ∨ (u.dec d.val).stopped = true)) ∧
    (∃ (d : Fin 16) (i : Nat) (s : State) (u : State), s.live .cdc = true ∧ s.rst.inReset = false ∧ decodeSource s.active d.val = some i ∧ s.takeUnit d.val i = some u ∧ (u.decState d.val = 0 ∨ (u.dec d.val).stopped = true)) ∧
    (∃ (d : Fin 16) (au : AccessUnit) (i : Nat) (s : State) (u : State), s.live .cdc = true ∧ s.rst.inReset = false ∧ decodeSource s.active d.val = some i ∧ s.takeUnit d.val i = some u ∧ u.decState d.val ≠ 0 ∧ (u.dec d.val).stopped = false ∧ au.spsRefused = true ∧ (au.irap = true ∨ u.decState d.val = 2)) ∧
    (∃ (d : Fin 16) (au : AccessUnit) (i : Nat) (s : State) (u : State), s.live .cdc = true ∧ s.rst.inReset = false ∧ decodeSource s.active d.val = some i ∧ s.takeUnit d.val i = some u ∧ u.decState d.val ≠ 0 ∧ (u.dec d.val).stopped = false ∧ au.spsRefused = true ∧ (au.irap = true ∨ u.decState d.val = 2)) ∧
    (∃ (d : Fin 16) (au : AccessUnit) (i : Nat) (s : State) (u : State), s.live .cdc = true ∧ s.rst.inReset = false ∧ decodeSource s.active d.val = some i ∧ s.takeUnit d.val i = some u ∧ u.decState d.val = 2 ∧ (u.dec d.val).stopped = false ∧ au.spsRefused = false ∧ au.setsOk = false) ∧
    (∃ (d : Fin 16) (au : AccessUnit) (i : Nat) (s : State) (u : State), s.live .cdc = true ∧ s.rst.inReset = false ∧ decodeSource s.active d.val = some i ∧ s.takeUnit d.val i = some u ∧ (u.decState d.val = 1 ∨ u.decState d.val = 3) ∧ (u.dec d.val).stopped = false ∧ (au.irap = false ∨ (au.spsRefused = false ∧ au.setsOk = false))) ∧
    (∃ (d : Fin 16) (au : AccessUnit) (i : Nat) (s : State) (u : State), s.live .cdc = true ∧ s.rst.inReset = false ∧ decodeSource s.active d.val = some i ∧ s.takeUnit d.val i = some u ∧ (u.decState d.val = 1 ∨ u.decState d.val = 3) ∧ (u.dec d.val).stopped = false ∧ (au.irap = false ∨ (au.spsRefused = false ∧ au.setsOk = false))) ∧
    (∃ (d : Fin 16) (au : AccessUnit) (i : Nat) (s : State) (u : State) (conceal : Bool) (shown : Bool), s.live .cdc = true ∧ s.rst.inReset = false ∧ decodeSource s.active d.val = some i ∧ s.takeUnit d.val i = some u ∧ (u.dec d.val).stopped = false ∧ au.spsRefused = false ∧ au.setsOk = true ∧ (u.decState d.val = 2 ∨ (u.decState d.val ≠ 0 ∧ au.irap = true)) ∧ conceal = ((!au.irap && (u.dec d.val).conceal) || au.refMissing || decide (0 < au.badSlices)) ∧ shown = (au.outputFlag && !(au.rasl && !au.irap && (u.dec d.val).first)) ∧ u.decState d.val ≠ 2 ∧ au.outputs = [] ∧ shown = true) ∧
    (∃ (d : Fin 16) (au : AccessUnit) (i : Nat) (s : State) (u : State) (conceal : Bool) (shown : Bool), s.live .cdc = true ∧ s.rst.inReset = false ∧ decodeSource s.active d.val = some i ∧ s.takeUnit d.val i = some u ∧ (u.dec d.val).stopped = false ∧ au.spsRefused = false ∧ au.setsOk = true ∧ (u.decState d.val = 2 ∨ (u.decState d.val ≠ 0 ∧ au.irap = true)) ∧ conceal = ((!au.irap && (u.dec d.val).conceal) || au.refMissing || decide (0 < au.badSlices)) ∧ shown = (au.outputFlag && !(au.rasl && !au.irap && (u.dec d.val).first)) ∧ au.outputs = [] ∧ shown = true) ∧
    (∃ (d : Fin 16) (au : AccessUnit) (i : Nat) (s : State) (u : State) (conceal : Bool) (shown : Bool), s.live .cdc = true ∧ s.rst.inReset = false ∧ decodeSource s.active d.val = some i ∧ s.takeUnit d.val i = some u ∧ (u.dec d.val).stopped = false ∧ au.spsRefused = false ∧ au.setsOk = true ∧ (u.decState d.val = 2 ∨ (u.decState d.val ≠ 0 ∧ au.irap = true)) ∧ conceal = ((!au.irap && (u.dec d.val).conceal) || au.refMissing || decide (0 < au.badSlices)) ∧ shown = (au.outputFlag && !(au.rasl && !au.irap && (u.dec d.val).first)) ∧ au.outputs = []) ∧
    (∃ (d : Fin 16) (au : AccessUnit) (i : Nat) (s : State) (u : State) (conceal : Bool) (shown : Bool), s.live .cdc = true ∧ s.rst.inReset = false ∧ decodeSource s.active d.val = some i ∧ s.takeUnit d.val i = some u ∧ (u.dec d.val).stopped = false ∧ au.spsRefused = false ∧ au.setsOk = true ∧ (u.decState d.val = 2 ∨ (u.decState d.val ≠ 0 ∧ au.irap = true)) ∧ conceal = ((!au.irap && (u.dec d.val).conceal) || au.refMissing || decide (0 < au.badSlices)) ∧ shown = (au.outputFlag && !(au.rasl && !au.irap && (u.dec d.val).first)) ∧ au.outputs = [] ∧ shown = true) ∧
    (∃ (d : Fin 16) (s : State), (s.live .cdc = false ∨ s.rst.inReset = true ∨ decodeSource s.active d.val = none)) ∧
    (∃ (row : List Nat) (i : Nat), i < row.length / 2) ∧
    (∃ (row : List Nat) (i : Nat), i < row.length / 2) ∧
    (∃ (rows : List (List Nat)) (j : Nat) (i : Nat) (a : Nat) (b : Nat), (rows.getD (2 * j) [])[i]? = some a ∧ (rows.getD (2 * j + 1) [])[i]? = some b) ∧
    (∃ (v : Nat), v < 256) ∧
    (∃ (v : Nat), v < 1024) ∧
    (∃ (e : Fin 8) (s : State), e.val ∉ s.cdc.due) ∧
    (∃ (e : Fin 8) (s : State), e.val ∈ s.cdc.due ∧ (s.live .cdc = false ∨ s.rst.inReset = true ∨ (s.encNow e.val).en = false)) ∧
    (∃ (e : Fin 8) (c : EncCfg) (x : EncSt) (y : EncSt) (v : State) (s : State), v = { s with cdc := { s.cdc with due := s.cdc.due.erase e.val } } ∧ c = s.encNow e.val ∧ x = s.enc e.val ∧ y = { x with stopped := false, idrReq := x.idrReq || x.stopped } ∧ e.val ∈ s.cdc.due ∧ s.live .cdc = true ∧ s.rst.inReset = false ∧ c.en = true ∧ shedStops s.shed c.mode = true ∧ x.stopped = false) ∧
    (∃ (e : Fin 8) (c : EncCfg) (x : EncSt) (y : EncSt) (v : State) (s : State), v = { s with cdc := { s.cdc with due := s.cdc.due.erase e.val } } ∧ c = s.encNow e.val ∧ x = s.enc e.val ∧ y = { x with stopped := false, idrReq := x.idrReq || x.stopped } ∧ e.val ∈ s.cdc.due ∧ s.live .cdc = true ∧ s.rst.inReset = false ∧ c.en = true ∧ shedStops s.shed c.mode = true ∧ x.stopped = true) ∧
    (∃ (e : Fin 8) (c : EncCfg) (x : EncSt) (y : EncSt) (v : State) (s : State), v = { s with cdc := { s.cdc with due := s.cdc.due.erase e.val } } ∧ c = s.encNow e.val ∧ x = s.enc e.val ∧ y = { x with stopped := false, idrReq := x.idrReq || x.stopped } ∧ e.val ∈ s.cdc.due ∧ s.live .cdc = true ∧ s.rst.inReset = false ∧ c.en = true ∧ shedStops s.shed c.mode = false ∧ s.encInput e.val = none) ∧
    (∃ (e : Fin 8) (c : EncCfg) (x : EncSt) (y : EncSt) (v : State) (s : State) (inp : EncInput), v = { s with cdc := { s.cdc with due := s.cdc.due.erase e.val } } ∧ c = s.encNow e.val ∧ x = s.enc e.val ∧ y = { x with stopped := false, idrReq := x.idrReq || x.stopped } ∧ e.val ∈ s.cdc.due ∧ s.live .cdc = true ∧ s.rst.inReset = false ∧ c.en = true ∧ shedStops s.shed c.mode = false ∧ s.encInput e.val = some inp ∧ (x.run.isSome = true ∨ x.skipNext = true)) :=
  ⟨⟨(0 : Fin 16), 0, sourced 1 1, by decide +kernel⟩,
   ⟨(0 : Fin 16), 0, decoding 0 id, taken 0 id, by decide +kernel⟩,
   ⟨(0 : Fin 16), 0, decoding 2 (fun x => { x with stopped := true }), taken 2 (fun x => { x with stopped := true }), by decide +kernel⟩,
   ⟨(0 : Fin 16), { unit1 with profile := 3#5 }, 0, decoding 1 id, taken 1 id, by decide +kernel⟩,
   ⟨(0 : Fin 16), { unit1 with profile := 3#5, irap := false }, 0, decoding 2 id, taken 2 id, by decide +kernel⟩,
   ⟨(0 : Fin 16), { unit1 with setsOk := false }, 0, decoding 2 id, taken 2 id, by decide +kernel⟩,
   ⟨(0 : Fin 16), { unit1 with irap := false, profile := 3#5 }, 0, decoding 3 id, taken 3 id, by decide +kernel⟩,
   ⟨(0 : Fin 16), { unit1 with setsOk := false }, 0, decoding 1 id, taken 1 id, by decide +kernel⟩,
   ⟨(0 : Fin 16), unit1, 0, decoding 3 id, taken 3 id, false, true, by decide +kernel⟩,
   ⟨(0 : Fin 16), { unit1 with irap := false, badSlices := 300 }, 0, decoding 2 id, taken 2 id, true, true, by decide +kernel⟩,
   ⟨(0 : Fin 16), { unit1 with irap := false, refMissing := true, rasl := true }, 0, decoding 2 (fun x => { x with first := true }), taken 2 (fun x => { x with first := true }), true, false, by decide +kernel⟩,
   ⟨(0 : Fin 16), { unit1 with irap := false }, 0, decoding 2 (fun x => { x with conceal := true }), taken 2 (fun x => { x with conceal := true }), true, true, by decide +kernel⟩,
   ⟨(15 : Fin 16), sourced 1 1, by decide +kernel⟩,
   ⟨[1, 5, 9, 2, 7], 1, by decide +kernel⟩,
   ⟨[1, 5, 9, 2], 0, by decide +kernel⟩,
   ⟨[[1, 2], [3, 5], [7, 8], [9, 11]], 1, 1, 8, 11, by decide +kernel⟩,
   ⟨255, by decide +kernel⟩,
   ⟨1023, by decide +kernel⟩,
   ⟨(0 : Fin 8), encoding 0 id, by decide +kernel⟩,
   ⟨(1 : Fin 8), { starting 0 id with cdc := { (starting 0 id).cdc with due := [1] } }, by decide +kernel⟩,
   ⟨(0 : Fin 8), ((starting 2 id).put R.thmStatus F.thmStatus_SHED 1).encNow ((0 : Fin 8)).val, ((starting 2 id).put R.thmStatus F.thmStatus_SHED 1).enc ((0 : Fin 8)).val, { (((starting 2 id).put R.thmStatus F.thmStatus_SHED 1).enc ((0 : Fin 8)).val) with stopped := false, idrReq := (((starting 2 id).put R.thmStatus F.thmStatus_SHED 1).enc ((0 : Fin 8)).val).idrReq || (((starting 2 id).put R.thmStatus F.thmStatus_SHED 1).enc ((0 : Fin 8)).val).stopped }, { ((starting 2 id).put R.thmStatus F.thmStatus_SHED 1) with cdc := { ((starting 2 id).put R.thmStatus F.thmStatus_SHED 1).cdc with due := ((starting 2 id).put R.thmStatus F.thmStatus_SHED 1).cdc.due.erase ((0 : Fin 8)).val } }, (starting 2 id).put R.thmStatus F.thmStatus_SHED 1, by first | with_reducible rfl | rfl, by first | with_reducible rfl | rfl, by first | with_reducible rfl | rfl, by first | with_reducible rfl | rfl, by decide +kernel⟩,
   ⟨(0 : Fin 8), ((starting 0 (fun x => { x with stopped := true })).put R.thmStatus F.thmStatus_SHED 2).encNow ((0 : Fin 8)).val, ((starting 0 (fun x => { x with stopped := true })).put R.thmStatus F.thmStatus_SHED 2).enc ((0 : Fin 8)).val, { (((starting 0 (fun x => { x with stopped := true })).put R.thmStatus F.thmStatus_SHED 2).enc ((0 : Fin 8)).val) with stopped := false, idrReq := (((starting 0 (fun x => { x with stopped := true })).put R.thmStatus F.thmStatus_SHED 2).enc ((0 : Fin 8)).val).idrReq || (((starting 0 (fun x => { x with stopped := true })).put R.thmStatus F.thmStatus_SHED 2).enc ((0 : Fin 8)).val).stopped }, { ((starting 0 (fun x => { x with stopped := true })).put R.thmStatus F.thmStatus_SHED 2) with cdc := { ((starting 0 (fun x => { x with stopped := true })).put R.thmStatus F.thmStatus_SHED 2).cdc with due := ((starting 0 (fun x => { x with stopped := true })).put R.thmStatus F.thmStatus_SHED 2).cdc.due.erase ((0 : Fin 8)).val } }, (starting 0 (fun x => { x with stopped := true })).put R.thmStatus F.thmStatus_SHED 2, by first | with_reducible rfl | rfl, by first | with_reducible rfl | rfl, by first | with_reducible rfl | rfl, by first | with_reducible rfl | rfl, by decide +kernel⟩,
   ⟨(0 : Fin 8), (starting 2 (fun x => { x with stopped := true })).encNow ((0 : Fin 8)).val, (starting 2 (fun x => { x with stopped := true })).enc ((0 : Fin 8)).val, { ((starting 2 (fun x => { x with stopped := true })).enc ((0 : Fin 8)).val) with stopped := false, idrReq := ((starting 2 (fun x => { x with stopped := true })).enc ((0 : Fin 8)).val).idrReq || ((starting 2 (fun x => { x with stopped := true })).enc ((0 : Fin 8)).val).stopped }, { (starting 2 (fun x => { x with stopped := true })) with cdc := { (starting 2 (fun x => { x with stopped := true })).cdc with due := (starting 2 (fun x => { x with stopped := true })).cdc.due.erase ((0 : Fin 8)).val } }, starting 2 (fun x => { x with stopped := true }), by first | with_reducible rfl | rfl, by first | with_reducible rfl | rfl, by first | with_reducible rfl | rfl, by first | with_reducible rfl | rfl, by decide +kernel⟩,
   ⟨(0 : Fin 8), (starting 0 (fun x => { x with skipNext := true })).encNow ((0 : Fin 8)).val, (starting 0 (fun x => { x with skipNext := true })).enc ((0 : Fin 8)).val, { ((starting 0 (fun x => { x with skipNext := true })).enc ((0 : Fin 8)).val) with stopped := false, idrReq := ((starting 0 (fun x => { x with skipNext := true })).enc ((0 : Fin 8)).val).idrReq || ((starting 0 (fun x => { x with skipNext := true })).enc ((0 : Fin 8)).val).stopped }, { (starting 0 (fun x => { x with skipNext := true })) with cdc := { (starting 0 (fun x => { x with skipNext := true })).cdc with due := (starting 0 (fun x => { x with skipNext := true })).cdc.due.erase ((0 : Fin 8)).val } }, starting 0 (fun x => { x with skipNext := true }), (encoding 0 id).wbInput, by first | with_reducible rfl | rfl, by first | with_reducible rfl | rfl, by first | with_reducible rfl | rfl, by first | with_reducible rfl | rfl, by decide +kernel⟩⟩

theorem witness_Codec_2 :
    (∃ (e : Fin 8) (c : EncCfg) (x : EncSt) (y : EncSt) (v : State) (s : State) (inp : EncInput), v = { s with cdc := { s.cdc with due := s.cdc.due.erase e.val } } ∧ c = s.encNow e.val ∧ x = s.enc e.val ∧ y = { x with stopped := false, idrReq := x.idrReq || x.stopped } ∧ e.val ∈ s.cdc.due ∧ s.live .cdc = true ∧ s.rst.inReset = false ∧ c.en = true ∧ shedStops s.shed c.mode = false ∧ s.encInput e.val = some inp ∧ (x.run.isSome = true ∨ x.skipNext = true)) ∧
    (∃ (e : Fin 8) (c : EncCfg) (x : EncSt) (y : EncSt) (v : State) (s : State) (inp : EncInput), v = { s with cdc := { s.cdc with due := s.cdc.due.erase e.val } } ∧ c = s.encNow e.val ∧ x = s.enc e.val ∧ y = { x with stopped := false, idrReq := x.idrReq || x.stopped } ∧ e.val ∈ s.cdc.due ∧ s.live .cdc = true ∧ s.rst.inReset = false ∧ c.en = true ∧ shedStops s.shed c.mode = false ∧ s.encInput e.val = some inp ∧ x.run = none ∧ x.skipNext = false ∧ s.encSpace c y (encBudget c x.bits) = false) ∧
    (∃ (e : Fin 8) (c : EncCfg) (x : EncSt) (y : EncSt) (v : State) (s : State) (inp : EncInput), v = { s with cdc := { s.cdc with due := s.cdc.due.erase e.val } } ∧ c = s.encNow e.val ∧ x = s.enc e.val ∧ y = { x with stopped := false, idrReq := x.idrReq || x.stopped } ∧ e.val ∈ s.cdc.due ∧ s.live .cdc = true ∧ s.rst.inReset = false ∧ c.en = true ∧ shedStops s.shed c.mode = false ∧ s.encInput e.val = some inp ∧ x.run = none ∧ x.skipNext = false ∧ s.encSpace c y (encBudget c x.bits) = false) ∧
    (∃ (e : Fin 8) (c : EncCfg) (x : EncSt) (y : EncSt) (v : State) (s : State) (inp : EncInput), v = { s with cdc := { s.cdc with due := s.cdc.due.erase e.val } } ∧ c = s.encNow e.val ∧ x = s.enc e.val ∧ y = { x with stopped := false, idrReq := x.idrReq || x.stopped } ∧ e.val ∈ s.cdc.due ∧ s.live .cdc = true ∧ s.rst.inReset = false ∧ c.en = true ∧ shedStops s.shed c.mode = false ∧ s.encInput e.val = some inp ∧ x.run = none ∧ x.skipNext = false ∧ s.encSpace c y (encBudget c x.bits) = true) ∧
    (∃ (c : EncCfg) (bits : List Nat), bits.length < c.window) ∧
    (∃ (req : Requester) (e : Fin 8) (v : Word) (s : State) (o : Nat), s.mayWrite req = true ∧ s.live .cdc = true ∧ fieldGet v.toNat F.cdcEncCmd_IDR = 1 ∧ o ≠ e.val) ∧
    (∃ (req : Requester) (v : Word) (s : State), s.mayWrite req = true ∧ s.live .cdc = true ∧ fieldGet v.toNat F.cdcEncCmd_IDR = 0) ∧
    (∃ (req : Requester) (s : State), s.mayWrite req = true ∧ s.live .cdc = false) ∧
    (∃ (e : Fin 8) (r : EncRun) (s : State), s.live .cdc = true ∧ (s.enc e.val).run = some r ∧ r.late = false) ∧
    (∃ (e : Fin 8) (r : EncRun) (s : State), s.live .cdc = true ∧ (s.enc e.val).run = some r ∧ r.late = true) ∧
    (∃ (e : Fin 8) (s : State), (s.enc e.val).run = none) ∧
    (∃ (e : Fin 8) (pic : CodedPic) (r : EncRun) (c : EncCfg) (at_ : Nat) (au : List Nat) (full : Bool) (s : State) (i : Nat), c = s.encNow e.val ∧ at_ = (s.enc e.val).wpos % 2 ^ c.log2 ∧ au = pic.head.map (·.toNat) ++ (if c.mode = 0 then s.seiUnit r (nextChain (s.enc e.val)) else []) ++ pic.body.map (·.toNat) ∧ full = rowsExhausted pic.rowBits (ceilDiv r.input.width 64) r.budget ∧ s.live .cdc = true ∧ s.rst.inReset = false ∧ (s.enc e.val).run = some r ∧ i < au.length ∧ au.length ≤ 2 ^ c.log2 ∧ c.base + 2 ^ c.log2 ≤ s.memSize ∧ 6 ≤ c.log2 ∧ full = true ∧ r.budget < 8 * au.length) ∧
    (∃ (e : Fin 8) (pic : CodedPic) (r : EncRun) (c : EncCfg) (at_ : Nat) (au : List Nat) (full : Bool) (s : State) (a : Nat), c = s.encNow e.val ∧ at_ = (s.enc e.val).wpos % 2 ^ c.log2 ∧ au = pic.head.map (·.toNat) ++ (if c.mode = 0 then s.seiUnit r (nextChain (s.enc e.val)) else []) ++ pic.body.map (·.toNat) ∧ full = rowsExhausted pic.rowBits (ceilDiv r.input.width 64) r.budget ∧ s.live .cdc = true ∧ s.rst.inReset = false ∧ (s.enc e.val).run = some r ∧ (a < c.base ∨ c.base + 2 ^ c.log2 ≤ a) ∧ au.length ≤ 2 ^ c.log2 ∧ 6 ≤ c.log2) :=
  ⟨⟨(0 : Fin 8), (starting 1 (fun x => { x with run := some coding })).encNow ((0 : Fin 8)).val, (starting 1 (fun x => { x with run := some coding })).enc ((0 : Fin 8)).val, { ((starting 1 (fun x => { x with run := some coding })).enc ((0 : Fin 8)).val) with stopped := false, idrReq := ((starting 1 (fun x => { x with run := some coding })).enc ((0 : Fin 8)).val).idrReq || ((starting 1 (fun x => { x with run := some coding })).enc ((0 : Fin 8)).val).stopped }, { (starting 1 (fun x => { x with run := some coding })) with cdc := { (starting 1 (fun x => { x with run := some coding })).cdc with due := (starting 1 (fun x => { x with run := some coding })).cdc.due.erase ((0 : Fin 8)).val } }, starting 1 (fun x => { x with run := some coding }), (encoding 1 id).wbInput, by first | with_reducible rfl | rfl, by first | with_reducible rfl | rfl, by first | with_reducible rfl | rfl, by first | with_reducible rfl | rfl, by decide +kernel⟩,
   ⟨(0 : Fin 8), (withQueue 3 (fun x => { x with enabled := true, sizeLog2 := 8, base := 2 ^ 20, p := 1 }) (starting 0 (fun x => { x with starts := [0], wpos := 12288 }))).encNow ((0 : Fin 8)).val, (withQueue 3 (fun x => { x with enabled := true, sizeLog2 := 8, base := 2 ^ 20, p := 1 }) (starting 0 (fun x => { x with starts := [0], wpos := 12288 }))).enc ((0 : Fin 8)).val, { ((withQueue 3 (fun x => { x with enabled := true, sizeLog2 := 8, base := 2 ^ 20, p := 1 }) (starting 0 (fun x => { x with starts := [0], wpos := 12288 }))).enc ((0 : Fin 8)).val) with stopped := false, idrReq := ((withQueue 3 (fun x => { x with enabled := true, sizeLog2 := 8, base := 2 ^ 20, p := 1 }) (starting 0 (fun x => { x with starts := [0], wpos := 12288 }))).enc ((0 : Fin 8)).val).idrReq || ((withQueue 3 (fun x => { x with enabled := true, sizeLog2 := 8, base := 2 ^ 20, p := 1 }) (starting 0 (fun x => { x with starts := [0], wpos := 12288 }))).enc ((0 : Fin 8)).val).stopped }, { (withQueue 3 (fun x => { x with enabled := true, sizeLog2 := 8, base := 2 ^ 20, p := 1 }) (starting 0 (fun x => { x with starts := [0], wpos := 12288 }))) with cdc := { (withQueue 3 (fun x => { x with enabled := true, sizeLog2 := 8, base := 2 ^ 20, p := 1 }) (starting 0 (fun x => { x with starts := [0], wpos := 12288 }))).cdc with due := (withQueue 3 (fun x => { x with enabled := true, sizeLog2 := 8, base := 2 ^ 20, p := 1 }) (starting 0 (fun x => { x with starts := [0], wpos := 12288 }))).cdc.due.erase ((0 : Fin 8)).val } }, withQueue 3 (fun x => { x with enabled := true, sizeLog2 := 8, base := 2 ^ 20, p := 1 }) (starting 0 (fun x => { x with starts := [0], wpos := 12288 })), (encoding 0 id).wbInput, by first | with_reducible rfl | rfl, by first | with_reducible rfl | rfl, by first | with_reducible rfl | rfl, by first | with_reducible rfl | rfl, by decide +kernel⟩,
   ⟨(0 : Fin 8), (withQueue 3 (fun x => { x with enabled := false }) (starting 0 id)).encNow ((0 : Fin 8)).val, (withQueue 3 (fun x => { x with enabled := false }) (starting 0 id)).enc ((0 : Fin 8)).val, { ((withQueue 3 (fun x => { x with enabled := false }) (starting 0 id)).enc ((0 : Fin 8)).val) with stopped := false, idrReq := ((withQueue 3 (fun x => { x with enabled := false }) (starting 0 id)).enc ((0 : Fin 8)).val).idrReq || ((withQueue 3 (fun x => { x with enabled := false }) (starting 0 id)).enc ((0 : Fin 8)).val).stopped }, { (withQueue 3 (fun x => { x with enabled := false }) (starting 0 id)) with cdc := { (withQueue 3 (fun x => { x with enabled := false }) (starting 0 id)).cdc with due := (withQueue 3 (fun x => { x with enabled := false }) (starting 0 id)).cdc.due.erase ((0 : Fin 8)).val } }, withQueue 3 (fun x => { x with enabled := false }) (starting 0 id), (encoding 0 id).wbInput, by first | with_reducible rfl | rfl, by first | with_reducible rfl | rfl, by first | with_reducible rfl | rfl, by first | with_reducible rfl | rfl, by decide +kernel⟩,
   ⟨(0 : Fin 8), (starting 0 id).encNow ((0 : Fin 8)).val, (starting 0 id).enc ((0 : Fin 8)).val, { ((starting 0 id).enc ((0 : Fin 8)).val) with stopped := false, idrReq := ((starting 0 id).enc ((0 : Fin 8)).val).idrReq || ((starting 0 id).enc ((0 : Fin 8)).val).stopped }, { (starting 0 id) with cdc := { (starting 0 id).cdc with due := (starting 0 id).cdc.due.erase ((0 : Fin 8)).val } }, starting 0 id, (encoding 0 id).wbInput, by first | with_reducible rfl | rfl, by first | with_reducible rfl | rfl, by first | with_reducible rfl | rfl, by first | with_reducible rfl | rfl, by decide +kernel⟩,
   ⟨(encoding 0 id).encNow 0, [4000, 5000], by decide +kernel⟩,
   ⟨.mp, (0 : Fin 8), 1#32, encoding 0 id, 1, by decide +kernel⟩,
   ⟨.mp, 2#32, encoding 0 id, by decide +kernel⟩,
   ⟨.mp, tile, by decide +kernel⟩,
   ⟨(0 : Fin 8), coding, encoding 0 (fun x => { x with run := some coding }), by decide +kernel⟩,
   ⟨(0 : Fin 8), { coding with late := true }, encoding 0 (fun x => { x with run := some { coding with late := true } }), by decide +kernel⟩,
   ⟨(0 : Fin 8), encoding 0 id, by decide +kernel⟩,
   ⟨(0 : Fin 8), coded, coding, (encoding 1 (fun x => { x with run := some coding, exhausted := true, wpos := 16376 })).encNow ((0 : Fin 8)).val, ((encoding 1 (fun x => { x with run := some coding, exhausted := true, wpos := 16376 })).enc ((0 : Fin 8)).val).wpos % 2 ^ ((encoding 1 (fun x => { x with run := some coding, exhausted := true, wpos := 16376 })).encNow ((0 : Fin 8)).val).log2, (coded).head.map (·.toNat) ++ (if ((encoding 1 (fun x => { x with run := some coding, exhausted := true, wpos := 16376 })).encNow ((0 : Fin 8)).val).mode = 0 then (encoding 1 (fun x => { x with run := some coding, exhausted := true, wpos := 16376 })).seiUnit (coding) (nextChain ((encoding 1 (fun x => { x with run := some coding, exhausted := true, wpos := 16376 })).enc ((0 : Fin 8)).val)) else []) ++ (coded).body.map (·.toNat), rowsExhausted (coded).rowBits (ceilDiv (coding).input.width 64) (coding).budget, encoding 1 (fun x => { x with run := some coding, exhausted := true, wpos := 16376 }), 31, by first | with_reducible rfl | rfl, by first | with_reducible rfl | rfl, by first | with_reducible rfl | rfl, by first | with_reducible rfl | rfl, by decide +kernel⟩,
   ⟨(0 : Fin 8), coded, { coding with budget := 1000 }, (encoding 2 (fun x => { x with run := some { coding with budget := 1000 } })).encNow ((0 : Fin 8)).val, ((encoding 2 (fun x => { x with run := some { coding with budget := 1000 } })).enc ((0 : Fin 8)).val).wpos % 2 ^ ((encoding 2 (fun x => { x with run := some { coding with budget := 1000 } })).encNow ((0 : Fin 8)).val).log2, (coded).head.map (·.toNat) ++ (if ((encoding 2 (fun x => { x with run := some { coding with budget := 1000 } })).encNow ((0 : Fin 8)).val).mode = 0 then (encoding 2 (fun x => { x with run := some { coding with budget := 1000 } })).seiUnit ({ coding with budget := 1000 }) (nextChain ((encoding 2 (fun x => { x with run := some { coding with budget := 1000 } })).enc ((0 : Fin 8)).val)) else []) ++ (coded).body.map (·.toNat), rowsExhausted (coded).rowBits (ceilDiv ({ coding with budget := 1000 }).input.width 64) ({ coding with budget := 1000 }).budget, encoding 2 (fun x => { x with run := some { coding with budget := 1000 } }), 8191, by first | with_reducible rfl | rfl, by first | with_reducible rfl | rfl, by first | with_reducible rfl | rfl, by first | with_reducible rfl | rfl, by decide +kernel⟩⟩

/-- The feed unit with drive 1 in a state, ring 7 on it at block 256 and a command outstanding. -/
def stored (st : Nat) (f : DriveSt → DriveSt) : State :=
  let s := (((feed.put (R.clpPortStatus 1) F.clpPortStatus_STATE st).put (R.clpRingCfg 7) F.clpRingCfg_PORT 1).put (R.clpRingCfg 7) F.clpRingCfg_STATE 1).setReg (R.clpPortBlocks 1) 10000
  let t := { s with clp := { s.clp with rings := [⟨7, 1, 256, 100, 99, 0, 0, 0, 5⟩], store := some 77 } }
  t.setDrive (f { t.drive 1 with cmds := [(3, .smart), (4, .asyncEvent)], nextCmd := 5, blocks := 10000 })

/-- A drive with a label of a store whose ring 7 lies at block 512. -/
def labelled (store : BitVec 128) : DriveInfo := ⟨2, 2 ^ 33 + 5, true, some ⟨store, [⟨7, 512, 100, 3, 1, 9⟩]⟩⟩

/-- A CREATE of ring 9 on drive 1 at a block with a length. -/
def creating (base len : Nat) (s : State) : State := regsSet s [(R.clpRingCfg 9, 1), (R.clpRingBase 9, base), (R.clpRingLen 9, len)]

/-- An encode stream of a mode that records to ring 7, an entry of 32 bytes waiting in its queue. -/
def recording (f : State → State) : State :=
  let s := (encoding 1 id).produce 3 (auEntry 8192 40 coding 0 false false false 3)
  let d := stored 2 id
  f { s with regs := s.regs ++ [], clp := d.clp, active := (sWrite regReset s.active (R.cdcEncCtrl 0) (1 + 1 * 2 + 2 ^ 20 + 7 * 2 ^ 21)) }

/-- An entry of a play queue waiting: operation, ring, decode stream. -/
def playing (op ring d : Nat) (s : State) : State :=
  (withQueue 128 (fun x => { x with enabled := true, sizeLog2 := 8, esize := 2, base := 2 ^ 20, p := 1 }) s).memWrite (2 ^ 20) [BitVec.ofNat 8 op, BitVec.ofNat 8 ring, BitVec.ofNat 8 d]

/-- Decode stream 3 fed by the play queue, two access units read. -/
def delivering : State :=
  let s : State := { locked with active := sWrite regReset (sWrite regReset (source 1 canvas) (R.ingSrcLink 0) (3 + 3 * 256)) (R.cdcDecCtrl 3) 1 }
  { s with clp := { s.clp with play := [(3, [[1, 2], [3]])] } }

/-- The feed unit with an NVMe port of one lane on lane 8, in a state. -/
def nvmePort (st : Nat) : State :=
  let s : State := { feed with regs := feed.regs }
  regsSet s [(R.laneCfg 8, 3 + 1 * 4 + 1 * 32), (R.laneStatus 8, st + 8 * 2 ^ 8)]

theorem witness_ClipStore_1 :
    (∃ (bs : List Nat) (i : Nat), i < bs.length) ∧
    (∃ (p : Fin 4) (d : DriveInfo) (s : State) (q : Nat), s.live .clp = true ∧ s.drvState p.val = 1 ∧ (∀ r, r ∈ s.clp.rings → r.ring < 256) ∧ q < 4 ∧ d.label = none) ∧
    (∃ (p : Fin 4) (d : DriveInfo) (s : State) (l : StoreLabel), s.live .clp = true ∧ s.drvState p.val = 1 ∧ (∀ r, r ∈ s.clp.rings → r.ring < 256) ∧ d.label = some l ∧ s.clp.store ≠ none ∧ s.clp.store ≠ some l.store.toNat) ∧
    (∃ (p : Fin 4) (d : DriveInfo) (s : State) (q : Nat) (l : StoreLabel) (r : LabelRing), s.live .clp = true ∧ s.drvState p.val = 1 ∧ (∀ r, r ∈ s.clp.rings → r.ring < 256) ∧ q < 4 ∧ d.label = some l ∧ (s.clp.store = none ∨ s.clp.store = some l.store.toNat) ∧ r ∈ l.rings ∧ (∀ x, x ∈ l.rings → x.ring = r.ring → x = r)) ∧
    (∃ (p : Fin 4) (s : State), (s.live .clp = false ∨ s.drvState p.val ≠ 1)) ∧
    (∃ (p : Fin 4) (s : State), (s.live .clp = false ∨ s.drvState p.val ≠ 1)) ∧
    (∃ (p : Fin 4) (n : Nat) (warning : Bool) (c : DriveCmd) (s : State), s.live .clp = true ∧ sLookup (s.drive p.val).cmds n = some c ∧ n < (s.drive p.val).nextCmd ∧ c = .asyncEvent ∧ warning = true ∧ (c = .smart ∨ c = .asyncEvent)) ∧
    (∃ (p : Fin 4) (n : Nat) (ok : Bool) (warning : Bool) (c : DriveCmd) (s : State), s.live .clp = true ∧ sLookup (s.drive p.val).cmds n = some c ∧ n < (s.drive p.val).nextCmd ∧ ok = false ∧ c ≠ .errorLog ∧ warning = false) ∧
    (∃ (p : Fin 4) (n : Nat) (s : State), (s.live .clp = false ∨ sLookup (s.drive p.val).cmds n = none)) ∧
    (∃ (p : Fin 4) (s : State), s.live .clp = true ∧ (s.drive p.val).resetting = false ∧ (∃ x, x ∈ (s.drive p.val).cmds ∧ x.2 ≠ .asyncEvent)) ∧
    (∃ (p : Fin 4) (s : State), (s.live .clp = false ∨ (s.drive p.val).resetting = true ∨ (∀ x, x ∈ (s.drive p.val).cmds → x.2 = .asyncEvent))) ∧
    (∃ (p : Fin 4) (s : State), s.live .clp = true ∧ (s.drive p.val).resetting = true ∧ (s.drive p.val).failed < 2) ∧
    (∃ (p : Fin 4) (s : State) (r : ClipRing), s.live .clp = true ∧ (s.drive p.val).resetting = true ∧ 2 ≤ (s.drive p.val).failed ∧ r ∈ s.ringsOf p.val ∧ r.ring < 256) ∧
    (∃ (p : Fin 4) (s : State), (s.live .clp = false ∨ (s.drive p.val).resetting = false)) ∧
    (∃ (p : Fin 4) (s : State), s.driveReady p.val = true) ∧
    (∃ (p : Fin 4) (s : State), s.driveReady p.val = false) ∧
    (∃ (req : Requester) (v : Word) (n : Nat) (p : Nat) (q : Nat) (base : Nat) (len : Nat) (s : State), n = fieldGet v.toNat F.clpCmd_RING ∧ p = s.get (R.clpRingCfg n) F.clpRingCfg_PORT ∧ q = fieldGet v.toNat F.clpCmd_PORT ∧ base = s.get (R.clpRingBase n) F.clpRingBase_BLOCK ∧ len = s.get (R.clpRingLen n) F.clpRingLen_BLOCKS ∧ s.mayWrite req = true ∧ (s.live .clp = false ∨ fieldGet v.toNat F.clpCmd_OP = 0)) ∧
    (∃ (req : Requester) (v : Word) (n : Nat) (p : Nat) (q : Nat) (base : Nat) (len : Nat) (s : State), n = fieldGet v.toNat F.clpCmd_RING ∧ p = s.get (R.clpRingCfg n) F.clpRingCfg_PORT ∧ q = fieldGet v.toNat F.clpCmd_PORT ∧ base = s.get (R.clpRingBase n) F.clpRingBase_BLOCK ∧ len = s.get (R.clpRingLen n) F.clpRingLen_BLOCKS ∧ s.mayWrite req = true ∧ (s.live .clp = false ∨ fieldGet v.toNat F.clpCmd_OP = 0)) ∧
    (∃ (req : Requester) (v : Word) (n : Nat) (p : Nat) (q : Nat) (base : Nat) (len : Nat) (s : State), n = fieldGet v.toNat F.clpCmd_RING ∧ p = s.get (R.clpRingCfg n) F.clpRingCfg_PORT ∧ q = fieldGet v.toNat F.clpCmd_PORT ∧ base = s.get (R.clpRingBase n) F.clpRingBase_BLOCK ∧ len = s.get (R.clpRingLen n) F.clpRingLen_BLOCKS ∧ s.mayWrite req = true ∧ s.live .clp = true ∧ fieldGet v.toNat F.clpCmd_OP = 1 ∧ s.driveReady p = true ∧ s.ring n = none ∧ 256 ≤ base ∧ 0 < len ∧ base + len ≤ s.reg (R.clpPortBlocks p) ∧ (∀ r, r ∈ s.ringsOf p → base + len ≤ r.base ∨ r.base + r.len ≤ base)) ∧
    (∃ (req : Requester) (v : Word) (n : Nat) (p : Nat) (q : Nat) (base : Nat) (len : Nat) (s : State), n = fieldGet v.toNat F.clpCmd_RING ∧ p = s.get (R.clpRingCfg n) F.clpRingCfg_PORT ∧ q = fieldGet v.toNat F.clpCmd_PORT ∧ base = s.get (R.clpRingBase n) F.clpRingBase_BLOCK ∧ len = s.get (R.clpRingLen n) F.clpRingLen_BLOCKS ∧ s.mayWrite req = true ∧ s.live .clp = true ∧ fieldGet v.toNat F.clpCmd_OP = 1 ∧ (s.driveReady p = false ∨ s.ring n ≠ none ∨ base < 256 ∨ len = 0 ∨ s.reg (R.clpPortBlocks p) < base + len ∨ (∃ r, r ∈ s.ringsOf p ∧ base < r.base + r.len ∧ r.base < base + len))) ∧
    (∃ (req : Requester) (v : Word) (n : Nat) (p : Nat) (q : Nat) (base : Nat) (len : Nat) (s : State), n = fieldGet v.toNat F.clpCmd_RING ∧ p = s.get (R.clpRingCfg n) F.clpRingCfg_PORT ∧ q = fieldGet v.toNat F.clpCmd_PORT ∧ base = s.get (R.clpRingBase n) F.clpRingBase_BLOCK ∧ len = s.get (R.clpRingLen n) F.clpRingLen_BLOCKS ∧ s.mayWrite req = true ∧ s.live .clp = true ∧ fieldGet v.toNat F.clpCmd_OP = 1 ∧ (s.driveReady p = false ∨ s.ring n ≠ none ∨ base < 256 ∨ len = 0 ∨ s.reg (R.clpPortBlocks p) < base + len ∨ (∃ r, r ∈ s.ringsOf p ∧ base < r.base + r.len ∧ r.base < base + len))) ∧
    (∃ (req : Requester) (v : Word) (n : Nat) (p : Nat) (q : Nat) (base : Nat) (len : Nat) (s : State), n = fieldGet v.toNat F.clpCmd_RING ∧ p = s.get (R.clpRingCfg n) F.clpRingCfg_PORT ∧ q = fieldGet v.toNat F.clpCmd_PORT ∧ base = s.get (R.clpRingBase n) F.clpRingBase_BLOCK ∧ len = s.get (R.clpRingLen n) F.clpRingLen_BLOCKS ∧ s.mayWrite req = true ∧ s.live .clp = true ∧ fieldGet v.toNat F.clpCmd_OP = 1 ∧ (s.driveReady p = false ∨ s.ring n ≠ none ∨ base < 256 ∨ len = 0 ∨ s.reg (R.clpPortBlocks p) < base + len ∨ (∃ r, r ∈ s.ringsOf p ∧ base < r.base + r.len ∧ r.base < base + len))) ∧
    (∃ (req : Requester) (v : Word) (n : Nat) (p : Nat) (q : Nat) (base : Nat) (len : Nat) (s : State), n = fieldGet v.toNat F.clpCmd_RING ∧ p = s.get (R.clpRingCfg n) F.clpRingCfg_PORT ∧ q = fieldGet v.toNat F.clpCmd_PORT ∧ base = s.get (R.clpRingBase n) F.clpRingBase_BLOCK ∧ len = s.get (R.clpRingLen n) F.clpRingLen_BLOCKS ∧ s.mayWrite req = true ∧ s.live .clp = true ∧ fieldGet v.toNat F.clpCmd_OP = 1 ∧ (s.driveReady p = false ∨ s.ring n ≠ none ∨ base < 256 ∨ len = 0 ∨ s.reg (R.clpPortBlocks p) < base + len ∨ (∃ r, r ∈ s.ringsOf p ∧ base < r.base + r.len ∧ r.base < base + len))) ∧
    (∃ (req : Requester) (v : Word) (n : Nat) (p : Nat) (q : Nat) (base : Nat) (len : Nat) (s : State), n = fieldGet v.toNat F.clpCmd_RING ∧ p = s.get (R.clpRingCfg n) F.clpRingCfg_PORT ∧ q = fieldGet v.toNat F.clpCmd_PORT ∧ base = s.get (R.clpRingBase n) F.clpRingBase_BLOCK ∧ len = s.get (R.clpRingLen n) F.clpRingLen_BLOCKS ∧ s.mayWrite req = true ∧ s.live .clp = true ∧ fieldGet v.toNat F.clpCmd_OP = 2 ∧ s.driveReady p = true ∧ s.ringInUse n = false ∧ s.ring n ≠ none) :=
  ⟨⟨[3, 5, 2], 1, by decide +kernel⟩,
   ⟨(1 : Fin 4), ⟨1, 100, true, none⟩, stored 1 id, 1, by decide +kernel⟩,
   ⟨(1 : Fin 4), labelled 78#128, stored 1 id, ⟨78#128, [⟨7, 512, 100, 3, 1, 9⟩]⟩, by decide +kernel⟩,
   ⟨(1 : Fin 4), labelled 77#128, stored 1 id, 1, ⟨77#128, [⟨7, 512, 100, 3, 1, 9⟩]⟩, ⟨7, 512, 100, 3, 1, 9⟩, by decide +kernel⟩,
   ⟨(1 : Fin 4), stored 2 id, by decide +kernel⟩,
   ⟨(1 : Fin 4), tile.put (R.clpPortStatus 1) F.clpPortStatus_STATE 1, by decide +kernel⟩,
   ⟨(1 : Fin 4), 4, true, .asyncEvent, stored 2 id, by decide +kernel⟩,
   ⟨(1 : Fin 4), 3, false, false, .smart, stored 2 id, by decide +kernel⟩,
   ⟨(1 : Fin 4), 6, stored 2 id, by decide +kernel⟩,
   ⟨(1 : Fin 4), stored 2 id, by decide +kernel⟩,
   ⟨(1 : Fin 4), stored 2 (fun d => { d with cmds := [(4, .asyncEvent)] }), by decide +kernel⟩,
   ⟨(1 : Fin 4), stored 2 (fun d => { d with resetting := true, failed := 1 }), by decide +kernel⟩,
   ⟨(1 : Fin 4), stored 2 (fun d => { d with resetting := true, failed := 2 }), ⟨7, 1, 256, 100, 99, 0, 0, 0, 5⟩, by decide +kernel⟩,
   ⟨(1 : Fin 4), stored 2 id, by decide +kernel⟩,
   ⟨(1 : Fin 4), stored 2 id, by decide +kernel⟩,
   ⟨(1 : Fin 4), stored 3 id, by decide +kernel⟩,
   ⟨.mp, 0x401#32, fieldGet (0x401#32).toNat F.clpCmd_RING, (tile).get (R.clpRingCfg (fieldGet (0x401#32).toNat F.clpCmd_RING)) F.clpRingCfg_PORT, fieldGet (0x401#32).toNat F.clpCmd_PORT, (tile).get (R.clpRingBase (fieldGet (0x401#32).toNat F.clpCmd_RING)) F.clpRingBase_BLOCK, (tile).get (R.clpRingLen (fieldGet (0x401#32).toNat F.clpCmd_RING)) F.clpRingLen_BLOCKS, tile, by first | with_reducible rfl | rfl, by first | with_reducible rfl | rfl, by first | with_reducible rfl | rfl, by first | with_reducible rfl | rfl, by first | with_reducible rfl | rfl, by decide +kernel⟩,
   ⟨.mp, 0x400#32, fieldGet (0x400#32).toNat F.clpCmd_RING, (stored 2 id).get (R.clpRingCfg (fieldGet (0x400#32).toNat F.clpCmd_RING)) F.clpRingCfg_PORT, fieldGet (0x400#32).toNat F.clpCmd_PORT, (stored 2 id).get (R.clpRingBase (fieldGet (0x400#32).toNat F.clpCmd_RING)) F.clpRingBase_BLOCK, (stored 2 id).get (R.clpRingLen (fieldGet (0x400#32).toNat F.clpCmd_RING)) F.clpRingLen_BLOCKS, stored 2 id, by first | with_reducible rfl | rfl, by first | with_reducible rfl | rfl, by first | with_reducible rfl | rfl, by first | with_reducible rfl | rfl, by first | with_reducible rfl | rfl, by decide +kernel⟩,
   ⟨.mp, 0x25#32, fieldGet (0x25#32).toNat F.clpCmd_RING, (creating 356 9644 (stored 2 id)).get (R.clpRingCfg (fieldGet (0x25#32).toNat F.clpCmd_RING)) F.clpRingCfg_PORT, fieldGet (0x25#32).toNat F.clpCmd_PORT, (creating 356 9644 (stored 2 id)).get (R.clpRingBase (fieldGet (0x25#32).toNat F.clpCmd_RING)) F.clpRingBase_BLOCK, (creating 356 9644 (stored 2 id)).get (R.clpRingLen (fieldGet (0x25#32).toNat F.clpCmd_RING)) F.clpRingLen_BLOCKS, creating 356 9644 (stored 2 id), by first | with_reducible rfl | rfl, by first | with_reducible rfl | rfl, by first | with_reducible rfl | rfl, by first | with_reducible rfl | rfl, by first | with_reducible rfl | rfl, by decide +kernel⟩,
   ⟨.mp, 0x25#32, fieldGet (0x25#32).toNat F.clpCmd_RING, (creating 355 100 (stored 2 id)).get (R.clpRingCfg (fieldGet (0x25#32).toNat F.clpCmd_RING)) F.clpRingCfg_PORT, fieldGet (0x25#32).toNat F.clpCmd_PORT, (creating 355 100 (stored 2 id)).get (R.clpRingBase (fieldGet (0x25#32).toNat F.clpCmd_RING)) F.clpRingBase_BLOCK, (creating 355 100 (stored 2 id)).get (R.clpRingLen (fieldGet (0x25#32).toNat F.clpCmd_RING)) F.clpRingLen_BLOCKS, creating 355 100 (stored 2 id), by first | with_reducible rfl | rfl, by first | with_reducible rfl | rfl, by first | with_reducible rfl | rfl, by first | with_reducible rfl | rfl, by first | with_reducible rfl | rfl, by decide +kernel⟩,
   ⟨.mp, 0x25#32, fieldGet (0x25#32).toNat F.clpCmd_RING, (creating 356 9645 (stored 2 id)).get (R.clpRingCfg (fieldGet (0x25#32).toNat F.clpCmd_RING)) F.clpRingCfg_PORT, fieldGet (0x25#32).toNat F.clpCmd_PORT, (creating 356 9645 (stored 2 id)).get (R.clpRingBase (fieldGet (0x25#32).toNat F.clpCmd_RING)) F.clpRingBase_BLOCK, (creating 356 9645 (stored 2 id)).get (R.clpRingLen (fieldGet (0x25#32).toNat F.clpCmd_RING)) F.clpRingLen_BLOCKS, creating 356 9645 (stored 2 id), by first | with_reducible rfl | rfl, by first | with_reducible rfl | rfl, by first | with_reducible rfl | rfl, by first | with_reducible rfl | rfl, by first | with_reducible rfl | rfl, by decide +kernel⟩,
   ⟨.mp, 0x25#32, fieldGet (0x25#32).toNat F.clpCmd_RING, (creating 255 1 (stored 2 id)).get (R.clpRingCfg (fieldGet (0x25#32).toNat F.clpCmd_RING)) F.clpRingCfg_PORT, fieldGet (0x25#32).toNat F.clpCmd_PORT, (creating 255 1 (stored 2 id)).get (R.clpRingBase (fieldGet (0x25#32).toNat F.clpCmd_RING)) F.clpRingBase_BLOCK, (creating 255 1 (stored 2 id)).get (R.clpRingLen (fieldGet (0x25#32).toNat F.clpCmd_RING)) F.clpRingLen_BLOCKS, creating 255 1 (stored 2 id), by first | with_reducible rfl | rfl, by first | with_reducible rfl | rfl, by first | with_reducible rfl | rfl, by first | with_reducible rfl | rfl, by first | with_reducible rfl | rfl, by decide +kernel⟩,
   ⟨.mp, 0x1D#32, fieldGet (0x1D#32).toNat F.clpCmd_RING, (stored 2 id).get (R.clpRingCfg (fieldGet (0x1D#32).toNat F.clpCmd_RING)) F.clpRingCfg_PORT, fieldGet (0x1D#32).toNat F.clpCmd_PORT, (stored 2 id).get (R.clpRingBase (fieldGet (0x1D#32).toNat F.clpCmd_RING)) F.clpRingBase_BLOCK, (stored 2 id).get (R.clpRingLen (fieldGet (0x1D#32).toNat F.clpCmd_RING)) F.clpRingLen_BLOCKS, stored 2 id, by first | with_reducible rfl | rfl, by first | with_reducible rfl | rfl, by first | with_reducible rfl | rfl, by first | with_reducible rfl | rfl, by first | with_reducible rfl | rfl, by decide +kernel⟩,
   ⟨.mp, 0x1E#32, fieldGet (0x1E#32).toNat F.clpCmd_RING, (stored 2 id).get (R.clpRingCfg (fieldGet (0x1E#32).toNat F.clpCmd_RING)) F.clpRingCfg_PORT, fieldGet (0x1E#32).toNat F.clpCmd_PORT, (stored 2 id).get (R.clpRingBase (fieldGet (0x1E#32).toNat F.clpCmd_RING)) F.clpRingBase_BLOCK, (stored 2 id).get (R.clpRingLen (fieldGet (0x1E#32).toNat F.clpCmd_RING)) F.clpRingLen_BLOCKS, stored 2 id, by first | with_reducible rfl | rfl, by first | with_reducible rfl | rfl, by first | with_reducible rfl | rfl, by first | with_reducible rfl | rfl, by first | with_reducible rfl | rfl, by decide +kernel⟩⟩

theorem witness_ClipStore_2 :
    (∃ (req : Requester) (v : Word) (n : Nat) (p : Nat) (q : Nat) (base : Nat) (len : Nat) (s : State), n = fieldGet v.toNat F.clpCmd_RING ∧ p = s.get (R.clpRingCfg n) F.clpRingCfg_PORT ∧ q = fieldGet v.toNat F.clpCmd_PORT ∧ base = s.get (R.clpRingBase n) F.clpRingBase_BLOCK ∧ len = s.get (R.clpRingLen n) F.clpRingLen_BLOCKS ∧ s.mayWrite req = true ∧ s.live .clp = true ∧ fieldGet v.toNat F.clpCmd_OP = 2 ∧ (s.driveReady p = false ∨ s.ringInUse n = true)) ∧
    (∃ (req : Requester) (v : Word) (n : Nat) (p : Nat) (q : Nat) (base : Nat) (len : Nat) (s : State), n = fieldGet v.toNat F.clpCmd_RING ∧ p = s.get (R.clpRingCfg n) F.clpRingCfg_PORT ∧ q = fieldGet v.toNat F.clpCmd_PORT ∧ base = s.get (R.clpRingBase n) F.clpRingBase_BLOCK ∧ len = s.get (R.clpRingLen n) F.clpRingLen_BLOCKS ∧ s.mayWrite req = true ∧ s.live .clp = true ∧ fieldGet v.toNat F.clpCmd_OP = 2 ∧ (s.driveReady p = false ∨ s.ringInUse n = true)) ∧
    (∃ (req : Requester) (v : Word) (n : Nat) (p : Nat) (q : Nat) (base : Nat) (len : Nat) (s : State) (r : ClipRing), n = fieldGet v.toNat F.clpCmd_RING ∧ p = s.get (R.clpRingCfg n) F.clpRingCfg_PORT ∧ q = fieldGet v.toNat F.clpCmd_PORT ∧ base = s.get (R.clpRingBase n) F.clpRingBase_BLOCK ∧ len = s.get (R.clpRingLen n) F.clpRingLen_BLOCKS ∧ s.mayWrite req = true ∧ s.live .clp = true ∧ fieldGet v.toNat F.clpCmd_OP = 3 ∧ (s.drvState q = 2 ∨ s.drvState q = 3) ∧ (s.drive q).resetting = false ∧ (∀ r, r ∈ s.ringsOf q → s.ringInUse r.ring = false) ∧ s.clp.store.isSome = true ∧ (∀ r, r ∈ s.ringsOf q → r.ring < 256) ∧ r ∈ s.ringsOf q) ∧
    (∃ (req : Requester) (v : Word) (n : Nat) (p : Nat) (q : Nat) (base : Nat) (len : Nat) (s : State), n = fieldGet v.toNat F.clpCmd_RING ∧ p = s.get (R.clpRingCfg n) F.clpRingCfg_PORT ∧ q = fieldGet v.toNat F.clpCmd_PORT ∧ base = s.get (R.clpRingBase n) F.clpRingBase_BLOCK ∧ len = s.get (R.clpRingLen n) F.clpRingLen_BLOCKS ∧ s.mayWrite req = true ∧ s.live .clp = true ∧ fieldGet v.toNat F.clpCmd_OP = 3 ∧ (s.drvState q ≠ 2 ∧ s.drvState q ≠ 3 ∨ (s.drive q).resetting = true ∨ (∃ r, r ∈ s.ringsOf q ∧ s.ringInUse r.ring = true))) ∧
    (∃ (req : Requester) (v : Word) (n : Nat) (p : Nat) (q : Nat) (base : Nat) (len : Nat) (s : State), n = fieldGet v.toNat F.clpCmd_RING ∧ p = s.get (R.clpRingCfg n) F.clpRingCfg_PORT ∧ q = fieldGet v.toNat F.clpCmd_PORT ∧ base = s.get (R.clpRingBase n) F.clpRingBase_BLOCK ∧ len = s.get (R.clpRingLen n) F.clpRingLen_BLOCKS ∧ s.mayWrite req = true ∧ s.live .clp = true ∧ fieldGet v.toNat F.clpCmd_OP = 3 ∧ (s.drvState q ≠ 2 ∧ s.drvState q ≠ 3 ∨ (s.drive q).resetting = true ∨ (∃ r, r ∈ s.ringsOf q ∧ s.ringInUse r.ring = true))) ∧
    (∃ (e : Fin 8) (ok : Bool) (c : EncCfg) (x : QueueCtx) (entry : List Nat) (bytes : List Nat) (n : Nat) (s : State) (r : ClipRing), c = s.encNow e.val ∧ x = s.queue c.queue ∧ entry = s.headEntry c.queue ∧ bytes = s.auBytes c (leVal (entry.take 8)) (leVal ((entry.drop 8).take 4)) ∧ n = ceilDiv (64 + bytes.length) 4096 ∧ s.live .clp = true ∧ s.live .qm = true ∧ c.ringEn = true ∧ x.enabled = true ∧ x.isEmpty = false ∧ s.ring c.ring = some r ∧ s.get (R.clpRingCfg c.ring) F.clpRingCfg_STATE = 1 ∧ ok = true ∧ n ≤ r.len) ∧
    (∃ (e : Fin 8) (ok : Bool) (c : EncCfg) (x : QueueCtx) (entry : List Nat) (bytes : List Nat) (n : Nat) (s : State) (r : ClipRing), c = s.encNow e.val ∧ x = s.queue c.queue ∧ entry = s.headEntry c.queue ∧ bytes = s.auBytes c (leVal (entry.take 8)) (leVal ((entry.drop 8).take 4)) ∧ n = ceilDiv (64 + bytes.length) 4096 ∧ s.live .clp = true ∧ s.live .qm = true ∧ c.ringEn = true ∧ x.enabled = true ∧ x.isEmpty = false ∧ s.ring c.ring = some r ∧ s.get (R.clpRingCfg c.ring) F.clpRingCfg_STATE = 1 ∧ ok = true ∧ n ≤ r.len) ∧
    (∃ (e : Fin 8) (ok : Bool) (c : EncCfg) (x : QueueCtx) (entry : List Nat) (bytes : List Nat) (n : Nat) (s : State), c = s.encNow e.val ∧ x = s.queue c.queue ∧ entry = s.headEntry c.queue ∧ bytes = s.auBytes c (leVal (entry.take 8)) (leVal ((entry.drop 8).take 4)) ∧ n = ceilDiv (64 + bytes.length) 4096 ∧ s.live .clp = true ∧ s.live .qm = true ∧ c.ringEn = true ∧ x.enabled = true ∧ x.isEmpty = false ∧ (s.ring c.ring = none ∨ s.get (R.clpRingCfg c.ring) F.clpRingCfg_STATE ≠ 1 ∨ ok = false ∨ (∃ r, s.ring c.ring = some r ∧ r.len < n))) ∧
    (∃ (e : Fin 8) (ok : Bool) (c : EncCfg) (x : QueueCtx) (entry : List Nat) (bytes : List Nat) (n : Nat) (s : State), c = s.encNow e.val ∧ x = s.queue c.queue ∧ entry = s.headEntry c.queue ∧ bytes = s.auBytes c (leVal (entry.take 8)) (leVal ((entry.drop 8).take 4)) ∧ n = ceilDiv (64 + bytes.length) 4096 ∧ s.live .clp = true ∧ s.live .qm = true ∧ c.ringEn = true ∧ x.enabled = true ∧ x.isEmpty = false ∧ (s.ring c.ring = none ∨ s.get (R.clpRingCfg c.ring) F.clpRingCfg_STATE ≠ 1 ∨ ok = false ∨ (∃ r, s.ring c.ring = some r ∧ r.len < n))) ∧
    (∃ (e : Fin 8) (s : State), (s.live .clp = false ∨ s.live .qm = false ∨ (s.encNow e.val).ringEn = false ∨ (s.queue (s.encNow e.val).queue).enabled = false ∨ (s.queue (s.encNow e.val).queue).isEmpty = true)) ∧
    (∃ (q : BitVec 18) (entry : List Nat) (x : QueueCtx) (s : State) (d : Nat), x = s.queue q.toNat ∧ entry = s.headEntry q.toNat ∧ s.live .clp = true ∧ s.live .qm = true ∧ s.queueClass q.toNat = some 4 ∧ x.enabled = true ∧ x.isEmpty = false ∧ entry.getD 0 0 = 1 ∧ s.get (R.clpRingCfg (entry.getD 1 0)) F.clpRingCfg_STATE = 1 ∧ d = entry.getD 2 0 ∧ d < 16) ∧
    (∃ (q : BitVec 18) (entry : List Nat) (x : QueueCtx) (s : State), x = s.queue q.toNat ∧ entry = s.headEntry q.toNat ∧ s.live .clp = true ∧ s.live .qm = true ∧ s.queueClass q.toNat = some 4 ∧ x.enabled = true ∧ x.isEmpty = false ∧ (entry.getD 0 0 ≠ 1 ∨ s.get (R.clpRingCfg (entry.getD 1 0)) F.clpRingCfg_STATE ≠ 1)) ∧
    (∃ (q : BitVec 18) (s : State), (s.live .clp = false ∨ s.live .qm = false ∨ s.queueClass q.toNat ≠ some 4 ∨ (s.queue q.toNat).enabled = false ∨ (s.queue q.toNat).isEmpty = true)) ∧
    (∃ (d : Fin 16) (s : State) (a : List Nat) (r : List (List Nat)), s.live .clp = true ∧ s.live .cdc = true ∧ s.rst.inReset = false ∧ s.playOf d.val = a :: r ∧ s.actGet (R.cdcDecCtrl d.val) F.cdcDecCtrl_INPUT = 1 ∧ (decodeSource s.active d.val).isSome = true) ∧
    (∃ (d : Fin 16) (s : State), (s.live .clp = false ∨ s.live .cdc = false ∨ s.rst.inReset = true ∨ s.playOf d.val = [] ∨ s.actGet (R.cdcDecCtrl d.val) F.cdcDecCtrl_INPUT ≠ 1 ∨ decodeSource s.active d.val = none)) ∧
    (∃ (req : Requester) (p : Fin 4) (v : Word) (u : State) (s : State), u = s.put (R.clpPortCfg p.val) F.clpPortCfg_REFMODE (v.toNat % 2) ∧ s.mayWrite req = true ∧ s.live .clp = true ∧ u.nvmeLane p.val = none) ∧
    (∃ (req : Requester) (p : Fin 4) (v : Word) (u : State) (s : State) (l : Nat), u = s.put (R.clpPortCfg p.val) F.clpPortCfg_REFMODE (v.toNat % 2) ∧ s.mayWrite req = true ∧ s.live .clp = true ∧ u.nvmeLane p.val = some l ∧ (∃ x, x ∈ u.portLanes (u.portFirst l) ∧ (u.laneState x = 0 ∨ u.laneState x = 1 ∨ u.laneState x = 8))) ∧
    (∃ (req : Requester) (p : Fin 4) (v : Word) (u : State) (s : State) (l : Nat) (x : Nat), u = s.put (R.clpPortCfg p.val) F.clpPortCfg_REFMODE (v.toNat % 2) ∧ s.mayWrite req = true ∧ s.live .clp = true ∧ u.nvmeLane p.val = some l ∧ (∀ x, x ∈ u.portLanes (u.portFirst l) → x < 96 ∧ u.laneState x ≠ 0 ∧ u.laneState x ≠ 1 ∧ u.laneState x ≠ 8) ∧ (∀ r, r ∈ s.clp.rings → r.ring < 256) ∧ x ∈ u.portLanes (u.portFirst l)) ∧
    (∃ (req : Requester) (p : Fin 4) (v : Word) (u : State) (s : State), u = s.put (R.clpPortCfg p.val) F.clpPortCfg_REFMODE (v.toNat % 2) ∧ s.mayWrite req = true ∧ s.live .clp = false) :=
  ⟨⟨.mp, 0x1E#32, fieldGet (0x1E#32).toNat F.clpCmd_RING, (stored 3 id).get (R.clpRingCfg (fieldGet (0x1E#32).toNat F.clpCmd_RING)) F.clpRingCfg_PORT, fieldGet (0x1E#32).toNat F.clpCmd_PORT, (stored 3 id).get (R.clpRingBase (fieldGet (0x1E#32).toNat F.clpCmd_RING)) F.clpRingBase_BLOCK, (stored 3 id).get (R.clpRingLen (fieldGet (0x1E#32).toNat F.clpCmd_RING)) F.clpRingLen_BLOCKS, stored 3 id, by first | with_reducible rfl | rfl, by first | with_reducible rfl | rfl, by first | with_reducible rfl | rfl, by first | with_reducible rfl | rfl, by first | with_reducible rfl | rfl, by decide +kernel⟩,
   ⟨.mp, 0x1E#32, fieldGet (0x1E#32).toNat F.clpCmd_RING, (recording id).get (R.clpRingCfg (fieldGet (0x1E#32).toNat F.clpCmd_RING)) F.clpRingCfg_PORT, fieldGet (0x1E#32).toNat F.clpCmd_PORT, (recording id).get (R.clpRingBase (fieldGet (0x1E#32).toNat F.clpCmd_RING)) F.clpRingBase_BLOCK, (recording id).get (R.clpRingLen (fieldGet (0x1E#32).toNat F.clpCmd_RING)) F.clpRingLen_BLOCKS, recording id, by first | with_reducible rfl | rfl, by first | with_reducible rfl | rfl, by first | with_reducible rfl | rfl, by first | with_reducible rfl | rfl, by first | with_reducible rfl | rfl, by decide +kernel⟩,
   ⟨.mp, 0x403#32, fieldGet (0x403#32).toNat F.clpCmd_RING, (stored 3 id).get (R.clpRingCfg (fieldGet (0x403#32).toNat F.clpCmd_RING)) F.clpRingCfg_PORT, fieldGet (0x403#32).toNat F.clpCmd_PORT, (stored 3 id).get (R.clpRingBase (fieldGet (0x403#32).toNat F.clpCmd_RING)) F.clpRingBase_BLOCK, (stored 3 id).get (R.clpRingLen (fieldGet (0x403#32).toNat F.clpCmd_RING)) F.clpRingLen_BLOCKS, stored 3 id, ⟨7, 1, 256, 100, 99, 0, 0, 0, 5⟩, by first | with_reducible rfl | rfl, by first | with_reducible rfl | rfl, by first | with_reducible rfl | rfl, by first | with_reducible rfl | rfl, by first | with_reducible rfl | rfl, by decide +kernel⟩,
   ⟨.mp, 0x403#32, fieldGet (0x403#32).toNat F.clpCmd_RING, (stored 4 id).get (R.clpRingCfg (fieldGet (0x403#32).toNat F.clpCmd_RING)) F.clpRingCfg_PORT, fieldGet (0x403#32).toNat F.clpCmd_PORT, (stored 4 id).get (R.clpRingBase (fieldGet (0x403#32).toNat F.clpCmd_RING)) F.clpRingBase_BLOCK, (stored 4 id).get (R.clpRingLen (fieldGet (0x403#32).toNat F.clpCmd_RING)) F.clpRingLen_BLOCKS, stored 4 id, by first | with_reducible rfl | rfl, by first | with_reducible rfl | rfl, by first | with_reducible rfl | rfl, by first | with_reducible rfl | rfl, by first | with_reducible rfl | rfl, by decide +kernel⟩,
   ⟨.mp, 0x403#32, fieldGet (0x403#32).toNat F.clpCmd_RING, (recording (fun s => s.put (R.clpPortStatus 1) F.clpPortStatus_STATE 2)).get (R.clpRingCfg (fieldGet (0x403#32).toNat F.clpCmd_RING)) F.clpRingCfg_PORT, fieldGet (0x403#32).toNat F.clpCmd_PORT, (recording (fun s => s.put (R.clpPortStatus 1) F.clpPortStatus_STATE 2)).get (R.clpRingBase (fieldGet (0x403#32).toNat F.clpCmd_RING)) F.clpRingBase_BLOCK, (recording (fun s => s.put (R.clpPortStatus 1) F.clpPortStatus_STATE 2)).get (R.clpRingLen (fieldGet (0x403#32).toNat F.clpCmd_RING)) F.clpRingLen_BLOCKS, recording (fun s => s.put (R.clpPortStatus 1) F.clpPortStatus_STATE 2), by first | with_reducible rfl | rfl, by first | with_reducible rfl | rfl, by first | with_reducible rfl | rfl, by first | with_reducible rfl | rfl, by first | with_reducible rfl | rfl, by decide +kernel⟩,
   ⟨(0 : Fin 8), true, (recording (fun s => s.put (R.clpRingCfg 7) F.clpRingCfg_STATE 1)).encNow ((0 : Fin 8)).val, (recording (fun s => s.put (R.clpRingCfg 7) F.clpRingCfg_STATE 1)).queue ((recording (fun s => s.put (R.clpRingCfg 7) F.clpRingCfg_STATE 1)).encNow ((0 : Fin 8)).val).queue, (recording (fun s => s.put (R.clpRingCfg 7) F.clpRingCfg_STATE 1)).headEntry ((recording (fun s => s.put (R.clpRingCfg 7) F.clpRingCfg_STATE 1)).encNow ((0 : Fin 8)).val).queue, (recording (fun s => s.put (R.clpRingCfg 7) F.clpRingCfg_STATE 1)).auBytes ((recording (fun s => s.put (R.clpRingCfg 7) F.clpRingCfg_STATE 1)).encNow ((0 : Fin 8)).val) (leVal (((recording (fun s => s.put (R.clpRingCfg 7) F.clpRingCfg_STATE 1)).headEntry ((recording (fun s => s.put (R.clpRingCfg 7) F.clpRingCfg_STATE 1)).encNow ((0 : Fin 8)).val).queue).take 8)) (leVal ((((recording (fun s => s.put (R.clpRingCfg 7) F.clpRingCfg_STATE 1)).headEntry ((recording (fun s => s.put (R.clpRingCfg 7) F.clpRingCfg_STATE 1)).encNow ((0 : Fin 8)).val).queue).drop 8).take 4)), ceilDiv (64 + ((recording (fun s => s.put (R.clpRingCfg 7) F.clpRingCfg_STATE 1)).auBytes ((recording (fun s => s.put (R.clpRingCfg 7) F.clpRingCfg_STATE 1)).encNow ((0 : Fin 8)).val) (leVal (((recording (fun s => s.put (R.clpRingCfg 7) F.clpRingCfg_STATE 1)).headEntry ((recording (fun s => s.put (R.clpRingCfg 7) F.clpRingCfg_STATE 1)).encNow ((0 : Fin 8)).val).queue).take 8)) (leVal ((((recording (fun s => s.put (R.clpRingCfg 7) F.clpRingCfg_STATE 1)).headEntry ((recording (fun s => s.put (R.clpRingCfg 7) F.clpRingCfg_STATE 1)).encNow ((0 : Fin 8)).val).queue).drop 8).take 4))).length) 4096, recording (fun s => s.put (R.clpRingCfg 7) F.clpRingCfg_STATE 1), ⟨7, 1, 256, 100, 99, 0, 0, 0, 5⟩, by first | with_reducible rfl | rfl, by first | with_reducible rfl | rfl, by first | with_reducible rfl | rfl, by first | with_reducible rfl | rfl, by first | with_reducible rfl | rfl, by decide +kernel⟩,
   ⟨(0 : Fin 8), true, (recording (fun s => (s.put (R.clpRingCfg 7) F.clpRingCfg_STATE 1).setRing ⟨7, 1, 256, 100, 100, 0, 0, 0, 5⟩)).encNow ((0 : Fin 8)).val, (recording (fun s => (s.put (R.clpRingCfg 7) F.clpRingCfg_STATE 1).setRing ⟨7, 1, 256, 100, 100, 0, 0, 0, 5⟩)).queue ((recording (fun s => (s.put (R.clpRingCfg 7) F.clpRingCfg_STATE 1).setRing ⟨7, 1, 256, 100, 100, 0, 0, 0, 5⟩)).encNow ((0 : Fin 8)).val).queue, (recording (fun s => (s.put (R.clpRingCfg 7) F.clpRingCfg_STATE 1).setRing ⟨7, 1, 256, 100, 100, 0, 0, 0, 5⟩)).headEntry ((recording (fun s => (s.put (R.clpRingCfg 7) F.clpRingCfg_STATE 1).setRing ⟨7, 1, 256, 100, 100, 0, 0, 0, 5⟩)).encNow ((0 : Fin 8)).val).queue, (recording (fun s => (s.put (R.clpRingCfg 7) F.clpRingCfg_STATE 1).setRing ⟨7, 1, 256, 100, 100, 0, 0, 0, 5⟩)).auBytes ((recording (fun s => (s.put (R.clpRingCfg 7) F.clpRingCfg_STATE 1).setRing ⟨7, 1, 256, 100, 100, 0, 0, 0, 5⟩)).encNow ((0 : Fin 8)).val) (leVal (((recording (fun s => (s.put (R.clpRingCfg 7) F.clpRingCfg_STATE 1).setRing ⟨7, 1, 256, 100, 100, 0, 0, 0, 5⟩)).headEntry ((recording (fun s => (s.put (R.clpRingCfg 7) F.clpRingCfg_STATE 1).setRing ⟨7, 1, 256, 100, 100, 0, 0, 0, 5⟩)).encNow ((0 : Fin 8)).val).queue).take 8)) (leVal ((((recording (fun s => (s.put (R.clpRingCfg 7) F.clpRingCfg_STATE 1).setRing ⟨7, 1, 256, 100, 100, 0, 0, 0, 5⟩)).headEntry ((recording (fun s => (s.put (R.clpRingCfg 7) F.clpRingCfg_STATE 1).setRing ⟨7, 1, 256, 100, 100, 0, 0, 0, 5⟩)).encNow ((0 : Fin 8)).val).queue).drop 8).take 4)), ceilDiv (64 + ((recording (fun s => (s.put (R.clpRingCfg 7) F.clpRingCfg_STATE 1).setRing ⟨7, 1, 256, 100, 100, 0, 0, 0, 5⟩)).auBytes ((recording (fun s => (s.put (R.clpRingCfg 7) F.clpRingCfg_STATE 1).setRing ⟨7, 1, 256, 100, 100, 0, 0, 0, 5⟩)).encNow ((0 : Fin 8)).val) (leVal (((recording (fun s => (s.put (R.clpRingCfg 7) F.clpRingCfg_STATE 1).setRing ⟨7, 1, 256, 100, 100, 0, 0, 0, 5⟩)).headEntry ((recording (fun s => (s.put (R.clpRingCfg 7) F.clpRingCfg_STATE 1).setRing ⟨7, 1, 256, 100, 100, 0, 0, 0, 5⟩)).encNow ((0 : Fin 8)).val).queue).take 8)) (leVal ((((recording (fun s => (s.put (R.clpRingCfg 7) F.clpRingCfg_STATE 1).setRing ⟨7, 1, 256, 100, 100, 0, 0, 0, 5⟩)).headEntry ((recording (fun s => (s.put (R.clpRingCfg 7) F.clpRingCfg_STATE 1).setRing ⟨7, 1, 256, 100, 100, 0, 0, 0, 5⟩)).encNow ((0 : Fin 8)).val).queue).drop 8).take 4))).length) 4096, recording (fun s => (s.put (R.clpRingCfg 7) F.clpRingCfg_STATE 1).setRing ⟨7, 1, 256, 100, 100, 0, 0, 0, 5⟩), ⟨7, 1, 256, 100, 100, 0, 0, 0, 5⟩, by first | with_reducible rfl | rfl, by first | with_reducible rfl | rfl, by first | with_reducible rfl | rfl, by first | with_reducible rfl | rfl, by first | with_reducible rfl | rfl, by decide +kernel⟩,
   ⟨(0 : Fin 8), false, (recording (fun s => s.put (R.clpRingCfg 7) F.clpRingCfg_STATE 1)).encNow ((0 : Fin 8)).val, (recording (fun s => s.put (R.clpRingCfg 7) F.clpRingCfg_STATE 1)).queue ((recording (fun s => s.put (R.clpRingCfg 7) F.clpRingCfg_STATE 1)).encNow ((0 : Fin 8)).val).queue, (recording (fun s => s.put (R.clpRingCfg 7) F.clpRingCfg_STATE 1)).headEntry ((recording (fun s => s.put (R.clpRingCfg 7) F.clpRingCfg_STATE 1)).encNow ((0 : Fin 8)).val).queue, (recording (fun s => s.put (R.clpRingCfg 7) F.clpRingCfg_STATE 1)).auBytes ((recording (fun s => s.put (R.clpRingCfg 7) F.clpRingCfg_STATE 1)).encNow ((0 : Fin 8)).val) (leVal (((recording (fun s => s.put (R.clpRingCfg 7) F.clpRingCfg_STATE 1)).headEntry ((recording (fun s => s.put (R.clpRingCfg 7) F.clpRingCfg_STATE 1)).encNow ((0 : Fin 8)).val).queue).take 8)) (leVal ((((recording (fun s => s.put (R.clpRingCfg 7) F.clpRingCfg_STATE 1)).headEntry ((recording (fun s => s.put (R.clpRingCfg 7) F.clpRingCfg_STATE 1)).encNow ((0 : Fin 8)).val).queue).drop 8).take 4)), ceilDiv (64 + ((recording (fun s => s.put (R.clpRingCfg 7) F.clpRingCfg_STATE 1)).auBytes ((recording (fun s => s.put (R.clpRingCfg 7) F.clpRingCfg_STATE 1)).encNow ((0 : Fin 8)).val) (leVal (((recording (fun s => s.put (R.clpRingCfg 7) F.clpRingCfg_STATE 1)).headEntry ((recording (fun s => s.put (R.clpRingCfg 7) F.clpRingCfg_STATE 1)).encNow ((0 : Fin 8)).val).queue).take 8)) (leVal ((((recording (fun s => s.put (R.clpRingCfg 7) F.clpRingCfg_STATE 1)).headEntry ((recording (fun s => s.put (R.clpRingCfg 7) F.clpRingCfg_STATE 1)).encNow ((0 : Fin 8)).val).queue).drop 8).take 4))).length) 4096, recording (fun s => s.put (R.clpRingCfg 7) F.clpRingCfg_STATE 1), by first | with_reducible rfl | rfl, by first | with_reducible rfl | rfl, by first | with_reducible rfl | rfl, by first | with_reducible rfl | rfl, by first | with_reducible rfl | rfl, by decide +kernel⟩,
   ⟨(0 : Fin 8), true, (recording id).encNow ((0 : Fin 8)).val, (recording id).queue ((recording id).encNow ((0 : Fin 8)).val).queue, (recording id).headEntry ((recording id).encNow ((0 : Fin 8)).val).queue, (recording id).auBytes ((recording id).encNow ((0 : Fin 8)).val) (leVal (((recording id).headEntry ((recording id).encNow ((0 : Fin 8)).val).queue).take 8)) (leVal ((((recording id).headEntry ((recording id).encNow ((0 : Fin 8)).val).queue).drop 8).take 4)), ceilDiv (64 + ((recording id).auBytes ((recording id).encNow ((0 : Fin 8)).val) (leVal (((recording id).headEntry ((recording id).encNow ((0 : Fin 8)).val).queue).take 8)) (leVal ((((recording id).headEntry ((recording id).encNow ((0 : Fin 8)).val).queue).drop 8).take 4))).length) 4096, recording id, by first | with_reducible rfl | rfl, by first | with_reducible rfl | rfl, by first | with_reducible rfl | rfl, by first | with_reducible rfl | rfl, by first | with_reducible rfl | rfl, by decide +kernel⟩,
   ⟨(0 : Fin 8), encoding 0 id, by decide +kernel⟩,
   ⟨128#18, (playing 1 7 3 (stored 2 id)).headEntry (128#18).toNat, (playing 1 7 3 (stored 2 id)).queue (128#18).toNat, playing 1 7 3 (stored 2 id), 3, by first | with_reducible rfl | rfl, by first | with_reducible rfl | rfl, by decide +kernel⟩,
   ⟨128#18, (playing 1 8 3 (stored 2 id)).headEntry (128#18).toNat, (playing 1 8 3 (stored 2 id)).queue (128#18).toNat, playing 1 8 3 (stored 2 id), by first | with_reducible rfl | rfl, by first | with_reducible rfl | rfl, by decide +kernel⟩,
   ⟨3#18, playing 1 7 3 (stored 2 id), by decide +kernel⟩,
   ⟨(3 : Fin 16), delivering, [1, 2], [[3]], by decide +kernel⟩,
   ⟨(2 : Fin 16), delivering, by decide +kernel⟩,
   ⟨.mp, (1 : Fin 4), 1#32, (stored 2 id).put (R.clpPortCfg ((1 : Fin 4)).val) F.clpPortCfg_REFMODE ((1#32).toNat % 2), stored 2 id, by first | with_reducible rfl | rfl, by decide +kernel⟩,
   ⟨.mp, (1 : Fin 4), 1#32, (nvmePort 1).put (R.clpPortCfg ((1 : Fin 4)).val) F.clpPortCfg_REFMODE ((1#32).toNat % 2), nvmePort 1, 8, by first | with_reducible rfl | rfl, by decide +kernel⟩,
   ⟨.mp, (1 : Fin 4), 1#32, (nvmePort 6).put (R.clpPortCfg ((1 : Fin 4)).val) F.clpPortCfg_REFMODE ((1#32).toNat % 2), nvmePort 6, 8, 8, by first | with_reducible rfl | rfl, by decide +kernel⟩,
   ⟨.mp, (1 : Fin 4), 1#32, (tile).put (R.clpPortCfg ((1 : Fin 4)).val) F.clpPortCfg_REFMODE ((1#32).toNat % 2), tile, by first | with_reducible rfl | rfl, by decide +kernel⟩⟩

/-- A state with sensors 0, 1, 4, 5 and 7 VALID at a temperature in 1/16 °C, the others at 0 °C, WARN 95, THROTTLE 105, and a thermal
state. -/
def warm (st : Nat) (c : Int) (s : State) : State :=
  let t := ((s.setReg R.thmLimits (95 + 105 * 256)).put R.thmStatus F.thmStatus_STATE st).put R.thmStatus F.thmStatus_HOTTEST (ofSigned 16 c)
  [0, 1, 4, 5, 7].foldl (fun u i => u.setReg (R.thmSensor i) (ofSigned 16 c * 65537)) t

/-- The state with sensors in a state of THM_SENSOR. -/
def sensorsIn (st : Nat) (l : List Nat) (s : State) : State := l.foldl (fun u i => u.put (R.thmSensor i) F.thmSensor_STATE st) s

/-- The state with the runs of sensor 0 changed. -/
def runs (f : SensSt → SensSt) (s : State) : State := s.setSens (f (s.sens 0))

theorem witness_Thermal_1 :
    (∃ (rs : List Nat) (u : State) (s : State) (i : Nat) (r : Nat) (m : Int), u = s.takeReadings rs ∧ i < 64 ∧ rs[i]? = some r ∧ u.sensState i = 0 ∧ -960 ≤ u.sensRaw i ∧ u.sensRaw i ≤ 2560 ∧ 2 ≤ (s.validNear i).length ∧ m = lowerMedian ((s.validNear i).map u.sensRaw) ∧ s.sensState i = 0 ∧ ((u.sensRaw i - m).natAbs ≤ 96 ∨ (s.sens i).far < 9)) ∧
    (∃ (rs : List Nat) (u : State) (s : State) (i : Nat), u = s.takeReadings rs ∧ i < 64 ∧ rs.length ≤ i ∧ u.sensState i = 0) ∧
    (∃ (rs : List Nat) (u : State) (s : State) (i : Nat), u = s.takeReadings rs ∧ i < 64 ∧ (u.sensRaw i < -960 ∨ 2560 < u.sensRaw i) ∧ (u.sensState i = 2 ∨ (u.sensState i = 1 ∧ u.validNear i = []))) ∧
    (∃ (rs : List Nat) (u : State) (s : State) (i : Nat) (j : Nat) (m : Int), u = s.takeReadings rs ∧ i < 64 ∧ u.sensState i = 1 ∧ j ∈ u.validNear i ∧ u.validNear i ≠ [] ∧ -960 ≤ u.sensRaw i ∧ u.sensRaw i ≤ 2560 ∧ 2 ≤ (s.validNear i).length ∧ m = lowerMedian ((s.validNear i).map u.sensRaw) ∧ s.sensState i = 1 ∧ (48 < (u.sensRaw i - m).natAbs ∨ (s.sens i).near < 999)) :=
  ⟨⟨[576], (warm 0 480 (runs (fun x => { x with far := 9 }) feed)).takeReadings ([576]), warm 0 480 (runs (fun x => { x with far := 9 }) feed), 0, 576, 480, by first | with_reducible rfl | rfl, by decide +kernel⟩,
   ⟨[577], (warm 0 480 feed).takeReadings ([577]), warm 0 480 feed, 63, by first | with_reducible rfl | rfl, by decide +kernel⟩,
   ⟨[2561], (warm 0 480 feed).takeReadings ([2561]), warm 0 480 feed, 0, by first | with_reducible rfl | rfl, by decide +kernel⟩,
   ⟨[480], (sensorsIn 1 [0] (warm 0 480 (runs (fun x => { x with near := 998 }) feed))).takeReadings ([480]), sensorsIn 1 [0] (warm 0 480 (runs (fun x => { x with near := 998 }) feed)), 0, 4, 480, by first | with_reducible rfl | rfl, by decide +kernel⟩⟩

theorem witness_Thermal_2 :
    (∃ (rs : List Nat) (u : State) (s : State) (i : Nat) (m : Int), u = s.takeReadings rs ∧ i < 64 ∧ -960 ≤ u.sensRaw i ∧ u.sensRaw i ≤ 2560 ∧ 2 ≤ (s.validNear i).length ∧ m = lowerMedian ((s.validNear i).map u.sensRaw) ∧ s.sensState i = 0 ∧ 96 < (u.sensRaw i - m).natAbs ∧ 9 ≤ (s.sens i).far) ∧
    (∃ (rs : List Nat) (u : State) (s : State) (i : Nat) (m : Int), u = s.takeReadings rs ∧ i < 64 ∧ -960 ≤ u.sensRaw i ∧ u.sensRaw i ≤ 2560 ∧ 2 ≤ (s.validNear i).length ∧ m = lowerMedian ((s.validNear i).map u.sensRaw) ∧ s.sensState i = 1 ∧ (u.sensRaw i - m).natAbs ≤ 48 ∧ 999 ≤ (s.sens i).near) ∧
    (∃ (rs : List Nat) (u : State) (s : State) (i : Nat), u = s.takeReadings rs ∧ i < 64 ∧ -960 ≤ u.sensRaw i ∧ u.sensRaw i ≤ 2560 ∧ (s.validNear i).length < 2 ∧ s.sensState i ≠ 2) ∧
    (∃ (rs : List Nat) (u : State) (s : State) (i : Nat), u = s.takeReadings rs ∧ i < 64 ∧ -960 ≤ u.sensRaw i ∧ u.sensRaw i ≤ 2560 ∧ s.sensState i = 2) :=
  ⟨⟨[577], (warm 0 480 (runs (fun x => { x with far := 9 }) feed)).takeReadings ([577]), warm 0 480 (runs (fun x => { x with far := 9 }) feed), 0, 480, by first | with_reducible rfl | rfl, by decide +kernel⟩,
   ⟨[528], (sensorsIn 1 [0] (warm 0 480 (runs (fun x => { x with near := 999 }) feed))).takeReadings ([528]), sensorsIn 1 [0] (warm 0 480 (runs (fun x => { x with near := 999 }) feed)), 0, 480, by first | with_reducible rfl | rfl, by decide +kernel⟩,
   ⟨[2000], (sensorsIn 2 [1, 4] (warm 0 480 (runs (fun x => { x with far := 9 }) feed))).takeReadings ([2000]), sensorsIn 2 [1, 4] (warm 0 480 (runs (fun x => { x with far := 9 }) feed)), 0, by first | with_reducible rfl | rfl, by decide +kernel⟩,
   ⟨[2560], (sensorsIn 2 [0] (warm 0 480 (runs (fun x => { x with inRange := 9999 }) feed))).takeReadings ([2560]), sensorsIn 2 [0] (warm 0 480 (runs (fun x => { x with inRange := 9999 }) feed)), 0, by first | with_reducible rfl | rfl, by decide +kernel⟩⟩

theorem witness_Thermal_3 :
    (∃ (i : Nat) (a : Nat) (b : Nat) (s : State), s.trimOf i = (a, b) ∧ a < b) ∧
    (∃ (s : State) (t : State) (i : Nat), t = s.judgeTherm ∧ i < 64 ∧ s.thermState = 0 ∧ t.hottest < s.throttleLevel ∧ t.flag R.thmStatus F.thmStatus_RISE = false) ∧
    (∃ (s : State) (t : State), t = s.judgeTherm ∧ s.thermState = 0 ∧ t.hottest < s.throttleLevel ∧ t.flag R.thmStatus F.thmStatus_RISE = false) ∧
    (∃ (s : State) (t : State), t = s.judgeTherm ∧ s.thermState ≠ 2 ∧ (s.throttleLevel ≤ t.hottest ∨ t.flag R.thmStatus F.thmStatus_RISE = true) ∧ s.isTile = true) :=
  ⟨⟨3, 300, 1500, { feed with fuses := { feed.fuses with trims := List.replicate 64 (300, 1500) } }, by decide +kernel⟩,
   ⟨warm 0 1520 feed, (warm 0 1520 feed).judgeTherm, 63, by first | with_reducible rfl | rfl, by decide +kernel⟩,
   ⟨warm 0 1519 feed, (warm 0 1519 feed).judgeTherm, by first | with_reducible rfl | rfl, by decide +kernel⟩,
   ⟨warm 0 1680 tile, (warm 0 1680 tile).judgeTherm, by first | with_reducible rfl | rfl, by decide +kernel⟩⟩

theorem witness_Thermal_4 :
    (∃ (s : State) (t : State), t = s.judgeTherm ∧ s.thermState ≠ 2 ∧ (s.throttleLevel ≤ t.hottest ∨ t.flag R.thmStatus F.thmStatus_RISE = true) ∧ s.isTile = true) ∧
    (∃ (s : State) (t : State), t = s.judgeTherm ∧ s.thermState = 2) ∧
    (∃ (s : State) (t : State), t = s.judgeTherm ∧ s.thermState = 1 ∧ t.hottest < s.throttleLevel ∧ t.flag R.thmStatus F.thmStatus_RISE = false) ∧
    (∃ (s : State) (t : State), t = s.judgeTherm ∧ s.thermState = 1 ∧ t.hottest < s.throttleLevel ∧ t.flag R.thmStatus F.thmStatus_RISE = false) :=
  ⟨⟨warm 1 480 (runs (fun x => { x with sums := [0, 0, 0, 0, 0, 0, 0, 0, 0, 0, 20001] }) (tile.put R.thmPolicy F.thmPolicy_RISE 5)), (warm 1 480 (runs (fun x => { x with sums := [0, 0, 0, 0, 0, 0, 0, 0, 0, 0, 20001] }) (tile.put R.thmPolicy F.thmPolicy_RISE 5))).judgeTherm, by first | with_reducible rfl | rfl, by decide +kernel⟩,
   ⟨sensorsIn 2 [7] ((warm 2 480 feed).put (R.thmSensor 7) F.thmSensor_COUNTED 1696), (sensorsIn 2 [7] ((warm 2 480 feed).put (R.thmSensor 7) F.thmSensor_COUNTED 1696)).judgeTherm, by first | with_reducible rfl | rfl, by decide +kernel⟩,
   ⟨warm 1 1471 feed, (warm 1 1471 feed).judgeTherm, by first | with_reducible rfl | rfl, by decide +kernel⟩,
   ⟨warm 1 1472 feed, (warm 1 1472 feed).judgeTherm, by first | with_reducible rfl | rfl, by decide +kernel⟩⟩

theorem witness_Thermal_5 :
    (∃ (s : State), (∃ x, x ∈ s.thm.sens ∧ 3 ≤ x.hot) ∧ 4 ∉ s.rst.asserted) ∧
    (∃ (s : State), ((∀ x, x ∈ s.thm.sens → x.hot < 3) ∨ 4 ∈ s.rst.asserted)) ∧
    (∃ (s : State), 4 ∈ s.rst.asserted ∧ (∀ i, i < 64 → s.sensState i = 0 → s.sensRaw i < 1760)) ∧
    (∃ (s : State), (4 ∉ s.rst.asserted ∨ (∃ i, i < 64 ∧ s.sensState i = 0 ∧ 1760 ≤ s.sensRaw i))) :=
  ⟨⟨runs (fun x => { x with hot := 3 }) feed, by decide +kernel⟩,
   ⟨runs (fun x => { x with hot := 2 }) feed, by decide +kernel⟩,
   ⟨warm 2 1759 { feed with rst := { feed.rst with asserted := [4] } }, by decide +kernel⟩,
   ⟨warm 2 1760 { feed with rst := { feed.rst with asserted := [4] } }, by decide +kernel⟩⟩

theorem witness_Thermal_6 :
    (∃ (s : State), s.thermState = 2 ∧ s.hottest ≤ s.throttleLevel - 80 ∧ s.flag R.thmStatus F.thmStatus_RISE = false ∧ s.thm.relFrom.isSome = true) ∧
    (∃ (s : State), (s.thermState ≠ 2 ∨ s.throttleLevel - 80 < s.hottest ∨ s.flag R.thmStatus F.thmStatus_RISE = true ∨ s.thm.relFrom = none)) ∧
    (∃ (s : State), s.isFeed = true ∧ s.thermState = 2 ∧ s.throttleCond = true ∧ s.flag R.thmStatus F.thmStatus_HOLD = false ∧ s.shed < 4 ∧ s.shed < 3) ∧
    (∃ (s : State) (d : Nat) (e : Nat), s.isFeed = true ∧ s.thermState = 2 ∧ s.throttleCond = true ∧ s.flag R.thmStatus F.thmStatus_HOLD = false ∧ s.shed < 4 ∧ s.shed = 3 ∧ d < 16 ∧ s.decState d ≠ 0 ∧ e < 8 ∧ (s.encNow e).en = true ∧ (s.encNow e).mode = 1) :=
  ⟨⟨warm 2 1600 { feed with thm := { feed.thm with relFrom := some 5 } }, by decide +kernel⟩,
   ⟨warm 2 1601 { feed with thm := { feed.thm with relFrom := some 5 } }, by decide +kernel⟩,
   ⟨(warm 2 1680 (encoding 1 id)).put R.thmStatus F.thmStatus_SHED 2, by decide +kernel⟩,
   ⟨(warm 2 1680 ((encoding 1 id).put (R.cdcDecStatus 0) F.cdcDecStatus_STATE 2)).put R.thmStatus F.thmStatus_SHED 3, 0, 0, by decide +kernel⟩⟩

theorem witness_Thermal_7 :
    (∃ (s : State), (s.isFeed = false ∨ s.thermState ≠ 2 ∨ s.throttleCond = false ∨ s.flag R.thmStatus F.thmStatus_HOLD = true ∨ 4 ≤ s.shed)) ∧
    (∃ (s : State), (s.isFeed = false ∨ s.thermState ≠ 2 ∨ s.throttleCond = false ∨ s.flag R.thmStatus F.thmStatus_HOLD = true ∨ 4 ≤ s.shed)) ∧
    (∃ (s : State) (d : Nat), s.isFeed = true ∧ s.thermState ≠ 2 ∧ 0 < s.shed ∧ s.shed ≤ 4 ∧ s.shed = 4 ∧ d < 16) ∧
    (∃ (s : State), (s.isFeed = false ∨ s.thermState = 2 ∨ s.shed = 0)) :=
  ⟨⟨(warm 2 1680 feed).put R.thmStatus F.thmStatus_SHED 4, by decide +kernel⟩,
   ⟨(warm 2 1680 feed).put R.thmStatus F.thmStatus_HOLD 1, by decide +kernel⟩,
   ⟨(warm 1 480 (decoding 1 (fun x => { x with stopped := true }))).put R.thmStatus F.thmStatus_SHED 4, 0, by decide +kernel⟩,
   ⟨warm 1 480 feed, by decide +kernel⟩⟩

theorem witness_Thermal_8 :
    (∃ (s : State) (cap : Nat), s.isTile = true ∧ s.thermState = 2 ∧ s.lampReq = false ∧ cap = (if s.mayShed then s.capEff s.frameInt * 15 / 16 else s.thm.dieCap)) ∧
    (∃ (s : State) (cap : Nat), s.isTile = true ∧ s.thermState = 2 ∧ s.lampReq = false ∧ cap = (if s.mayShed then s.capEff s.frameInt * 15 / 16 else s.thm.dieCap)) ∧
    (∃ (s : State), s.isTile = true ∧ s.thermState ≠ 2 ∧ s.dieReq = true ∧ s.lampReq = false) ∧
    (∃ (s : State), s.isTile = true ∧ s.thermState ≠ 2 ∧ s.dieReq = false) :=
  ⟨⟨warm 2 1680 tile, 3840, by decide +kernel⟩,
   ⟨warm 2 1601 (tile.put R.thmCap F.thmCap_REQ 1), 4096, by decide +kernel⟩,
   ⟨warm 1 480 (tile.put R.thmCap F.thmCap_REQ 1), by decide +kernel⟩,
   ⟨warm 1 480 tile, by decide +kernel⟩⟩

theorem witness_Thermal_9 :
    (∃ (s : State), s.isTile = false) :=
  ⟨warm 2 1680 feed, by decide +kernel⟩

/-- The lowest voltages that detectors 0 and 15 saw. -/
def dips (a b : Nat) : List (Fin 16 × Nat) := [(0, a), (15, b)]

/-- The feed unit that serves tile 5 with its heat request, live or not, and a zone setting. -/
def asked (cfg sent : Nat) (live : Bool) : State :=
  let s := (served 3 locked).put (R.thmZoneStatus 0) F.thmZoneStatus_SENT sent
  { s with thm := { s.thm with heats := [⟨5, 3000, live⟩] } }.setReg R.thmHeatCfg cfg

/-- The voltage loop running, with a target and what it keeps. -/
def looping (target : Nat) (f : PwrSt → PwrSt) : State :=
  let s := regsSet feed [(R.pwrAvsCfg, 1), (R.pwrAvsLimits, 700 + 800 * 1024 + 900 * 2 ^ 20), (R.pwrAvsStatus, target)]
  { s with pwr := f s.pwr }

theorem witness_CapsAndVoltage :
    (∃ (s : State) (z : Nat), s.isFeed = true ∧ z ∈ s.zones) ∧
    (∃ (s : State) (z : Nat), s.isFeed = true ∧ z ∈ s.zones) ∧
    (∃ (s : State) (z : Nat) (h : HeatRec), h ∈ s.thm.heats ∧ h.live = true ∧ s.isAdmitted h.addr = true ∧ s.zoneOf h.addr = z) ∧
    (∃ (s : State), s.isFeed = false) ∧
    (∃ (z : Fin 16) (s : State) (d : Nat), s.isFeed = true ∧ s.rst.inReset = false ∧ s.flag R.thmHeatCfg F.thmHeatCfg_AUTO = true ∧ z.val ∈ s.zones ∧ s.get (R.thmZoneStatus z.val) F.thmZoneStatus_SENT < s.zoneTarget z.val ∧ d ∈ (if s.oneZone then [0xFFF] else s.zoneTiles z.val)) ∧
    (∃ (z : Fin 16) (s : State) (d : Nat), s.isFeed = true ∧ s.rst.inReset = false ∧ s.flag R.thmHeatCfg F.thmHeatCfg_AUTO = true ∧ z.val ∈ s.zones ∧ s.get (R.thmZoneStatus z.val) F.thmZoneStatus_SENT < s.zoneTarget z.val ∧ d ∈ (if s.oneZone then [0xFFF] else s.zoneTiles z.val)) ∧
    (∃ (z : Fin 16) (s : State), (s.isFeed = false ∨ s.rst.inReset = true ∨ s.flag R.thmHeatCfg F.thmHeatCfg_AUTO = false ∨ z.val ∉ s.zones ∨ s.zoneTarget z.val ≤ s.get (R.thmZoneStatus z.val) F.thmZoneStatus_SENT)) ∧
    (∃ (z : Fin 16) (s : State), (s.isFeed = false ∨ s.rst.inReset = true ∨ s.flag R.thmHeatCfg F.thmHeatCfg_AUTO = false ∨ z.val ∉ s.zones ∨ s.zoneTarget z.val ≤ s.get (R.thmZoneStatus z.val) F.thmZoneStatus_SENT)) ∧
    (∃ (req : Requester) (v : Word) (cap : Nat) (z : Nat) (s : State), cap = min 4096 (fieldGet v.toNat F.thmCapCmd_CAP) ∧ z = fieldGet v.toNat F.thmCapCmd_ZONE ∧ s.mayWrite req = true ∧ s.isFeed = true ∧ s.flag R.thmHeatCfg F.thmHeatCfg_AUTO = true) ∧
    (∃ (req : Requester) (v : Word) (cap : Nat) (z : Nat) (s : State) (i : Nat), cap = min 4096 (fieldGet v.toNat F.thmCapCmd_CAP) ∧ z = fieldGet v.toNat F.thmCapCmd_ZONE ∧ s.mayWrite req = true ∧ s.isFeed = true ∧ s.flag R.thmHeatCfg F.thmHeatCfg_AUTO = false ∧ fieldGet v.toNat F.thmCapCmd_GO = 1 ∧ fieldGet v.toNat F.thmCapCmd_ALL = 1 ∧ i ∈ s.zones) ∧
    (∃ (req : Requester) (v : Word) (cap : Nat) (z : Nat) (s : State) (a : Nat), cap = min 4096 (fieldGet v.toNat F.thmCapCmd_CAP) ∧ z = fieldGet v.toNat F.thmCapCmd_ZONE ∧ s.mayWrite req = true ∧ s.isFeed = true ∧ s.flag R.thmHeatCfg F.thmHeatCfg_AUTO = false ∧ fieldGet v.toNat F.thmCapCmd_GO = 1 ∧ fieldGet v.toNat F.thmCapCmd_ALL = 0 ∧ a ∈ s.zoneTiles z) ∧
    (∃ (req : Requester) (v : Word) (cap : Nat) (z : Nat) (s : State), cap = min 4096 (fieldGet v.toNat F.thmCapCmd_CAP) ∧ z = fieldGet v.toNat F.thmCapCmd_ZONE ∧ s.mayWrite req = true ∧ (s.isFeed = false ∨ (s.flag R.thmHeatCfg F.thmHeatCfg_AUTO = false ∧ fieldGet v.toNat F.thmCapCmd_GO = 0))) ∧
    (∃ (ds : List (Fin 16 × Nat)) (sees : Nat → Bool) (acts : Bool) (s : State) (d : Nat), sees = (fun i => ds.any fun x => x.1.val == i && s.droops x.2) ∧ acts = ((List.range 16).any fun i => sees i && !bitOf (s.get R.pwrDroopMask F.pwrDroopMask_MASK) i) ∧ d < 16) ∧
    (∃ (ds : List (Fin 16 × Nat)) (sees : Nat → Bool) (acts : Bool) (s : State) (d : Nat), sees = (fun i => ds.any fun x => x.1.val == i && s.droops x.2) ∧ acts = ((List.range 16).any fun i => sees i && !bitOf (s.get R.pwrDroopMask F.pwrDroopMask_MASK) i) ∧ d < 16) ∧
    (∃ (d : BitVec 10) (n : Nat) (s : State), n = min 1000 d.toNat ∧ n ≤ 250 ∧ (n ≤ 250 ∨ s.pwr.highMs ≠ 9)) ∧
    (∃ (d : BitVec 10) (n : Nat) (s : State), n = min 1000 d.toNat ∧ 250 < n ∧ s.pwr.highMs = 9) ∧
    (∃ (ms : List Int) (low : Bool) (high : Bool) (acked : Bool) (v : Nat) (run : Nat) (s : State), low = (ms.any fun m => decide (m < s.fuses.marginLow)) ∧ high = (!ms.isEmpty && ms.all fun m => decide (s.fuses.marginHigh < m)) ∧ run = (if high = true ∧ s.pwr.stretches = 0 then s.pwr.highRun + 1 else 0) ∧ v = (if low = true ∨ 16 ≤ s.pwr.stretches then min (s.get R.pwrAvsLimits F.pwrAvsLimits_VMAX) (s.get R.pwrAvsStatus F.pwrAvsStatus_TARGET + 5) else if 100 ≤ run then max (s.get R.pwrAvsLimits F.pwrAvsLimits_VMIN) (s.get R.pwrAvsStatus F.pwrAvsStatus_TARGET - 5) else s.get R.pwrAvsStatus F.pwrAvsStatus_TARGET) ∧ s.fwRuns = true ∧ s.rst.inReset = false ∧ s.flag R.pwrAvsCfg F.pwrAvsCfg_EN = true ∧ s.flag R.pwrAvsStatus F.pwrAvsStatus_LOST = false ∧ (acked = true ∨ v = s.pwr.ackedTarget ∨ s.pwr.nacks < 2) ∧ acked = true) ∧
    (∃ (ms : List Int) (low : Bool) (high : Bool) (acked : Bool) (v : Nat) (run : Nat) (s : State), low = (ms.any fun m => decide (m < s.fuses.marginLow)) ∧ high = (!ms.isEmpty && ms.all fun m => decide (s.fuses.marginHigh < m)) ∧ run = (if high = true ∧ s.pwr.stretches = 0 then s.pwr.highRun + 1 else 0) ∧ v = (if low = true ∨ 16 ≤ s.pwr.stretches then min (s.get R.pwrAvsLimits F.pwrAvsLimits_VMAX) (s.get R.pwrAvsStatus F.pwrAvsStatus_TARGET + 5) else if 100 ≤ run then max (s.get R.pwrAvsLimits F.pwrAvsLimits_VMIN) (s.get R.pwrAvsStatus F.pwrAvsStatus_TARGET - 5) else s.get R.pwrAvsStatus F.pwrAvsStatus_TARGET) ∧ s.fwRuns = true ∧ s.rst.inReset = false ∧ s.flag R.pwrAvsCfg F.pwrAvsCfg_EN = true ∧ s.flag R.pwrAvsStatus F.pwrAvsStatus_LOST = false ∧ (acked = true ∨ v = s.pwr.ackedTarget ∨ s.pwr.nacks < 2) ∧ acked = true) ∧
    (∃ (ms : List Int) (low : Bool) (high : Bool) (acked : Bool) (v : Nat) (run : Nat) (s : State), low = (ms.any fun m => decide (m < s.fuses.marginLow)) ∧ high = (!ms.isEmpty && ms.all fun m => decide (s.fuses.marginHigh < m)) ∧ run = (if high = true ∧ s.pwr.stretches = 0 then s.pwr.highRun + 1 else 0) ∧ v = (if low = true ∨ 16 ≤ s.pwr.stretches then min (s.get R.pwrAvsLimits F.pwrAvsLimits_VMAX) (s.get R.pwrAvsStatus F.pwrAvsStatus_TARGET + 5) else if 100 ≤ run then max (s.get R.pwrAvsLimits F.pwrAvsLimits_VMIN) (s.get R.pwrAvsStatus F.pwrAvsStatus_TARGET - 5) else s.get R.pwrAvsStatus F.pwrAvsStatus_TARGET) ∧ s.fwRuns = true ∧ s.rst.inReset = false ∧ s.flag R.pwrAvsCfg F.pwrAvsCfg_EN = true ∧ s.flag R.pwrAvsStatus F.pwrAvsStatus_LOST = false ∧ (acked = true ∨ v = s.pwr.ackedTarget ∨ s.pwr.nacks < 2)) ∧
    (∃ (ms : List Int) (low : Bool) (high : Bool) (acked : Bool) (v : Nat) (run : Nat) (s : State), low = (ms.any fun m => decide (m < s.fuses.marginLow)) ∧ high = (!ms.isEmpty && ms.all fun m => decide (s.fuses.marginHigh < m)) ∧ run = (if high = true ∧ s.pwr.stretches = 0 then s.pwr.highRun + 1 else 0) ∧ v = (if low = true ∨ 16 ≤ s.pwr.stretches then min (s.get R.pwrAvsLimits F.pwrAvsLimits_VMAX) (s.get R.pwrAvsStatus F.pwrAvsStatus_TARGET + 5) else if 100 ≤ run then max (s.get R.pwrAvsLimits F.pwrAvsLimits_VMIN) (s.get R.pwrAvsStatus F.pwrAvsStatus_TARGET - 5) else s.get R.pwrAvsStatus F.pwrAvsStatus_TARGET) ∧ s.fwRuns = true ∧ s.rst.inReset = false ∧ s.flag R.pwrAvsCfg F.pwrAvsCfg_EN = true ∧ s.flag R.pwrAvsStatus F.pwrAvsStatus_LOST = false ∧ acked = false ∧ v ≠ s.pwr.ackedTarget ∧ 2 ≤ s.pwr.nacks) ∧
    (∃ (s : State), (s.fwRuns = false ∨ s.rst.inReset = true ∨ s.flag R.pwrAvsCfg F.pwrAvsCfg_EN = false ∨ s.flag R.pwrAvsStatus F.pwrAvsStatus_LOST = true)) :=
  ⟨⟨asked 1 3000 true, 0, by decide +kernel⟩,
   ⟨asked 1 4096 true, 0, by decide +kernel⟩,
   ⟨asked 1 4096 true, 0, HeatRec.mk 5 3000 true, by decide +kernel⟩,
   ⟨tile, by decide +kernel⟩,
   ⟨(0 : Fin 16), asked 1 2000 true, 0xFFF, by decide +kernel⟩,
   ⟨(0 : Fin 16), asked 3 2000 true, 5, by decide +kernel⟩,
   ⟨(0 : Fin 16), asked 1 3000 true, by decide +kernel⟩,
   ⟨(1 : Fin 16), asked 1 2000 true, by decide +kernel⟩,
   ⟨.mp, 0x40000#32, min 4096 (fieldGet (0x40000#32).toNat F.thmCapCmd_CAP), fieldGet (0x40000#32).toNat F.thmCapCmd_ZONE, asked 1 2000 true, by first | with_reducible rfl | rfl, by first | with_reducible rfl | rfl, by decide +kernel⟩,
   ⟨.mp, 0x43FFF#32, min 4096 (fieldGet (0x43FFF#32).toNat F.thmCapCmd_CAP), fieldGet (0x43FFF#32).toNat F.thmCapCmd_ZONE, asked 2 2000 true, 15, by first | with_reducible rfl | rfl, by first | with_reducible rfl | rfl, by decide +kernel⟩,
   ⟨.mp, 0x40100#32, min 4096 (fieldGet (0x40100#32).toNat F.thmCapCmd_CAP), fieldGet (0x40100#32).toNat F.thmCapCmd_ZONE, asked 2 2000 true, 5, by first | with_reducible rfl | rfl, by first | with_reducible rfl | rfl, by decide +kernel⟩,
   ⟨.mp, 0x100#32, min 4096 (fieldGet (0x100#32).toNat F.thmCapCmd_CAP), fieldGet (0x100#32).toNat F.thmCapCmd_ZONE, asked 2 2000 true, by first | with_reducible rfl | rfl, by first | with_reducible rfl | rfl, by decide +kernel⟩,
   ⟨dips 700 780, (fun i => (dips 700 780).any fun x => x.1.val == i && (looping 801 id).droops x.2), ((List.range 16).any fun i => ((fun i => (dips 700 780).any fun x => x.1.val == i && (looping 801 id).droops x.2)) i && !bitOf ((looping 801 id).get R.pwrDroopMask F.pwrDroopMask_MASK) i), looping 801 id, 15, by first | with_reducible rfl | rfl, by first | with_reducible rfl | rfl, by decide +kernel⟩,
   ⟨dips 700 700, (fun i => (dips 700 700).any fun x => x.1.val == i && ((looping 801 id).setReg R.pwrDroopMask 1).droops x.2), ((List.range 16).any fun i => ((fun i => (dips 700 700).any fun x => x.1.val == i && ((looping 801 id).setReg R.pwrDroopMask 1).droops x.2)) i && !bitOf (((looping 801 id).setReg R.pwrDroopMask 1).get R.pwrDroopMask F.pwrDroopMask_MASK) i), (looping 801 id).setReg R.pwrDroopMask 1, 15, by first | with_reducible rfl | rfl, by first | with_reducible rfl | rfl, by decide +kernel⟩,
   ⟨250#10, min 1000 (250#10).toNat, looping 800 (fun x => { x with highMs := 9 }), by first | with_reducible rfl | rfl, by decide +kernel⟩,
   ⟨1023#10, min 1000 (1023#10).toNat, looping 800 (fun x => { x with highMs := 9 }), by first | with_reducible rfl | rfl, by decide +kernel⟩,
   ⟨[-1, 100], (([-1, 100]).any fun m => decide (m < (looping 898 (fun x => { x with highRun := 99 })).fuses.marginLow)), (!([-1, 100]).isEmpty && ([-1, 100]).all fun m => decide ((looping 898 (fun x => { x with highRun := 99 })).fuses.marginHigh < m)), true, (if ((([-1, 100]).any fun m => decide (m < (looping 898 (fun x => { x with highRun := 99 })).fuses.marginLow))) = true ∨ 16 ≤ (looping 898 (fun x => { x with highRun := 99 })).pwr.stretches then min ((looping 898 (fun x => { x with highRun := 99 })).get R.pwrAvsLimits F.pwrAvsLimits_VMAX) ((looping 898 (fun x => { x with highRun := 99 })).get R.pwrAvsStatus F.pwrAvsStatus_TARGET + 5) else if 100 ≤ ((if ((!([-1, 100]).isEmpty && ([-1, 100]).all fun m => decide ((looping 898 (fun x => { x with highRun := 99 })).fuses.marginHigh < m))) = true ∧ (looping 898 (fun x => { x with highRun := 99 })).pwr.stretches = 0 then (looping 898 (fun x => { x with highRun := 99 })).pwr.highRun + 1 else 0)) then max ((looping 898 (fun x => { x with highRun := 99 })).get R.pwrAvsLimits F.pwrAvsLimits_VMIN) ((looping 898 (fun x => { x with highRun := 99 })).get R.pwrAvsStatus F.pwrAvsStatus_TARGET - 5) else (looping 898 (fun x => { x with highRun := 99 })).get R.pwrAvsStatus F.pwrAvsStatus_TARGET), (if ((!([-1, 100]).isEmpty && ([-1, 100]).all fun m => decide ((looping 898 (fun x => { x with highRun := 99 })).fuses.marginHigh < m))) = true ∧ (looping 898 (fun x => { x with highRun := 99 })).pwr.stretches = 0 then (looping 898 (fun x => { x with highRun := 99 })).pwr.highRun + 1 else 0), looping 898 (fun x => { x with highRun := 99 }), by first | with_reducible rfl | rfl, by first | with_reducible rfl | rfl, by first | with_reducible rfl | rfl, by first | with_reducible rfl | rfl, by decide +kernel⟩,
   ⟨[17, 100], (([17, 100]).any fun m => decide (m < (looping 703 (fun x => { x with highRun := 99 })).fuses.marginLow)), (!([17, 100]).isEmpty && ([17, 100]).all fun m => decide ((looping 703 (fun x => { x with highRun := 99 })).fuses.marginHigh < m)), true, (if ((([17, 100]).any fun m => decide (m < (looping 703 (fun x => { x with highRun := 99 })).fuses.marginLow))) = true ∨ 16 ≤ (looping 703 (fun x => { x with highRun := 99 })).pwr.stretches then min ((looping 703 (fun x => { x with highRun := 99 })).get R.pwrAvsLimits F.pwrAvsLimits_VMAX) ((looping 703 (fun x => { x with highRun := 99 })).get R.pwrAvsStatus F.pwrAvsStatus_TARGET + 5) else if 100 ≤ ((if ((!([17, 100]).isEmpty && ([17, 100]).all fun m => decide ((looping 703 (fun x => { x with highRun := 99 })).fuses.marginHigh < m))) = true ∧ (looping 703 (fun x => { x with highRun := 99 })).pwr.stretches = 0 then (looping 703 (fun x => { x with highRun := 99 })).pwr.highRun + 1 else 0)) then max ((looping 703 (fun x => { x with highRun := 99 })).get R.pwrAvsLimits F.pwrAvsLimits_VMIN) ((looping 703 (fun x => { x with highRun := 99 })).get R.pwrAvsStatus F.pwrAvsStatus_TARGET - 5) else (looping 703 (fun x => { x with highRun := 99 })).get R.pwrAvsStatus F.pwrAvsStatus_TARGET), (if ((!([17, 100]).isEmpty && ([17, 100]).all fun m => decide ((looping 703 (fun x => { x with highRun := 99 })).fuses.marginHigh < m))) = true ∧ (looping 703 (fun x => { x with highRun := 99 })).pwr.stretches = 0 then (looping 703 (fun x => { x with highRun := 99 })).pwr.highRun + 1 else 0), looping 703 (fun x => { x with highRun := 99 }), by first | with_reducible rfl | rfl, by first | with_reducible rfl | rfl, by first | with_reducible rfl | rfl, by first | with_reducible rfl | rfl, by decide +kernel⟩,
   ⟨[10], (([10]).any fun m => decide (m < (looping 800 (fun x => { x with nacks := 2 })).fuses.marginLow)), (!([10]).isEmpty && ([10]).all fun m => decide ((looping 800 (fun x => { x with nacks := 2 })).fuses.marginHigh < m)), false, (if ((([10]).any fun m => decide (m < (looping 800 (fun x => { x with nacks := 2 })).fuses.marginLow))) = true ∨ 16 ≤ (looping 800 (fun x => { x with nacks := 2 })).pwr.stretches then min ((looping 800 (fun x => { x with nacks := 2 })).get R.pwrAvsLimits F.pwrAvsLimits_VMAX) ((looping 800 (fun x => { x with nacks := 2 })).get R.pwrAvsStatus F.pwrAvsStatus_TARGET + 5) else if 100 ≤ ((if ((!([10]).isEmpty && ([10]).all fun m => decide ((looping 800 (fun x => { x with nacks := 2 })).fuses.marginHigh < m))) = true ∧ (looping 800 (fun x => { x with nacks := 2 })).pwr.stretches = 0 then (looping 800 (fun x => { x with nacks := 2 })).pwr.highRun + 1 else 0)) then max ((looping 800 (fun x => { x with nacks := 2 })).get R.pwrAvsLimits F.pwrAvsLimits_VMIN) ((looping 800 (fun x => { x with nacks := 2 })).get R.pwrAvsStatus F.pwrAvsStatus_TARGET - 5) else (looping 800 (fun x => { x with nacks := 2 })).get R.pwrAvsStatus F.pwrAvsStatus_TARGET), (if ((!([10]).isEmpty && ([10]).all fun m => decide ((looping 800 (fun x => { x with nacks := 2 })).fuses.marginHigh < m))) = true ∧ (looping 800 (fun x => { x with nacks := 2 })).pwr.stretches = 0 then (looping 800 (fun x => { x with nacks := 2 })).pwr.highRun + 1 else 0), looping 800 (fun x => { x with nacks := 2 }), by first | with_reducible rfl | rfl, by first | with_reducible rfl | rfl, by first | with_reducible rfl | rfl, by first | with_reducible rfl | rfl, by decide +kernel⟩,
   ⟨[-1], (([-1]).any fun m => decide (m < (looping 850 (fun x => { x with nacks := 2 })).fuses.marginLow)), (!([-1]).isEmpty && ([-1]).all fun m => decide ((looping 850 (fun x => { x with nacks := 2 })).fuses.marginHigh < m)), false, (if ((([-1]).any fun m => decide (m < (looping 850 (fun x => { x with nacks := 2 })).fuses.marginLow))) = true ∨ 16 ≤ (looping 850 (fun x => { x with nacks := 2 })).pwr.stretches then min ((looping 850 (fun x => { x with nacks := 2 })).get R.pwrAvsLimits F.pwrAvsLimits_VMAX) ((looping 850 (fun x => { x with nacks := 2 })).get R.pwrAvsStatus F.pwrAvsStatus_TARGET + 5) else if 100 ≤ ((if ((!([-1]).isEmpty && ([-1]).all fun m => decide ((looping 850 (fun x => { x with nacks := 2 })).fuses.marginHigh < m))) = true ∧ (looping 850 (fun x => { x with nacks := 2 })).pwr.stretches = 0 then (looping 850 (fun x => { x with nacks := 2 })).pwr.highRun + 1 else 0)) then max ((looping 850 (fun x => { x with nacks := 2 })).get R.pwrAvsLimits F.pwrAvsLimits_VMIN) ((looping 850 (fun x => { x with nacks := 2 })).get R.pwrAvsStatus F.pwrAvsStatus_TARGET - 5) else (looping 850 (fun x => { x with nacks := 2 })).get R.pwrAvsStatus F.pwrAvsStatus_TARGET), (if ((!([-1]).isEmpty && ([-1]).all fun m => decide ((looping 850 (fun x => { x with nacks := 2 })).fuses.marginHigh < m))) = true ∧ (looping 850 (fun x => { x with nacks := 2 })).pwr.stretches = 0 then (looping 850 (fun x => { x with nacks := 2 })).pwr.highRun + 1 else 0), looping 850 (fun x => { x with nacks := 2 }), by first | with_reducible rfl | rfl, by first | with_reducible rfl | rfl, by first | with_reducible rfl | rfl, by first | with_reducible rfl | rfl, by decide +kernel⟩,
   ⟨(looping 800 id).put R.pwrAvsStatus F.pwrAvsStatus_LOST 1, by decide +kernel⟩⟩

/-- A record of MBX of a severity. -/
def note (sev : Nat) : EventRec := ⟨Block.mbx.id, 5, sev, false, false, false, false, 1, 0, 1, 0, 0, 0, 0, 0, 0⟩

/-- The feed unit with ring 4 bound to queue 64, the queue as given, and routes of MBX to ring 4. -/
def ringed (en : Nat) (f : QueueCtx → QueueCtx) : State :=
  withQueue 64 (fun x => f { x with enabled := true, sizeLog2 := 2, esize := 1, base := 8192, p := 1, c := 1, vector := 9 })
    (regsSet feed [(R.evtRingBind 4, 64 + en * 2 ^ 18), (R.evtRoute 22, 4 + 2 ^ 6 + 4 * 2 ^ 8 + 2 ^ 14), (R.hifMsixCtrl 9, 0)])

/-- The same with what the events keep changed. -/
def keeping (f : EvtSt → EvtSt) (s : State) : State := { s with evt := f s.evt }

/-- A capture slot of MBX in use. -/
def captured : State := feed.setReg (R.evtCapCtrl (capSlot Block.mbx.id 3)) (2 ^ 16 + 7)

/-- What merging keeps of MBX cause 5 of unit 0. -/
def merging (last n : Nat) (s : State) : State := keeping (fun e => { e with merges := [⟨Block.mbx.id * 256 + 5, s.tileAddr, 0, last, n⟩] }) s

theorem witness_Events_1 :
    (∃ (b : Block) (cause : Nat) (sev : Nat) (unit : Nat) (d : List Nat) (r : EventRec) (slot : Nat) (s : State) (t : State) (i : Nat) (o : Nat), t = s.raise b cause sev unit d ∧ r = s.record b cause sev unit d ∧ slot = capSlot b.id sev ∧ sev < 8 ∧ cause < 256 ∧ b.id < 256 ∧ i < 4 ∧ 1 ≤ b.id ∧ b.id ≤ 23 ∧ 2 ≤ sev ∧ sev ≤ 4 ∧ s.get (R.evtCapCtrl slot) F.evtCapCtrl_VALID = 0 ∧ i < 8 ∧ o < 69 ∧ (o ≠ slot ∨ sev < 2)) ∧
    (∃ (b : Block) (cause : Nat) (sev : Nat) (unit : Nat) (d : List Nat) (r : EventRec) (slot : Nat) (s : State) (t : State) (i : Nat), t = s.raise b cause sev unit d ∧ r = s.record b cause sev unit d ∧ slot = capSlot b.id sev ∧ sev < 8 ∧ cause < 256 ∧ b.id < 256 ∧ 1 ≤ b.id ∧ b.id ≤ 23 ∧ 2 ≤ sev ∧ sev ≤ 4 ∧ s.get (R.evtCapCtrl slot) F.evtCapCtrl_VALID = 1 ∧ i < 8) ∧
    (∃ (b : Block) (cause : Nat) (sev : Nat) (unit : Nat) (d : List Nat) (r : EventRec) (slot : Nat) (s : State) (t : State) (o : Nat), t = s.raise b cause sev unit d ∧ r = s.record b cause sev unit d ∧ slot = capSlot b.id sev ∧ o < 69 ∧ (o ≠ slot ∨ sev < 2)) ∧
    (∃ (ring : Nat) (n : Nat) (q : QueueCtx) (s : State), n = s.get (R.evtRingBind ring) F.evtRingBind_QUEUE ∧ q = s.queue n ∧ ring < 64 ∧ s.get (R.evtRingBind ring) F.evtRingBind_EN = 0) ∧
    (∃ (ring : Nat) (n : Nat) (q : QueueCtx) (s : State), n = s.get (R.evtRingBind ring) F.evtRingBind_QUEUE ∧ q = s.queue n ∧ ring < 64 ∧ s.get (R.evtRingBind ring) F.evtRingBind_EN = 1 ∧ (q.enabled = false ∨ q.isFull (s.inFlight n) = true)) ∧
    (∃ (ring : Nat) (n : Nat) (q : QueueCtx) (s : State), n = s.get (R.evtRingBind ring) F.evtRingBind_QUEUE ∧ q = s.queue n ∧ ring < 64 ∧ s.get (R.evtRingBind ring) F.evtRingBind_EN = 1 ∧ (q.enabled = false ∨ q.isFull (s.inFlight n) = true)) ∧
    (∃ (ring : Nat) (n : Nat) (q : QueueCtx) (s : State), n = s.get (R.evtRingBind ring) F.evtRingBind_QUEUE ∧ q = s.queue n ∧ ring < 64 ∧ s.get (R.evtRingBind ring) F.evtRingBind_EN = 1 ∧ (q.enabled = false ∨ q.isFull (s.inFlight n) = true)) ∧
    (∃ (ring : Nat) (n : Nat) (q : QueueCtx) (s : State), n = s.get (R.evtRingBind ring) F.evtRingBind_QUEUE ∧ q = s.queue n ∧ ring < 64 ∧ s.get (R.evtRingBind ring) F.evtRingBind_EN = 1 ∧ q.enabled = true ∧ q.isFull (s.inFlight n) = false) ∧
    (∃ (r : EventRec) (s : State), 1 ≤ r.block ∧ r.block ≤ 23 ∧ s.isTile = false ∧ r.sev < 2 ∧ s.get (R.evtRoute (r.block - 1)) F.evtRoute_LOW_EN = 1) ∧
    (∃ (r : EventRec) (s : State), 1 ≤ r.block ∧ r.block ≤ 23 ∧ s.isTile = false ∧ 2 ≤ r.sev ∧ s.get (R.evtRoute (r.block - 1)) F.evtRoute_HIGH_EN = 1) ∧
    (∃ (r : EventRec) (s : State), 1 ≤ r.block ∧ r.block ≤ 23 ∧ s.isTile = false ∧ s.get (R.evtRoute (r.block - 1)) F.evtRoute_LOW_EN = 0 ∧ s.get (R.evtRoute (r.block - 1)) F.evtRoute_HIGH_EN = 0) ∧
    (∃ (r : EventRec) (s : State), 1 ≤ r.block ∧ r.block ≤ 23 ∧ s.isTile = true ∧ r.sev < s.get R.evtUpCfg F.evtUpCfg_MIN_SEV) ∧
    (∃ (r : EventRec) (s : State), 1 ≤ r.block ∧ r.block ≤ 23 ∧ s.isTile = true ∧ s.get R.evtUpCfg F.evtUpCfg_MIN_SEV ≤ r.sev ∧ s.evt.upstream.length < 64) ∧
    (∃ (r : EventRec) (s : State), 1 ≤ r.block ∧ r.block ≤ 23 ∧ s.isTile = true ∧ s.get R.evtUpCfg F.evtUpCfg_MIN_SEV ≤ r.sev ∧ 64 ≤ s.evt.upstream.length) ∧
    (∃ (b : Block) (cause : Nat) (unit : Nat) (d : List Nat) (r : EventRec) (m : MergeRec) (s : State), r = s.record b cause 3 unit d ∧ s.evt.merges.find? (fun m => m.code == r.block * 256 + r.cause && m.tile == r.tile && m.unit == r.unit) = some m ∧ s.clock.now < m.last + 10000000) ∧
    (∃ (b : Block) (cause : Nat) (unit : Nat) (d : List Nat) (r : EventRec) (m : MergeRec) (s : State), r = s.record b cause 3 unit d ∧ s.evt.merges.find? (fun m => m.code == r.block * 256 + r.cause && m.tile == r.tile && m.unit == r.unit) = some m ∧ m.last + 10000000 ≤ s.clock.now ∧ s.isTile = true ∧ s.get R.evtUpCfg F.evtUpCfg_MIN_SEV ≤ 3 ∧ s.evt.upstream.length < 64) ∧
    (∃ (b : Block) (n : Nat) (cause : Nat) (unit : Nat) (s : State), n ≤ s.limitCount (b.id * 256 + cause) unit) ∧
    (∃ (b : Block) (n : Nat) (cause : Nat) (unit : Nat) (s : State), s.limitCount (b.id * 256 + cause) unit < n) ∧
    (∃ (s : State), s.evt.landing = []) ∧
    (∃ (ring : Nat) (qn : Nat) (r : EventRec) (rest : List (Nat × EventRec)) (x : QueueCtx) (s : State) (i : Nat), qn = s.get (R.evtRingBind ring) F.evtRingBind_QUEUE ∧ x = s.queue qn ∧ s.evt.landing = (ring, r) :: rest ∧ ring < 64 ∧ x.enabled = true ∧ x.isFull = false ∧ x.hostSpace = false ∧ i < 32 ∧ x.base + x.p * x.entryBytes + i < s.memSize ∧ (s.get (R.evtRingBind ring) F.evtRingBind_COALESCE = 0 ∨ 3 ≤ r.sev) ∧ s.roleLive .hif = true ∧ s.get (R.hifMsixCtrl x.vector) F.hifMsixCtrl_MASK = 0) ∧
    (∃ (ring : Nat) (qn : Nat) (r : EventRec) (rest : List (Nat × EventRec)) (x : QueueCtx) (s : State), qn = s.get (R.evtRingBind ring) F.evtRingBind_QUEUE ∧ x = s.queue qn ∧ s.evt.landing = (ring, r) :: rest ∧ ring < 64 ∧ x.enabled = true ∧ x.isFull = false ∧ x.hostSpace = true ∧ (s.get (R.evtRingBind ring) F.evtRingBind_COALESCE = 0 ∨ 3 ≤ r.sev) ∧ s.roleLive .hif = true ∧ s.get (R.hifMsixCtrl x.vector) F.hifMsixCtrl_MASK = 0) ∧
    (∃ (ring : Nat) (qn : Nat) (r : EventRec) (rest : List (Nat × EventRec)) (x : QueueCtx) (s : State), qn = s.get (R.evtRingBind ring) F.evtRingBind_QUEUE ∧ x = s.queue qn ∧ s.evt.landing = (ring, r) :: rest ∧ ring < 64 ∧ (x.enabled = false ∨ x.isFull = true)) ∧
    (∃ (i : Nat) (j : Nat), i < 8 ∧ j < 4) ∧
    (∃ (ring : Fin 64) (v : Nat) (s : State), v = (s.queue (s.get (R.evtRingBind ring.val) F.evtRingBind_QUEUE)).vector ∧ s.evt.coalesced.contains ring.val = false) :=
  ⟨⟨Block.mbx, 5, 4, 65537, [1, 2, 3], (feed).record (Block.mbx) (5) (4) (65537) ([1, 2, 3]), capSlot (Block.mbx).id (4), feed, (feed).raise (Block.mbx) (5) (4) (65537) ([1, 2, 3]), 2, 7, by first | with_reducible rfl | rfl, by first | with_reducible rfl | rfl, by first | with_reducible rfl | rfl, by decide +kernel⟩,
   ⟨Block.mbx, 0, 3, 0, [], (captured).record (Block.mbx) (0) (3) (0) ([]), capSlot (Block.mbx).id (3), captured, (captured).raise (Block.mbx) (0) (3) (0) ([]), 0, by first | with_reducible rfl | rfl, by first | with_reducible rfl | rfl, by first | with_reducible rfl | rfl, by decide +kernel⟩,
   ⟨Block.mbx, 5, 1, 0, [], (captured).record (Block.mbx) (5) (1) (0) ([]), capSlot (Block.mbx).id (1), captured, (captured).raise (Block.mbx) (5) (1) (0) ([]), 67, by first | with_reducible rfl | rfl, by first | with_reducible rfl | rfl, by first | with_reducible rfl | rfl, by decide +kernel⟩,
   ⟨4, (ringed 0 id).get (R.evtRingBind (4)) F.evtRingBind_QUEUE, (ringed 0 id).queue ((ringed 0 id).get (R.evtRingBind (4)) F.evtRingBind_QUEUE), ringed 0 id, by first | with_reducible rfl | rfl, by first | with_reducible rfl | rfl, by decide +kernel⟩,
   ⟨4, (ringed 1 (fun x => { x with enabled := false })).get (R.evtRingBind (4)) F.evtRingBind_QUEUE, (ringed 1 (fun x => { x with enabled := false })).queue ((ringed 1 (fun x => { x with enabled := false })).get (R.evtRingBind (4)) F.evtRingBind_QUEUE), ringed 1 (fun x => { x with enabled := false }), by first | with_reducible rfl | rfl, by first | with_reducible rfl | rfl, by decide +kernel⟩,
   ⟨4, (ringed 1 (fun x => { x with p := 4, c := 1 })).get (R.evtRingBind (4)) F.evtRingBind_QUEUE, (ringed 1 (fun x => { x with p := 4, c := 1 })).queue ((ringed 1 (fun x => { x with p := 4, c := 1 })).get (R.evtRingBind (4)) F.evtRingBind_QUEUE), ringed 1 (fun x => { x with p := 4, c := 1 }), by first | with_reducible rfl | rfl, by first | with_reducible rfl | rfl, by decide +kernel⟩,
   ⟨4, (keeping (fun e => { e with landing := [(4, note 1), (4, note 2)] }) (ringed 1 (fun x => { x with p := 2 }))).get (R.evtRingBind (4)) F.evtRingBind_QUEUE, (keeping (fun e => { e with landing := [(4, note 1), (4, note 2)] }) (ringed 1 (fun x => { x with p := 2 }))).queue ((keeping (fun e => { e with landing := [(4, note 1), (4, note 2)] }) (ringed 1 (fun x => { x with p := 2 }))).get (R.evtRingBind (4)) F.evtRingBind_QUEUE), keeping (fun e => { e with landing := [(4, note 1), (4, note 2)] }) (ringed 1 (fun x => { x with p := 2 })), by first | with_reducible rfl | rfl, by first | with_reducible rfl | rfl, by decide +kernel⟩,
   ⟨4, (keeping (fun e => { e with lostNext := [4], landing := [(3, note 2)] }) (ringed 1 (fun x => { x with p := 3 }))).get (R.evtRingBind (4)) F.evtRingBind_QUEUE, (keeping (fun e => { e with lostNext := [4], landing := [(3, note 2)] }) (ringed 1 (fun x => { x with p := 3 }))).queue ((keeping (fun e => { e with lostNext := [4], landing := [(3, note 2)] }) (ringed 1 (fun x => { x with p := 3 }))).get (R.evtRingBind (4)) F.evtRingBind_QUEUE), keeping (fun e => { e with lostNext := [4], landing := [(3, note 2)] }) (ringed 1 (fun x => { x with p := 3 })), by first | with_reducible rfl | rfl, by first | with_reducible rfl | rfl, by decide +kernel⟩,
   ⟨note 1, ringed 1 id, by decide +kernel⟩,
   ⟨note 2, ringed 1 id, by decide +kernel⟩,
   ⟨note 2, feed, by decide +kernel⟩,
   ⟨note 2, tile.setReg R.evtUpCfg 3, by decide +kernel⟩,
   ⟨note 2, keeping (fun e => { e with upLost := true, upstream := List.replicate 63 (note 2) }) (tile.setReg R.evtUpCfg 2), by decide +kernel⟩,
   ⟨note 2, keeping (fun e => { e with upstream := List.replicate 64 (note 2) }) (tile.setReg R.evtUpCfg 2), by decide +kernel⟩,
   ⟨Block.mbx, 5, 0, [], (merging 3599990000001 0 feed).record (Block.mbx) (5) 3 (0) ([]), ⟨Block.mbx.id * 256 + 5, feed.tileAddr, 0, 3599990000001, 0⟩, merging 3599990000001 0 feed, by first | with_reducible rfl | rfl, by decide +kernel⟩,
   ⟨Block.mbx, 5, 0, [], (merging 3599990000000 70000 (tile.setReg R.evtUpCfg 3)).record (Block.mbx) (5) 3 (0) ([]), ⟨Block.mbx.id * 256 + 5, tile.tileAddr, 0, 3599990000000, 70000⟩, merging 3599990000000 70000 (tile.setReg R.evtUpCfg 3), by first | with_reducible rfl | rfl, by decide +kernel⟩,
   ⟨Block.mbx, 1, 5, 0, keeping (fun e => { e with limits := [(Block.mbx.id * 256 + 5, 0, 3599000000001)] }) feed, by decide +kernel⟩,
   ⟨Block.mbx, 1, 5, 0, keeping (fun e => { e with limits := [(Block.mbx.id * 256 + 5, 0, 3599000000000)] }) feed, by decide +kernel⟩,
   ⟨feed, by decide +kernel⟩,
   ⟨4, (keeping (fun e => { e with landing := [(4, note 1), (3, note 2)] }) (ringed 1 (fun x => { x with p := 3 }))).get (R.evtRingBind (4)) F.evtRingBind_QUEUE, note 1, [(3, note 2)], (keeping (fun e => { e with landing := [(4, note 1), (3, note 2)] }) (ringed 1 (fun x => { x with p := 3 }))).queue ((keeping (fun e => { e with landing := [(4, note 1), (3, note 2)] }) (ringed 1 (fun x => { x with p := 3 }))).get (R.evtRingBind (4)) F.evtRingBind_QUEUE), keeping (fun e => { e with landing := [(4, note 1), (3, note 2)] }) (ringed 1 (fun x => { x with p := 3 })), 31, by first | with_reducible rfl | rfl, by first | with_reducible rfl | rfl, by decide +kernel⟩,
   ⟨4, ((keeping (fun e => { e with landing := [(4, note 3)], lastMsg := [(4, 3599999999999)] }) (ringed 1 (fun x => { x with hostSpace := true }))).put (R.evtRingBind 4) F.evtRingBind_COALESCE 5).get (R.evtRingBind (4)) F.evtRingBind_QUEUE, note 3, [], ((keeping (fun e => { e with landing := [(4, note 3)], lastMsg := [(4, 3599999999999)] }) (ringed 1 (fun x => { x with hostSpace := true }))).put (R.evtRingBind 4) F.evtRingBind_COALESCE 5).queue (((keeping (fun e => { e with landing := [(4, note 3)], lastMsg := [(4, 3599999999999)] }) (ringed 1 (fun x => { x with hostSpace := true }))).put (R.evtRingBind 4) F.evtRingBind_COALESCE 5).get (R.evtRingBind (4)) F.evtRingBind_QUEUE), (keeping (fun e => { e with landing := [(4, note 3)], lastMsg := [(4, 3599999999999)] }) (ringed 1 (fun x => { x with hostSpace := true }))).put (R.evtRingBind 4) F.evtRingBind_COALESCE 5, by first | with_reducible rfl | rfl, by first | with_reducible rfl | rfl, by decide +kernel⟩,
   ⟨4, (keeping (fun e => { e with landing := [(4, note 3)] }) (ringed 1 (fun x => { x with enabled := false }))).get (R.evtRingBind (4)) F.evtRingBind_QUEUE, note 3, [], (keeping (fun e => { e with landing := [(4, note 3)] }) (ringed 1 (fun x => { x with enabled := false }))).queue ((keeping (fun e => { e with landing := [(4, note 3)] }) (ringed 1 (fun x => { x with enabled := false }))).get (R.evtRingBind (4)) F.evtRingBind_QUEUE), keeping (fun e => { e with landing := [(4, note 3)] }) (ringed 1 (fun x => { x with enabled := false })), by first | with_reducible rfl | rfl, by first | with_reducible rfl | rfl, by decide +kernel⟩,
   ⟨7, 3, by decide +kernel⟩,
   ⟨(4 : Fin 64), ((feed).queue ((feed).get (R.evtRingBind ((4 : Fin 64)).val) F.evtRingBind_QUEUE)).vector, feed, by first | with_reducible rfl | rfl, by decide +kernel⟩⟩

theorem witness_Events_2 :
    (∃ (ring : Fin 64) (v : Nat) (s : State), v = (s.queue (s.get (R.evtRingBind ring.val) F.evtRingBind_QUEUE)).vector ∧ s.evt.coalesced.contains ring.val = true ∧ s.roleLive .hif = true ∧ s.get (R.hifMsixCtrl v) F.hifMsixCtrl_MASK = 0) ∧
    (∃ (slot : Fin 69) (v : Word) (k : Nat) (o : Nat), fieldGet v.toNat F.evtCapCtrl_VALID = 1 ∧ k ≠ R.evtCapCtrl slot.val ∧ k ≠ R.evtCapPending (slot.val % 3) ∧ 1 ≤ o ∧ o ≤ 23 ∧ o ≠ slot.val / 3 + 1) ∧
    (∃ (v : Word), fieldGet v.toNat F.evtCapCtrl_VALID = 0) ∧
    (∃ (req : Requester) (v : Word) (s : State), s.mayWrite req = true ∧ fieldGet v.toNat F.evtRingBind_EN = 1 ∧ s.queueClass (fieldGet v.toNat F.evtRingBind_QUEUE) ≠ some 1) ∧
    (∃ (req : Requester) (v : Word) (s : State), s.mayWrite req = true ∧ (fieldGet v.toNat F.evtRingBind_EN = 0 ∨ s.queueClass (fieldGet v.toNat F.evtRingBind_QUEUE) = some 1)) ∧
    (∃ (req : Requester) (v : Word) (s : State), s.mayWrite req = true ∧ (fieldGet v.toNat F.evtRingBind_EN = 0 ∨ s.queueClass (fieldGet v.toNat F.evtRingBind_QUEUE) = some 1)) :=
  ⟨⟨(4 : Fin 64), ((keeping (fun e => { e with coalesced := [3, 4] }) (ringed 1 id)).queue ((keeping (fun e => { e with coalesced := [3, 4] }) (ringed 1 id)).get (R.evtRingBind ((4 : Fin 64)).val) F.evtRingBind_QUEUE)).vector, keeping (fun e => { e with coalesced := [3, 4] }) (ringed 1 id), by first | with_reducible rfl | rfl, by decide +kernel⟩,
   ⟨(67 : Fin 69), 0x10000#32, R.evtCapCtrl 66, 22, by decide +kernel⟩,
   ⟨0x20000#32, by decide +kernel⟩,
   ⟨.mp, 0x40003#32, ringed 1 id, by decide +kernel⟩,
   ⟨.mp, 0xFFFC0040#32, ringed 1 id, by decide +kernel⟩,
   ⟨.mp, 0xF8000003#32, ringed 1 id, by decide +kernel⟩⟩

/-- The CRC-32 of a long list, looking at the value after every byte. -/
def crcGo : Nat → List Nat → Nat
  | c, [] => c
  | c, b :: r => if c = 0 then crcGo (crc32Byte 0 b) r else crcGo (crc32Byte c b) r

theorem crcGo_eq (l : List Nat) : ∀ c, crcGo c l = l.foldl crc32Byte c := by
  induction l with
  | nil => intro c; rfl
  | cons b r ih =>
    intro c; simp only [crcGo, List.foldl_cons]
    split
    · next h => rw [ih, h]
    · exact ih _

theorem calCrc_go (c : List Nat) (off n : Nat) : calCrc c off n = Nat.xor (crcGo 0xFFFFFFFF ((c.drop off).take n)) 0xFFFFFFFF := by
  rw [crcGo_eq]; rfl

/-- The nodes of a list of pairs, one after the other. -/
def nodesGo : Nat → List Nat → Bool
  | 0, _ => true
  | n + 1, l => nodeOk ((List.range 4).map fun k => (l.getD (2 * k) 0, l.getD (2 * k + 1) 0)) && nodesGo n (l.drop 8)

theorem nodesGo_all (c : List Nat) (n : Nat) : ∀ m, nodesGo n (c.drop (0x1100 + 8 * m)) = true → ∀ k, m ≤ k → k < m + n → nodeOk (calNode c k) = true := by
  induction n with
  | zero => intro m _ k h1 h2; omega
  | succ n ih =>
    intro m h k h1 h2
    rw [nodesGo, Bool.and_eq_true, List.drop_drop] at h
    by_cases hk : k = m
    · subst hk; rw [← h.1]; congr 1
      simp only [calNode, List.getD_eq_getElem?_getD, List.getElem?_drop]
      congr 1; funext j; congr 2 <;> congr 1 <;> omega
    · exact ih (m + 1) (by have := h.2; rwa [show 0x1100 + 8 * (m + 1) = 0x1100 + 8 * m + 8 by omega]) k (by omega) (by omega)

/-- The copy passes every step of R267. -/
theorem cal_passes : calCause applied.serial lamps (some calBytes) = 0 := by
  have hn : (List.range 256).all (fun n => nodeOk (calNode calBytes n)) = true := by
    rw [List.all_eq_true]; intro k hk
    exact nodesGo_all calBytes 256 0 (by decide +kernel) k (Nat.zero_le _) (by simpa using List.mem_range.mp hk)
  simp only [calCause]
  rw [if_neg (by rw [calCrc_go]; decide +kernel), if_neg (by decide +kernel), if_neg (by decide +kernel), if_neg (by decide +kernel),
    if_neg (by rw [hn, calCrc_go]; decide +kernel), if_neg (by rw [calCrc_go]; decide +kernel), if_neg (by rw [calCrc_go]; decide +kernel)]

theorem witness_CalibrationApplied :
    ∃ (i : Nat) (m : LampMap) (c : List Nat) (s : State) (l : LampAt), s.isTile = true ∧ s.rst.inReset = false ∧ s.cor.applying = some i ∧
      i ≤ 1 ∧ s.lampMap = some m ∧ c = (s.calCopy i).getD [] ∧ calCause s.serial m (s.calCopy i) = 0 ∧
      s.reg R.corCalSeq < calField c 0x18 4 ∧ l ∈ s.lamps ∧ (∀ x, x ∈ s.lamps → x.key = l.key → x = l) :=
  ⟨1, lamps, calBytes, applied, lamp1, by decide +kernel, by decide +kernel, by decide +kernel, by decide +kernel, by decide +kernel, rfl,
    cal_passes, by decide +kernel, by decide +kernel, by decide +kernel⟩

/-- The small feed unit with a byte of memory and an event record on its way to a queue that is not enabled. -/
def waitingRecord : State := { feed with mem := [(5, 7#8)], pending := [.eventRecordLanded], evt := { feed.evt with landing := [(4, note 3)] } }

theorem witness_StepKeepsCanonicalForms : ∃ s t : State, s.Canonical ∧ step s = .next t :=
  ⟨waitingRecord, _, by decide +kernel, rfl⟩

theorem witness_FloorOnlyRises :
    ∃ s t : State, s.fuses.svnFloor ≤ 63 ∧ step s = .next t ∧ s.fuses.svnFloor < t.fuses.svnFloor :=
  ⟨queued (.fwCommitSvn 63) ((boxed 0x100).put R.secFwInfo F.secFwInfo_SVN 2), _, by decide +kernel, rfl, by decide +kernel⟩

theorem witness_CommandsLeaveTheQueue : ∃ (c : Instr) (s t : State), exec c s = .next t ∧ s.freeCount < t.freeCount :=
  ⟨.encodeStart 0, starting 0 id, _, rfl, by decide +kernel⟩

/-! ### Tests of one step or one operation, with values from the spec's worked examples -/

/-- Pattern 0 of the reference stage. -/
def stage : PatternRec :=
  { index := 0, slots := 2, fpNum := 1, fpDen := 60, windows := [(100000, 8100000), (100000, 8100000), (0, 0), (0, 0)], reservedZero := true }

/-- Frame and slot at an instant on the reference stage (chapter 4). -/
theorem test_frame_and_slot :
    frameAt 0 stage 1750000000510000000 = 105000000030 ∧ slotAt 0 stage 105000000030 1750000000510000000 = 1 ∧
    slotStart 0 stage 105000000030 1 = 1750000000508333333 ∧ frameStart 0 stage 105000000031 = 1750000000516666666 := by decide +kernel

/-- The first 50 Hz frame from T, as the reference stage switches (chapter 4). -/
theorem test_first_frame_after_switch :
    firstFrameFrom 0 { stage with fpDen := 50 } 1750000001010000000 = 87500000051 ∧
    frameStart 0 { stage with fpDen := 50 } 87500000051 = 1750000001020000000 := by decide +kernel

/-- The next-frame deadline of the programme feed (chapter 5). -/
theorem test_next_frame_deadline : nextDeadline { srcCfg [] 0 with num := 1, den := 60, lateTol := 2 } 350000 = 21183333 := by decide +kernel

/-- The source window of render stream 1 ends after 39,206,912 bytes of frame 4 (chapter 6). -/
theorem test_window_wraps :
    circAddr (0x4000000000 + 497664000) true 29 39206911 = 0x4000000000 + 536870911 ∧
    circAddr (0x4000000000 + 497664000) true 29 39206912 = 0x4000000000 := by decide +kernel

/-- One lamp of slot A on the reference stage (chapter 7): alpha, blend, and the output with DITHER clear. -/
theorem test_blend_of_a_lamp :
    alpha8 64 = 1028 ∧ effectiveAlpha 1028 3072 4096 = 771 ∧ effectiveAlpha 4096 4096 4096 = 4096 ∧
    blendCoded 4096 2400 0 = 38400 ∧ blendCoded 771 4095 38400 = 43505 ∧ blendCoded 771 4095 32768 = 38933 ∧
    blendCoded 771 4095 19200 = 27919 ∧ canvasRgb false [43505, 38933, 27919] 5000 2000 0 0 = ⟨2719, 2433, 1745⟩ := by decide +kernel

/-- The sample of lamp (5,000, 2,000) in layer LY0 (chapter 8): position, phase and taps in both directions. -/
theorem test_scaler_position :
    (⟨0, 7680, 15360, 0, 8⟩ : Dir).step = 2 ^ 27 ∧ (⟨0, 7680, 15360, 0, 8⟩ : Dir).phase 5000 = 48 ∧
    (⟨0, 7680, 15360, 0, 8⟩ : Dir).reads 5000 = [2496, 2497, 2498, 2499, 2500, 2501, 2502, 2503] ∧
    (⟨1200, 1920, 3840, 0, 8⟩ : Dir).phase 2000 = 48 ∧
    (⟨1200, 1920, 3840, 0, 8⟩ : Dir).reads 2000 = [2196, 2197, 2198, 2199, 2200, 2201, 2202, 2203] := by decide +kernel

/-- Granules of the render layers and of the inset (chapter 8). -/
theorem test_granules :
    granules ⟨1928, false⟩ 8 = 15 ∧ granules ⟨136, false⟩ 8 = 2 ∧ granules ⟨7680, false⟩ 8 = 60 ∧ granules ⟨3840, false⟩ 8 = 30 := by decide +kernel

/-- A slice of 320 lamps and the time of a band row (chapter 10). -/
theorem test_slice_wire : sliceWire 320 = 1472 ∧ composeTime (3840 * 3840) = 3413334 := by decide +kernel

/-- The lamp of the reference stage through stages 2 to 7 (chapter 12): matrix, offset and trim; the grid; self-heating; the gains. -/
theorem test_correction_stages :
    let r := 7700 + 260 * 2 ^ 16 + 65496 * 2 ^ 32 + 120 * 2 ^ 48 + 7560 * 2 ^ 64 + 80 * 2 ^ 80 + 65506 * 2 ^ 96 + 200 * 2 ^ 112 + 7900 * 2 ^ 128 +
      65524 * 2 ^ 144 + 0 * 2 ^ 160 + 8 * 2 ^ 176 + 31785 * 2 ^ 208
    let b : BinRec := ⟨0, 400, 2000, 3200, 96, 96, 64, [2147484, 805306, 536871], [64425, 0, 0], true⟩
    let cs : CorrSet := ⟨0, 16, true, true, [16520, 16384, 16300], 3686, 4096, 0, 0⟩
    (List.range 3).map (fun c => stage2 r c [392438, 300559, 135362]) = [366403, 275909, 132353] ∧
    gridPlace 200 320 = (9, 1656) ∧ gridPlace 80 320 = (3, 3120) ∧ selfRise b 22000 = 67 ∧
    (List.range 3).map (fun c => gainK b c 689) = [19283629, 17686331, 17383293] ∧
    stages3to6 cs 19283629 0 366403 = 382132 ∧ stages3to6 cs 17686331 1 275909 = 261746 ∧ stages3to6 cs 17383293 2 132353 = 122775 ∧
    greyWord { cs with dith := false } 5000 2000 4 382132 = 23883 := by decide +kernel

/-- Self-heating of that lamp after the slot (chapter 12). -/
theorem test_self_heating :
    let b : BinRec := ⟨0, 400, 2000, 3200, 96, 96, 64, [0, 0, 0], [0, 0, 0], true⟩
    heatAlpha b (slotMicros stage) = 271 ∧ driveLevel b false ⟨382132, 261746, 122775⟩ = 17009 := by decide +kernel

/-- The slack of slot 0 at REPEAT 16 and depth 16, and the places of G25 (chapters 13 and 14). -/
theorem test_slack_and_places :
    tile.pwmLength 16 16 = 6990507 ∧ tile.slackAt stage 16 16 0 = 1009293 ∧
    (let s := ((tile.put R.lmpSagCfg F.lmpSagCfg_EN 1).put (sagKey 25) F.lmpSagMap_MAPPED 1).put R.lmpStatus F.lmpStatus_REPEAT_USED 16
     let t := { s with active := sWrite regReset s.active R.corCfg (fieldSet (sRead regReset s.active R.corCfg) F.corCfg_DEPTH 16) }
     (List.range 8).map (fun k => (t.put (sagKey 25) F.lmpSagMap_PLACE k).syncOffset stage 25 0) =
       [0, 126161, 252323, 378484, 504646, 630808, 756969, 883131]) := by decide +kernel

/-- VF_HIGH of the lamp that reads code 47 where the median is 38 and the spread 1, and not of the one that reads 44 (chapter 14). -/
theorem test_vf_high : outKinds 24 47 (some (38, 1)) = 4 ∧ outKinds 24 44 (some (38, 1)) = 0 := by decide +kernel

/-- The fade of a Strike over 30 frames (chapter 14). -/
theorem test_strike_fade :
    (⟨4096, 0, 100, 30, 0⟩ : Fade).value 114 = 2048 ∧ (⟨4096, 0, 100, 30, 0⟩ : Fade).value 129 = 0 := by decide +kernel

/-- The caps of the tile that reaches its throttle level (chapter 17). -/
theorem test_cap_ramps :
    (⟨4096, 3840, 1, 120⟩ : CapRamp).value 59 = 3971 ∧ ((⟨4096, 3840, 1, 120⟩ : CapRamp).next 3722 61 120).old = 3968 ∧
    (((⟨4096, 3840, 1, 120⟩ : CapRamp).next 3722 61 120).value 119) = 3848 := by decide +kernel

/-- Encode stream 0 of unit A (chapter 16): its budget, its exhaustion at row 25, and not before the bits grow. -/
theorem test_encode_budget :
    encBudget { encCfg [] 0 with maxBits := 1024 * 390625, window := 60 } (List.replicate 59 6644067 ++ []) = 8000047 ∧
    rowsExhausted (List.replicate 25 319600 ++ List.replicate 5 3680) 120 8000000 = true ∧
    rowsExhausted (List.replicate 30 3680) 120 8000000 = false := by decide +kernel

/-- Word 0 and word 2 of the late slots' records (chapter 19), as the tile raises them and the feed unit relays them. -/
theorem test_late_slot_record :
    let r := { (tile.record .hal 5 3 1 [7]) with tile := 0x043, domain := 0 }
    { r with upstream := true }.word0 = 0x00131405 ∧ { r with upstream := true, merged := true }.word0 = 0x00331405 ∧
    r.words.getD 2 0 = 0x00010043 := by decide +kernel

/-- The lane plan of unit A (chapter 9), with what the example changes: accepted, a 25GBASE-CR port on L56 accepted, one on L52 beside
family B refused with LANES, Halyard-12 on L47 accepted. -/
def plan (ex : Nat → Option LaneRec) : List LaneRec :=
  (List.range 96).map fun l => (ex l).getD (
    if l < 48 then ⟨.halyard, 1#3, BitVec.ofNat 7 l, 0#2, 0#2, false, false⟩
    else if l < 56 then ⟨.ethernet, 3#3, BitVec.ofNat 7 ((l - 48) / 4), 2#2, BitVec.ofNat 2 (l % 4), false, false⟩
    else if 72 ≤ l ∧ l < 80 then ⟨.nvme, 4#3, BitVec.ofNat 7 ((l - 72) / 4), 2#2, BitVec.ofNat 2 (l % 4), false, false⟩
    else ⟨.off, 0#3, 0#7, 0#2, 0#2, false, false⟩)

theorem test_lane_plan :
    lanesCause .f 1 (plan fun _ => none) = 0 ∧
    lanesCause .f 1 (plan fun l => if l = 56 then some ⟨.ethernet, 1#3, 2#7, 0#2, 0#2, false, false⟩ else none) = 0 ∧
    lanesCause .f 1 (plan fun l => if l = 52 then some ⟨.ethernet, 1#3, 2#7, 0#2, 0#2, false, false⟩ else none) = 0x10 ∧
    lanesCause .f 1 (plan fun l => if l = 47 then some ⟨.halyard, 2#3, 47#7, 0#2, 0#2, false, false⟩ else none) = 0 := by decide +kernel

/-- The limit of R77 on the windows of pattern 0: 8,323,332 ns passes, one more does not (chapter 4). -/
theorem test_window_limit :
    patternOk stage = true ∧ patternOk { stage with windows := [(100000, 8323332), (100000, 8100000), (0, 0), (0, 0)] } = true ∧
    patternOk { stage with windows := [(100000, 8323333), (100000, 8100000), (0, 0), (0, 0)] } = false := by decide +kernel

/-- Well-formed and ill-formed commands: each check of WellFormed.lean refuses a term (a payload shorter than LENGTH, another version, a
type of another row, a row segment without its bytes, BAR2 data on a read, an object of 5 bytes, one supply named twice, five lanes of a
port, five settings of them, seventeen taps, a board sensor, a light sensor, a late group, a lane position and a droop detector named twice, 63
readings, no word to write, three lanes of a port, a plane of the wrong size). -/
theorem test_well_formed :
    let p := up 6 5 0 0 true [0, 0, 0, 0]
    (Instr.heatReq 0 p).wf = true ∧ (Instr.heatReq 0 { p with payload := [] }).wf = false ∧
    (Instr.heatReq 0 { p with hdr := { p.hdr with version := 2#4 } }).wf = false ∧
    (Instr.heatReq 0 { p with hdr := { p.hdr with hops := 0#6 } }).wf = false ∧ (Instr.event 0 p).wf = false ∧
    (Instr.ethernetFrame 0 ⟨100, true, [], false, .udp false 9 9 9 ⟨2#2, true, 1#16, 1#32, .video 1#16 [⟨6, false, 1, 0, [1, 2, 3]⟩]⟩⟩).wf = false ∧
    (Instr.bar2Access false 0 1 [1] []).wf = false ∧ (Instr.doeObject .spdm 5 [1, 2, 3, 4, 5]).wf = false ∧
    (Instr.slotBoundary [(0, 1), (0, 2)]).wf = false ∧ (Instr.trainDone 0 (List.replicate 5 (1, 1)) []).wf = false ∧ (Instr.trainDone 0 [] (List.replicate 5 (1, 1, 1))).wf = false ∧
    (Instr.eqUpdate 0 1 (List.replicate 17 0) none).wf = false ∧ (Instr.boardSensorPoll [(1, none), (1, none)]).wf = false ∧
    (Instr.lightSensorLoop [(1, none), (1, none)]).wf = false ∧ (Instr.transferStart 0 [1, 1] []).wf = false ∧
    (Instr.sensorSample (List.replicate 63 400)).wf = false ∧ (Instr.sensorSample (List.replicate 64 400)).wf = true ∧
    (Instr.multiwordWrite .mp 0 []).wf = false ∧ (Instr.multiwordWrite .mp 0 [1]).wf = true ∧ (Instr.lockDone 0 [1, 1]).wf = false ∧
    (Instr.lockDone 0 [1, 0]).wf = true ∧ (Instr.packetReceive 0 [[], [], []]).wf = false ∧ (Instr.packetReceive 0 [[], []]).wf = true ∧
    (Instr.droopDetect [(1, 800), (1, 790)]).wf = false ∧
    (Instr.accessUnit 0 { unit1 with outputs := [⟨1, 2, 2, 0, 8, [1, 2, 3, 4], [5], [6]⟩] }).wf = true ∧
    (Instr.accessUnit 0 { unit1 with outputs := [⟨1, 2, 2, 0, 8, [1, 2, 3], [5], [6]⟩] }).wf = false := by decide +kernel

/-- No row of the table has an encoding, so no word spells a command, and placing one changes nothing. -/
theorem test_no_words : decodeTableWord 16 0 = none ∧ State.reset.withFetchWord 16 0 = State.reset := ⟨rfl, rfl⟩

/-- Balls of a reference-stage tile (chapter 20): CH0 on L00, CH1 on L24, channel C200, the clock and blank of G25. -/
theorem test_balls :
    [ballAt 1 5, ballAt 1 6, ballAt 3 5, ballAt 3 6] = [.laneTx 0 false, .laneTx 0 true, .laneRx 0 false, .laneRx 0 true] ∧
    [ballAt 5 56, ballAt 6 56, ballAt 5 54, ballAt 6 54] = [.laneTx 24 false, .laneTx 24 true, .laneRx 24 false, .laneRx 24 true] ∧
    [ballAt 23 52, ballAt 23 47, ballAt 24 45] = [.ldat 200, .lck 25, .lblankN 25] := by decide +kernel

/-- The count of the ground balls (chapter 20). -/
theorem test_ground_balls :
    ((List.range 56).flatMap fun r => (List.range 56).map fun c => ballAt (r + 1) (c + 1)).countP (· == .vss) = 1290 := by
  decide +kernel

/-- A stamp just before a wrap of ns32 (the worked example of R76): 20 µs before the snapshot. -/
theorem test_ns32_wrap : extendNs32 (7 * 4294967296 + 10000) 0xFFFFD8F0 = 7 * 4294967296 + 10000 - 20000 := by decide

/-- The on-times of the segments of a period sum to the grey value (R283). -/
theorem test_pwm_sum : ((List.range 8).map (pwmOn 1001 3)).sum = 1001 := by decide +kernel

/-- The CRC of two words, worked by hand from the polynomial of R280. -/
theorem test_config_crc : cfgCrc [0x3132, 0x3334] = 21321 := by decide +kernel

/-- The first configuration words of a driver (R280): DEPTH 16, eight segments, REPEAT 2, the gains and the enabled outputs. -/
theorem test_config_words :
    (configWords ⟨16, 3, 2⟩ ⟨1, 16, 255, 128, 1, false⟩ 0x0FFF).take 4 = [0x021C, 0x80FF, 0x0001, 0x0FFF] := by decide +kernel

/-- The published check values of the three CRCs over the nine digits (R196, R198, R199). -/
theorem test_crc_check_values :
    crc8 [0x31, 0x32, 0x33, 0x34, 0x35, 0x36, 0x37, 0x38, 0x39] = 0xF4 ∧
    crc16 [0x31, 0x32, 0x33, 0x34, 0x35, 0x36, 0x37, 0x38, 0x39] = 0x29B1 ∧
    crc32 [0x31, 0x32, 0x33, 0x34, 0x35, 0x36, 0x37, 0x38, 0x39] = 0xCBF43926 := by decide +kernel

/-- The header that the bytes of a packet spell is the packet's, and its CRC says good, or stomped where it went out so (R198 to R200). -/
theorem test_packet_bytes :
    headOf (packetBytes (ctlRead 7) false) = (ctlRead 7).hdr ∧ packetOf (packetBytes (ctlRead 7) false) = ctlRead 7 ∧
    crcVerdict (packetBytes (ctlRead 7) false) = 0 ∧ crcVerdict (packetBytes (ctlRead 7) true) = 1 := by decide +kernel

end Sys2Proof.Tests
end

section
/-! PROOFS. Held-off blocks (R15): an access of a register of a block that is held off, by the bus or by a command of its own. -/

namespace Sys2Proof.Machine

/-! ### Whose accesses count -/

/-- A requester whose writes are accepted has its effect. -/
theorem State.byReq_of_mayWrite {s : State} {req : Requester} (hw : s.mayWrite req = true) (t : State) : s.byReq req t = t :=
  if_pos hw

/-- A mailbox write without an effect leaves the state as it is, whether or not R61 takes it from the requester. -/
theorem State.byMailbox_self {s : State} {req : Requester} (hw : s.mayWrite req = true) : s.byMailbox req s = s := by
  unfold State.byMailbox
  split
  · rfl
  · exact State.byReq_of_mayWrite hw s

/-! ### Accesses of the register space -/

/-- The word at an offset belongs to a block that is held off: it is a word of a register of the block, or of the coefficient store,
which COR owns (R15, R244). -/
def State.HeldOffAt (s : State) (off : Nat) : Prop :=
  (∃ h, storeWord off = none ∧ regAt off = some h ∧ s.live h.spec.block = false) ∨ (storeWord off ≠ none ∧ s.live .cor = false)

/-- A register of a block that is held off does not respond. -/
theorem State.regLive_of_live_false {s : State} {h : RegHit} (hl : s.live h.spec.block = false) : s.regLive h = false := by
  simp [State.regLive, hl]

/-- A write of the coefficient store while COR is held off changes nothing. -/
theorem State.busWrite_store_dead {s : State} {off : Nat} (hs : storeWord off ≠ none) (hl : s.live .cor = false) (v : Nat)
    (req : Requester) : s.busWrite off v req = s := by
  obtain ⟨w, hw⟩ := Option.ne_none_iff_exists'.mp hs
  simp [State.busWrite, hw, hl]

/-- A write that is not aligned changes nothing. -/
theorem State.bar0Write_misaligned {off : Nat} (hr : remoteAt off = none) (ha : off % 4 ≠ 0) (s : State) (v : Nat) (req : Requester) :
    s.bar0Write off v req = s := by
  simp [State.bar0Write, hr, State.busWrite, ha]

/-- A write of a word of a held-off block changes nothing (R15). -/
theorem State.bar0Write_heldOff {s : State} {off : Nat} (hr : remoteAt off = none) (hh : s.HeldOffAt (off / 4 * 4)) (v : Nat)
    (req : Requester) : s.bar0Write off v req = s := by
  by_cases ha : off % 4 = 0
  · rw [Nat.div_mul_cancel (Nat.dvd_of_mod_eq_zero ha)] at hh
    rcases hh with ⟨h, hs, hat, hl⟩ | ⟨hs, hl⟩
    · exact State.bar0Write_dead hr hs hat (State.regLive_of_live_false hl)
    · simp only [State.bar0Write, hr, State.busWrite_store_dead hs hl]
  · exact State.bar0Write_misaligned hr ha s v req

/-- A word of a held-off block reads as 0, and the read changes nothing (R15). -/
theorem State.busRead_heldOff {s : State} {off : Nat} (hh : s.HeldOffAt off) (req : Requester) : s.busRead off req = (0, s) := by
  rcases hh with ⟨h, hs, hat, hl⟩ | ⟨hs, hl⟩
  · simp [State.busRead, hs, hat, State.regLive_of_live_false hl]
  · obtain ⟨w, hw⟩ := Option.ne_none_iff_exists'.mp hs
    simp [State.busRead, hw, hl]

/-- Every part of the word 0 is 0. -/
@[simp] theorem ReadPart.of_zero (r : ReadPart) : r.of 0 = 0 := by simp [ReadPart.of]

/-- A read of a held-off block of any width answers 0 and does nothing else (R9, R15). -/
theorem State.bar0Read_heldOff {s : State} {off : Nat} (hr : remoteAt off = none) (hh : s.HeldOffAt (off / 4 * 4)) (w : AccessWidth)
    (req : Requester) : s.bar0Read w off req = s.answered req 0 := by
  simp only [State.bar0Read, hr, State.busRead_heldOff hh req, ReadPart.of_zero]

/-- A read of one word is a read of the register space. -/
theorem State.bar0Reads_one (s : State) (off : Nat) (req : Requester) : s.bar0Reads off req 1 = s.bar0Read .word off req := rfl

/-- An answer touches the requester's answer alone. -/
theorem State.frame_answered (s : State) (req : Requester) (v : Nat) :
    s.Frame (s.answered req v) [.bus] [] ∧ (s.answered req v).bus.answer.of req = v ∧ (s.answered req v).bus.latch = s.bus.latch :=
  ⟨(State.Frame.refl s _ _).set_bus (List.mem_singleton.mpr rfl) _, PerReq.of_put _ _ _, rfl⟩

/-- The write commands of the register space on a held-off block leave the state as it is (R15). -/
theorem exec_busWrites_heldOff {s : State} {req : Requester} {off : BitVec 26} (hr : remoteAt off.toNat = none)
    (hw : s.mayWrite req = true) (hh : s.HeldOffAt (off.toNat / 4 * 4)) (w : AccessWidth) (v : Word) :
    exec (.registerWrite req off w v) s = .next s ∧ exec (.multiwordWrite req off [v]) s = .next s ∧
      exec (.shadowWrite req off v) s = .next s := by
  have hb : s.bar0Write off.toNat v.toNat req = s := State.bar0Write_heldOff hr hh _ _
  refine ⟨?_, ?_, ?_⟩
  · show Host.Outcome.next (s.byReq req (if w = .word then s.bar0Write off.toNat v.toNat req else s)) = _
    rw [hb, ite_self, State.byReq_of_mayWrite hw]
  · show Host.Outcome.next (s.byReq req (s.bar0Write off.toNat v.toNat req)) = _
    rw [hb, State.byReq_of_mayWrite hw]
  · show Host.Outcome.next (s.byReq req (s.bar0Write off.toNat v.toNat req)) = _
    rw [hb, State.byReq_of_mayWrite hw]

/-- The read commands of the register space on a held-off block answer 0 (R15). -/
theorem exec_busReads_heldOff {s : State} {req : Requester} {off : BitVec 26} (hr : remoteAt off.toNat = none)
    (hm : s.mayRead req = true) (hh : s.HeldOffAt (off.toNat / 4 * 4)) (w : AccessWidth) :
    exec (.multiwordLowRead req off 0) s = .next (s.answered req 0) ∧ exec (.readClear req off w) s = .next (s.answered req 0) := by
  constructor
  · show Host.Outcome.next (if s.mayRead req then s.bar0Reads off.toNat req 1 else s) = _
    rw [if_pos hm, State.bar0Reads_one, State.bar0Read_heldOff hr hh]
  · show Host.Outcome.next (if s.mayRead req then s.bar0Read w off.toNat req else s) = _
    rw [if_pos hm, State.bar0Read_heldOff hr hh]

/-! ### Commands that write one register of a block -/

/-- A command that asks for its block first leaves the state as it is while the block is held off. -/
theorem next_byReq_heldOff {s : State} {req : Requester} {b : Block} (hw : s.mayWrite req = true) (hl : s.live b = false) (t : State) :
    (.next (s.byReq req (if s.live b then t else s)) : Out) = .next s := by
  rw [State.byReq_of_mayWrite hw, if_neg (ne_true_of_eq_false hl)]

/-- A write of the mailbox's command registers leaves the state as it is while MBX is held off. -/
theorem next_byMailbox_heldOff {s : State} {req : Requester} (hw : s.mayWrite req = true) (hl : s.live .mbx = false) (t : State) :
    (.next (s.byMailbox req (if s.live .mbx then t else s)) : Out) = .next s := by
  rw [if_neg (ne_true_of_eq_false hl), State.byMailbox_self hw]

/-- A doorbell while QM is held off changes nothing. -/
theorem exec_queueDoorbell_heldOff {s : State} (hl : s.live .qm = false) (q : BitVec 18) (v : Word) :
    exec (.queueDoorbell q v) s = .next s := by
  show execQueueDoorbell q v s = _
  simp [execQueueDoorbell, hl]

/-- A fence while ING is held off changes nothing. -/
theorem exec_frameFence_heldOff {s : State} {req : Requester} (hw : s.mayWrite req = true) (hl : s.live .ing = false) (i : Fin 64)
    (v : Word) : exec (.frameFence req i v) s = .next s := by
  have hf : s.fence i.val v.toNat req = s := by simp [State.fence, hl]
  show Host.Outcome.next (s.byReq req (s.fence i.val v.toNat req)) = _
  rw [hf, State.byReq_of_mayWrite hw]

/-- Settles O10: the bus finds no register that responds, and a command of its own asks for its block first. -/
theorem heldOffBlocks : Obligations.HeldOffBlocks := by
  unfold Obligations.HeldOffBlocks
  refine ⟨fun req off w v s hr hw hm hh => ?_, fun req v s hw => ⟨?mbx, ?qm, ?dma, ?ing, ?cmp, ?scl, ?cor, ?lmp, ?cdc, ?clp⟩⟩
  · obtain ⟨hreg, hmulti, hshadow⟩ := exec_busWrites_heldOff hr hw hh w v
    obtain ⟨hlow, hclear⟩ := exec_busReads_heldOff hr hm hh w
    exact ⟨hreg, hmulti, hshadow, ⟨_, hlow, s.frame_answered req 0⟩, ⟨_, hclear, s.frame_answered req 0⟩⟩
  case mbx => exact fun hl => ⟨next_byMailbox_heldOff hw hl _, next_byMailbox_heldOff hw hl _⟩
  case qm =>
    exact fun hl => ⟨next_byReq_heldOff hw hl _, next_byReq_heldOff hw hl _, fun _ => next_byReq_heldOff hw hl _,
      fun q => exec_queueDoorbell_heldOff hl q v⟩
  case dma =>
    exact fun hl => ⟨next_byReq_heldOff hw hl _, fun _ => ⟨next_byReq_heldOff hw hl _, next_byReq_heldOff hw hl _,
      next_byReq_heldOff hw hl _, next_byReq_heldOff hw hl _⟩⟩
  case ing => exact fun hl => ⟨fun i => exec_frameFence_heldOff hw hl i v, fun _ => next_byReq_heldOff hw hl _⟩
  case cmp => exact fun hl _ _ _ => next_byReq_heldOff hw hl _
  case scl => exact fun hl _ _ _ _ => next_byReq_heldOff hw hl _
  case cor => exact fun hl => ⟨next_byReq_heldOff hw hl _, fun _ _ => next_byReq_heldOff hw hl _, fun _ _ _ => next_byReq_heldOff hw hl _⟩
  case lmp =>
    exact fun hl => ⟨next_byReq_heldOff hw hl _, next_byReq_heldOff hw hl _, next_byReq_heldOff hw hl _, next_byReq_heldOff hw hl _,
      next_byReq_heldOff hw hl _, next_byReq_heldOff hw hl _, next_byReq_heldOff hw hl _⟩
  case cdc => exact fun hl _ => next_byReq_heldOff hw hl _
  case clp =>
    exact fun hl => ⟨next_byReq_heldOff hw hl _, next_byReq_heldOff hw hl _, next_byReq_heldOff hw hl _, fun _ => next_byReq_heldOff hw hl _⟩

end Sys2Proof.Machine
end

section
/-! PROOFS. The alignment origin (R80): the write in a feed unit, and what a tile takes from the Ensigns of the source it selects. -/

namespace Sys2Proof.Machine

/-! ### The source of Ensigns and the origin -/

/-- The two that R80 ties together: the source of the Ensigns that a device uses, and what TIME_ALIGN_ORIGIN holds. -/
def State.alignment (s : State) : Option Nat × Nat := (s.time.source, s.reg R.timeAlignOrigin)

/-- Another register set keeps the alignment. -/
theorem State.alignment_setReg (s : State) {k : Nat} (v : Nat) (h : k ≠ R.timeAlignOrigin) : (s.setReg k v).alignment = s.alignment :=
  congrArg (Prod.mk _) (s.reg_setReg_ne v h)

/-- A field of another register set keeps the alignment. -/
theorem State.alignment_put (s : State) {k : Nat} (f : Fld) (v : Nat) (h : k ≠ R.timeAlignOrigin) :
    (s.put k f v).alignment = s.alignment := s.alignment_setReg _ h

/-- An event keeps the alignment. -/
@[simp] theorem State.alignment_raise (s : State) (b : Block) (c sev unit : Nat) (d : List Nat) :
    (s.raise b c sev unit d).alignment = s.alignment := by
  have ht : (s.raise b c sev unit d).time = s.time := (s.frame_raise b c sev unit d).1 .time (by decide)
  have hr : (s.raise b c sev unit d).reg R.timeAlignOrigin = s.reg R.timeAlignOrigin := s.reg_raise b c sev unit d (by decide)
  rw [State.alignment, ht, hr, State.alignment]

/-- Steps that each keep the alignment keep it together. -/
theorem State.alignment_foldl {α : Type} (f : State → α → State) (hf : ∀ t a, (f t a).alignment = t.alignment) (l : List α)
    (s : State) : (l.foldl f s).alignment = s.alignment := by
  induction l generalizing s with
  | nil => rfl
  | cons a r ih => exact (ih (f s a)).trans (hf s a)

/-! ### The servo -/

/-- An emptied history leaves the source of Ensigns (R443). -/
@[simp] theorem State.alignment_emptyHistory (s : State) : s.emptyHistory.alignment = s.alignment := rfl

/-- FRAME_LOCKED is shown in registers of its own. -/
@[simp] theorem State.alignment_showLock (s : State) : s.showLock.alignment = s.alignment := by
  simp (disch := decide) only [State.showLock, State.alignment_put]

/-- A change of the servo's state keeps the alignment. -/
@[simp] theorem State.alignment_servoTo (s : State) (st : Nat) : (s.servoTo st).alignment = s.alignment := by
  have hput : ((s.put R.timeStatus F.timeStatus_STATE st).showLock).alignment = s.alignment := by
    rw [State.alignment_showLock, State.alignment_put _ _ _ (by decide)]
  unfold State.servoTo
  dsimp only
  split
  · exact hput
  · split
    · exact hput
    · exact hput

/-- A new addend keeps the alignment. -/
@[simp] theorem State.alignment_setAddend (s : State) (a : Nat) : (s.setAddend a).alignment = s.alignment :=
  s.alignment_setReg a (by decide)

/-- A rate correction keeps the alignment. -/
@[simp] theorem State.alignment_rateUpdate (s : State) (f : Int) : (s.rateUpdate f).alignment = s.alignment := by
  unfold State.rateUpdate
  dsimp only
  split
  · exact State.alignment_setAddend _ _
  · exact State.alignment_setAddend _ _

/-- The step of ACQUIRE moves the counter and keeps the alignment (R66). -/
@[simp] theorem State.alignment_acquireStep (s : State) : s.acquireStep.alignment = s.alignment := by
  have hstep : ∀ v, (s.stepCounter v).alignment = s.alignment := fun _ => rfl
  rw [State.acquireStep, State.alignment_servoTo, State.alignment_emptyHistory, State.alignment_put _ _ _ (by decide), hstep]

/-- The filtered offset is shown in a register of its own. -/
@[simp] theorem State.alignment_showOffset (s : State) (f : Int) : (s.showOffset f).alignment = s.alignment :=
  s.alignment_setReg _ (by decide)

/-- The state machine of R68 keeps the alignment. -/
@[simp] theorem State.alignment_servoJudge (s : State) (f : Int) : (s.servoJudge f).alignment = s.alignment := by
  unfold State.servoJudge
  extract_lets th within far need t s1 s2
  have h1 : s1.alignment = s.alignment := rfl
  have h2 : s2.alignment = s.alignment := by
    unfold s2
    split
    · rw [State.alignment_raise, State.alignment_put _ _ _ (by decide), h1]
    · exact h1
  split
  · split
    · exact (State.alignment_servoTo _ _).trans h2
    · exact h2
  · split
    · split
      · rw [State.alignment_raise, State.alignment_servoTo, h1]
      · exact h1
    · split
      · split
        · exact (State.alignment_servoTo _ _).trans h1
        · exact (State.alignment_servoTo _ _).trans h1
      · exact h1

/-- A measurement keeps the alignment. -/
@[simp] theorem State.alignment_measure (s : State) (o : Int) : (s.measure o).alignment = s.alignment := by
  unfold State.measure
  extract_lets s1 s2 h f _ s3 _ s4 s5
  have h2 : s2.alignment = s.alignment := by
    have h1 : s1.alignment = s.alignment := s.alignment_put _ _ (by decide)
    unfold s2
    split
    · split
      · exact (State.alignment_servoTo _ _).trans h1
      · exact (State.alignment_servoTo _ _).trans h1
    · exact h1
  have h3 : s3.alignment = s.alignment := (State.alignment_showOffset _ f).trans h2
  have h4 : s4.alignment = s.alignment := h3
  have h5 : s5.alignment = s.alignment := (s3.alignment_servoJudge f).trans h3
  split
  · split
    · exact (State.alignment_rateUpdate _ _).trans h4
    · split
      · exact (State.alignment_acquireStep _).trans h4
      · exact h4
  · split
    · exact (State.alignment_rateUpdate _ _).trans h5
    · exact h5

/-- A beacon that is measured makes its sender the source, and leaves the origin (R75, R442). -/
theorem State.alignment_measureBeacon (s : State) (l : Nat) (b : Beacon) :
    (s.measureBeacon l b).alignment = (some b.serial, s.reg R.timeAlignOrigin) := by
  unfold State.measureBeacon
  extract_lets s0 _ s1
  have h1 : s1.alignment = (some b.serial, s.reg R.timeAlignOrigin) := by
    unfold s1
    split
    · rename_i hsrc
      rw [State.alignment, hsrc]
    · unfold s0
      split <;> rfl
  rw [State.alignment_measure, State.alignment_put _ _ _ (by decide), h1]

/-! ### What a tile learns of the wall -/

/-- A switch to a pattern that the tile lacks keeps the alignment. -/
@[simp] theorem State.alignment_modeUnknown (s : State) (n : Nat) (act : SeqState) : (s.modeUnknown n act).alignment = s.alignment :=
  State.alignment_raise _ _ _ _ _ _

/-- A pattern and a domain action are the sequencer's (R87). -/
@[simp] theorem State.alignment_adoptMode (s : State) (n : Nat) (act : SeqState) (hold : Bool) :
    (s.adoptMode n act hold).alignment = s.alignment := by
  unfold State.adoptMode
  split
  · exact s.alignment_modeUnknown n act
  · rfl

/-- TIME_MODE_STATUS is a register of its own. -/
@[simp] theorem State.alignment_showMode (s : State) (st n act : Nat) : (s.showMode st n act).alignment = s.alignment := by
  simp (disch := decide) only [State.showMode, State.alignment_put]

/-- A mode switch that a tile learns of keeps the alignment (R87). -/
@[simp] theorem State.alignment_learnMode (s : State) (m : ModeSwitch) : (s.learnMode m).alignment = s.alignment := by
  unfold State.learnMode
  split
  · exact State.alignment_showMode _ _ _ _
  · split
    · rfl
    · simp only [State.alignment_showMode, State.alignment_adoptMode, State.alignment_raise]

/-- LST_NEED lies outside TIME. -/
@[simp] theorem State.alignment_showNeeds (s : State) (rf : RegFile) : (s.showNeeds rf).alignment = s.alignment := by
  have hkey : ∀ q n, R.lstNeed q n ≠ R.timeAlignOrigin := fun q n => by
    unfold R.lstNeed R.timeAlignOrigin
    omega
  exact State.alignment_foldl _ (fun t q => State.alignment_foldl _ (fun u n => u.alignment_setReg _ (hkey q n)) _ t) _ s

/-- The Peck check writes LST_NEED and LST_CHECK alone (R440). -/
@[simp] theorem State.alignment_checkPeck (s : State) (rf : RegFile) : (s.checkPeck rf).2.alignment = s.alignment := by
  have hset : ∀ v, ((s.showNeeds rf).setReg R.lstCheck v).alignment = s.alignment := fun v => by
    rw [State.alignment_setReg _ _ (by decide), State.alignment_showNeeds]
  unfold State.checkPeck
  dsimp only
  split
  · exact hset _
  · exact hset _

/-- A tile's checks of a commit keep the alignment. -/
@[simp] theorem State.alignment_tileChecks (s : State) : s.tileChecks.2.alignment = s.alignment := by
  unfold State.tileChecks
  split
  · rfl
  · split
    · exact s.alignment_checkPeck _
    · rfl

/-- TOP_COMMIT_DETAIL is a register of its own. -/
@[simp] theorem State.alignment_showFail (s : State) (f : CheckFail) : (s.showFail f).alignment = s.alignment := by
  have hput : ∀ (t : State) (g : Fld) (v : Nat), (t.put R.topCommitDetail g v).alignment = t.alignment := fun t _ _ =>
    t.alignment_put _ _ (by decide)
  unfold State.showFail
  extract_lets k s1 s2
  have h1 : s1.alignment = s.alignment := by
    unfold s1
    split
    · exact hput _ _ _
    · rfl
  have h2 : s2.alignment = s.alignment := by
    unfold s2
    split
    · exact (hput _ _ _).trans h1
    · exact h1
  split
  · exact (hput _ _ _).trans h2
  · exact h2

/-- TOP_COMMIT_STATUS is a register of its own. -/
@[simp] theorem State.alignment_tileRefuses (s : State) (gen reason : Nat) : (s.tileRefuses gen reason).alignment = s.alignment := by
  simp (disch := decide) only [State.tileRefuses, State.alignment_put]

/-- A commit that a tile learns of keeps the alignment (R85). -/
@[simp] theorem State.alignment_learnCommit (s : State) (gen frame : Nat) : (s.learnCommit gen frame).alignment = s.alignment := by
  have hchecks := s.alignment_tileChecks
  unfold State.learnCommit
  extract_lets known
  split
  · rfl
  · split
    · rename_i f s0 he
      rw [he] at hchecks
      rw [State.alignment_tileRefuses, State.alignment_showFail]
      exact hchecks
    · rename_i s0 he
      rw [he] at hchecks
      extract_lets late n _ s1 s2 s3
      have h3 : s3.alignment = s.alignment := by
        have h1 : s1.alignment = s.alignment := hchecks
        simp (disch := decide) only [s3, s2, State.alignment_setReg, State.alignment_put, h1]
      split
      · rw [State.alignment_raise, h3]
      · exact h3

/-- What a tile learns from an Ensign of its claim winner keeps the alignment (R84, R87). -/
@[simp] theorem State.alignment_learnEnsign (s : State) (b : Beacon) : (s.learnEnsign b).alignment = s.alignment := by
  unfold State.learnEnsign
  extract_lets act followed same s0 s1 s2
  have h0 : s0.alignment = s.alignment := by
    unfold s0
    split <;> simp only [State.alignment_adoptMode]
  have h1 : s1.alignment = s.alignment := by
    unfold s1
    split
    · split <;> simp only [State.alignment_learnMode, h0]
    · split <;> simp only [State.alignment_adoptMode, State.alignment_raise, h0]
  show s2.alignment = s.alignment
  unfold s2
  split <;> simp only [State.alignment_learnCommit, h1]

/-! ### The Ensign in a tile -/

/-- An Ensign that a tile may measure leaves its sender as the source, and the register at the origin that it carries (R80). -/
theorem State.alignment_tileEnsign {s u : State} {l : Nat} {p : Packet}
    (hu : u = s.noteClaim p.hdr.claim.toNat (some ((beaconOf p).serial, l))) (hv : u.beaconValid l (beaconOf p) = true)
    (hm : u.mayMeasure (u.fromWinner l p.hdr.claim.toNat) (beaconOf p) = true) :
    (s.tileEnsign l p).alignment = (some (beaconOf p).serial, (beaconOf p).align) := by
  have hmeasured : ((u.setReg R.timeAlignOrigin (beaconOf p).align).measureBeacon l (beaconOf p)).alignment =
      (some (beaconOf p).serial, (beaconOf p).align) := by
    rw [State.alignment_measureBeacon, State.reg_setReg_same]
  unfold State.tileEnsign
  simp only [← hu, hv, hm, Bool.and_self, if_true]
  split
  · rw [State.alignment_learnEnsign, hmeasured]
  · exact hmeasured

/-! ### The write -/

/-- A write that is accepted sets the 80 bits of the register (R80). -/
theorem State.alignOriginWrite_of_idle {s : State} (hf : s.isFeed = true) (hi : s.seq.state = .idle) (v : Nat) (req : Requester) :
    s.alignOriginWrite v req = s.setReg R.timeAlignOrigin (v % 2 ^ 80) := by
  have ht : s.isTile = false := by
    unfold State.isFeed at hf
    rw [State.isTile, eq_of_beq hf]
    rfl
  simp [State.alignOriginWrite, ht, hi]

/-- Any other write is a programming error of TIME (R80, R402). -/
theorem State.alignOriginWrite_refused {s : State} (h : s.isTile = true ∨ s.seq.state ≠ .idle) (v : Nat) (req : Requester) :
    s.alignOriginWrite v req = s.raise .time 0 1 0 [R.timeAlignOrigin, v % 2 ^ 32, reqCode req] := if_pos h

/-- The command is the write, for a requester whose writes are accepted. -/
theorem exec_alignOriginWrite {s : State} {req : Requester} (hw : s.mayWrite req = true) (v : BitVec 96) :
    exec (.alignOriginWrite req v) s = .next (s.alignOriginWrite v.toNat req) := by
  show Host.Outcome.next (s.byReq req (s.alignOriginWrite v.toNat req)) = _
  rw [State.byReq_of_mayWrite hw]

/-- The command in a tile that takes the packet. -/
theorem exec_ensign_tile {s : State} {l : Fin 96} {p : Packet} (hk : s.takes l.val p 2 1 = true) (ht : s.isTile = true) :
    exec (.ensign l p) s = .next (s.tileEnsign l.val p) := by
  show execEnsign l p s = _
  rw [execEnsign, if_pos hk, if_pos ht]

/-- Settles O25: the write is a case split on who may write when, and every effect of an Ensign after the origin is taken keeps the source
and the origin. -/
theorem alignmentOrigin : Obligations.AlignmentOrigin := by
  unfold Obligations.AlignmentOrigin
  refine ⟨fun req v s hw => ⟨fun hf hi => ?accepted, fun h => ?refused⟩, fun l k s u hk ht hu hv hm => ?tile⟩
  case accepted =>
    refine ⟨_, exec_alignOriginWrite hw v, ?_⟩
    rw [State.alignOriginWrite_of_idle hf hi]
    exact ⟨(State.Frame.refl s _ _).setReg _ (List.mem_singleton.mpr rfl), State.reg_setReg_same _ _ _⟩
  case refused => rw [exec_alignOriginWrite hw, State.alignOriginWrite_refused h]
  case tile => exact ⟨_, exec_ensign_tile hk ht, Prod.mk.inj (State.alignment_tileEnsign hu hv hm)⟩

end Sys2Proof.Machine
end

section
/-! PROOFS. Queues at a core reset (R119): its start leaves no queue context, and a debug reset of a running device starts one. -/

namespace Sys2Proof.Machine

/-! ### Queue contexts after a reset has begun -/

/-- Where no context is left, every queue is as reset leaves it. -/
theorem State.queue_of_queues_nil {s : State} (h : s.queues = []) (q : Nat) : s.queue q = QueueCtx.fresh := by
  rw [State.queue, h]
  rfl

/-- Core reach leaves no context (R119). -/
theorem State.queues_coreClear (s : State) : s.coreClear.queues = [] := rfl

/-- System reach leaves no context. -/
theorem State.queues_systemClear (s : State) : s.systemClear.queues = [] := rfl

/-- An event enables no queue. -/
@[simp] theorem State.queues_raise (s : State) (b : Block) (c sev unit : Nat) (d : List Nat) :
    (s.raise b c sev unit d).queues = s.queues := (s.frame_raise b c sev unit d).1 .queues (by decide)

/-- The start of core reach leaves no context. -/
theorem State.queues_widen_core (s : State) : (s.widen 1).queues = [] := State.queues_coreClear _

/-- The start of system reach leaves no context. -/
theorem State.queues_widen_system (s : State) : (s.widen 2).queues = [] := State.queues_systemClear _

/-- Where the firmware and the image check, a core reset of a running device stays at core reach (R382, R394). -/
theorem State.startCore_of_checks {s : State} (hp : s.ldr.phase = .ready) (hf : s.firmwareSame = true) (hi : s.imageSame = true) :
    s.startCore = s.widen 1 := by
  simp [State.startCore, hp, hf, hi]

/-- The start of a core reset leaves no context, whether or not it widens to system reach (R119, R382). -/
theorem State.queues_startCore (s : State) : s.startCore.queues = [] := by
  unfold State.startCore
  dsimp only
  split
  · exact s.queues_widen_core
  · split
    · rw [State.queues_raise, State.put_queues, State.queues_widen_system]
    · exact State.queues_widen_system _

/-! ### What the start of a core reset keeps of the reset control -/

/-- The reset control without the watchdog, which a core reset stops, and without the FATAL events that wait, to which the hand-over of
R319 may add. -/
def State.episode (s : State) : RstSt := { s.rst with fatals := [], wdtRunning := false }

/-- A register set keeps the episode. -/
@[simp] theorem State.episode_put (s : State) (k : Nat) (f : Fld) (v : Nat) : (s.put k f v).episode = s.episode := rfl

/-- Another time servo keeps the episode. -/
@[simp] theorem State.episode_with_time (s : State) (x : TimeSt) : ({ s with time := x } : State).episode = s.episode := rfl

/-- Other Pennants keep the episode. -/
@[simp] theorem State.episode_with_pen (s : State) (x : PenSt) : ({ s with pen := x } : State).episode = s.episode := rfl

/-- An event keeps the episode: a FATAL one only waits for its pulse (R408). -/
@[simp] theorem State.episode_raise (s : State) (b : Block) (c sev unit : Nat) (d : List Nat) :
    (s.raise b c sev unit d).episode = s.episode := by
  have h : { (s.raise b c sev unit d).rst with fatals := [] } = { s.rst with fatals := [] } :=
    (s.frame_raise b c sev unit d).1 .rst (by decide)
  exact congrArg (fun r : RstSt => { r with wdtRunning := false }) h

/-- Steps that each keep the episode keep it together. -/
theorem State.episode_foldl {α : Type} (f : State → α → State) (hf : ∀ t a, (f t a).episode = t.episode) (l : List α) (s : State) :
    (l.foldl f s).episode = s.episode :=
  List.foldlRecOn (motive := fun t => t.episode = s.episode) l f rfl fun t ht a _ => (hf t a).trans ht

/-- FRAME_LOCKED is shown in registers of its own. -/
@[simp] theorem State.episode_showLock (s : State) : s.showLock.episode = s.episode := by
  rw [State.showLock, State.episode_put, State.episode_put]

/-- A change of the servo's state keeps the episode. -/
@[simp] theorem State.episode_servoTo (s : State) (st : Nat) : (s.servoTo st).episode = s.episode := by
  unfold State.servoTo
  extract_lets s1
  have h1 : s1.episode = s.episode := (State.episode_showLock _).trans (s.episode_put _ _ _)
  split
  · rw [State.emptyHistory, State.episode_with_time, h1]
  · split
    · rw [State.episode_with_time, h1]
    · exact h1

/-- A new addend keeps the episode. -/
@[simp] theorem State.episode_setAddend (s : State) (a : Nat) : (s.setAddend a).episode = s.episode := rfl

/-- A loss of the reference keeps the episode (R68). -/
@[simp] theorem State.episode_loseReference (s : State) : s.loseReference.episode = s.episode := by
  unfold State.loseReference
  extract_lets s1
  have h1 : s1.episode = s.episode := (State.episode_put _ _ _ _).trans (s.episode_with_time _)
  split
  · rw [State.episode_servoTo, h1]
  · split
    · rw [State.episode_servoTo, State.episode_setAddend, h1]
    · exact h1

/-- A change of the reference keeps the episode (R442). -/
@[simp] theorem State.episode_changeReference (s : State) (ref : Nat) : (s.changeReference ref).episode = s.episode := by
  unfold State.changeReference
  dsimp only
  have hstart : ((s.emptyHistory).put R.timeStatus F.timeStatus_REF_VALID 0).episode = s.episode :=
    (State.episode_put _ _ _ _).trans (s.episode_with_time _)
  split
  · rw [State.episode_loseReference, State.episode_with_time, hstart]
  · rw [State.episode_with_time, hstart]

/-- The choice of the reference keeps the episode (R65). -/
@[simp] theorem State.episode_updateReference (s : State) : s.updateReference.episode = s.episode := by
  unfold State.updateReference
  split
  · rfl
  · exact s.episode_changeReference _

/-- The role in the pair keeps the episode (R316). -/
@[simp] theorem State.episode_updateRole (s : State) : s.updateRole.episode = s.episode := by
  unfold State.updateRole
  extract_lets s1 s2 s3 standby
  have hports : s3.episode = s2.episode := State.episode_foldl State.showPort (fun _ _ => rfl) _ s2
  rw [State.episode_updateReference, State.episode_put, hports]
  rfl

/-- A new claim keeps the episode (R314). -/
@[simp] theorem State.episode_setCur (s : State) (v : Nat) : (s.setCur v).episode = s.episode := by
  unfold State.setCur
  split
  · exact s.episode_updateRole
  · rw [State.episode_updateRole, State.episode_raise, State.episode_put]

/-- The hand-over keeps the episode (R319). -/
@[simp] theorem State.episode_coreHandover (s : State) : s.coreHandover.episode = s.episode := by
  unfold State.coreHandover
  split
  · rw [State.episode_setCur, State.episode_put]
  · split
    · rw [State.episode_updateRole, State.episode_put]
    · rfl

/-- A discarded commit keeps the episode (R160). -/
@[simp] theorem State.episode_dropCommit (s : State) : s.dropCommit.episode = s.episode := by
  unfold State.dropCommit
  split
  · rw [State.episode_with_pen, State.episode_put, State.episode_put]
  · rfl

/-- The sequencer of a tile keeps the episode as it enters IDLE (R82). -/
@[simp] theorem State.episode_interruptSeq (s : State) : s.interruptSeq.episode = s.episode := by
  unfold State.interruptSeq
  split <;> rfl

/-- An operation shown as aborted keeps the episode (R44). -/
@[simp] theorem State.episode_abortOps (s : State) : s.abortOps.episode = s.episode := by
  unfold State.abortOps
  extract_lets ab s1
  have hab : ∀ t k, (ab t k).episode = t.episode := by
    intro t k
    unfold ab
    split <;> rfl
  exact (hab _ _).trans (hab _ _)

/-- The rings of a drive take a state and keep the episode. -/
@[simp] theorem State.episode_setRings (s : State) (p st : Nat) : (s.setRings p st).episode = s.episode :=
  State.episode_foldl _ (fun t _ => t.episode_put _ _ _) _ s

/-- The core reset of the clip store keeps the episode (R355). -/
@[simp] theorem State.episode_clipCoreReset (s : State) : s.clipCoreReset.episode = s.episode := by
  unfold State.clipCoreReset
  refine State.episode_foldl _ (fun t p => ?_) _ s
  dsimp only
  split
  · rfl
  · exact t.episode_setRings p 2

/-- The HBM holds its data and keeps the episode (R113). -/
@[simp] theorem State.episode_hbmHold (s : State) : s.hbmHold.episode = s.episode := by
  unfold State.hbmHold
  split
  · rw [State.count, State.hbmTo, State.episode_put, State.episode_put]
  · rfl

/-- Registers of the core domain return to their reset values; the episode stays. -/
@[simp] theorem State.episode_coreRegs (s : State) : s.coreRegs.episode = s.episode := rfl

/-- Core reach clears nothing of the episode (R376). -/
theorem State.episode_coreClear (s : State) : s.coreClear.episode = s.episode := by
  show s.coreHandover.dropCommit.interruptSeq.abortOps.clipCoreReset.coreRegs.hbmHold.episode = s.episode
  simp only [State.episode_hbmHold, State.episode_coreRegs, State.episode_clipCoreReset, State.episode_abortOps,
    State.episode_interruptSeq, State.episode_dropCommit, State.episode_coreHandover]

/-- A reset that widens to core reach goes on at that reach (R381). -/
theorem State.episode_widen_core (s : State) :
    (s.widen 1).episode = { s.episode with reach := 1, deepest := max 1 s.rst.deepest } := State.episode_coreClear _

/-! ### A debug reset -/

/-- The state in which a reset source finds a running device: a new episode, of no reach yet (R377). -/
def State.newEpisode (s : State) (code : Nat) : State :=
  let t := (s.put R.rstcause F.rstcause_FIRST code).put R.rstcause F.rstcause_WIDENED 0
  { t with rst := { t.rst with inReset := true, reach := 0, deepest := 0, fatal := false } }

/-- A pulse source of core reach, asserted in a running device, starts a core reset (R377, R381). -/
theorem State.assertSource_core {s : State} (hr : s.rst.inReset = false) (code : Nat) :
    s.assertSource code 1 false = ((s.newEpisode code).startCore).seen code := by
  simp [State.assertSource, State.newEpisode, hr]

/-- The registers outside RSTCAUSE read as before a new episode. -/
theorem State.reg_newEpisode (s : State) (code : Nat) {k : Nat} (h : R.rstcause ≠ k) : (s.newEpisode code).reg k = s.reg k :=
  (State.reg_put_ne _ _ _ h).trans (State.reg_put_ne _ _ _ h)

/-- The check of the firmware reads nothing that a new episode sets (R394). -/
theorem State.firmwareSame_newEpisode (s : State) (code : Nat) : (s.newEpisode code).firmwareSame = s.firmwareSame := by
  have hslot : (s.newEpisode code).get R.secFwSlot F.secFwSlot_BOOTED = s.get R.secFwSlot F.secFwSlot_BOOTED :=
    congrArg (fieldGet · _) (s.reg_newEpisode code (by decide))
  simp only [State.firmwareSame, hslot]
  rfl

/-- The check of the image reads nothing that a new episode sets (R40). -/
theorem State.imageSame_newEpisode (s : State) (code : Nat) : (s.newEpisode code).imageSame = s.imageSame := by
  have hfw : (s.newEpisode code).get R.secFwInfo F.secFwInfo_VERSION = s.get R.secFwInfo F.secFwInfo_VERSION :=
    congrArg (fieldGet · _) (s.reg_newEpisode code (by decide))
  have hhbm : (s.newEpisode code).hbmOk = s.hbmOk := by
    simp only [State.hbmOk, State.flag, State.get, s.reg_newEpisode code (show R.rstcause ≠ R.hbmStatus by decide)]
  simp only [State.imageSame, hfw, hhbm]
  rfl

/-- A debug reset of a running device whose firmware and image check is a core reset (R377). -/
theorem exec_dbgReset_core {s : State} (hd : s.fuses.debug = true) (hr : s.rst.inReset = false) (hp : s.ldr.phase = .ready)
    (hf : s.firmwareSame = true) (hi : s.imageSame = true) : exec .dbgReset s = .next (((s.newEpisode 6).widen 1).seen 6) := by
  show Host.Outcome.next (if s.fuses.debug then s.assertSource 6 1 false else s) = _
  rw [if_pos hd, State.assertSource_core hr, State.startCore_of_checks (s := s.newEpisode 6) hp ((s.firmwareSame_newEpisode 6).trans hf)
    ((s.imageSame_newEpisode 6).trans hi)]

/-- Settles O17: each reach clears the contexts, no event sets one up, and what core reach clears keeps the episode that a debug reset
begins. -/
theorem coreResetDisablesQueues : Obligations.CoreResetDisablesQueues := by
  unfold Obligations.CoreResetDisablesQueues
  refine ⟨fun q s => ⟨?widens, ?starts⟩, rfl, rfl, rfl,
    fun s hd hr hp hf hi => ⟨_, exec_dbgReset_core hd hr hp hf hi, ?inReset, ?reach, ?queues⟩⟩
  case widens => exact State.queue_of_queues_nil s.queues_widen_core q
  case starts => exact State.queue_of_queues_nil s.queues_startCore q
  case inReset => exact congrArg RstSt.inReset (s.newEpisode 6).episode_widen_core
  case reach => exact congrArg RstSt.reach (s.newEpisode 6).episode_widen_core
  case queues => exact State.queue_of_queues_nil (s.newEpisode 6).queues_widen_core

end Sys2Proof.Machine
end

section
/-! PROOFS. The enable of current placement (R312): the places that the mapped groups take, what a slot boundary leaves while the loop is
off, and the refused write of LMP_SAG_MAP. -/

namespace Sys2Proof.Machine

/-! ### The registers of placement -/

/-- Each group has a register of its own. -/
theorem sagKey_injective : Function.Injective sagKey := by
  intro a b h
  simp only [sagKey, R.lmpSagMap] at h
  omega

theorem lmpSagCfg_ne_sagKey (g : Nat) : R.lmpSagCfg ≠ sagKey g := by
  simp only [sagKey, R.lmpSagMap, R.lmpSagCfg]; omega

theorem lmpSagCfg_ne_lmpSagStatus (x : Nat) : R.lmpSagCfg ≠ R.lmpSagStatus x := by
  simp only [R.lmpSagStatus, R.lmpSagCfg]; omega

/-- The shared registers of the supplies lie below those of the groups. -/
theorem lmpSagStatus_ne_sagKey {x : Nat} (hx : x < 8) (g : Nat) : R.lmpSagStatus x ≠ sagKey g := by
  simp only [sagKey, R.lmpSagMap, R.lmpSagStatus]; omega

/-- A group's register is among those of all groups. -/
theorem sagKey_mem {g : Nat} (hg : g < 64) : sagKey g ∈ (List.range 64).map sagKey :=
  List.mem_map_of_mem (List.mem_range.mpr hg)

theorem lmpSagCfg_notMem_sagKeys : R.lmpSagCfg ∉ (List.range 64).map sagKey := fun hk => by
  obtain ⟨g, _, hg⟩ := List.mem_map.mp hk
  exact lmpSagCfg_ne_sagKey g hg.symm

/-- A group in use is one of the 64. -/
theorem State.lt_of_mem_usedGroups {s : State} {g : Nat} (hg : g ∈ s.usedGroups) : g < 64 := by
  unfold State.usedGroups at hg
  split at hg
  · exact List.mem_range.mp (List.mem_filter.mp hg).1
  · exact absurd hg List.not_mem_nil

/-- A field put in one register after another keeps every field that lies in another register or beside it. -/
theorem State.get_foldl_put {α : Type} (key : α → Nat) (f : Fld) (val : State → α → Nat) (l : List α) (s : State) {k : Nat} {g : Fld}
    (h : ∀ a, a ∈ l → key a = k → f.lo + f.w ≤ g.lo ∨ g.lo + g.w ≤ f.lo) :
    (l.foldl (fun t a => t.put (key a) f (val t a)) s).get k g = s.get k g := by
  refine List.foldlRecOn (motive := fun t : State => t.get k g = s.get k g) l _ rfl fun t ht a ha => ?_
  by_cases hk : key a = k
  · subst hk
    exact (t.get_put_disjoint _ _ _ _ (h a ha rfl)).trans ht
  · exact (t.get_put_ne _ _ _ hk).trans ht

/-! ### The places at the enable -/

/-- Groups take places by their ranks: 0, or the rank modulo 8 (R312). -/
def State.takePlaces (s : State) (spread : Bool) (ranks : List (Nat × Nat)) : State :=
  ranks.foldl (fun t e => t.put (sagKey e.1) F.lmpSagMap_PLACE (if spread then e.2 % 8 else 0)) s

/-- Every mapped group with its rank among the mapped groups of its supply. -/
def State.groupRanks (s : State) : List (Nat × Nat) := (List.range 8).flatMap fun sup => (s.supplyGroups sup).zipIdx

theorem State.mem_supplyGroups {s : State} {sup g : Nat} :
    g ∈ s.supplyGroups sup ↔ g < 64 ∧ s.flag (sagKey g) F.lmpSagMap_MAPPED = true ∧ s.get (sagKey g) F.lmpSagMap_SUPPLY = sup := by
  simp [State.supplyGroups]

theorem State.nodup_supplyGroups (s : State) (sup : Nat) : (s.supplyGroups sup).Nodup := List.Pairwise.filter _ List.nodup_range

/-- The groups of a supply are known by the two fields that map a group. -/
theorem State.supplyGroups_congr {s t : State} (hm : ∀ g, t.get (sagKey g) F.lmpSagMap_MAPPED = s.get (sagKey g) F.lmpSagMap_MAPPED)
    (hs : ∀ g, t.get (sagKey g) F.lmpSagMap_SUPPLY = s.get (sagKey g) F.lmpSagMap_SUPPLY) (sup : Nat) :
    t.supplyGroups sup = s.supplyGroups sup := by
  simp only [State.supplyGroups, State.flag, hm, hs]

theorem State.mem_groupRanks {s : State} {e : Nat × Nat} : e ∈ s.groupRanks ↔ ∃ sup, sup < 8 ∧ (s.supplyGroups sup)[e.2]? = some e.1 := by
  simp [State.groupRanks, List.mem_zipIdx_iff_getElem?]

/-- A group that has a rank is one of the 64. -/
theorem State.lt_of_mem_groupRanks {s : State} {e : Nat × Nat} (he : e ∈ s.groupRanks) : e.1 < 64 := by
  obtain ⟨sup, _, hi⟩ := State.mem_groupRanks.mp he
  exact (State.mem_supplyGroups.mp (List.mem_of_getElem? hi)).1

/-- A mapped group has one rank. -/
theorem State.groupRanks_unique {s : State} {sup i g : Nat} (hi : (s.supplyGroups sup)[i]? = some g) {e : Nat × Nat}
    (he : e ∈ s.groupRanks) (hg : e.1 = g) : e.2 = i := by
  subst hg
  obtain ⟨sup', _, hi'⟩ := State.mem_groupRanks.mp he
  obtain ⟨_, _, hsup⟩ := State.mem_supplyGroups.mp (List.mem_of_getElem? hi)
  obtain ⟨_, _, hsup'⟩ := State.mem_supplyGroups.mp (List.mem_of_getElem? hi')
  rw [← hsup', hsup] at hi'
  exact (List.getElem?_inj (List.getElem?_eq_some_iff.mp hi').1 (s.nodup_supplyGroups sup)).mp (hi'.trans hi.symm)

/-- Taking places changes no field beside PLACE. -/
theorem State.get_takePlaces_beside (s : State) (spread : Bool) (ranks : List (Nat × Nat)) (k : Nat) {f : Fld}
    (h : F.lmpSagMap_PLACE.lo + F.lmpSagMap_PLACE.w ≤ f.lo ∨ f.lo + f.w ≤ F.lmpSagMap_PLACE.lo) :
    (s.takePlaces spread ranks).get k f = s.get k f :=
  State.get_foldl_put _ _ _ _ s fun _ _ _ => h

/-- Taking places moves no group to another supply. -/
theorem State.supplyGroups_takePlaces (s : State) (spread : Bool) (ranks : List (Nat × Nat)) (sup : Nat) :
    (s.takePlaces spread ranks).supplyGroups sup = s.supplyGroups sup :=
  State.supplyGroups_congr (fun _ => s.get_takePlaces_beside _ _ _ (by decide)) (fun _ => s.get_takePlaces_beside _ _ _ (by decide)) sup

/-- A group takes the place of its rank when it stands in the list, with this rank alone; else it keeps its place. -/
theorem State.place_takePlaces (s : State) (spread : Bool) (ranks : List (Nat × Nat)) {g i : Nat}
    (h : ∀ e, e ∈ ranks → e.1 = g → e.2 = i) :
    (s.takePlaces spread ranks).get (sagKey g) F.lmpSagMap_PLACE =
      if (g, i) ∈ ranks then (if spread then i % 8 else 0) else s.get (sagKey g) F.lmpSagMap_PLACE := by
  induction ranks generalizing s with
  | nil => rfl
  | cons e r ih =>
    have hr := ih (s.put (sagKey e.1) F.lmpSagMap_PLACE (if spread then e.2 % 8 else 0)) fun x hx => h x (List.mem_cons_of_mem _ hx)
    refine hr.trans ?_
    by_cases hg : e.1 = g
    · have he : e = (g, i) := Prod.ext hg (h e List.mem_cons_self hg)
      have hlt : (if spread then i % 8 else 0) % 2 ^ F.lmpSagMap_PLACE.w = if spread then i % 8 else 0 :=
        Nat.mod_eq_of_lt (by simp only [F.lmpSagMap_PLACE]; split <;> omega)
      rw [he, State.get_put_same, hlt, if_pos List.mem_cons_self, ite_self]
    · have he : (g, i) ≠ e := fun he => hg (congrArg Prod.fst he.symm)
      rw [State.get_put_ne s _ _ _ (sagKey_injective.ne hg)]
      simp only [List.mem_cons, he, false_or]

/-- The initial places are taken by the ranks that hold beforehand, for taking them changes no rank. -/
theorem State.initPlaces_eq (s : State) (spread : Bool) : s.initPlaces spread = s.takePlaces spread s.groupRanks := by
  have hfold : ∀ (l : List Nat) (t : State), (∀ sup, t.supplyGroups sup = s.supplyGroups sup) →
      l.foldl (fun t sup => t.takePlaces spread (t.supplyGroups sup).zipIdx) t =
        l.foldl (fun t sup => t.takePlaces spread (s.supplyGroups sup).zipIdx) t := by
    intro l
    induction l with
    | nil => exact fun _ _ => rfl
    | cons a r ih =>
      intro t ht
      rw [List.foldl_cons, List.foldl_cons, ht a]
      exact ih _ fun sup => (t.supplyGroups_takePlaces _ _ sup).trans (ht sup)
  rw [State.takePlaces, State.groupRanks, List.foldl_flatMap]
  exact hfold _ s fun _ => rfl

/-- The initial places are in the registers of the groups. -/
theorem State.frame_initPlaces (s : State) (spread : Bool) : s.Frame (s.initPlaces spread) [] ((List.range 64).map sagKey) := by
  rw [State.initPlaces_eq]
  exact State.Frame.foldl _ _ (fun _ _ he ht => ht.put _ _ (sagKey_mem (State.lt_of_mem_groupRanks he))) (State.Frame.refl s _ _)

/-- A mapped group takes place 0, or its rank modulo 8. -/
theorem State.place_initPlaces (s : State) (spread : Bool) {sup i g : Nat} (hsup : sup < 8) (hi : (s.supplyGroups sup)[i]? = some g) :
    (s.initPlaces spread).get (sagKey g) F.lmpSagMap_PLACE = if spread then i % 8 else 0 := by
  have hmem : (g, i) ∈ s.groupRanks := State.mem_groupRanks.mpr ⟨sup, hsup, hi⟩
  rw [State.initPlaces_eq, State.place_takePlaces _ _ _ fun _ he => State.groupRanks_unique hi he, if_pos hmem]

/-! ### The write of LMP_SAG_CFG -/

/-- The register holds the fields of LMP_SAG_CFG in a value written. -/
def sagCfgValue (v : Nat) : Nat := fieldGet v ⟨0, 2⟩ + fieldGet v ⟨8, 16⟩ * 256

theorem fieldGet_sagCfgValue (v : Nat) {f : Fld}
    (hf : f ∈ [F.lmpSagCfg_EN, F.lmpSagCfg_SPREAD_INIT, F.lmpSagCfg_SAG_TRIG, F.lmpSagCfg_GAP]) :
    fieldGet (sagCfgValue v) f = fieldGet v f := by
  simp only [List.mem_cons, List.not_mem_nil, or_false] at hf
  rcases hf with rfl | rfl | rfl | rfl <;>
    simp only [sagCfgValue, fieldGet, F.lmpSagCfg_EN, F.lmpSagCfg_SPREAD_INIT, F.lmpSagCfg_SAG_TRIG, F.lmpSagCfg_GAP] <;> omega

/-- A value written with EN enables placement. -/
theorem State.sagOn_setCfg (s : State) (v : Nat) :
    (s.setReg R.lmpSagCfg (sagCfgValue v)).sagOn = (fieldGet v F.lmpSagCfg_EN != 0) := by
  rw [State.sagOn, State.flag, State.get_setReg_same, fieldGet_sagCfgValue v (by simp)]

/-- A write that does not take EN from 0 to 1 sets the register and no place. -/
theorem State.sagCfgWrite_of_not_enabling {s : State} {v : Nat} (h : s.sagOn = true ∨ fieldGet v F.lmpSagCfg_EN = 0) :
    s.sagCfgWrite v = s.setReg R.lmpSagCfg (sagCfgValue v) := by
  have hc : (!s.sagOn && (s.setReg R.lmpSagCfg (sagCfgValue v)).sagOn) = false := by
    rw [State.sagOn_setCfg]
    rcases h with h | h <;> simp [h]
  exact if_neg (ne_true_of_eq_false hc)

/-- A write that takes EN from 0 to 1 sets the register and the initial places. -/
theorem State.sagCfgWrite_of_enabling {s : State} {v : Nat} (hoff : s.sagOn = false) (hen : fieldGet v F.lmpSagCfg_EN = 1) :
    s.sagCfgWrite v = (s.setReg R.lmpSagCfg (sagCfgValue v)).initPlaces (fieldGet v F.lmpSagCfg_SPREAD_INIT != 0) := by
  have hc : (!s.sagOn && (s.setReg R.lmpSagCfg (sagCfgValue v)).sagOn) = true := by
    rw [State.sagOn_setCfg, hoff, hen]; rfl
  have hspread : (s.setReg R.lmpSagCfg (sagCfgValue v)).flag R.lmpSagCfg F.lmpSagCfg_SPREAD_INIT =
      (fieldGet v F.lmpSagCfg_SPREAD_INIT != 0) := by
    rw [State.flag, State.get_setReg_same, fieldGet_sagCfgValue v (by simp)]
  rw [← hspread]
  exact if_pos hc

/-- Whatever it enables, the write leaves the fields written in the register. -/
theorem State.reg_sagCfgWrite (s : State) (v : Nat) : (s.sagCfgWrite v).reg R.lmpSagCfg = sagCfgValue v := by
  unfold State.sagCfgWrite
  dsimp only
  split
  · exact ((State.frame_initPlaces _ _).2 _ lmpSagCfg_notMem_sagKeys fun he => absurd he List.not_mem_nil).trans
      (s.reg_setReg_same _ _)
  · exact s.reg_setReg_same _ _

/-- The write of LMP_SAG_CFG leaves the mapped groups of every supply for the initial places to find. -/
theorem State.supplyGroups_setCfg (s : State) (v sup : Nat) : (s.setReg R.lmpSagCfg v).supplyGroups sup = s.supplyGroups sup :=
  State.supplyGroups_congr (fun g => s.get_setReg_ne _ _ (lmpSagCfg_ne_sagKey g)) (fun g => s.get_setReg_ne _ _ (lmpSagCfg_ne_sagKey g)) sup

/-- At the enable only LMP_SAG_CFG and the registers of the groups change. -/
theorem State.frame_enabling {s : State} {v : Nat} (hoff : s.sagOn = false) (hen : fieldGet v F.lmpSagCfg_EN = 1) :
    s.Frame (s.sagCfgWrite v) [] (R.lmpSagCfg :: (List.range 64).map sagKey) := by
  rw [State.sagCfgWrite_of_enabling hoff hen]
  exact ((State.Frame.refl s _ _).setReg _ List.mem_cons_self).trans
    ((State.frame_initPlaces _ _).mono (fun _ hp => hp) fun _ hk => List.mem_cons_of_mem _ hk)

/-- At the enable the registers of the groups keep every field beside PLACE. -/
theorem State.get_enabling_beside {s : State} {v : Nat} (hoff : s.sagOn = false) (hen : fieldGet v F.lmpSagCfg_EN = 1) (g : Nat) {f : Fld}
    (h : F.lmpSagMap_PLACE.lo + F.lmpSagMap_PLACE.w ≤ f.lo ∨ f.lo + f.w ≤ F.lmpSagMap_PLACE.lo) :
    (s.sagCfgWrite v).get (sagKey g) f = s.get (sagKey g) f := by
  rw [State.sagCfgWrite_of_enabling hoff hen, State.initPlaces_eq, State.get_takePlaces_beside _ _ _ _ h,
    State.get_setReg_ne _ _ _ (lmpSagCfg_ne_sagKey g)]

/-- At the enable a mapped group takes the place of its rank, and keeps its supply and its load. -/
theorem State.group_enabling {s : State} {v : Nat} (hoff : s.sagOn = false) (hen : fieldGet v F.lmpSagCfg_EN = 1) {sup i g : Nat}
    (hsup : sup < 8) (hi : (s.supplyGroups sup)[i]? = some g) :
    (s.sagCfgWrite v).get (sagKey g) F.lmpSagMap_PLACE = (if fieldGet v F.lmpSagCfg_SPREAD_INIT = 1 then i % 8 else 0) ∧
      (s.sagCfgWrite v).get (sagKey g) F.lmpSagMap_SUPPLY = sup ∧
      (s.sagCfgWrite v).get (sagKey g) F.lmpSagMap_LOAD = s.get (sagKey g) F.lmpSagMap_LOAD := by
  obtain ⟨_, _, hsupply⟩ := State.mem_supplyGroups.mp (List.mem_of_getElem? hi)
  have hbit : ∀ b, b < 2 → (b != 0) = decide (b = 1) := by decide
  have hspread : (fieldGet v F.lmpSagCfg_SPREAD_INIT != 0) = decide (fieldGet v F.lmpSagCfg_SPREAD_INIT = 1) :=
    hbit _ (fieldGet_lt v F.lmpSagCfg_SPREAD_INIT)
  refine ⟨?place, (State.get_enabling_beside hoff hen g (by decide)).trans hsupply, State.get_enabling_beside hoff hen g (by decide)⟩
  case place =>
    rw [State.sagCfgWrite_of_enabling hoff hen, State.place_initPlaces _ _ hsup ((congrArg (·[i]?) (s.supplyGroups_setCfg _ sup)).trans hi),
      hspread]
    simp only [decide_eq_true_eq]

/-- SAG_LOOP_ENABLE of a requester that may write is the write of LMP_SAG_CFG. -/
theorem exec_sagLoopEnable {s : State} {req : Requester} (hw : s.mayWrite req = true) (hl : s.live .lmp = true) (v : Word) :
    exec (.sagLoopEnable req v) s = .next (s.sagCfgWrite v.toNat) := by
  show Host.Outcome.next (s.byReq req (if s.live .lmp then s.sagCfgWrite v.toNat else s)) = _
  rw [if_pos hl, State.byReq_of_mayWrite hw]

/-! ### A slot boundary while placement is off -/

/-- The sag times of the slot just ended are shown (R311). -/
def State.showSagTimes (s : State) (sag : List (Nat × Nat)) : State :=
  (List.range 8).foldl (fun t i => t.put (R.lmpSagStatus i) F.lmpSagStatus_SAG_US ((sLookup sag i).getD 0)) s

/-- The slots since each supply's last move, one more (R311). -/
def State.ageMoves (s : State) : State := { s with lmp := { s.lmp with since := s.lmp.since.map fun e => (e.1, e.2 + 1) } }

/-- The sag times are in the registers of the supplies. -/
theorem State.frame_showSagTimes (s : State) (sag : List (Nat × Nat)) :
    s.Frame (s.showSagTimes sag) [] ((List.range 8).map R.lmpSagStatus) :=
  State.Frame.foldl _ _ (fun _ _ hi ht => ht.put _ _ (List.mem_map_of_mem hi)) (State.Frame.refl s _ _)

/-- The loads are in the registers of the groups. -/
theorem State.frame_showLoads (s : State) : s.Frame s.showLoads [] ((List.range 64).map sagKey) :=
  State.Frame.foldl _ _ (fun _ _ hg ht => ht.put _ _ (sagKey_mem (State.lt_of_mem_usedGroups hg))) (State.Frame.refl s _ _)

/-- What a slot boundary shows, before the loop: its registers are those of the groups and of the supplies. -/
theorem State.frame_slotShown (s : State) (sag : List (Nat × Nat)) : s.Frame (s.showSagTimes sag).showLoads.ageMoves [.lmp]
    ((List.range 64).map sagKey ++ (List.range 8).map R.lmpSagStatus) := by
  have htimes := (s.frame_showSagTimes sag).mono (qs := [.lmp]) (ls := (List.range 64).map sagKey ++ (List.range 8).map R.lmpSagStatus)
    (fun _ hp => absurd hp List.not_mem_nil) fun _ hk => List.mem_append_right _ hk
  have hloads := (s.showSagTimes sag).frame_showLoads.mono (qs := [.lmp])
    (ls := (List.range 64).map sagKey ++ (List.range 8).map R.lmpSagStatus)
    (fun _ hp => absurd hp List.not_mem_nil) fun _ hk => List.mem_append_left _ hk
  exact (htimes.trans hloads).set_lmp (List.mem_singleton.mpr rfl) _

/-- What a slot boundary shows does not enable placement. -/
theorem State.sagOn_slotShown (s : State) (sag : List (Nat × Nat)) : (s.showSagTimes sag).showLoads.ageMoves.sagOn = s.sagOn := by
  have hcfg : R.lmpSagCfg ∉ (List.range 64).map sagKey ++ (List.range 8).map R.lmpSagStatus := fun hk => by
    rcases List.mem_append.mp hk with hk | hk
    · exact lmpSagCfg_notMem_sagKeys hk
    · obtain ⟨x, _, hx⟩ := List.mem_map.mp hk
      exact lmpSagCfg_ne_lmpSagStatus x hx.symm
  rw [State.sagOn, State.flag, State.get, (s.frame_slotShown sag).2 _ hcfg fun he => absurd he (by decide)]
  rfl

/-- While placement is off, a slot boundary shows sag times and loads, and the loop does not run. -/
theorem State.placement_of_off {s : State} (hoff : s.sagOn = false) (sag : List (Nat × Nat)) :
    s.placement sag = (s.showSagTimes sag).showLoads.ageMoves :=
  if_neg (ne_true_of_eq_false ((s.sagOn_slotShown sag).trans hoff))

/-- What a slot boundary shows leaves every place. -/
theorem State.place_slotShown (s : State) (sag : List (Nat × Nat)) (g : Nat) :
    (s.showSagTimes sag).showLoads.ageMoves.get (sagKey g) F.lmpSagMap_PLACE = s.get (sagKey g) F.lmpSagMap_PLACE :=
  calc (s.showSagTimes sag).showLoads.ageMoves.get (sagKey g) F.lmpSagMap_PLACE
    _ = (s.showSagTimes sag).get (sagKey g) F.lmpSagMap_PLACE := State.get_foldl_put _ _ _ _ _ fun _ _ _ => by decide
    _ = s.get (sagKey g) F.lmpSagMap_PLACE :=
      State.get_foldl_put _ _ _ _ s fun _ hx hk => absurd hk (lmpSagStatus_ne_sagKey (List.mem_range.mp hx) g)

/-- What a slot boundary shows counts no move. -/
theorem State.moves_slotShown (s : State) (sag : List (Nat × Nat)) {x : Nat} (hx : x < 8) :
    (s.showSagTimes sag).showLoads.ageMoves.get (R.lmpSagStatus x) F.lmpSagStatus_MOVES =
      s.get (R.lmpSagStatus x) F.lmpSagStatus_MOVES :=
  calc (s.showSagTimes sag).showLoads.ageMoves.get (R.lmpSagStatus x) F.lmpSagStatus_MOVES
    _ = (s.showSagTimes sag).get (R.lmpSagStatus x) F.lmpSagStatus_MOVES :=
      State.get_foldl_put _ _ _ _ _ fun g _ hk => absurd hk.symm (lmpSagStatus_ne_sagKey hx g)
    _ = s.get (R.lmpSagStatus x) F.lmpSagStatus_MOVES := State.get_foldl_put _ _ _ _ s fun _ _ _ => by decide

/-- While placement is off, every group's SYNC is at the start of the window. -/
theorem State.syncOffset_of_off {s : State} (hoff : s.sagOn = false) (p : PatternRec) (g k : Nat) : s.syncOffset p g k = 0 := by
  simp [State.syncOffset, hoff]

/-! ### A write of LMP_SAG_MAP -/

/-- The register at a group's offset: a word of LMP_SAG_MAP, of the group's number. -/
theorem regAt_sagKey (g : Fin 64) : (regAt (sagKey g)).map (fun h => (h.spec.block, h.spec.base, h.spec.words, h.shadowed,
    16 * h.unit 0 + h.unit 1)) = some (.lmp, R.lmpSagMap 0 0, 1, false, g.val) := by
  revert g
  decide

/-- A programming error at a group's register is one of LMP. -/
theorem errorBlock_sagKey (g : Fin 64) : errorBlock (sagKey g) = .lmp := by
  revert g
  decide

theorem sagKey_lt (g : Fin 64) : sagKey g < 0x2000000 := by
  simp only [sagKey, R.lmpSagMap]; omega

theorem sagKey_aligned (g : Nat) : sagKey g % 4 = 0 := by
  simp only [sagKey, R.lmpSagMap]; omega

theorem remoteAt_sagKey (g : Fin 64) : remoteAt (sagKey g) = none :=
  if_neg fun h => absurd (sagKey_lt g) (Nat.not_lt.mpr h.1)

/-- A group's register lies below the window of the coefficient store. -/
theorem storeWord_sagKey (g : Fin 64) : storeWord (sagKey g) = none := by
  refine if_neg fun h => ?_
  obtain ⟨_, _, hwin⟩ := h
  simp only [sagKey, R.lmpSagMap] at hwin
  omega

/-- A whole value for a register of LMP_SAG_MAP is that register's own write. -/
theorem State.regWrite_sagMap {s : State} {h : RegHit} (hb : h.spec.base = R.lmpSagMap 0 0) (hs : h.shadowed = false) (v : Nat)
    (req : Requester) : s.regWrite h v req = s.sagMapWrite (16 * h.unit 0 + h.unit 1) v req := by
  have hdev : s.deviceWrite h v req = none := by
    have hmbx : (R.lmpSagMap 0 0 == R.mbxCmd 0 || R.lmpSagMap 0 0 == R.mbxSubmit || R.lmpSagMap 0 0 == R.mbxRelease) = false := by
      decide
    simp only [State.deviceWrite, hb, hmbx, Bool.and_false]; rfl
  have hfeed : s.feedWrite h v req = none := by
    simp only [State.feedWrite, hb]; rfl
  have hquarter : s.quarterWrite h v req = some (s.sagMapWrite (16 * h.unit 0 + h.unit 1) v req) := by
    simp only [State.quarterWrite, hb]; rfl
  simp [State.regWrite, hs, hdev, hfeed, hquarter]

/-- A write of a register of one word that responds gives it the whole value. -/
theorem State.bar0Write_word {s : State} {off : Nat} {h : RegHit} (hr : remoteAt off = none) (hw : storeWord off = none)
    (ha : off % 4 = 0) (hh : regAt off = some h) (hl : s.regLive h = true) (h1 : h.spec.words = 1) (v : Nat) (req : Requester) :
    s.bar0Write off v req = s.regWrite h v req := by
  simp [State.bar0Write, hr, State.busWrite, hw, ha, hh, hl, h1]

/-- A word written to a group's register over the bus is the write of LMP_SAG_MAP. -/
theorem State.bar0Write_sagMap {s : State} (hl : s.live .lmp = true) (g : Fin 64) (v : Nat) (req : Requester) :
    s.bar0Write (sagKey g) v req = s.sagMapWrite g v req := by
  obtain ⟨h, hat, hh⟩ := Option.map_eq_some_iff.mp (regAt_sagKey g)
  simp only [Prod.mk.injEq] at hh
  obtain ⟨hblock, hbase, hwords, hshadow, hunit⟩ := hh
  have hshared : tileOnly (R.lmpSagMap 0 0) = false := by decide
  have hlive : s.regLive h = true := by
    rw [State.regLive, hblock, hl, hbase, hshared]; rfl
  rw [State.bar0Write_word (remoteAt_sagKey g) (storeWord_sagKey g) (sagKey_aligned g) hat hlive hwords,
    State.regWrite_sagMap hbase hshadow, hunit]

/-- While placement is on, a write of LMP_SAG_MAP is a programming error of LMP. -/
theorem State.sagMapWrite_of_on {s : State} (hon : s.sagOn = true) (g : Fin 64) (v : Nat) (req : Requester) :
    s.sagMapWrite g v req = s.raise .lmp 0 1 0 [sagKey g, v, reqCode req] := by
  rw [State.sagMapWrite, if_pos hon, State.progError, errorBlock_sagKey, State.progErrorIn]

/-- REGISTER_WRITE of a word by a requester that may write is the write over BAR0. -/
theorem exec_registerWrite_word {s : State} {req : Requester} (hw : s.mayWrite req = true) (off : BitVec 26) (v : Word) :
    exec (.registerWrite req off .word v) s = .next (s.bar0Write off.toNat v.toNat req) := by
  show Host.Outcome.next (s.byReq req (s.bar0Write off.toNat v.toNat req)) = _
  rw [State.byReq_of_mayWrite hw]

/-- REGISTER_WRITE of LMP_SAG_MAP while placement is on. -/
theorem exec_registerWrite_sagMap {s : State} {req : Requester} (hw : s.mayWrite req = true) (hl : s.live .lmp = true)
    (hon : s.sagOn = true) (g : Fin 64) (v : Word) : exec (.registerWrite req (BitVec.ofNat 26 (sagKey g)) .word v) s =
      .next (s.raise .lmp 0 1 0 [sagKey g, v.toNat, reqCode req]) := by
  have hoff : sagKey g < 67108864 := Nat.lt_trans (sagKey_lt g) (by decide)
  rw [exec_registerWrite_word hw, toNat_ofNat26 hoff, State.bar0Write_sagMap hl, State.sagMapWrite_of_on hon]

/-- Settles O53: the initial places go by the ranks that hold before the enable, and while EN is 0 the loop does not run. -/
theorem placementEnable : Obligations.PlacementEnable := by
  unfold Obligations.PlacementEnable
  refine ⟨fun req v s hw hl => ⟨_, exec_sagLoopEnable hw hl v, ?fields, ?keeps, ?places⟩, fun sag s hoff => ?off,
    fun req g v s hw hl hon => exec_registerWrite_sagMap hw hl hon g v⟩
  case fields =>
    intro f hf
    rw [State.get, State.reg_sagCfgWrite, fieldGet_sagCfgValue _ hf]
  case keeps =>
    intro h
    rw [State.sagCfgWrite_of_not_enabling h]
    exact (State.Frame.refl s _ _).setReg _ (List.mem_singleton.mpr rfl)
  case places => exact fun hoff hen => ⟨State.frame_enabling hoff hen, fun _ _ _ hsup hi => State.group_enabling hoff hen hsup hi⟩
  case off =>
    rw [State.placement_of_off hoff]
    exact ⟨State.syncOffset_of_off hoff, s.frame_slotShown sag, fun g _ => s.place_slotShown sag g, fun _ hx => s.moves_slotShown sag hx⟩

end Sys2Proof.Machine
end
